-- ==== Sys2Proof/Word.lean ====
section
/-! DEFINITION. The word types of the Icjan's registers, memories and addresses. -/

namespace Sys2Proof

/-- One byte of memory. -/
abbrev Byte := BitVec 8

/-- A 32-bit register or instruction word (R71, R408). -/
abbrev Word := BitVec 32

/-- A 48-bit fabric address (R36). -/
abbrev FabAddr := BitVec 48

/-- The 64-bit beat counter (R58). -/
abbrev Beat := BitVec 64

/-- A byte string: hash output, frame, image or record, first byte first (R5). -/
abbrev Bytes := List Byte

end Sys2Proof
end

