-- ==== Sys2Proof/Syntax.lean ====
section
/-! DEFINITION. The commands of the Icjan: one constructor per row of the opcode table, with what the row
names as its operands. An operand is what the world gives the module (a pin, a frame, a host access, the
outcome of a physical test); everything else a command needs is read from the state. -/

namespace Sys2Proof

/-- A cell: (partition, cluster, cell) (R34). -/
structure CellId where
  p : Fin 32
  c : Fin 20
  k : Fin 512
deriving DecidableEq, Repr

/-- The path of a register write (Table 19-6). -/
inductive Path where
  | host
  | sideband
deriving DecidableEq, Repr

/-- What error correction found on a read (R35). -/
inductive Ecc where
  | clean
  | corrected
  | uncorrectable
deriving DecidableEq, Repr

/-- Letter types (Table 2-3). -/
inductive LOp where
  | put | get | add | swap | cas | max | min
deriving DecidableEq, Repr

/-- A sender: a cell, or an engine or queue number (under Table 2-11). -/
inductive Sender where
  | cell (k : CellId)
  | unit (n : BitVec 16)
deriving DecidableEq, Repr

/-- Where a letter's reply goes: nowhere, to a cell (data offset, status offset; R50, R80), or to the host
interface as the letter of a queue with a number of its own. -/
inductive ReplyTo where
  | none
  | cell (k : CellId) (dataOff statOff : BitVec 11)
  | host (q : Fin 64) (id : Nat)
deriving DecidableEq, Repr

/-- The header of a letter on arrival: sender, 48-bit target, tag, reply address. -/
structure Hdr where
  sender : Sender
  addr : FabAddr
  tag : BitVec 12
  reply : ReplyTo
deriving DecidableEq, Repr

/-- The fields of a format L instruction (Table 3-2). The field A is even, so its half is held. -/
structure LFields where
  aHalf : BitVec 3
  b : BitVec 4
  env : Bool
  reply : Bool
  c : BitVec 4
  tag : BitVec 12
deriving DecidableEq, Repr

/-- Which sections of an upstream frame arrive by their times (R197); their checks are computed from the bytes (R198). -/
structure Sections where
  sample : Bool
  status : Bool
  ack : Bool
  fault : Bool
  half : Bool
deriving DecidableEq, Repr

/-- A PCIe AtomicOp (Table 14-2). -/
inductive AtomicOp where
  | fetchAdd | swap | cas
deriving DecidableEq, Repr

/-- The uncalibrated estimates of a control step in mW of the domains whose activity counters the spec does not name (R281): the host
interface's part of LINK and the rest of it, each partition's share of MEM and the rest of it, and FIXED, each with its share of
regulation loss. COMPUTE comes from the MAC issues. -/
structure PowerEst where
  host : Nat
  wires : Nat
  memParts : List Nat
  memRest : Nat
  fixed : Nat
deriving DecidableEq, Repr

/-- The LINK and MEM estimates of a control step in mW. -/
def PowerEst.link (e : PowerEst) : Nat := e.host + e.wires
def PowerEst.mem (e : PowerEst) : Nat := e.memParts.sum + e.memRest

/-- What step 8 finds (R346): trained links with latency and BOARD field, lit links, CMU numbers read,
twin link state. -/
structure Topology where
  boards : List (Nat × Nat × Nat)
  lit : List Nat
  cmus : List (Nat × Nat)
  twinTrained : Bool
  twinLatency : Nat
  rolesEqual : Bool
  peerMode : Bool
  peerBeat : Beat
deriving DecidableEq, Repr

/-- The watched units of Table 17-1. -/
inductive WatchUnit where
  | sequencer (p : Fin 32) (c : Fin 20)
  | loopEngine (e : Fin 64)
  | ledger
  | franker
  | stage
  | monitor
  | twin
  | host
  | postmaster
  /-- An engine whose own state memory has met an uncorrectable error (reason ENGINE_MEM, Table 17-3). -/
  | memory (u : BitVec 7)
deriving DecidableEq, Repr

/-- A PLL of R414. -/
inductive Pll where
  | fabric | lpddr5 | serialiser
deriving DecidableEq, Repr

/-- The commands of the opcode table. -/
inductive Instr where
  /-- BEAT_BOUNDARY (R58). The beat counter advances by 1 every 1,250 fabric cycles and the boundary signal reaches every router, engine and link controller. -/
  | beatBoundary (coolantN shelfN : Bool) (tj : List (BitVec 12))
  /-- REGISTER_WRITE (R7). A write to a BAR0 register that has no row of its own is applied under its fields' write classes. -/
  | registerWrite (off : BitVec 25) (data : Bytes)
  /-- SAFE_REQ (R32). A write of GLB_SAFE_CMD.SAFE_REQ requests SAFE_STOP and holds the module there, or permits the return to READY. -/
  | safeReq (path : Path) (v : Bool)
  /-- UPSTREAM_FRAMES_LOST (R30). No board in use has delivered a valid upstream frame for 4 consecutive boundaries, so LOCAL is sent to every board and the module enters SAFE_STOP. -/
  | upstreamFramesLost
  /-- JUNCTION_TRIP (R287). A junction sensor reads 115 °C or more on 2 consecutive beats: one LOCAL frame goes to every board, MPW_TRIP latches, and a whole-chip reset follows. -/
  | junctionTrip
  /-- WHOLE_CHIP_RESET (R30). A whole-chip reset, after its single LOCAL frame, returns the module to NOT_READY with the beat counter at 0. -/
  | wholeChipReset
  /-- POWER_ON (R421). At power-on the module holds reset until its hold-up store is charged, then recovers its MRAM state and EVL_TAIL. -/
  | powerOn (removedSeconds : Nat) (roleB : Bool)
  /-- FEED_SAMPLE (R387). Each feed is sampled every 10 beats and its state is set to OK, UNDER, OVER or LOST. -/
  | feedSample (va vb : BitVec 10) (ia ib : Nat)
  /-- BOTH_FEEDS_LOST (R30). Both feeds are LOST: one LOCAL frame goes to every board, records are closed on hold-up energy, and the module enters HOLDUP. -/
  | bothFeedsLost
  /-- HOLDUP_CLOSED (R432). The record closing of HOLDUP ends, and the log writes no further record. -/
  | holdupClosed
  /-- FEED_RETURN (R421). A feed returns to OK before hold-up ends, which leads to a whole-chip reset. -/
  | feedReturn
  /-- POWER_LOSS (R421). The hold-up store is exhausted and the module loses power. -/
  | powerLoss
  /-- PUT (R48). A PUT letter reaches its target and its bytes are written as one write. -/
  | put (h : Hdr) (data : Bytes)
  /-- GET (R46). A GET letter reaches its target, reads up to 64 bytes and returns them. -/
  | get (h : Hdr) (len : Nat) (ecc : Ecc)
  /-- ADD_LETTER (R46). An ADD letter adds its operand to the target integer indivisibly and returns the old value. -/
  | addLetter (h : Hdr) (wide : Bool) (v : BitVec 64) (ecc : Ecc)
  /-- SWAP (R46). A SWAP letter replaces the target integer indivisibly and returns the old value. -/
  | swap (h : Hdr) (wide : Bool) (v : BitVec 64) (ecc : Ecc)
  /-- CAS (R46). A CAS letter writes the new value if the target equals the compare value and returns the old value. -/
  | cas (h : Hdr) (wide : Bool) (cmp new : BitVec 64) (ecc : Ecc)
  /-- MAX (R46). A MAX letter sets the target to the signed maximum of target and operand and returns the old value. -/
  | maxLetter (h : Hdr) (wide : Bool) (v : BitVec 64) (ecc : Ecc)
  /-- MIN (R46). A MIN letter sets the target to the signed minimum of target and operand and returns the old value. -/
  | minLetter (h : Hdr) (wide : Bool) (v : BitVec 64) (ecc : Ecc)
  /-- REPLY_ARRIVAL (R50). A letter's reply data and completion word reach the sender's reply addresses. -/
  | replyArrival
  /-- CLUSTER_GATE (R61). An unpinned cluster idle for IDLE_BEATS consecutive beats stops its clock and becomes GATED. -/
  | clusterGate (p : Fin 32) (c : Fin 20)
  /-- CLUSTER_SCHEDULED_WAKE (R61). 3 beats before a period start or a beat WAIT expiry in the cluster, a GATED cluster starts its wake. -/
  | clusterScheduledWake (p : Fin 32) (c : Fin 20)
  /-- CLUSTER_WAKE_COMPLETE (R61). 2,500 cycles after its wake started the cluster is RUNNING, and its queued letters and circular landings are applied. -/
  | clusterWakeComplete (p : Fin 32) (c : Fin 20)
  /-- GATE_EN (R63). A write of FAB_GATE_CTL.GATE_EN 0 wakes every GATED cluster and prevents gating. -/
  | gateEn (path : Path) (v : Word)
  /-- CIRCULAR_PRESENT (R57). At effect beat E every router presents the circular in CL_CIRC and to its counter blocks, and lands it in receiving cells. -/
  | circularPresent
  /-- NOP (R73). The instruction does nothing for 1 cycle. -/
  | nop (k : CellId)
  /-- ADD (R73). gd receives a + b, and C receives the carry out of bit 31. -/
  | add (k : CellId) (d a b : BitVec 4)
  /-- SUB (R73). gd receives a - b, and C is set when a < b unsigned. -/
  | sub (k : CellId) (d a b : BitVec 4)
  /-- ADDC (R73). gd receives a + b + C, and C receives the new carry. -/
  | addc (k : CellId) (d a b : BitVec 4)
  /-- SUBB (R73). gd receives a - b - C, and C receives the borrow. -/
  | subb (k : CellId) (d a b : BitVec 4)
  /-- AND (R73). gd receives the bitwise AND of a and b. -/
  | and (k : CellId) (d a b : BitVec 4)
  /-- OR (R73). gd receives the bitwise OR of a and b. -/
  | or (k : CellId) (d a b : BitVec 4)
  /-- XOR (R73). gd receives the bitwise XOR of a and b. -/
  | xor (k : CellId) (d a b : BitVec 4)
  /-- SHL (R73). gd receives a shifted left by b[4:0]. -/
  | shl (k : CellId) (d a b : BitVec 4)
  /-- SHR (R73). gd receives a shifted right logically by b[4:0]. -/
  | shr (k : CellId) (d a b : BitVec 4)
  /-- SRA (R73). gd receives a shifted right arithmetically by b[4:0]. -/
  | sra (k : CellId) (d a b : BitVec 4)
  /-- MUL (R73). gd receives the low 32 bits of the signed product, in 2 cycles. -/
  | mul (k : CellId) (d a b : BitVec 4)
  /-- SLT (R73). gd receives 1 if a < b signed, otherwise 0. -/
  | slt (k : CellId) (d a b : BitVec 4)
  /-- SLTU (R73). gd receives 1 if a < b unsigned, otherwise 0. -/
  | sltu (k : CellId) (d a b : BitVec 4)
  /-- QADD (R76). gd receives the saturated 16-bit sum of the operands' low halves, and QSAT is set on saturation. -/
  | qadd (k : CellId) (d a b : BitVec 4)
  /-- QSUB (R76). gd receives the saturated 16-bit difference of the operands' low halves, and QSAT is set on saturation. -/
  | qsub (k : CellId) (d a b : BitVec 4)
  /-- ADDI (R73). gd receives a plus the sign-extended immediate. -/
  | addi (k : CellId) (d a : BitVec 4) (imm : BitVec 16)
  /-- ANDI (R73). gd receives a AND the zero-extended immediate. -/
  | andi (k : CellId) (d a : BitVec 4) (imm : BitVec 16)
  /-- ORI (R73). gd receives a OR the zero-extended immediate. -/
  | ori (k : CellId) (d a : BitVec 4) (imm : BitVec 16)
  /-- XORI (R73). gd receives a XOR the zero-extended immediate. -/
  | xori (k : CellId) (d a : BitVec 4) (imm : BitVec 16)
  /-- LUI (R73). gd receives the immediate shifted left by 16. -/
  | lui (k : CellId) (d : BitVec 4) (imm : BitVec 16)
  /-- SHLI (R73). gd receives a shifted left by IMM[4:0]. -/
  | shli (k : CellId) (d a : BitVec 4) (sh : BitVec 5)
  /-- SHRI (R73). gd receives a shifted right logically by IMM[4:0]. -/
  | shri (k : CellId) (d a : BitVec 4) (sh : BitVec 5)
  /-- SRAI (R73). gd receives a shifted right arithmetically by IMM[4:0]. -/
  | srai (k : CellId) (d a : BitVec 4) (sh : BitVec 5)
  /-- LDW (R74). gd is loaded with the word at a + sext(IMM) from the cell's data memory. -/
  | ldw (k : CellId) (d a : BitVec 4) (imm : BitVec 16) (ecc : Ecc)
  /-- LDH (R74). gd is loaded with the sign-extended halfword at a + sext(IMM). -/
  | ldh (k : CellId) (d a : BitVec 4) (imm : BitVec 16) (ecc : Ecc)
  /-- LDHU (R74). gd is loaded with the zero-extended halfword at a + sext(IMM). -/
  | ldhu (k : CellId) (d a : BitVec 4) (imm : BitVec 16) (ecc : Ecc)
  /-- LDB (R74). gd is loaded with the sign-extended byte at a + sext(IMM). -/
  | ldb (k : CellId) (d a : BitVec 4) (imm : BitVec 16) (ecc : Ecc)
  /-- STW (R74). The word gd is stored at a + sext(IMM). -/
  | stw (k : CellId) (d a : BitVec 4) (imm : BitVec 16)
  /-- STH (R74). The low halfword of gd is stored at a + sext(IMM). -/
  | sth (k : CellId) (d a : BitVec 4) (imm : BitVec 16)
  /-- STB (R74). The low byte of gd is stored at a + sext(IMM). -/
  | stb (k : CellId) (d a : BitVec 4) (imm : BitVec 16)
  /-- SYS (R73). gd receives the system value chosen by the selector; a FLAGS read clears the sticky flags. -/
  | sys (k : CellId) (d : BitVec 4) (sel : BitVec 4)
  /-- LPUT (R80). The cell sends a PUT of LEN bytes from its data memory, as an ordinary letter or inside its envelope. -/
  | lput (k : CellId) (f : LFields)
  /-- LGET (R80). The cell sends a GET whose reply data is written at LOFF. -/
  | lget (k : CellId) (f : LFields)
  /-- LADD (R80). The cell sends an ADD letter of width 4 or 8 with its operand taken from LOFF. -/
  | ladd (k : CellId) (f : LFields)
  /-- LSWAP (R80). The cell sends a SWAP letter with its operand taken from LOFF. -/
  | lswap (k : CellId) (f : LFields)
  /-- LCAS (R80). The cell sends a CAS letter with the compare value at LOFF and the new value at LOFF + W. -/
  | lcas (k : CellId) (f : LFields)
  /-- LMAX (R80). The cell sends a MAX letter with its operand taken from LOFF. -/
  | lmax (k : CellId) (f : LFields)
  /-- LMIN (R80). The cell sends a MIN letter with its operand taken from LOFF. -/
  | lmin (k : CellId) (f : LFields)
  /-- ENV_OPEN (R89). The cell opens an envelope under its declaration word and becomes a contributor, to the void envelope on refusal. -/
  | envOpen (k : CellId) (d a b : BitVec 4)
  /-- ENV_JOIN (R90). The cell joins the envelope named by the handle, or receives a refusal status. -/
  | envJoin (k : CellId) (d a b : BitVec 4)
  /-- ENV_SEAL (R91). The cell seals its contribution and receives PENDING or the abort status. -/
  | envSeal (k : CellId) (d : BitVec 4)
  /-- ENV_ABORT (R91). The cell aborts its envelope for every contributor with DISCARDED. -/
  | envAbort (k : CellId) (d : BitVec 4)
  /-- MACQ (R75). The Q15 product of the selected halves is added to the accumulator with 40-bit saturation. -/
  | macq (k : CellId) (a b : BitVec 4) (n ha hb : Bool)
  /-- MSUQ (R75). The Q15 product of the selected halves is subtracted from the accumulator with 40-bit saturation. -/
  | msuq (k : CellId) (a b : BitVec 4) (n ha hb : Bool)
  /-- MACB8 (R78). A four-lane B8 block dot product is aligned and accumulated into the accumulator. -/
  | macb8 (k : CellId) (a b : BitVec 4) (n : Bool)
  /-- MACB4 (R78). An eight-lane B4 block dot product is aligned and accumulated into the accumulator. -/
  | macb4 (k : CellId) (a b : BitVec 4) (n : Bool)
  /-- CLRA (R73). The accumulator's value and EX are set to 0 and EMPTY to 1. -/
  | clra (k : CellId) (n : Bool)
  /-- EXTQ (R76). gd receives the accumulator rounded and saturated to 16 bits at shift SH - 15. -/
  | extq (k : CellId) (d : BitVec 4) (n : Bool) (sh : BitVec 5)
  /-- EXTB (R76). gd receives the block accumulator rounded and saturated to 16 bits at shift EX + 15 + SH. -/
  | extb (k : CellId) (d : BitVec 4) (n : Bool) (sh : BitVec 5)
  /-- SETX (R73). EXA and EXB receive the low bytes of a and b. -/
  | setx (k : CellId) (a b : BitVec 4)
  /-- GETA (R73). gd receives the part of the accumulator selected by PART. -/
  | geta (k : CellId) (d : BitVec 4) (n : Bool) (part : BitVec 2)
  /-- SETA (R73). The part of the accumulator selected by PART receives a. -/
  | seta (k : CellId) (a : BitVec 4) (n : Bool) (part : BitVec 2)
  /-- BR (R73). If COND holds, PC is set to TGT. -/
  | br (k : CellId) (a b : BitVec 4) (cond : BitVec 3) (tgt : BitVec 8)
  /-- JAL (R73). gd receives PC + 1 and PC jumps to the immediate target. -/
  | jal (k : CellId) (d : BitVec 4) (tgt : BitVec 8)
  /-- JR (R74). PC jumps to a[7:0], faulting PC_RANGE beyond the program's length. -/
  | jr (k : CellId) (a : BitVec 4)
  /-- WAIT (R83). The cell blocks on its selected mail slots or a beat count, with RUN at 2. -/
  | wait (k : CellId) (d : BitVec 4) (mask : BitVec 8) (time : BitVec 14)
  /-- WAIT_SLOT_RESUME (R83). A selected slot's COUNT is non-zero: it is decremented, gd receives the slot number and the cell resumes. -/
  | waitSlotResume (k : CellId)
  /-- WAIT_BEAT_RESUME (R83). The TIME-th beat boundary of a WAIT is reached: gd receives 8 and the cell resumes. -/
  | waitBeatResume (k : CellId)
  /-- DONE (R70). The cell ends its period and RUN stays 3 until the next period begins. -/
  | done (k : CellId)
  /-- PERIOD_START (R69). At a program's period boundary the previous period is settled as completed or dropped, and each cell restarts at its entry. -/
  | periodStart (p : Fin 32) (prog : Fin 1024)
  /-- PERIOD_DEADLINE (R126). At a deadline with cells not done, the program's cells are stopped, envelopes aborted and the drop counted and logged. -/
  | periodDeadline (p : Fin 32) (prog : Fin 1024)
  /-- ENV_RESULT_WORD (R92). The result word of ENV_OPEN or ENV_JOIN arrives at the cell, which then resumes. -/
  | envResultWord (k : CellId)
  /-- HOLD_STORE_ARRIVAL (R95). An envelope letter arrives at its target's hold store, is checked and held, and a hold acknowledgement returns to the home. -/
  | holdStoreArrival
  /-- HOLD_ACKNOWLEDGEMENT (R94). The home records a hold acknowledgement, checks ownership and records a commit-buffer entry. -/
  | holdAcknowledgement
  /-- COMMIT_VECTOR (R98). At cycle 750 each home publishes the sealed envelopes that commit at the coming boundary. -/
  | commitVector
  /-- ENV_COMMIT (R98). At boundary C every hold store applies the committed envelopes' letters and outcome words are written. -/
  | envCommit
  /-- ENV_LATE (R101). An envelope not in the commit vector of beat D-1 aborts ENV_LATE at D. -/
  | envLate (p : Fin 32) (slot : Fin 64)
  /-- ACTUATOR_DECISION (R107). At cycle 1,000 of beats C and C+1 the controller places CONFIRM or DISCARD for the handle in the next downstream frame. -/
  | actuatorDecision
  /-- ACTUATOR_RESOLVE (R109). Boards not resolved by upstream frame C+3 are commanded LOCAL, and the outcome word is written at C+3. -/
  | actuatorResolve
  /-- MANIFEST_START (R121). A write of MAN_LOAD_CTL.START starts verification of the image in the chosen staging half. -/
  | manifestStart (path : Path) (p : Fin 32) (half : Bool)
  /-- MANIFEST_UNLOAD (R121). A write of MAN_LOAD_CTL.UNLOAD starts an empty swap of the partition. -/
  | manifestUnload (path : Path) (p : Fin 32)
  /-- VERIFICATION_FAIL (R118). A manifest check fails: the image is refused whole and MAN_LOAD_RESULT and event 0x0302 report it. -/
  | verificationFail (p : Fin 32)
  /-- VERIFICATION_PASS (R121). All checks of the image pass in beat V and a swap is to be decided. -/
  | verificationPass (p : Fin 32)
  /-- SWAP_DECISION (R122). In beat V+1 the cross-partition checks are re-run and PEER_DOWN is issued if the partition held a manifest. -/
  | swapDecision (p : Fin 32)
  /-- SWAP_START (R122). At boundary S the partition is held in its compute reset scope and SWAPPING begins. -/
  | swapStart (p : Fin 32)
  /-- SWAP_WRITES_COMPLETE (R121). The Postmaster's writes complete in beat W and PEER_UP is issued for E = W + 3. -/
  | swapWritesComplete (p : Fin 32)
  /-- SWAP_RELEASE (R122). At boundary E the partition is released LOADED, or EMPTY after an unload. -/
  | swapRelease (p : Fin 32)
  /-- TELEMETRY_RECORD (R134). A 32-byte step telemetry record is taken whole into the window, or ignored if malformed. -/
  | telemetryRecord (t : Fin 256) (rec : Bytes)
  /-- TARGET_STALE (R135). A target's last record is more than 20,000 beats old: it becomes stale and event 0x040E is written. -/
  | targetStale (t : Fin 256)
  /-- FORECAST_DEGRADED (R138). The forecast error exceeds its limit at 100 consecutive updates and FCST_DEGRADED is set. -/
  | forecastDegraded
  /-- FORECAST_RESTORED (R138). 1,000 consecutive updates within the limit clear FCST_DEGRADED. -/
  | forecastRestored
  /-- BACKSTOP_RELEASE (R144). After GRD_STORE_AVAIL has been above 0 for 1,000 beats, backstop lines are released. -/
  | backstopRelease
  /-- CAP_RELEASES (R149). The target at or below 99 % of the cap at 10 consecutive dispatch starts returns grid control to TRACK. -/
  | capReleases
  /-- PRECHARGE_COMPLETE (R149). The bus within 8 V of 800 V for 1,000 beats with storage available moves PRECHARGE to TRACK. -/
  | prechargeComplete
  /-- PRECHARGE_TIMEOUT (R149). PRE_TIMEOUT_S elapses in PRECHARGE: bus enable is withdrawn, phases disabled and PRE_FAIL set. -/
  | prechargeTimeout
  /-- PRE_RETRY (R149). A write of GRD_CTL.PRE_RETRY with PRE_FAIL 1 restarts precharge. -/
  | preRetry (path : Path)
  /-- GRID_LOST (R148). A majority of group G boards flag input loss for 3 beats, and grid control enters RIDE-THROUGH or waits. -/
  | gridLost
  /-- GRID_PRESENT (R149). The grid has been present for RETURN_MS, so ride-through returns or precharge restarts. -/
  | gridPresent
  /-- RAMP_YIELD_SET (R145). The bus stays 16 V above its set voltage for 10 beats, so RAMP_YIELD lets the reference fall to the load. -/
  | rampYieldSet
  /-- RAMP_YIELD_CLEAR (R145). The bus within 8 V for 1,000 beats clears RAMP_YIELD and writes event 0x0402. -/
  | rampYieldClear
  /-- COOLANT_FAULT (R151). COOLANT_FAULT_N low on 10 beat samples sets COOLANT and survival budgets apply. -/
  | coolantFault
  /-- COOLANT_REQ (R151). A write of GRD_CTL.COOLANT_REQ reports or withdraws a host coolant fault. -/
  | coolantReq (path : Path) (v : Bool)
  /-- COOLANT_THROTTLE (R151). Ten milliseconds after a coolant fault, targets above survival budget, or all if unacknowledged, are throttled. -/
  | coolantThrottle
  /-- COOLANT_CLEAR (R151). COOLANT_FAULT_N high for 1,000,000 beats with COOLANT_REQ 0 clears COOLANT. -/
  | coolantClear
  /-- NEIGHBOUR_FAULT (R152). SHELF_FAULT_N low for 10 beats or a sustained share rise sets NEIGHBOUR. -/
  | neighbourFault
  /-- NEIGHBOUR_REQ (R152). A write of GRD_CTL.NEIGHBOUR_REQ reports or withdraws a host neighbour fault. -/
  | neighbourReq (path : Path) (v : Bool)
  /-- NEIGHBOUR_CLEAR (R152). All three neighbour conditions absent for 1,000,000 beats clear NEIGHBOUR. -/
  | neighbourClear
  /-- ORPHAN_TABLE (R154). 5,000,000 beats after host loss, the orphan budget table comes into force. -/
  | orphanTable
  /-- DISPATCH_STALE (R155). No grid setpoint commits for 10 dispatch periods and DISPATCH_STALE is set. -/
  | dispatchStale
  /-- PUBLICATION_BOUNDARY (R161). At each multiple of 1,000 beats the last committed record comes into force and is completed and delivered. -/
  | publicationBoundary
  /-- BUDGET_ACK (R163). The host's 8-byte acknowledgement PUT acknowledges publication SEQ and all earlier ones, or is ignored. -/
  | budgetAck (data : Bytes)
  /-- SEQ_START (R170). A write of BUD_SEQ_CTL.START starts or restarts the rack start sequence. -/
  | seqStart (path : Path)
  /-- SEQ_STOP (R170). A write of BUD_SEQ_CTL.STOP begins stopping the highest enabled stage. -/
  | seqStop (path : Path)
  /-- STAGE_TIMEOUT (R170). SEQ_TIMEOUT_S elapses without the stage gate, so the sequence enters FAILED. -/
  | stageTimeout
  /-- STOP_ASSERT (R171). Once a stopping stage's targets have had time to reach 0, lines of targets above MIN_W are asserted. -/
  | stopAssert
  /-- STAGE_STOPPED (R171). A stopping stage is stopped when all its targets are at MIN_W or DWELL_MS after the assertion. -/
  | stageStopped
  /-- THR_FORCE (R168). A write of BUD_THR_FORCE asserts or releases the force source of each throttle line. -/
  | thrForce (path : Path) (v : BitVec 16)
  /-- LOOP_SAMPLE (R184). A due loop evaluates its control law, supervision and plant model on its sample. -/
  | loopSample (e : Fin 64) (l : Fin 8) (half : Bool)
  /-- SETPOINT_WINDOW (R180). A write to a loop's setpoint window is checked as a set and comes into force for the next sample, or is rejected. -/
  | setpointWindow (e : Fin 64) (l : Fin 8) (off : BitVec 6) (data : Bytes)
  /-- LOOP_CLEAR (R188). A write of LE_LOOP_CTL.CLEAR clears a trip and the loop enters IDLE. -/
  | loopClear (path : Path) (e : Fin 64) (l : Fin 8)
  /-- DOWNSTREAM_FRAME (R195). The controller composes and sends each board's downstream frame, taking each field at its cycle. -/
  | downstreamFrame (b : Fin 24)
  /-- UPSTREAM_FRAME (R198). An upstream frame's sections are checked, and its samples are forwarded and applied by every consumer. -/
  | upstreamFrame (b : Fin 24) (frame : Bytes) (valid : Sections)
  /-- BOARD_LOST (R203). 4 consecutive missing upstream frames put the board in LOST with MODE LOCAL. -/
  | boardLost (b : Fin 24)
  /-- EXIT (R204). Writing STG_EXIT bit k starts the exit from local mode when its conditions hold. -/
  | exit (path : Path) (b : Fin 24)
  /-- CLT_WINDOW (R200). At the end of each 1,000-beat window, phases whose limit trips exceed CLT_WARN raise event 0x070A. -/
  | cltWindow
  /-- SHARE_UPDATE (R207). Every 100 beats each group's sharing trims are adjusted from the summed phase currents. -/
  | shareUpdate
  /-- SHED_START (R208). Current per phase below SHED_A on HOLD consecutive samples makes the highest ON phase SHEDDING. -/
  | shedStart (b : Fin 24) (grp : BitVec 4)
  /-- SHED_RAMP_END (R208). A SHEDDING phase whose t reaches SHED_RAMP becomes SHED with EN 0. -/
  | shedRampEnd (b : Fin 24) (j : Fin 4)
  /-- ALLFIRE_LIMIT (R211). ALLFIRE_LIM beats after its first frame, an all-fire episode ends. -/
  | allfireLimit
  /-- ISO (R216). A write of STG_ISO holds or releases the host's isolation source of each string. -/
  | iso (path : Path) (v : BitVec 8)
  /-- SWEEP_COMMAND (R228). The SWEEP command is sent to every port or along the chain ahead of pause beat L. -/
  | sweepCommand
  /-- SWEEP_RECORD (R225). A CMU's 64-byte sweep record is received and checked. -/
  | sweepRecord (port : Fin 96) (data : Bytes)
  /-- SWEEP_COMPLETE (R232). At K the sweep block is written, CMU states move on missing records and the notify PUT is sent. -/
  | sweepComplete
  /-- CONFIG_REPLY (R227). A CMU's CONFIG reply opens its session if its values match, or marks a mismatch. -/
  | configReply (port : Fin 96) (data : Bytes)
  /-- FAULT_FRAME (R235). A valid FAULT frame sets ISO_COMP on its string at once and queues an ACK. -/
  | faultFrame (port : Fin 96) (data : Bytes)
  /-- DIAG_REPLY (R240). A DIAG reply advances the diagnosis of a cell to its next step or verdict. -/
  | diagReply (port : Fin 96) (data : Bytes)
  /-- REF_REPLY (R237). A REF reply is compared with the factory value and passes or fails the reference check. -/
  | refReply (port : Fin 96) (data : Bytes)
  /-- PASS_REPLY (R254). A PASS reply fragment from a pack identity device is appended to the pack's message. -/
  | passReply (port : Fin 96) (data : Bytes)
  /-- REF_CHECK_DUE (R237). At each multiple of REFCHK_S seconds, REF is sent to every OPEN CMU. -/
  | refCheckDue
  /-- DIAG_REQUEST (R239). A write of MON_DIAG_CMD.GO requests a diagnosis of the named cell. -/
  | diagRequest (path : Path) (c : BitVec 7) (j : BitVec 5)
  /-- ISO_RELEASE (R236). A write of MON_ISO_REL bit s releases the string's isolation if its conditions hold. -/
  | isoRelease (path : Path) (st : Fin 8)
  /-- BALANCE_WINDOW (R233). A 4-byte PUT to the balance window sets MON_BAL for a CMU. -/
  | balanceWindow (c : Fin 96) (mask : BitVec 18)
  /-- PRESENCE_DETECTED (R244). Presence on 1,000 consecutive valid frames moves an ABSENT string to AUTH and sends a challenge. -/
  | presenceDetected (st : Fin 8)
  /-- PRESENCE_LOST (R244). Presence 0 on 10 consecutive valid frames makes the string ABSENT with its swap source held. -/
  | presenceLost (st : Fin 8)
  /-- RESPONSE (R255). A complete pack RESPONSE is verified and the string moves to ONLINE, RESTING or a retry. -/
  | response (st : Fin 8)
  /-- INCREMENT_REPLY (R255). The pack's reply to INCREMENT confirms its count and clears INC_PENDING. -/
  | incrementReply (st : Fin 8)
  /-- AUTH_TIMEOUT (R244). AUTH_TO_S elapses without a verified response, so a new attempt starts or the string fails. -/
  | authTimeout (st : Fin 8)
  /-- REAUTH (R244). A write of SST_CTL.REAUTH bit s restarts authentication of a FAILED string. -/
  | reauth (path : Path) (st : Fin 8)
  /-- REST_ANCHOR (R247). The rest condition held for REST_S anchors D from the open-circuit voltage. -/
  | restAnchor (st : Fin 8)
  /-- CHARGE_LOST (R244). 1,000 beats without a valid string current clear D_VALID and the string becomes RESTING. -/
  | chargeLost (st : Fin 8)
  /-- RECORD_PERIOD (R250). Every REC_PERIOD_S while ONLINE, the capacity record is written. -/
  | recordPeriod (st : Fin 8)
  /-- OPEN (R265). An OPEN request opens a ledger entry on its queue, or is refused. -/
  | openReq (rec : Bytes) (bad0 bad1 : Bool)
  /-- CLOSE (R265). A CLOSE request marks an entry CLOSING for the slot, or is refused. -/
  | close (rec : Bytes) (bad0 bad1 : Bool)
  /-- ESTIMATE (R262). A host PUT to the estimate window writes energy estimate records into a bank. -/
  | estimate (off : BitVec 16) (data : Bytes)
  /-- DISTRIBUTE (R270). At 1,000(s + 2) the slot's metered energy is divided among queues and closing entries and receipts are formed. -/
  | distribute (bad0 bad1 : List (BitVec 24))
  /-- ROOT_FRANKED (R274). The franker completes the signature of a batch root. -/
  | rootFranked
  /-- LEDGER_KEY_READY (R324). Ledger key generation completes and its KIND 2 certificate is signed. -/
  | ledgerKeyReady
  /-- BATCH_DELIVERY (R276). A franked batch record and its receipts are written to the host rings when they have room. -/
  | batchDelivery
  /-- REFUSAL_DELIVERY (R276). A queued REFUSAL record is written to the receipt ring when it has room. -/
  | refusalDelivery
  /-- LDG_RX_HEAD (R276). A write of the receipt ring HEAD consumes records and frees store space. -/
  | ldgRxHead (path : Path) (v : Word)
  /-- LDG_BX_HEAD (R276). A write of the batch ring HEAD consumes batch records. -/
  | ldgBxHead (path : Path) (v : Word)
  /-- COPY_RESILVERED (R268). Rebuilding a RESILVER ledger copy completes and the copy becomes GOOD. -/
  | copyResilvered (copy : Bool)
  /-- CONTROL_STEP (R283). Every 10 beats the module's power is estimated and the class duties are set under the effective cap. -/
  | controlStep (est : PowerEst)
  /-- CALIBRATION_UPDATE (R282). Every 1,000 beats K is updated from the window ratio, or CAL_HOLD set or cleared. -/
  | calibrationUpdate
  /-- THERMAL_STEP (R286). Every 1,000 beats the thermal allowance falls, rises or stays according to TJ_MAX. -/
  | thermalStep
  /-- FEED_LOW_SET (R288). The higher feed below V_LOW_DV for 10 samples sets FEED_LOW. -/
  | feedLowSet
  /-- FEED_LOW_CLEAR (R288). The higher feed at or above V_LOW_DV + 2.0 V for 1,000 samples clears FEED_LOW. -/
  | feedLowClear
  /-- AGEING_CHECK (R292). Every 60 s a domain with path slack below its floor raises its voltage offset by 5 mV. -/
  | ageingCheck (d : Fin 34) (slack : Int)
  /-- PCIE_RESET (R298). PERST#, Hot Reset or Link Disable resets the PCIe core, configuration space and HIF block only. -/
  | pcieReset
  /-- BUS_MASTER_ENABLE (R300). A change of Bus Master Enable stops or permits writes to host memory and MSI-X vectors. -/
  | busMasterEnable (v : Bool) (dState : Option (Fin 4))
  /-- DATA_LINK_CHANGE (R308). The PCIe data link goes up or down and event 0x0C01 is written. -/
  | dataLinkChange (up : Bool) (speed : BitVec 4) (width : BitVec 5) (aer : Option (Word × Word))
  /-- HIF_CHIP_RESET (R299). A write of the key to HIF_CHIP_RESET makes a whole-chip reset by the host. -/
  | hifChipReset (v : Word)
  /-- BAR2_WRITE (R301). A BAR2 write is translated through its aperture and split into PUT letters. -/
  | bar2Write (off : BitVec 30) (data : Bytes)
  /-- BAR2_READ (R301). A BAR2 read forms GETs and returns one completion once all have replied. -/
  | bar2Read (off : BitVec 30) (len : Nat)
  /-- BAR2_ATOMIC (R301). A PCIe AtomicOp through BAR2 forms an ADD, SWAP or CAS letter and returns the old value. -/
  | bar2Atomic (off : BitVec 30) (op : AtomicOp) (width : Nat) (operand cmp : BitVec 64)
  /-- BAR2_READ_TIMEOUT (R302). A BAR2 read with a GET unanswered for 50 ms returns all ones with a DISCARDED entry. -/
  | bar2ReadTimeout (n : Nat)
  /-- CQ_VECTOR_TIMER (R307). MOD_US after the first unsignalled entry the ring's vector is raised. -/
  | cqVectorTimer (q : Fin 64)
  /-- BAR4_WRITE (R304). A BAR4 write reaches partition DRAM, or is discarded where the rules say so. -/
  | bar4Write (off : BitVec 38) (data : Bytes)
  /-- BAR4_READ (R304). A BAR4 read returns partition DRAM, or all ones for a partition in reset. -/
  | bar4Read (off : BitVec 38) (len : Nat)
  /-- HEARTBEAT (R308). A write of a new value to HIF_HB counts as a heartbeat. -/
  | heartbeat (v : Word)
  /-- HOST_LOST (R308). No heartbeat or no data link for HB_TIMEOUT_MS marks the host lost. -/
  | hostLost
  /-- ENTDAA (R310). The I3C bus owner assigns the side-band target its dynamic address. -/
  | entdaa (addr : BitVec 7)
  /-- SET_ENDPOINT_ID (R310). The bus owner sets the module's MCTP endpoint ID on a binding. -/
  | setEndpointId (onPcie : Bool) (eid : Byte)
  /-- REG_READ (R313). The side-band reads a BAR0 register. -/
  | regRead (iana : Word) (off : BitVec 25)
  /-- REG_WRITE (R313). The side-band writes a BAR0 register under R7 to R10, with event 0x0C0A when accepted. -/
  | regWrite (iana : Word) (off : BitVec 25) (v : Word)
  /-- LOG_READ (R404). The side-band reads one event record, returning OK, PENDING or NOT_READY. -/
  | logRead (iana idx : Word)
  /-- LAST_STATUS (R312). The side-band reads HIF_SB_LAST_STATUS. -/
  | lastStatus (iana : Word) (cmd : Byte)
  /-- PLDM_SENSOR_READ (R314). A management controller reads a PLDM sensor of Table 14-6. -/
  | pldmSensorRead (sensor : BitVec 16)
  /-- REQUEST_UPDATE (R316). An update agent enters update mode, or is refused ALREADY_IN_UPDATE_MODE. -/
  | requestUpdate (onPcie : Bool)
  /-- FIRMWARE_COMPONENT_WRITE (R315). A firmware component is written to the bank not in force and verified in VerifyComplete. -/
  | firmwareComponentWrite (comp : BitVec 16) (data : Bytes) (last : Bool)
  /-- ACTIVATE_FIRMWARE (R315). ActivateFirmware activates the always-on component, or marks the Postmaster component pending. -/
  | activateFirmware
  /-- CANCEL_UPDATE (R316). CancelUpdate ends update mode, leaving an incomplete bank invalid. -/
  | cancelUpdate
  /-- UPDATE_AGENT_TIMEOUT (R316). An update agent that has sent nothing for 120 s leaves update mode. -/
  | updateAgentTimeout
  /-- ENROLL_OWNER (R326). Security command 0x1 fuses and stores an owner key in its slot. -/
  | enrollOwner (path : Path) (slot : Fin 4) (auth : Fin 4) (v : BitVec 6)
  /-- REVOKE_OWNER (R326). Security command 0x2 fuses the revocation of an owner slot. -/
  | revokeOwner (path : Path) (slot : Fin 4) (auth : Fin 4) (v : BitVec 6)
  /-- ADVANCE_SVN (R328). Security command 0x3 blows the anti-rollback fuses to VALUE. -/
  | advanceSvn (path : Path) (slot : Fin 4) (auth : Fin 4) (v : BitVec 6)
  /-- SET_PACK_ISSUER (R326). Security command 0x4 stores a pack-issuer key in its slot. -/
  | setPackIssuer (path : Path) (slot : Fin 4) (auth : Fin 4) (v : BitVec 6)
  /-- CLEAR_PACK_ISSUER (R326). Security command 0x5 empties a pack-issuer slot. -/
  | clearPackIssuer (path : Path) (slot : Fin 4) (auth : Fin 4) (v : BitVec 6)
  /-- ROTATE_LEDGER (R324). Security command 0x6 makes a ledger key rotation due. -/
  | rotateLedger (path : Path) (slot : Fin 4) (auth : Fin 4) (v : BitVec 6)
  /-- ENTER_RMA (R330). Security command 0x7 blows the seed-kill fuse and enters the RMA state. -/
  | enterRma (path : Path) (slot : Fin 4) (auth : Fin 4) (v : BitVec 6)
  /-- SEC_COMMAND_COMPLETE (R327). A running security command completes, clearing BUSY and renewing SEC_NONCE. -/
  | secCommandComplete
  /-- ENTROPY_HEALTH_CHANGE (R321). The entropy source fails or recovers its health test and ENTROPY_FAIL follows. -/
  | entropyHealthChange (fail : Bool)
  /-- GET_VERSION (R331). The SPDM GET_VERSION request is answered. -/
  | getVersion
  /-- GET_CAPABILITIES (R331). The SPDM GET_CAPABILITIES request is answered. -/
  | getCapabilities
  /-- NEGOTIATE_ALGORITHMS (R331). The requester's algorithms are negotiated to Falcon-1024 and SHAKE256, or NegotiationFail is returned. -/
  | negotiateAlgorithms (falcon shake : Bool)
  /-- GET_DIGESTS (R332). The digests of the populated certificate slots are returned. -/
  | getDigests
  /-- GET_CERTIFICATE (R332). A certificate chain of slot 0 or slot 1 is returned. -/
  | getCertificate (slot : BitVec 4) (off len : BitVec 16)
  /-- CHALLENGE (R331). The SPDM CHALLENGE is answered with a response signed by the identity key. -/
  | challenge (slot : BitVec 4) (nonce : Bytes)
  /-- GET_MEASUREMENTS (R332). The measurements of Table 15-6 are returned, signed. -/
  | getMeasurements (idx : Byte) (nonce : Bytes)
  /-- FUSE_ROM_CHECK (R338). Bring-up step 1 reads fuses, finishes part-written fuse commands, measures ROM and checks identity. -/
  | fuseRomCheck (fuseOk romOk : Bool)
  /-- FIRMWARE_VERIFY (R339). Bring-up step 2 chooses and verifies the Postmaster firmware bank. -/
  | firmwareVerify
  /-- CLOCKS_START (R340). Bring-up step 3 sets voltages, starts the fabric clock and releases the beat counter. -/
  | clocksStart (fabPll linkPll : Bool) (tj : BitVec 12)
  /-- LPDDR5_TRAINING (R341). Bring-up step 4 locks the LPDDR5 PLLs and trains every channel. -/
  | lpddr5Training (ok : Bool)
  /-- MEMORY_TEST (R342). Bring-up step 5 tests every partition's DRAM in ten passes with repair. -/
  | memoryTest (failed : BitVec 32) (cutShort : BitVec 32) (fails : List (Nat × Word)) (repairs : List (Nat × Nat))
  /-- CELL_BIST (R343). Bring-up step 6 tests cells and clusters and grows the dead-letter list. -/
  | cellBist (cells : List (CellId × Nat)) (clusters : List (Nat × Nat))
  /-- FIRMWARE_BROADCAST (R344). Bring-up step 7 broadcasts the sequencer image by circular and checks every cluster's digest. -/
  | firmwareBroadcast (badTwice : List Nat)
  /-- TOPOLOGY_DISCOVERY (R346). Bring-up step 8 trains links, queries CMUs and compares the result with the topology descriptor. -/
  | topologyDiscovery (found : Topology)
  /-- MANIFEST_LOAD (R347). Bring-up step 9 loads a manifest into every partition selected in BUP_MAN_SEL. -/
  | manifestLoad
  /-- PRECHARGE_ENABLE (R348). Bring-up step 10 moves a READY module to IN_SERVICE with PRECHARGE, or to STANDBY. -/
  | prechargeEnable
  /-- STEP_END (R336). A bring-up step's work ends: BUSY clears, STATUS and REASON are written and event 0x0E01 raised. -/
  | stepEnd
  /-- STEP_TIMEOUT (R336). A bring-up step reaches its limit and fails NOT_READY with reason TIMEOUT. -/
  | stepTimeout
  /-- RETRAIN_TURN (R350). Every INTERVAL_MS the next LPDDR5 channel starts retraining. -/
  | retrainTurn
  /-- RETRAIN_DONE (R350). A channel's retraining ends; a failure keeps previous values and three failures raise the partition rung. -/
  | retrainDone (ok : Bool)
  /-- WATCHDOG_EXPIRY (R354). A unit's progress counter does not move within its window and its fault is named. -/
  | watchdogExpiry (u : WatchUnit)
  /-- RUNG_START (R356). At D = N + 1 a named fault starts its rung, escalated, absorbed or pre-empted as R357 and R358 decide. -/
  | rungStart
  /-- CONTEXT_RUNG_RELEASE (R359). The Postmaster's rewrite of the program ends at R and the program is watched afresh. -/
  | contextRungRelease (p : Fin 32) (prog : Fin 1024)
  /-- ENGINE_RUNG_RELEASE (R360). An engine rung's reset ends and the engine's loops, distribution or franker requests resume. -/
  | engineRungRelease (u : BitVec 7)
  /-- PARTITION_RUNG_RETRAINED (R362). The partition's channels are reset and retrained, and the cluster tests begin. -/
  | partitionRungRetrained (p : Fin 32)
  /-- PARTITION_RUNG_TESTED (R362). The rung's cluster tests end and the reload checks begin. -/
  | partitionRungTested (p : Fin 32) (cells : List (CellId × Nat)) (clusters : List (Nat × Nat))
  /-- PARTITION_RUNG_RELOAD (R365). The rung's reload checks complete: the swap writes follow, or a refused reload empties the partition or takes the chip rung. -/
  | partitionRungReload (p : Fin 32)
  /-- PARTITION_RUNG_RELEASE (R362). At E the partition is released from the rung and its programs start under R124. -/
  | partitionRungRelease (p : Fin 32)
  /-- RUNG_REQUEST (R371). A write of RCV_REQ.GO orders a context, engine or partition rung for test outside service. -/
  | rungRequest (path : Path) (v : Word)
  /-- TWIN_FRAME (R373). A twin frame is received whole and its fields and mirrored records are taken. -/
  | twinFrame (frame : Bytes) (ok : Bool)
  /-- TWIN_LINK_LOST (R373). Twin frames missing at two consecutive boundaries lose the link, and a standby may take over. -/
  | twinLinkLost
  /-- MIRRORED_INJECT (R375). At beat N + 3 both modules inject the mirrored letters and register writes of beat N. -/
  | mirroredInject
  /-- SELF_CHECK (R378). After an output mismatch each module runs its self-check during beat j and reports it in SELF. -/
  | selfCheck
  /-- TAKEOVER_DECISION (R378). At j + 1 both modules apply Table 18-2 to the self-check outcomes. -/
  | takeoverDecision
  /-- SYNC_SET (R379). Every comparison matched for RESYNC_MS with the link up sets SYNC on the standby. -/
  | syncSet
  /-- RETURN_OF_CONTROL (R382). The preferred standby, clean for CLEAN_S, takes control at the next multiple of 1,000 beats. -/
  | returnOfControl
  /-- SWITCH (R384). A write of TWN_CTL.SWITCH on the active requests a switchover, or is refused. -/
  | switch (path : Path)
  /-- SWITCH_TIMEOUT (R384). A switchover request not taken within 1,000 beats ends. -/
  | switchTimeout
  /-- COLLECTION_DUE (R394). At each multiple of PERIOD_MS a collection becomes due and is issued or left pending. -/
  | collectionDue
  /-- COLLECTION_REQUEST (R394). A write of CNT_CTL.REQ requests a collection. -/
  | collectionRequest (path : Path)
  /-- COLLECTION_COMPLETE (R393). All sections stamped, or E + 4 reached, completes the collection and records late units. -/
  | collectionComplete (late : Word)
  /-- EVENT_RECORD_WRITE (R399). A queued event is written as a record at EVL_TAIL, or counted as a repeat. -/
  | eventRecordWrite
  /-- LOG_CLEAR (R403). A write of the key to EVL_CTL starts clearing the log, or is refused during a clear. -/
  | logClear (path : Path) (v : Word)
  /-- LOG_CLEAR_DONE (R403). The clear ends: EVL_TAIL is 0, CLEARS increments and event 0x1102 becomes record 0. -/
  | logClearDone
  /-- BAR0_READ (R409). A PCIe host read of a BAR0 low word latches the high word of the same register for the host path, and a later read of the high word returns the latched value. -/
  | bar0Read (off : BitVec 25) (len : Nat)
  /-- PLL_LOCK_LOSS (R414). A fabric, LPDDR5 or serialiser PLL loses lock after step 3, CLK_LOCK_LOSS_CNT is incremented and the units it clocks stop. -/
  | pllLockLoss (pll : Pll)
  /-- TWIN_LOCK (R374). The standby's fabric clock reference and beat boundary lock to the active module's through the twin link, which sets CLK_STATUS.TWIN_LOCK, REF_SRC and CLK_TWIN_PHASE. -/
  | twinLock (phase : BitVec 8)
deriving DecidableEq, Repr

end Sys2Proof
end

