-- ==== Sys2Proof/Machine/Bits.lean ====
section
/-! DEFINITION. Bit fields, little-endian byte strings (R5) and the exact arithmetic of R75, R76 and R78. -/

namespace Sys2Proof.Bits

/-- Bits [lo+n-1:lo] of a word (R4). -/
def fld (w : Word) (lo n : Nat) : Nat := w.toNat / 2 ^ lo % 2 ^ n

/-- The word with bits [lo+n-1:lo] set to v. -/
def setFld (w : Word) (lo n v : Nat) : Word :=
  BitVec.ofNat 32 (w.toNat / 2 ^ (lo + n) * 2 ^ (lo + n) + v % 2 ^ n * 2 ^ lo + w.toNat % 2 ^ lo)

/-- Bit i of a number. -/
def bit (n i : Nat) : Bool := n / 2 ^ i % 2 = 1

/-- The number of a truth value. -/
def ofBool (b : Bool) : Nat := if b then 1 else 0

/-- n with bit i set or cleared. -/
def setBit (n i : Nat) (b : Bool) : Nat :=
  n / 2 ^ (i + 1) * 2 ^ (i + 1) + ofBool b * 2 ^ i + n % 2 ^ i

/-- Byte i of a byte string; 0 beyond its end. -/
def byteAt (b : Bytes) (i : Nat) : Byte := b.getD i 0

/-- The little-endian number of n bytes from offset i (R5). -/
def le (b : Bytes) (i : Nat) : Nat → Nat
  | 0 => 0
  | n + 1 => (byteAt b i).toNat + 256 * le b (i + 1) n

/-- The n little-endian bytes of a number (R5). -/
def toLe : Nat → Nat → Bytes
  | 0, _ => []
  | n + 1, v => BitVec.ofNat 8 v :: toLe n (v / 256)

/-- A signed number of n bits in two's complement. -/
def sint (n v : Nat) : Int := if v % 2 ^ n < 2 ^ (n - 1) then (v % 2 ^ n : Nat) else (v % 2 ^ n : Nat) - (2 : Int) ^ n

/-- The n-bit two's complement pattern of an integer. -/
def uint (n : Nat) (v : Int) : Nat := (v % (2 : Int) ^ n).toNat

/-- Signed 16-bit sample or window value at byte i (R199). -/
def i16 (b : Bytes) (i : Nat) : Int := sint 16 (le b i 2)

/-- Clamp to lo..hi. -/
def clamp (lo hi v : Int) : Int := max lo (min hi v)

/-- sat16, sat32, sat40 without their flags (R75, R78, R184). -/
def sat16 (v : Int) : Int := clamp (-32768) 32767 v
def sat32 (v : Int) : Int := clamp (-2147483648) 2147483647 v
def sat40 (v : Int) : Int := clamp (-549755813888) 549755813887 v

/-- v × 2^-k rounded half to even (R76). -/
def rhe (v : Int) (k0 : Nat) : Int :=
  if k0 = 0 then v
  else
    let k := min k0 62
    let q := v.fdiv ((2 : Int) ^ k)
    let r := v - q * (2 : Int) ^ k
    let half := (2 : Int) ^ (k - 1)
    if r > half ∨ (r = half ∧ q % 2 ≠ 0) then q + 1 else q

/-- The unsaturated value of ext16 (R76). -/
def ext16Raw (v : Int) (s : Int) : Int :=
  if s ≥ 16 then (if v > 0 then 32768 else if v < 0 then -32769 else 0)
  else if s ≥ 0 then v * (2 : Int) ^ s.toNat
  else rhe v (-s).toNat

/-- ext16 of R76: the saturated value. -/
def ext16 (v : Int) (s : Int) : Int := sat16 (ext16Raw v s)

/-- Whether ext16 saturates (R76). -/
def ext16Sat (v : Int) (s : Int) : Bool := decide (ext16 v s ≠ ext16Raw v s)

/-- Counters that saturate at 2^n - 1. -/
def satAdd (n v k : Nat) : Nat := min (2 ^ n - 1) (v + k)

/-- Overwrite bytes of a byte string from offset i; the string keeps its length. -/
def patch (b : Bytes) (i : Nat) (d : Bytes) : Bytes :=
  b.take i ++ d.take (b.length - i) ++ b.drop (i + d.length)

/-- A zero byte string. -/
def zeros (n : Nat) : Bytes := List.replicate n 0

/-- Pad with zeros, or cut, to n bytes. -/
def fit (b : Bytes) (n : Nat) : Bytes := b.take n ++ zeros (n - b.length)

/-- One bit, and one byte, of CRC-32C: the reflected polynomial 0x82F63B78. -/
def crcBit (c : Nat) : Nat := if c % 2 = 1 then c / 2 ^^^ 0x82F63B78 else c / 2
def crcByte (c : Nat) (b : Byte) : Nat := crcBit (crcBit (crcBit (crcBit (crcBit (crcBit (crcBit (crcBit (c ^^^ b.toNat))))))))

/-- CRC-32C of a byte string (R195, R197, R224), which the spec names and does not define: PRESUMED to be the check of that name of
iSCSI, with all ones before and a complement after (log entry 50). -/
def crc32c (msg : Bytes) : Word := BitVec.ofNat 32 (msg.foldl crcByte 0xFFFFFFFF ^^^ 0xFFFFFFFF)

/-- n bytes of a string from offset i pass the CRC-32C check word that follows them (R195, R197, R224). -/
def crcOk (b : Bytes) (i n : Nat) : Bool := decide (le b (i + n) 4 = (crc32c ((b.drop i).take n)).toNat)

/-- Round up division. -/
def ceilDiv (a b : Nat) : Nat := (a + b - 1) / b

/-- The number of set bits among the first n. -/
def popcount : Nat → Nat → Nat
  | 0, _ => 0
  | n + 1, v => v % 2 + popcount n (v / 2)

end Sys2Proof.Bits
end

