-- ==== Sys2Proof/Config.lean ====
section
/-! DEFINITION. What the spec names and does not define or fixes per device, and the free values.
Every constant here is opaque: nothing can be proved of its value (log entries 1 and 2). -/

namespace Sys2Proof.Config

/-- SHAKE256 (R319): the first n bytes of its output over a byte string. -/
opaque shake256 (msg : Bytes) (n : Nat) : Bytes

/-- Falcon-1024 verification (R319): public key, message digest, signature. -/
opaque falconVerify (key digest sig : Bytes) : Bool

/-- The padded Falcon-1024 signature of a digest under a private key named by a number (R319). -/
opaque falconSign (key : Nat) (digest : Bytes) : Bytes

/-- Deterministic Falcon-1024 key generation (R322, R324): the public key of a seed. -/
opaque falconPublic (seed : Bytes) : Bytes

/-- Entropy of the on-die source (R321), one value per draw. -/
opaque entropy (draw : Nat) : Bytes

/-- GLB_ID.VENDOR, GLB_REV.STEPPING, GLB_CAPS.RADIO and TWIN_LINK, GLB_SERIAL (Tables 20-2, 20-3). -/
opaque vendorId : BitVec 16
opaque stepping : BitVec 8
opaque radioFitted : Bool
opaque twinLinkFitted : Bool
opaque serial : BitVec 64

/-- HIF_SB_IANA (Table 14-8). -/
opaque iana : Word

/-- The publication window's fabric address, BUD_PUB_ADDR (R160). -/
opaque pubWindow : FabAddr

/-- Where the shelf manifest of a digest declares its telemetry window and forecast block (R134, R136): the spec names no
section field for them. -/
opaque telemWindow (manifest : Bytes) : FabAddr
opaque forecastBlock (manifest : Bytes) : FabAddr

/-- Fused voltages per domain (R291): FUSE_MV and CEIL_MV. -/
opaque fuseMv (d : Nat) : BitVec 12
opaque ceilMv (d : Nat) : BitVec 12

/-- Fused at test: the margin floor of a voltage domain in ps (R292), the energy in pJ of one MAC issue of a format (0 Q15,
1 MACB8, 2 MACB4), and the static power in mW of a partition's share of an issue class, regulation loss included (R281). -/
opaque marginFloor (d : Nat) : Nat
opaque macPj (fmt : Nat) : Nat
opaque staticMw (p cls : Nat) : Nat

/-- The bank's usable capacity in kJ, of which GRD_SPLIT.SC_TARGET_PCT is the target of R139: the spec gives no upper bank voltage. -/
opaque bankCapacityKj : Nat

/-- The device's fused seed and fused vendor root digest (Table 15-1). -/
opaque fusedSeed : Bytes
opaque vendorRootDigest : Bytes

/-- The vendor root public key that the fused digest identifies (R322): where the device holds it is not stated. -/
opaque vendorRoot : Bytes

/-- The ROM contents measured into index 3 (R338). -/
opaque romImage : Bytes

/-- The cluster sequencer image in the body of a Postmaster firmware image (R344). -/
opaque sequencerImage (body : Bytes) : Bytes

/-- The active of a pair has run a rung or swapped a manifest in a beat (R379), which its twin frame does not carry (log entry 42). -/
opaque peerDisturbed (use : Nat) : Bool

/-- The stored identity certificate (R322). -/
opaque identityCert : Bytes

/-- The progress counter of a unit that moves by itself moves in a beat (Table 17-1): a cluster sequencer, the twin link controller, the
Postmaster. -/
opaque moves (use unit : Nat) : Bool

/-- A value the spec leaves undefined, one per use (log entry 1). -/
opaque freeWord (use : Nat) : Word

end Sys2Proof.Config
end

