-- ==== Sys2Proof/Machine/Reg.lean ====
section
/-! DEFINITION. The registers of BAR0: one name per field of the register tables (R408, R415), the Reset
columns (R11) and the write classes (Table 0-3). -/

namespace Sys2Proof.Machine

/-- A field of a BAR0 register: offset, lowest bit, number of bits. -/
structure Fld where
  off : Nat
  lo : Nat
  n : Nat
deriving DecidableEq, Repr

namespace Reg

def GLB_STATE_MSTATE : Fld := ⟨0x100, 0, 4⟩
def GLB_STATE_DEGRADED : Fld := ⟨0x100, 8, 1⟩
def GLB_STATE_LAST_CAUSE : Fld := ⟨0x100, 16, 4⟩
def GLB_SAFE_CMD_SAFE_REQ : Fld := ⟨0x104, 0, 1⟩
def FAB_BEAT_LO : Fld := ⟨0x200000, 0, 32⟩
def FAB_BEAT_HI : Fld := ⟨0x200004, 0, 32⟩
def FAB_GATE_CTL_IDLE_BEATS : Fld := ⟨0x200010, 0, 16⟩
def FAB_GATE_CTL_GATE_EN : Fld := ⟨0x200010, 16, 1⟩
def FAB_CLUSTER_STATE_CSTATE (i : Nat) : Fld := ⟨0x201000 + 4 * i, 0, 2⟩
def FAB_CLUSTER_STATE_PINNED (i : Nat) : Fld := ⟨0x201000 + 4 * i, 2, 1⟩
def FAB_CLUSTER_STATE_ASSIGNED (i : Nat) : Fld := ⟨0x201000 + 4 * i, 3, 1⟩
def FAB_CLUSTER_STATE_WAKE_COUNT (i : Nat) : Fld := ⟨0x201000 + 4 * i, 16, 16⟩
def ENV_BUF_CFG_BUF_SIZE (i : Nat) : Fld := ⟨0x300000 + 4 * i, 0, 3⟩
def ENV_PART_STATUS_OPEN (i : Nat) : Fld := ⟨0x300100 + 4 * i, 0, 7⟩
def ENV_PART_STATUS_BUF_USED (i : Nat) : Fld := ⟨0x300100 + 4 * i, 8, 13⟩
def ENV_PART_STATUS_OPEN_HWM (i : Nat) : Fld := ⟨0x300100 + 4 * i, 24, 7⟩
def ENV_LAST_ABORT_STATUS (i : Nat) : Fld := ⟨0x300200 + 8 * i, 0, 16⟩
def ENV_LAST_ABORT_HANDLE (i : Nat) : Fld := ⟨0x300200 + 8 * i, 16, 16⟩
def ENV_LAST_ABORT_BEAT (i : Nat) : Fld := ⟨0x300204 + 8 * i, 0, 32⟩
def MAN_LOAD_CTL_START (i : Nat) : Fld := ⟨0x400000 + 4 * i, 0, 1⟩
def MAN_LOAD_CTL_UNLOAD (i : Nat) : Fld := ⟨0x400000 + 4 * i, 1, 1⟩
def MAN_LOAD_CTL_HALF (i : Nat) : Fld := ⟨0x400000 + 4 * i, 2, 1⟩
def MAN_STATUS_STATE (i : Nat) : Fld := ⟨0x400100 + 4 * i, 0, 2⟩
def MAN_STATUS_INFORCE_HALF (i : Nat) : Fld := ⟨0x400100 + 4 * i, 2, 1⟩
def MAN_STATUS_SERVICE_LOCK (i : Nat) : Fld := ⟨0x400100 + 4 * i, 3, 1⟩
def MAN_STATUS_SHELF (i : Nat) : Fld := ⟨0x400100 + 4 * i, 4, 1⟩
def MAN_STATUS_CRIT (i : Nat) : Fld := ⟨0x400100 + 4 * i, 5, 1⟩
def MAN_STATUS_PROGRAMS (i : Nat) : Fld := ⟨0x400100 + 4 * i, 16, 11⟩
def MAN_LOAD_RESULT_STATUS (i : Nat) : Fld := ⟨0x400200 + 8 * i, 0, 16⟩
def MAN_LOAD_RESULT_REASON (i : Nat) : Fld := ⟨0x400200 + 8 * i, 16, 8⟩
def MAN_LOAD_RESULT_SECTION (i : Nat) : Fld := ⟨0x400204 + 8 * i, 0, 16⟩
def MAN_LOAD_RESULT_ENTRY (i : Nat) : Fld := ⟨0x400204 + 8 * i, 16, 16⟩
def MAN_SHELF_PART : Fld := ⟨0x400300, 0, 5⟩
def MAN_SHELF_VALID : Fld := ⟨0x400300, 7, 1⟩
def MAN_BUILD_LO (i : Nat) : Fld := ⟨0x400400 + 8 * i, 0, 32⟩
def MAN_BUILD_HI (i : Nat) : Fld := ⟨0x400404 + 8 * i, 0, 32⟩
def MAN_LAST_DROP_PROG (i : Nat) : Fld := ⟨0x400600 + 8 * i, 0, 10⟩
def MAN_LAST_DROP_CAUSE (i : Nat) : Fld := ⟨0x400600 + 8 * i, 10, 2⟩
def MAN_LAST_DROP_BEAT (i : Nat) : Fld := ⟨0x400604 + 8 * i, 0, 32⟩
def GRD_STATE_GSTATE : Fld := ⟨0x500000, 0, 4⟩
def GRD_STATE_HOST_LOST : Fld := ⟨0x500000, 8, 1⟩
def GRD_STATE_COOLANT : Fld := ⟨0x500000, 9, 1⟩
def GRD_STATE_NEIGHBOUR : Fld := ⟨0x500000, 10, 1⟩
def GRD_STATE_FCST_DEGRADED : Fld := ⟨0x500000, 11, 1⟩
def GRD_STATE_DISPATCH_STALE : Fld := ⟨0x500000, 12, 1⟩
def GRD_STATE_RAMP_YIELD : Fld := ⟨0x500000, 13, 1⟩
def GRD_STATE_THROTTLING : Fld := ⟨0x500000, 14, 1⟩
def GRD_STATE_WAIT_GRID : Fld := ⟨0x500000, 15, 1⟩
def GRD_STATE_PRE_FAIL : Fld := ⟨0x500000, 16, 1⟩
def GRD_STATE_STOPPING : Fld := ⟨0x500000, 17, 1⟩
def GRD_CTL_COOLANT_REQ : Fld := ⟨0x500004, 0, 1⟩
def GRD_CTL_NEIGHBOUR_REQ : Fld := ⟨0x500004, 1, 1⟩
def GRD_CTL_PRE_RETRY : Fld := ⟨0x500004, 2, 1⟩
def GRD_RAMP_RAMP_WPS : Fld := ⟨0x500010, 0, 19⟩
def GRD_CAP_CAP_W : Fld := ⟨0x500014, 0, 18⟩
def GRD_CAP_CAP_MODE : Fld := ⟨0x500014, 18, 1⟩
def GRD_RESERVE_RESERVE_KJ : Fld := ⟨0x500018, 0, 16⟩
def GRD_SPLIT_TAU_MS : Fld := ⟨0x50001c, 0, 16⟩
def GRD_SPLIT_SC_TARGET_PCT : Fld := ⟨0x50001c, 16, 8⟩
def GRD_CFG_SHARE_PCT : Fld := ⟨0x500020, 0, 7⟩
def GRD_CFG_PRE_TIMEOUT_S : Fld := ⟨0x500020, 8, 8⟩
def GRD_CFG_PRE_KW : Fld := ⟨0x500020, 16, 10⟩
def GRD_THRESH_SHARE_RISE_KW : Fld := ⟨0x500024, 0, 8⟩
def GRD_THRESH_FCST_ERR_KW : Fld := ⟨0x500024, 8, 8⟩
def GRD_THRESH_RETURN_MS : Fld := ⟨0x500024, 16, 16⟩
def BUD_CFG_VECTOR : Fld := ⟨0x600000, 0, 8⟩
def BUD_CFG_SAFE_THROTTLE : Fld := ⟨0x600000, 8, 1⟩
def BUD_CFG_FLOOR_EN : Fld := ⟨0x600000, 9, 1⟩
def BUD_CFG_TARGETS : Fld := ⟨0x600000, 16, 9⟩
def BUD_CFG_FLOOR_MAX_MS : Fld := ⟨0x600000, 25, 7⟩
def BUD_PUB_ADDR_LO : Fld := ⟨0x600008, 0, 32⟩
def BUD_PUB_ADDR_HI : Fld := ⟨0x60000c, 0, 32⟩
def BUD_HOST_BASE_LO : Fld := ⟨0x600010, 0, 32⟩
def BUD_HOST_BASE_HI : Fld := ⟨0x600014, 0, 32⟩
def BUD_PUB_SEQ_SEQ : Fld := ⟨0x600020, 0, 32⟩
def BUD_ACK_SEQ_SEQ : Fld := ⟨0x600024, 0, 32⟩
def BUD_SEQ_CTL_START : Fld := ⟨0x600030, 0, 1⟩
def BUD_SEQ_CTL_STOP : Fld := ⟨0x600030, 1, 1⟩
def BUD_SEQ_CTL_SEQ_TIMEOUT_S : Fld := ⟨0x600030, 8, 8⟩
def BUD_SEQ_CTL_DWELL_MS : Fld := ⟨0x600030, 16, 16⟩
def BUD_SEQ_STATE_SSTATE : Fld := ⟨0x600034, 0, 3⟩
def BUD_SEQ_STATE_STAGE : Fld := ⟨0x600034, 4, 3⟩
def BUD_SEQ_STATE_FAIL : Fld := ⟨0x600034, 8, 1⟩
def BUD_THR_FORCE_FORCE : Fld := ⟨0x600040, 0, 16⟩
def BUD_THR_STATE_LINES : Fld := ⟨0x600044, 0, 16⟩
def BUD_THR_SRC_GRID : Fld := ⟨0x600048, 0, 16⟩
def BUD_THR_SRC_SAFE : Fld := ⟨0x600048, 16, 16⟩
def BUD_TGT_MIN_W (i : Nat) : Fld := ⟨0x601000 + 16 * i, 0, 16⟩
def BUD_TGT_MAX_W (i : Nat) : Fld := ⟨0x601000 + 16 * i, 16, 16⟩
def BUD_TGT_SURVIVAL_W (i : Nat) : Fld := ⟨0x601004 + 16 * i, 0, 16⟩
def BUD_TGT_THROTTLED_W (i : Nat) : Fld := ⟨0x601004 + 16 * i, 16, 16⟩
def BUD_TGT_FOLLOW (i : Nat) : Fld := ⟨0x601008 + 16 * i, 0, 16⟩
def BUD_TGT_RESP_US (i : Nat) : Fld := ⟨0x601008 + 16 * i, 16, 16⟩
def BUD_TGT_STAGE (i : Nat) : Fld := ⟨0x60100c + 16 * i, 0, 3⟩
def BUD_TGT_EN (i : Nat) : Fld := ⟨0x60100c + 16 * i, 3, 1⟩
def LE_LOOP_CTL_CLEAR (i : Nat) : Fld := ⟨0x700000 + 4 * i, 0, 1⟩
def LE_LOOP_STATUS_LSTATE (i : Nat) : Fld := ⟨0x700800 + 4 * i, 0, 2⟩
def LE_LOOP_STATUS_WHY (i : Nat) : Fld := ⟨0x700800 + 4 * i, 2, 2⟩
def LE_LOOP_STATUS_CLAMPED (i : Nat) : Fld := ⟨0x700800 + 4 * i, 4, 1⟩
def LE_LOOP_STATUS_FE_HELD (i : Nat) : Fld := ⟨0x700800 + 4 * i, 5, 1⟩
def LE_LOOP_STATUS_FORM (i : Nat) : Fld := ⟨0x700800 + 4 * i, 6, 2⟩
def LE_LOOP_STATUS_PART (i : Nat) : Fld := ⟨0x700800 + 4 * i, 8, 5⟩
def LE_LOOP_STATUS_MISS (i : Nat) : Fld := ⟨0x700800 + 4 * i, 16, 16⟩
def LE_LOOP_OUT_U (i : Nat) : Fld := ⟨0x701000 + 4 * i, 0, 16⟩
def LE_LOOP_OUT_Y (i : Nat) : Fld := ⟨0x701000 + 4 * i, 16, 16⟩
def LE_LOOP_MODEL_M (i : Nat) : Fld := ⟨0x701800 + 4 * i, 0, 16⟩
def LE_LOOP_MODEL_SP (i : Nat) : Fld := ⟨0x701800 + 4 * i, 16, 16⟩
def STG_CFG_ALLFIRE_EN : Fld := ⟨0x800000, 0, 1⟩
def STG_CFG_SHARE_EN : Fld := ⟨0x800000, 1, 1⟩
def STG_CFG_SHED_EN : Fld := ⟨0x800000, 2, 1⟩
def STG_CFG_AUTO_EXIT : Fld := ⟨0x800000, 3, 1⟩
def STG_CFG_CLT_WARN : Fld := ⟨0x800000, 16, 16⟩
def STG_VCMD_TARGET : Fld := ⟨0x800004, 0, 16⟩
def STG_VCMD_SLEW : Fld := ⟨0x800004, 16, 16⟩
def STG_VREF_VREF : Fld := ⟨0x800008, 0, 32⟩
def STG_ALLFIRE_SLOPE_MV : Fld := ⟨0x80000c, 0, 16⟩
def STG_ALLFIRE_RELEASE_DV : Fld := ⟨0x80000c, 16, 8⟩
def STG_ALLFIRE_UNDER_DV : Fld := ⟨0x80000c, 24, 8⟩
def STG_SHARE_KS : Fld := ⟨0x800010, 0, 16⟩
def STG_EXIT_EXIT : Fld := ⟨0x800014, 0, 24⟩
def STG_ISO_ISO : Fld := ⟨0x800018, 0, 8⟩
def STG_ACT_ADDR_LO : Fld := ⟨0x800020, 0, 32⟩
def STG_ACT_ADDR_HI : Fld := ⟨0x800024, 0, 32⟩
def STG_BOARD_STATUS_BSTATE (i : Nat) : Fld := ⟨0x800100 + 4 * i, 0, 3⟩
def STG_BOARD_STATUS_EN (i : Nat) : Fld := ⟨0x800100 + 4 * i, 4, 4⟩
def STG_BOARD_STATUS_SHED (i : Nat) : Fld := ⟨0x800100 + 4 * i, 8, 4⟩
def STG_BOARD_STATUS_FIRE (i : Nat) : Fld := ⟨0x800100 + 4 * i, 12, 1⟩
def STG_BOARD_STATUS_INPUT_LOSS (i : Nat) : Fld := ⟨0x800100 + 4 * i, 13, 1⟩
def STG_BOARD_STATUS_CONT (i : Nat) : Fld := ⟨0x800100 + 4 * i, 14, 2⟩
def STG_BOARD_STATUS_LATENCY (i : Nat) : Fld := ⟨0x800100 + 4 * i, 16, 6⟩
def STG_BOARD_STATUS_MISS (i : Nat) : Fld := ⟨0x800100 + 4 * i, 24, 8⟩
def STG_PHASE_TRIM (i : Nat) : Fld := ⟨0x800200 + 4 * i, 0, 16⟩
def STG_PHASE_PSTATE (i : Nat) : Fld := ⟨0x800200 + 4 * i, 16, 2⟩
def MON_CFG_SWEEP_MS : Fld := ⟨0x900000, 0, 16⟩
def MON_CFG_WIN : Fld := ⟨0x900000, 16, 8⟩
def MON_CFG_AUTO_DIAG : Fld := ⟨0x900000, 24, 1⟩
def MON_TIMING_SETTLE_US : Fld := ⟨0x900004, 0, 12⟩
def MON_TIMING_COMM_TO_MS : Fld := ⟨0x900004, 16, 16⟩
def MON_DIAG_CFG_SUM_TOL_MV : Fld := ⟨0x900008, 0, 8⟩
def MON_DIAG_CFG_DEV_MV : Fld := ⟨0x900008, 8, 8⟩
def MON_DIAG_CFG_FOLLOW_MV : Fld := ⟨0x900008, 16, 12⟩
def MON_REF_CFG_REFCHK_S : Fld := ⟨0x90000c, 0, 16⟩
def MON_REF_CFG_REF_TOL_UV : Fld := ⟨0x90000c, 16, 16⟩
def MON_DIAG_CMD_CMU : Fld := ⟨0x900010, 0, 7⟩
def MON_DIAG_CMD_CELL : Fld := ⟨0x900010, 8, 5⟩
def MON_DIAG_CMD_GO : Fld := ⟨0x900010, 16, 1⟩
def MON_ISO_REL_REL : Fld := ⟨0x900014, 0, 8⟩
def MON_SWEEP_SEQ_SEQ : Fld := ⟨0x900020, 0, 32⟩
def MON_SWEEP_STATUS_PARTIAL : Fld := ⟨0x900024, 0, 1⟩
def MON_SWEEP_STATUS_MISSING : Fld := ⟨0x900024, 8, 7⟩
def MON_CMU_STATUS_CSTATE (i : Nat) : Fld := ⟨0x900100 + 4 * i, 0, 3⟩
def MON_CMU_STATUS_COMP (i : Nat) : Fld := ⟨0x900100 + 4 * i, 3, 1⟩
def MON_CMU_STATUS_REF_FAIL (i : Nat) : Fld := ⟨0x900100 + 4 * i, 4, 1⟩
def MON_CMU_STATUS_SENSE (i : Nat) : Fld := ⟨0x900100 + 4 * i, 5, 1⟩
def MON_CMU_STATUS_DIAG (i : Nat) : Fld := ⟨0x900100 + 4 * i, 6, 1⟩
def MON_CMU_STATUS_AGE (i : Nat) : Fld := ⟨0x900100 + 4 * i, 8, 8⟩
def MON_CMU_STATUS_MISS (i : Nat) : Fld := ⟨0x900100 + 4 * i, 16, 8⟩
def MON_SENSE_OPEN (i : Nat) : Fld := ⟨0x900300 + 4 * i, 0, 19⟩
def MON_STRING_ISO (i : Nat) : Fld := ⟨0x900500 + 4 * i, 0, 1⟩
def MON_STRING_DERATED (i : Nat) : Fld := ⟨0x900500 + 4 * i, 1, 1⟩
def MON_STRING_CAUSE (i : Nat) : Fld := ⟨0x900500 + 4 * i, 2, 5⟩
def MON_STRING_COMPLETE (i : Nat) : Fld := ⟨0x900500 + 4 * i, 16, 16⟩
def MON_VERDICT_CMU : Fld := ⟨0x900600, 0, 7⟩
def MON_VERDICT_TAP : Fld := ⟨0x900600, 8, 5⟩
def MON_VERDICT_VERDICT : Fld := ⟨0x900600, 13, 3⟩
def MON_VERDICT_ATTEMPTS : Fld := ⟨0x900600, 16, 2⟩
def SST_CFG_REST_MA : Fld := ⟨0xa00000, 0, 16⟩
def SST_CFG_REST_S : Fld := ⟨0xa00000, 16, 16⟩
def SST_LIMITS_V_FLOOR_MV : Fld := ⟨0xa00004, 0, 16⟩
def SST_LIMITS_V_FULL_MV : Fld := ⟨0xa00004, 16, 16⟩
def SST_CURR_I_DIS_MAX : Fld := ⟨0xa00008, 0, 16⟩
def SST_CURR_I_CHG_MAX : Fld := ⟨0xa00008, 16, 16⟩
def SST_TEMP_T_MIN : Fld := ⟨0xa0000c, 0, 16⟩
def SST_TEMP_T_MAX : Fld := ⟨0xa0000c, 16, 16⟩
def SST_BANK_C_BANK : Fld := ⟨0xa00010, 0, 16⟩
def SST_BANK_V_BANK_MIN : Fld := ⟨0xa00010, 16, 16⟩
def SST_TIMING_AUTH_TO_S : Fld := ⟨0xa00014, 0, 8⟩
def SST_TIMING_REC_PERIOD_S : Fld := ⟨0xa00014, 8, 16⟩
def SST_CTL_REAUTH : Fld := ⟨0xa00018, 0, 8⟩
def SST_OCV_V_MV (i : Nat) : Fld := ⟨0xa00040 + 4 * i, 0, 16⟩
def SST_OCV_SOC (i : Nat) : Fld := ⟨0xa00040 + 4 * i, 16, 14⟩
def SST_STRING_STATUS_SSTATE (i : Nat) : Fld := ⟨0xa00100 + 4 * i, 0, 3⟩
def SST_STRING_STATUS_D_VALID (i : Nat) : Fld := ⟨0xa00100 + 4 * i, 3, 1⟩
def SST_STRING_STATUS_INC_PENDING (i : Nat) : Fld := ⟨0xa00100 + 4 * i, 4, 1⟩
def SST_STRING_STATUS_EMPTY_DISAGREE (i : Nat) : Fld := ⟨0xa00100 + 4 * i, 5, 1⟩
def SST_STRING_STATUS_AUTH_FAILED (i : Nat) : Fld := ⟨0xa00100 + 4 * i, 6, 1⟩
def SST_STRING_STATUS_SLOT (i : Nat) : Fld := ⟨0xa00100 + 4 * i, 7, 1⟩
def SST_STRING_STATUS_ATTEMPT (i : Nat) : Fld := ⟨0xa00100 + 4 * i, 8, 2⟩
def SST_SOC_SOC (i : Nat) : Fld := ⟨0xa00200 + 16 * i, 0, 14⟩
def SST_SOC_C_PRESENT (i : Nat) : Fld := ⟨0xa00204 + 16 * i, 0, 32⟩
def SST_SOC_CYCLES (i : Nat) : Fld := ⟨0xa00208 + 16 * i, 0, 32⟩
def SST_SOC_E_KJ (i : Nat) : Fld := ⟨0xa0020c + 16 * i, 0, 32⟩
def LDG_CFG_BATCH_MS : Fld := ⟨0xb00000, 0, 7⟩
def LDG_CFG_VECTOR : Fld := ⟨0xb00000, 8, 8⟩
def LDG_LOSS_LOSS_W : Fld := ⟨0xb00004, 0, 16⟩
def LDG_LOSS_LOSS_PPM : Fld := ⟨0xb00004, 16, 16⟩
def LDG_METER_RATING_W : Fld := ⟨0xb00008, 0, 18⟩
def LDG_CAL_K_MIN_PM : Fld := ⟨0xb0000c, 0, 16⟩
def LDG_CAL_K_MAX_PM : Fld := ⟨0xb0000c, 16, 16⟩
def LDG_STATUS_RUN : Fld := ⟨0xb00010, 0, 1⟩
def LDG_STATUS_HALTED : Fld := ⟨0xb00010, 1, 1⟩
def LDG_STATUS_UNBALANCED : Fld := ⟨0xb00010, 2, 1⟩
def LDG_STATUS_COPY0 : Fld := ⟨0xb00010, 3, 2⟩
def LDG_STATUS_COPY1 : Fld := ⟨0xb00010, 5, 2⟩
def LDG_STATUS_STORE_FULL : Fld := ⟨0xb00010, 7, 1⟩
def LDG_SLOT_LO : Fld := ⟨0xb00018, 0, 32⟩
def LDG_SLOT_HI : Fld := ⟨0xb0001c, 0, 32⟩
def LDG_BATCH_LO : Fld := ⟨0xb00020, 0, 32⟩
def LDG_BATCH_HI : Fld := ⟨0xb00024, 0, 32⟩
def LDG_KEY_EPOCH_EPOCH : Fld := ⟨0xb00028, 0, 32⟩
def LDG_CAL_EPOCH_EPOCH : Fld := ⟨0xb0002c, 0, 32⟩
def LDG_REQ_ADDR_LO : Fld := ⟨0xb00030, 0, 32⟩
def LDG_REQ_ADDR_HI : Fld := ⟨0xb00034, 0, 32⟩
def LDG_EST_ADDR_LO : Fld := ⟨0xb00038, 0, 32⟩
def LDG_EST_ADDR_HI : Fld := ⟨0xb0003c, 0, 32⟩
def LDG_RX_BASE_LO : Fld := ⟨0xb00040, 0, 32⟩
def LDG_RX_BASE_HI : Fld := ⟨0xb00044, 0, 32⟩
def LDG_RX_SIZE_LOG2 : Fld := ⟨0xb00048, 0, 5⟩
def LDG_RX_TAIL_TAIL : Fld := ⟨0xb0004c, 0, 32⟩
def LDG_RX_HEAD_HEAD : Fld := ⟨0xb00050, 0, 32⟩
def LDG_BX_BASE_LO : Fld := ⟨0xb00058, 0, 32⟩
def LDG_BX_BASE_HI : Fld := ⟨0xb0005c, 0, 32⟩
def LDG_BX_SIZE_LOG2 : Fld := ⟨0xb00060, 0, 5⟩
def LDG_BX_TAIL_TAIL : Fld := ⟨0xb00064, 0, 32⟩
def LDG_BX_HEAD_HEAD : Fld := ⟨0xb00068, 0, 32⟩
def LDG_STORE_USED_USED : Fld := ⟨0xb0006c, 0, 32⟩
def LDG_QUEUE_TARGET (i : Nat) : Fld := ⟨0xb01000 + 4 * i, 0, 8⟩
def LDG_QUEUE_EN (i : Nat) : Fld := ⟨0xb01000 + 4 * i, 8, 1⟩
def LDG_QUEUE_OVERHEAD (i : Nat) : Fld := ⟨0xb01000 + 4 * i, 9, 1⟩
def MPW_CAP_CAP_W : Fld := ⟨0xc00000, 0, 10⟩
def MPW_ORDER_ORDER : Fld := ⟨0xc00004, 0, 6⟩
def MPW_RSV_LINK_RSV_W : Fld := ⟨0xc00008, 0, 8⟩
def MPW_RSV_MEM_RSV_W : Fld := ⟨0xc00008, 8, 8⟩
def MPW_THERM_T_THR : Fld := ⟨0xc0000c, 0, 8⟩
def MPW_THERM_HYST : Fld := ⟨0xc0000c, 8, 4⟩
def MPW_THERM_STEP_W : Fld := ⟨0xc0000c, 16, 8⟩
def MPW_FEED_V_LOW_DV : Fld := ⟨0xc00010, 0, 10⟩
def MPW_FEED_FEED_CAP_W : Fld := ⟨0xc00010, 16, 10⟩
def MPW_STATUS_LSTATE : Fld := ⟨0xc00040, 0, 2⟩
def MPW_STATUS_BIND : Fld := ⟨0xc00040, 4, 4⟩
def MPW_STATUS_CAL_HOLD : Fld := ⟨0xc00040, 8, 1⟩
def MPW_STATUS_FEED_LOW : Fld := ⟨0xc00040, 9, 1⟩
def MPW_STATUS_AGE_LIMIT : Fld := ⟨0xc00040, 10, 1⟩
def MPW_PWR_P_EST_W : Fld := ⟨0xc00044, 0, 10⟩
def MPW_PWR_P_IN_W : Fld := ⟨0xc00044, 16, 10⟩
def MPW_ALLOW_CAP_EFF_W : Fld := ⟨0xc00048, 0, 10⟩
def MPW_ALLOW_DUTY1 : Fld := ⟨0xc00048, 16, 4⟩
def MPW_ALLOW_DUTY2 : Fld := ⟨0xc00048, 20, 4⟩
def MPW_ALLOW_DUTY3 : Fld := ⟨0xc00048, 24, 4⟩
def MPW_TJ_TJ_MAX : Fld := ⟨0xc0004c, 0, 12⟩
def MPW_TJ_SENSOR : Fld := ⟨0xc0004c, 16, 6⟩
def MPW_CALK_K : Fld := ⟨0xc00050, 0, 16⟩
def MPW_TRIP_TJ : Fld := ⟨0xc00054, 0, 12⟩
def MPW_TRIP_SENSOR : Fld := ⟨0xc00054, 16, 6⟩
def MPW_TRIP_VALID : Fld := ⟨0xc00054, 31, 1⟩
def MPW_VOLT_FUSE_MV (i : Nat) : Fld := ⟨0xc00100 + 4 * i, 0, 12⟩
def MPW_VOLT_OFFSET_MV (i : Nat) : Fld := ⟨0xc00100 + 4 * i, 12, 8⟩
def MPW_VOLT_CEIL_MV (i : Nat) : Fld := ⟨0xc00100 + 4 * i, 20, 12⟩
def HIF_LINK_SPEED : Fld := ⟨0xd00000, 0, 4⟩
def HIF_LINK_WIDTH : Fld := ⟨0xd00000, 4, 5⟩
def HIF_LINK_DL_UP : Fld := ⟨0xd00000, 9, 1⟩
def HIF_LINK_BME : Fld := ⟨0xd00000, 10, 1⟩
def HIF_HB_VALUE : Fld := ⟨0xd00004, 0, 32⟩
def HIF_HB_CFG_HB_TIMEOUT_MS : Fld := ⟨0xd00008, 0, 16⟩
def HIF_STATUS_HOST_LOST : Fld := ⟨0xd0000c, 0, 1⟩
def HIF_STATUS_CAUSE : Fld := ⟨0xd0000c, 1, 2⟩
def HIF_STATUS_HB_AGE_MS : Fld := ⟨0xd0000c, 16, 16⟩
def HIF_CHIP_RESET_KEY : Fld := ⟨0xd00010, 0, 32⟩
def HIF_EVT_CTL_VECTOR : Fld := ⟨0xd00014, 0, 8⟩
def HIF_EVT_CTL_MIN_SEV : Fld := ⟨0xd00014, 8, 3⟩
def HIF_EVT_CTL_EN : Fld := ⟨0xd00014, 11, 1⟩
def HIF_SB_STATUS_DYN_ADDR : Fld := ⟨0xd00018, 0, 7⟩
def HIF_SB_STATUS_ADDR_VALID : Fld := ⟨0xd00018, 7, 1⟩
def HIF_SB_STATUS_EID : Fld := ⟨0xd00018, 8, 8⟩
def HIF_SB_STATUS_LAST_STATUS : Fld := ⟨0xd00018, 16, 16⟩
def HIF_SB_IANA_IANA : Fld := ⟨0xd0001c, 0, 32⟩
def HIF_FW_STATUS_PM_BANK : Fld := ⟨0xd00020, 0, 1⟩
def HIF_FW_STATUS_AO_BANK : Fld := ⟨0xd00020, 1, 1⟩
def HIF_FW_STATUS_PM_PENDING : Fld := ⟨0xd00020, 2, 1⟩
def HIF_FW_STATUS_AGENT : Fld := ⟨0xd00020, 3, 2⟩
def HIF_SQ_CFG_EN (i : Nat) : Fld := ⟨0xd01000 + 4 * i, 0, 1⟩
def HIF_SQ_CFG_REPORT (i : Nat) : Fld := ⟨0xd01000 + 4 * i, 1, 1⟩
def HIF_SQ_SEQ_SEQ (i : Nat) : Fld := ⟨0xd01100 + 4 * i, 0, 32⟩
def HIF_AP_BASE_LO (q a : Nat) : Fld := ⟨0xd02000 + 64 * q + 8 * a, 0, 32⟩
def HIF_AP_BASE_HI (q a : Nat) : Fld := ⟨0xd02004 + 64 * q + 8 * a, 0, 16⟩
def HIF_AP_MODE (q a : Nat) : Fld := ⟨0xd02004 + 64 * q + 8 * a, 16, 1⟩
def HIF_AP_EN (q a : Nat) : Fld := ⟨0xd02004 + 64 * q + 8 * a, 31, 1⟩
def HIF_CQ_BASE_LO (i : Nat) : Fld := ⟨0xd04000 + 32 * i, 0, 32⟩
def HIF_CQ_BASE_HI (i : Nat) : Fld := ⟨0xd04004 + 32 * i, 0, 32⟩
def HIF_CQ_CFG_LOG2 (i : Nat) : Fld := ⟨0xd04008 + 32 * i, 0, 5⟩
def HIF_CQ_CFG_VECTOR (i : Nat) : Fld := ⟨0xd04008 + 32 * i, 8, 8⟩
def HIF_CQ_CFG_MOD_CNT (i : Nat) : Fld := ⟨0xd04008 + 32 * i, 16, 8⟩
def HIF_CQ_CFG_MOD_US (i : Nat) : Fld := ⟨0xd04008 + 32 * i, 24, 8⟩
def HIF_CQ_TAIL_TAIL (i : Nat) : Fld := ⟨0xd0400c + 32 * i, 0, 32⟩
def HIF_CQ_HEAD_HEAD (i : Nat) : Fld := ⟨0xd04010 + 32 * i, 0, 32⟩
def HIF_CQ_STATUS_OVF (i : Nat) : Fld := ⟨0xd04014 + 32 * i, 0, 1⟩
def SEC_STATUS_DEBUG : Fld := ⟨0xe00000, 0, 2⟩
def SEC_STATUS_ID_OK : Fld := ⟨0xe00000, 2, 1⟩
def SEC_STATUS_ENTROPY_FAIL : Fld := ⟨0xe00000, 3, 1⟩
def SEC_STATUS_SVN_MIN : Fld := ⟨0xe00000, 4, 6⟩
def SEC_STATUS_OWNER_EN : Fld := ⟨0xe00000, 10, 4⟩
def SEC_STATUS_OWNER_REV : Fld := ⟨0xe00000, 14, 4⟩
def SEC_STATUS_PACK_EN : Fld := ⟨0xe00000, 18, 4⟩
def SEC_CMD_OP : Fld := ⟨0xe00004, 0, 4⟩
def SEC_CMD_SLOT : Fld := ⟨0xe00004, 4, 2⟩
def SEC_CMD_VALUE : Fld := ⟨0xe00004, 6, 6⟩
def SEC_CMD_AUTH_SLOT : Fld := ⟨0xe00004, 12, 2⟩
def SEC_CMD_GO : Fld := ⟨0xe00004, 31, 1⟩
def SEC_CMD_RESULT_STATUS : Fld := ⟨0xe00008, 0, 16⟩
def SEC_CMD_RESULT_BUSY : Fld := ⟨0xe00008, 16, 1⟩
def SEC_LKEY_CFG_ROTATE_H : Fld := ⟨0xe0000c, 0, 10⟩
def SEC_EPOCH_EPOCH : Fld := ⟨0xe00010, 0, 32⟩
def BUP_STEP_STEP : Fld := ⟨0xf00000, 0, 4⟩
def BUP_RESULT_STEP : Fld := ⟨0xf00004, 0, 4⟩
def BUP_RESULT_BUSY : Fld := ⟨0xf00004, 4, 1⟩
def BUP_RESULT_REASON : Fld := ⟨0xf00004, 8, 8⟩
def BUP_RESULT_STATUS : Fld := ⟨0xf00004, 16, 16⟩
def BUP_PROGRESS_PERMILLE : Fld := ⟨0xf00008, 0, 10⟩
def BUP_PROGRESS_ELAPSED_S : Fld := ⟨0xf00008, 16, 16⟩
def BUP_PART_AVAIL_AVAIL : Fld := ⟨0xf0000c, 0, 32⟩
def BUP_MAN_SEL_PARTS : Fld := ⟨0xf00010, 0, 32⟩
def BUP_MAN_HALF_HALF : Fld := ⟨0xf00014, 0, 32⟩
def BUP_DRAM_FAIL_FAIL : Fld := ⟨0xf00018, 0, 32⟩
def BUP_DEAD_CELLS : Fld := ⟨0xf0001c, 0, 14⟩
def BUP_DEAD_CLUSTERS : Fld := ⟨0xf0001c, 16, 10⟩
def BUP_RETRAIN_INTERVAL_MS : Fld := ⟨0xf00030, 0, 16⟩
def BUP_RETRAIN_EN : Fld := ⟨0xf00030, 16, 1⟩
def BUP_RETRAIN_STATUS_CHANNEL : Fld := ⟨0xf00034, 0, 6⟩
def BUP_RETRAIN_STATUS_FAIL_RUN : Fld := ⟨0xf00034, 8, 8⟩
def RCV_CFG_CTX_LIMIT : Fld := ⟨0x1000000, 0, 4⟩
def RCV_CFG_ENG_LIMIT : Fld := ⟨0x1000000, 4, 4⟩
def RCV_CFG_PART_LIMIT : Fld := ⟨0x1000000, 8, 4⟩
def RCV_CFG_CHIP_LIMIT : Fld := ⟨0x1000000, 12, 4⟩
def RCV_CFG_ESC_WINDOW_S : Fld := ⟨0x1000000, 16, 16⟩
def RCV_WATCH_WINDOW : Fld := ⟨0x1000004, 0, 8⟩
def RCV_WATCH_CRIT_WINDOW : Fld := ⟨0x1000004, 8, 8⟩
def RCV_REQ_RUNG : Fld := ⟨0x1000008, 0, 3⟩
def RCV_REQ_UNIT : Fld := ⟨0x1000008, 8, 8⟩
def RCV_REQ_PROG : Fld := ⟨0x1000008, 16, 10⟩
def RCV_REQ_GO : Fld := ⟨0x1000008, 31, 1⟩
def RCV_STATUS_BUSY : Fld := ⟨0x1000010, 0, 1⟩
def RCV_STATUS_HIGHEST : Fld := ⟨0x1000010, 1, 3⟩
def RCV_PART_STATE_PSTATE (i : Nat) : Fld := ⟨0x1000100 + 4 * i, 0, 2⟩
def RCV_PART_STATE_PART_CNT (i : Nat) : Fld := ⟨0x1000100 + 4 * i, 8, 4⟩
def RCV_PART_STATE_RESETS (i : Nat) : Fld := ⟨0x1000100 + 4 * i, 16, 16⟩
def RCV_CHIP_HIST_CHIP_CNT : Fld := ⟨0x1000300, 0, 4⟩
def RCV_CHIP_HIST_PWR_REQ : Fld := ⟨0x1000300, 4, 1⟩
def RCV_FAULT_IDX_NEXT : Fld := ⟨0x1000500, 0, 4⟩
def TWN_CFG_MODE : Fld := ⟨0x1100000, 0, 1⟩
def TWN_CFG_PREF : Fld := ⟨0x1100000, 1, 1⟩
def TWN_CFG_CLEAN_S : Fld := ⟨0x1100000, 8, 8⟩
def TWN_CFG_RESYNC_MS : Fld := ⟨0x1100000, 16, 16⟩
def TWN_CTL_SWITCH : Fld := ⟨0x1100004, 0, 1⟩
def TWN_STATUS_MODULE : Fld := ⟨0x1100008, 0, 1⟩
def TWN_STATUS_ACTIVE : Fld := ⟨0x1100008, 1, 1⟩
def TWN_STATUS_SYNC : Fld := ⟨0x1100008, 2, 1⟩
def TWN_STATUS_LINK : Fld := ⟨0x1100008, 3, 1⟩
def TWN_STATUS_PEER_ACTIVE : Fld := ⟨0x1100008, 4, 1⟩
def TWN_STATUS_PEER_MSTATE : Fld := ⟨0x1100008, 8, 4⟩
def TWN_STATUS_EPOCH : Fld := ⟨0x1100008, 16, 16⟩
def TWN_CLEAN_S_SECONDS : Fld := ⟨0x110000c, 0, 32⟩
def TWN_LAST_TAKE_CAUSE : Fld := ⟨0x1100010, 0, 3⟩
def TWN_LAST_TAKE_EPOCH : Fld := ⟨0x1100010, 16, 16⟩
def TWN_LAST_BEAT_BEAT : Fld := ⟨0x1100014, 0, 32⟩
def TWN_FEED_VA_DV : Fld := ⟨0x1100018, 0, 10⟩
def TWN_FEED_A_STATE : Fld := ⟨0x1100018, 10, 2⟩
def TWN_FEED_VB_DV : Fld := ⟨0x1100018, 16, 10⟩
def TWN_FEED_B_STATE : Fld := ⟨0x1100018, 26, 2⟩
def CNT_CTL_REQ : Fld := ⟨0x1200000, 0, 1⟩
def CNT_CFG_PERIOD_MS : Fld := ⟨0x1200004, 0, 16⟩
def CNT_STATUS_VALID : Fld := ⟨0x1200008, 0, 1⟩
def CNT_STATUS_BUSY : Fld := ⟨0x1200008, 1, 1⟩
def CNT_STATUS_PENDING : Fld := ⟨0x1200008, 2, 1⟩
def CNT_STATUS_LATE : Fld := ⟨0x1200008, 3, 1⟩
def CNT_DONE_NUM : Fld := ⟨0x120000c, 0, 32⟩
def CNT_DONE_BEAT_LO : Fld := ⟨0x1200010, 0, 32⟩
def CNT_DONE_BEAT_HI : Fld := ⟨0x1200014, 0, 32⟩
def CNT_LATE_LATE : Fld := ⟨0x1200018, 0, 32⟩
def EVL_TAIL_TAIL : Fld := ⟨0x1300000, 0, 32⟩
def EVL_STATUS_FULL : Fld := ⟨0x1300004, 0, 1⟩
def EVL_STATUS_CLEARING : Fld := ⟨0x1300004, 1, 1⟩
def EVL_STATUS_CLEARS : Fld := ⟨0x1300004, 16, 16⟩
def EVL_CTL_KEY : Fld := ⟨0x1300008, 0, 32⟩
def EVL_PAGE_PAGE : Fld := ⟨0x130000c, 0, 3⟩
def EVL_OPS_OP_SECONDS : Fld := ⟨0x1300010, 0, 32⟩
def EVL_PWR_POWER_ONS : Fld := ⟨0x1300014, 0, 24⟩
def GLB_ID_VENDOR : Fld := ⟨0x0, 0, 16⟩
def GLB_ID_DEVICE : Fld := ⟨0x0, 16, 16⟩
def GLB_REV_STEPPING : Fld := ⟨0x4, 0, 8⟩
def GLB_REV_MAP : Fld := ⟨0x4, 8, 8⟩
def GLB_CAPS_PARTITIONS : Fld := ⟨0x8, 0, 6⟩
def GLB_CAPS_ENGINES : Fld := ⟨0x8, 6, 7⟩
def GLB_CAPS_LINKS : Fld := ⟨0x8, 13, 5⟩
def GLB_CAPS_PORTS : Fld := ⟨0x8, 18, 7⟩
def GLB_CAPS_RADIO : Fld := ⟨0x8, 25, 1⟩
def GLB_CAPS_TWIN_LINK : Fld := ⟨0x8, 26, 1⟩
def GLB_SERIAL_LO : Fld := ⟨0x10, 0, 32⟩
def GLB_SERIAL_HI : Fld := ⟨0x14, 0, 32⟩
def PM_STATUS_CORES : Fld := ⟨0x100000, 0, 4⟩
def PM_STATUS_FW_RUN : Fld := ⟨0x100000, 4, 1⟩
def PM_STATUS_SVN : Fld := ⟨0x100000, 8, 6⟩
def PM_BUILD_LO : Fld := ⟨0x100008, 0, 32⟩
def PM_BUILD_HI : Fld := ⟨0x10000c, 0, 32⟩
def PM_HB_AGE_BEATS : Fld := ⟨0x100010, 0, 16⟩
def CLK_STATUS_REF_OK : Fld := ⟨0x1400000, 0, 1⟩
def CLK_STATUS_FAB_LOCK : Fld := ⟨0x1400000, 1, 1⟩
def CLK_STATUS_MEM_LOCK : Fld := ⟨0x1400000, 2, 1⟩
def CLK_STATUS_LINK_LOCK : Fld := ⟨0x1400000, 3, 1⟩
def CLK_STATUS_RUN : Fld := ⟨0x1400000, 4, 1⟩
def CLK_STATUS_TWIN_LOCK : Fld := ⟨0x1400000, 5, 1⟩
def CLK_STATUS_REF_SRC : Fld := ⟨0x1400000, 8, 2⟩
def CLK_FABRIC_MHZ_MHZ : Fld := ⟨0x1400004, 0, 16⟩
def CLK_TWIN_PHASE_OFFSET : Fld := ⟨0x1400008, 0, 8⟩
def CLK_LOCK_LOSS_CNT_COUNT : Fld := ⟨0x1400100, 0, 32⟩

def ENV_COMMIT_CNT : Nat := 0x300400
def ENV_TOO_LARGE_CNT : Nat := 0x300404
def ENV_CONFLICT_CNT : Nat := 0x300408
def ENV_LATE_CNT : Nat := 0x30040c
def ENV_DISCARD_CNT : Nat := 0x300410
def ENV_PARTIAL_CNT : Nat := 0x300414
def ENV_ACT_DISCARD_CNT : Nat := 0x300418
def ENV_ACT_DEFER_CNT : Nat := 0x30041c
def MAN_LATE_CNT (i : Nat) : Nat := 0x400800 + 4 * i
def MAN_OVERRUN_CNT (i : Nat) : Nat := 0x400880 + 4 * i
def MAN_REFUSE_CNT : Nat := 0x400900
def MAN_STAGE_DROP_CNT : Nat := 0x400904
def GRD_GRID_REF : Nat := 0x500040
def GRD_GRID_MEAS : Nat := 0x500044
def GRD_STORE_AVAIL : Nat := 0x500048
def GRD_RESERVE_EFF : Nat := 0x50004c
def GRD_SC_ENERGY : Nat := 0x500050
def GRD_TELEM_ADDR_LO : Nat := 0x500060
def GRD_TELEM_ADDR_HI : Nat := 0x500064
def GRD_FCST_ADDR_LO : Nat := 0x500068
def GRD_FCST_ADDR_HI : Nat := 0x50006c
def GRD_TELEM_STALE (i : Nat) : Nat := 0x500070 + 4 * i
def GRD_RAMP_YIELD_US : Nat := 0x500100
def GRD_THROTTLE_US : Nat := 0x500104
def GRD_CAPPED_MS : Nat := 0x500108
def GRD_RIDE_CNT : Nat := 0x50010c
def GRD_ORPHAN_CNT : Nat := 0x500110
def GRD_DISPATCH_MISS_CNT : Nat := 0x500114
def GRD_FCST_DEG_CNT : Nat := 0x500118
def GRD_TELEM_STALE_CNT : Nat := 0x50011c
def GRD_STRING_CLAMP_CNT : Nat := 0x500120
def BUD_PUB_CNT : Nat := 0x600100
def BUD_PUB_MISS_CNT : Nat := 0x600104
def BUD_SUPERSEDE_CNT : Nat := 0x600108
def BUD_CLAMP_CNT : Nat := 0x60010c
def BUD_ACK_BAD_CNT : Nat := 0x600110
def BUD_HOST_DROP_CNT : Nat := 0x600114
def BUD_RESP_FAIL_CNT : Nat := 0x600118
def BUD_THR_US (i : Nat) : Nat := 0x600200 + 4 * i
def LE_TRIP_CNT : Nat := 0x702000
def LE_MISS_CNT : Nat := 0x702004
def LE_EXT_LATE_CNT : Nat := 0x702008
def LE_SP_REJECT_CNT : Nat := 0x70200c
def LE_CLAMP_CNT : Nat := 0x702010
def LE_FE_HELD_CNT : Nat := 0x702014
def STG_CLT_CNT (i : Nat) : Nat := 0x800400 + 4 * i
def STG_RX_MISS_CNT (i : Nat) : Nat := 0x800600 + 4 * i
def STG_FIRE_CNT : Nat := 0x800700
def STG_FIRE_US : Nat := 0x800704
def STG_COMP_FIRE_CNT : Nat := 0x800708
def STG_SHED_CNT : Nat := 0x80070c
def STG_ADD_CNT : Nat := 0x800710
def STG_SHED_ABORT_CNT : Nat := 0x800714
def STG_RETARGET_CNT : Nat := 0x800718
def STG_LOCAL_CNT : Nat := 0x80071c
def STG_EXIT_FAIL_CNT : Nat := 0x800720
def MON_SWEEP_CNT : Nat := 0x900800
def MON_PARTIAL_CNT : Nat := 0x900804
def MON_RX_BAD_CNT : Nat := 0x900808
def MON_COMP_CNT : Nat := 0x90080c
def MON_DIAG_CNT : Nat := 0x900810
def MON_SENSE_CNT : Nat := 0x900814
def MON_CELL_FAULT_CNT : Nat := 0x900818
def MON_REF_FAIL_CNT : Nat := 0x90081c
def SST_AUTH_FAIL_CNT : Nat := 0xa00400
def SST_REC_WRITE_CNT : Nat := 0xa00404
def SST_ANCHOR_CNT : Nat := 0xa00408
def SST_DISAGREE_CNT : Nat := 0xa0040c
def SST_SAMPLE_MISS_CNT : Nat := 0xa00410
def LDG_TOT_METERED : Nat := 0xb00200
def LDG_TOT_LOSS : Nat := 0xb00208
def LDG_TOT_OVERHEAD : Nat := 0xb00210
def LDG_TOT_IDLE : Nat := 0xb00218
def LDG_TOT_ISSUED : Nat := 0xb00220
def LDG_TOT_ACCRUED : Nat := 0xb00228
def LDG_TOT_CARRY : Nat := 0xb00230
def LDG_OPEN_CNT : Nat := 0xb00400
def LDG_CLOSE_CNT : Nat := 0xb00404
def LDG_REQ_REFUSE_CNT : Nat := 0xb00408
def LDG_REQ_BAD_CNT : Nat := 0xb0040c
def LDG_EST_STALE_CNT : Nat := 0xb00410
def LDG_EST_BAD_CNT : Nat := 0xb00414
def LDG_CAL_OUT_CNT : Nat := 0xb00418
def LDG_SAMPLE_MISS_CNT : Nat := 0xb0041c
def LDG_COPY_FIX_CNT : Nat := 0xb00420
def LDG_LOST_CNT : Nat := 0xb00424
def LDG_BATCH_CNT : Nat := 0xb00428
def LDG_BATCH_DEFER_CNT : Nat := 0xb0042c
def LDG_HOST_DROP_CNT : Nat := 0xb00430
def LDG_REFUSE_DROP_CNT : Nat := 0xb00434
def MPW_THR_US (i : Nat) : Nat := 0xc00400 + 8 * i
def MPW_E_IN : Nat := 0xc00480
def MPW_E_PART (i : Nat) : Nat := 0xc00800 + 8 * i
def MPW_E_QUEUE (i : Nat) : Nat := 0xc00a00 + 8 * i
def SEC_VERIFY_FAIL_CNT : Nat := 0xe00100
def SEC_CMD_REFUSE_CNT : Nat := 0xe00104
def SEC_SPDM_CNT : Nat := 0xe00108
def SEC_LKEY_CNT : Nat := 0xe0010c
def BUP_DRAM_REPAIR_CNT : Nat := 0xf00100
def BUP_RETRAIN_CNT : Nat := 0xf00104
def BUP_RETRAIN_FAIL_CNT : Nat := 0xf00108
def RCV_CTX_CNT : Nat := 0x1000800
def RCV_ENG_CNT : Nat := 0x1000804
def RCV_PART_CNT : Nat := 0x1000808
def RCV_ESC_CNT : Nat := 0x100080c
def RCV_ABSORB_CNT : Nat := 0x1000810
def RCV_NOPROG_CNT : Nat := 0x1000814
def TWN_TAKEOVER_CNT : Nat := 0x1100100
def TWN_MISMATCH_CNT : Nat := 0x1100104
def TWN_INPUT_DIV_CNT : Nat := 0x1100108
def TWN_LINK_MISS_CNT : Nat := 0x110010c
def TWN_YIELD_CNT : Nat := 0x1100110
def TWN_SWITCH_CNT : Nat := 0x1100114
def TWN_BAR2_REFUSE_CNT : Nat := 0x1100118
def TWN_FEED_LOSS_CNT : Nat := 0x110011c
def EVL_APPEND_CNT : Nat := 0x1300100
def EVL_REPEAT_CNT : Nat := 0x1300104
def EVL_DROP_CNT : Nat := 0x1300108
def EVL_QDROP_CNT : Nat := 0x130010c

end Reg

/-- Nonzero Reset columns: (offset, stride, count, word). -/
def resetRows : List (Nat × Nat × Nat × Nat) := [
  (0x0, 4, 1, 0x3500000), -- GLB_ID
  (0x4, 4, 1, 0x100), -- GLB_REV
  (0x8, 4, 1, 0x1831020), -- GLB_CAPS
  (0x100, 4, 1, 0x70001), -- GLB_STATE
  (0x200010, 4, 1, 0x10064), -- FAB_GATE_CTL
  (0x201000, 4, 640, 0x2), -- FAB_CLUSTER_STATE
  (0x300000, 4, 32, 0x4), -- ENV_BUF_CFG
  (0x500010, 4, 1, 0x61a8), -- GRD_RAMP
  (0x500014, 4, 1, 0x3d090), -- GRD_CAP
  (0x500018, 4, 1, 0x7d0), -- GRD_RESERVE
  (0x50001c, 4, 1, 0x3c03e8), -- GRD_SPLIT
  (0x500020, 4, 1, 0x327814), -- GRD_CFG
  (0x500024, 4, 1, 0x13883214), -- GRD_THRESH
  (0x600000, 4, 1, 0x65000300), -- BUD_CFG
  (0x600030, 4, 1, 0x7d03c00), -- BUD_SEQ_CTL
  (0x601008, 16, 256, 0x3e80000), -- BUD_TGT
  (0x60100c, 16, 256, 0x4), -- BUD_TGT
  (0x800000, 4, 1, 0x3e8000f), -- STG_CFG
  (0x800004, 4, 1, 0xa1f40), -- STG_VCMD
  (0x800008, 4, 1, 0xc3500), -- STG_VREF
  (0x80000c, 4, 1, 0x64320fa0), -- STG_ALLFIRE
  (0x800010, 4, 1, 0x800), -- STG_SHARE
  (0x800020, 4, 1, 0x4c00000), -- STG_ACT_ADDR_LO
  (0x800024, 4, 1, 0xc130), -- STG_ACT_ADDR_HI
  (0x800200, 4, 96, 0x30000), -- STG_PHASE
  (0x900000, 4, 1, 0x1630005), -- MON_CFG
  (0x900004, 4, 1, 0x7d001f4), -- MON_TIMING
  (0x900008, 4, 1, 0x64320a), -- MON_DIAG_CFG
  (0x90000c, 4, 1, 0x7d00e10), -- MON_REF_CFG
  (0xa00000, 4, 1, 0x2580064), -- SST_CFG
  (0xa00004, 4, 1, 0xa8c0708), -- SST_LIMITS
  (0xa00008, 4, 1, 0x320032), -- SST_CURR
  (0xa0000c, 4, 1, 0x1770f830), -- SST_TEMP
  (0xa00010, 4, 1, 0x96000a), -- SST_BANK
  (0xa00014, 4, 1, 0x3c0a), -- SST_TIMING
  (0xb00000, 4, 1, 0xa), -- LDG_CFG
  (0xb00008, 4, 1, 0x3d090), -- LDG_METER
  (0xb0000c, 4, 1, 0x7d001f4), -- LDG_CAL
  (0xb00030, 4, 1, 0x5000000), -- LDG_REQ_ADDR_LO
  (0xb00034, 4, 1, 0xc200), -- LDG_REQ_ADDR_HI
  (0xb00038, 4, 1, 0x5010000), -- LDG_EST_ADDR_LO
  (0xb0003c, 4, 1, 0xc200), -- LDG_EST_ADDR_HI
  (0xb00048, 4, 1, 0x10), -- LDG_RX_SIZE
  (0xb00060, 4, 1, 0x8), -- LDG_BX_SIZE
  (0xc00000, 4, 1, 0x15e), -- MPW_CAP
  (0xc00004, 4, 1, 0x24), -- MPW_ORDER
  (0xc00008, 4, 1, 0x2810), -- MPW_RSV
  (0xc0000c, 4, 1, 0x50264), -- MPW_THERM
  (0xc00010, 4, 1, 0x12c01b8), -- MPW_FEED
  (0xc00048, 4, 1, 0x15e), -- MPW_ALLOW
  (0xc00050, 4, 1, 0x2710), -- MPW_CALK
  (0xd00008, 4, 1, 0x64), -- HIF_HB_CFG
  (0xd04008, 32, 64, 0x10008), -- HIF_CQ_CFG
  (0xe0000c, 4, 1, 0x18), -- SEC_LKEY_CFG
  (0xf00004, 4, 1, 0x300000), -- BUP_RESULT
  (0xf00030, 4, 1, 0x103e8), -- BUP_RETRAIN
  (0x1000000, 4, 1, 0x2582233), -- RCV_CFG
  (0x1000004, 4, 1, 0x410), -- RCV_WATCH
  (0x1100000, 4, 1, 0x643c00), -- TWN_CFG
  (0x1100018, 4, 1, 0x4000400), -- TWN_FEED
  (0x1200004, 4, 1, 0x3e8)] -- CNT_CFG

/-- The row of an array of registers that holds an offset. -/
def inRow (off base stride count : Nat) : Bool :=
  decide (base ≤ off) && decide ((off - base) % stride = 0) && decide ((off - base) / stride < count)

/-- The Reset column of an offset among the rows. -/
def resetOf : List (Nat × Nat × Nat × Nat) → Nat → Nat
  | [], _ => 0
  | (b, st, c, w) :: r, off => if inRow off b st c then w else resetOf r off

/-- What a register that nothing has written reads as: its Reset column (R11), or its device-fixed source
(log entry 2). -/
def resetWord (off : Nat) : Word :=
  if off = 0x0 then 0x03500000#32 ||| Config.vendorId.zeroExtend 32
  else if off = 0x4 then 0x00000100#32 ||| Config.stepping.zeroExtend 32
  else if off = 0x8 then 0x01831020#32 ||| (if Config.radioFitted then 0x02000000#32 else 0#32)
    ||| (if Config.twinLinkFitted then 0x04000000#32 else 0#32)
  else if off = 0x10 then Config.serial.truncate 32
  else if off = 0x14 then (Config.serial >>> 32).truncate 32
  else if off = 0x600008 then Config.pubWindow.truncate 32
  else if off = 0x60000c then (Config.pubWindow >>> 32).truncate 32
  else if off = 0xd0001c then Config.iana
  else if inRow off 0xc00100 4 34 then
    (Config.fuseMv ((off - 0xc00100) / 4)).zeroExtend 32 ||| ((Config.ceilMv ((off - 0xc00100) / 4)).zeroExtend 32 <<< 20)
  else if inRow off 0xe04000 4 864 then BitVec.ofNat 32 (Bits.le Config.identityCert (off - 0xe04000) 4)
  else BitVec.ofNat 32 (resetOf resetRows off)

/-- A row of writable registers: masks of the fields of each write class (Table 0-3). -/
structure WRow where
  base : Nat
  stride : Nat
  count : Nat
  rw : Nat
  rws : Nat
  rwl : Nat
  rw1c : Nat
deriving DecidableEq, Repr

/-- The writable registers of BAR0. -/
def writableRows : List WRow := [
  ⟨0x104, 4, 1, 0x1, 0x0, 0x0, 0x0⟩, -- GLB_SAFE_CMD
  ⟨0x200010, 4, 1, 0x10000, 0xffff, 0x0, 0x0⟩, -- FAB_GATE_CTL
  ⟨0x300000, 4, 32, 0x0, 0x0, 0x7, 0x0⟩, -- ENV_BUF_CFG
  ⟨0x400000, 4, 32, 0x0, 0x0, 0x7, 0x0⟩, -- MAN_LOAD_CTL
  ⟨0x500004, 4, 1, 0x7, 0x0, 0x0, 0x0⟩, -- GRD_CTL
  ⟨0x500010, 4, 1, 0x0, 0x7ffff, 0x0, 0x0⟩, -- GRD_RAMP
  ⟨0x500014, 4, 1, 0x0, 0x7ffff, 0x0, 0x0⟩, -- GRD_CAP
  ⟨0x500018, 4, 1, 0x0, 0xffff, 0x0, 0x0⟩, -- GRD_RESERVE
  ⟨0x50001c, 4, 1, 0x0, 0xffffff, 0x0, 0x0⟩, -- GRD_SPLIT
  ⟨0x500020, 4, 1, 0x0, 0x0, 0x3ffff7f, 0x0⟩, -- GRD_CFG
  ⟨0x500024, 4, 1, 0x0, 0xffffffff, 0x0, 0x0⟩, -- GRD_THRESH
  ⟨0x600000, 4, 1, 0x0, 0xfe000200, 0x1ff01ff, 0x0⟩, -- BUD_CFG
  ⟨0x600010, 4, 1, 0x0, 0x0, 0xffffffff, 0x0⟩, -- BUD_HOST_BASE_LO
  ⟨0x600014, 4, 1, 0x0, 0x0, 0xffffffff, 0x0⟩, -- BUD_HOST_BASE_HI
  ⟨0x600030, 4, 1, 0x3, 0xffffff00, 0x0, 0x0⟩, -- BUD_SEQ_CTL
  ⟨0x600040, 4, 1, 0xffff, 0x0, 0x0, 0x0⟩, -- BUD_THR_FORCE
  ⟨0x601000, 16, 256, 0x0, 0xffffffff, 0x0, 0x0⟩, -- BUD_TGT
  ⟨0x601004, 16, 256, 0x0, 0xffffffff, 0x0, 0x0⟩, -- BUD_TGT
  ⟨0x601008, 16, 256, 0x0, 0xffffffff, 0x0, 0x0⟩, -- BUD_TGT
  ⟨0x60100c, 16, 256, 0x0, 0x0, 0xf, 0x0⟩, -- BUD_TGT
  ⟨0x700000, 4, 512, 0x1, 0x0, 0x0, 0x0⟩, -- LE_LOOP_CTL
  ⟨0x800000, 4, 1, 0x0, 0xffff000f, 0x0, 0x0⟩, -- STG_CFG
  ⟨0x800004, 4, 1, 0x0, 0xffffffff, 0x0, 0x0⟩, -- STG_VCMD
  ⟨0x80000c, 4, 1, 0x0, 0xffffffff, 0x0, 0x0⟩, -- STG_ALLFIRE
  ⟨0x800010, 4, 1, 0x0, 0xffff, 0x0, 0x0⟩, -- STG_SHARE
  ⟨0x800014, 4, 1, 0xffffff, 0x0, 0x0, 0x0⟩, -- STG_EXIT
  ⟨0x800018, 4, 1, 0xff, 0x0, 0x0, 0x0⟩, -- STG_ISO
  ⟨0x900000, 4, 1, 0x0, 0x1ffffff, 0x0, 0x0⟩, -- MON_CFG
  ⟨0x900004, 4, 1, 0x0, 0xfff, 0xffff0000, 0x0⟩, -- MON_TIMING
  ⟨0x900008, 4, 1, 0x0, 0xfffffff, 0x0, 0x0⟩, -- MON_DIAG_CFG
  ⟨0x90000c, 4, 1, 0x0, 0xffffffff, 0x0, 0x0⟩, -- MON_REF_CFG
  ⟨0x900010, 4, 1, 0x11f7f, 0x0, 0x0, 0x0⟩, -- MON_DIAG_CMD
  ⟨0x900014, 4, 1, 0xff, 0x0, 0x0, 0x0⟩, -- MON_ISO_REL
  ⟨0xa00000, 4, 1, 0x0, 0xffffffff, 0x0, 0x0⟩, -- SST_CFG
  ⟨0xa00004, 4, 1, 0x0, 0x0, 0xffffffff, 0x0⟩, -- SST_LIMITS
  ⟨0xa00008, 4, 1, 0x0, 0x0, 0xffffffff, 0x0⟩, -- SST_CURR
  ⟨0xa0000c, 4, 1, 0x0, 0x0, 0xffffffff, 0x0⟩, -- SST_TEMP
  ⟨0xa00010, 4, 1, 0x0, 0x0, 0xffffffff, 0x0⟩, -- SST_BANK
  ⟨0xa00014, 4, 1, 0x0, 0xffffff, 0x0, 0x0⟩, -- SST_TIMING
  ⟨0xa00018, 4, 1, 0xff, 0x0, 0x0, 0x0⟩, -- SST_CTL
  ⟨0xa00040, 4, 16, 0x0, 0x0, 0x3fffffff, 0x0⟩, -- SST_OCV
  ⟨0xb00000, 4, 1, 0x0, 0x7f, 0xff00, 0x0⟩, -- LDG_CFG
  ⟨0xb00004, 4, 1, 0x0, 0xffffffff, 0x0, 0x0⟩, -- LDG_LOSS
  ⟨0xb00008, 4, 1, 0x0, 0x3ffff, 0x0, 0x0⟩, -- LDG_METER
  ⟨0xb0000c, 4, 1, 0x0, 0xffffffff, 0x0, 0x0⟩, -- LDG_CAL
  ⟨0xb00040, 4, 1, 0x0, 0x0, 0xffffffff, 0x0⟩, -- LDG_RX_BASE_LO
  ⟨0xb00044, 4, 1, 0x0, 0x0, 0xffffffff, 0x0⟩, -- LDG_RX_BASE_HI
  ⟨0xb00048, 4, 1, 0x0, 0x0, 0x1f, 0x0⟩, -- LDG_RX_SIZE
  ⟨0xb00050, 4, 1, 0xffffffff, 0x0, 0x0, 0x0⟩, -- LDG_RX_HEAD
  ⟨0xb00058, 4, 1, 0x0, 0x0, 0xffffffff, 0x0⟩, -- LDG_BX_BASE_LO
  ⟨0xb0005c, 4, 1, 0x0, 0x0, 0xffffffff, 0x0⟩, -- LDG_BX_BASE_HI
  ⟨0xb00060, 4, 1, 0x0, 0x0, 0x1f, 0x0⟩, -- LDG_BX_SIZE
  ⟨0xb00068, 4, 1, 0xffffffff, 0x0, 0x0, 0x0⟩, -- LDG_BX_HEAD
  ⟨0xb01000, 4, 4096, 0x0, 0x3ff, 0x0, 0x0⟩, -- LDG_QUEUE
  ⟨0xc00000, 4, 1, 0x0, 0x3ff, 0x0, 0x0⟩, -- MPW_CAP
  ⟨0xc00004, 4, 1, 0x0, 0x0, 0x3f, 0x0⟩, -- MPW_ORDER
  ⟨0xc00008, 4, 1, 0x0, 0x0, 0xffff, 0x0⟩, -- MPW_RSV
  ⟨0xc0000c, 4, 1, 0x0, 0xff0000, 0xfff, 0x0⟩, -- MPW_THERM
  ⟨0xc00010, 4, 1, 0x0, 0x0, 0x3ff03ff, 0x0⟩, -- MPW_FEED
  ⟨0xd00004, 4, 1, 0xffffffff, 0x0, 0x0, 0x0⟩, -- HIF_HB
  ⟨0xd00008, 4, 1, 0x0, 0xffff, 0x0, 0x0⟩, -- HIF_HB_CFG
  ⟨0xd00010, 4, 1, 0xffffffff, 0x0, 0x0, 0x0⟩, -- HIF_CHIP_RESET
  ⟨0xd00014, 4, 1, 0xfff, 0x0, 0x0, 0x0⟩, -- HIF_EVT_CTL
  ⟨0xd01000, 4, 64, 0x1, 0x0, 0x2, 0x0⟩, -- HIF_SQ_CFG
  ⟨0xd02000, 8, 512, 0xffffffff, 0x0, 0x0, 0x0⟩, -- HIF_AP
  ⟨0xd02004, 8, 512, 0x8001ffff, 0x0, 0x0, 0x0⟩, -- HIF_AP
  ⟨0xd04000, 32, 64, 0x0, 0x0, 0xffffffff, 0x0⟩, -- HIF_CQ_BASE_LO
  ⟨0xd04004, 32, 64, 0x0, 0x0, 0xffffffff, 0x0⟩, -- HIF_CQ_BASE_HI
  ⟨0xd04008, 32, 64, 0xffff0000, 0x0, 0xff1f, 0x0⟩, -- HIF_CQ_CFG
  ⟨0xd04010, 32, 64, 0xffffffff, 0x0, 0x0, 0x0⟩, -- HIF_CQ_HEAD
  ⟨0xd04014, 32, 64, 0x0, 0x0, 0x0, 0x1⟩, -- HIF_CQ_STATUS
  ⟨0xd80000, 4, 1024, 0xffffffff, 0x0, 0x0, 0x0⟩, -- MSI-X table
  ⟨0xe00004, 4, 1, 0x80003fff, 0x0, 0x0, 0x0⟩, -- SEC_CMD
  ⟨0xe0000c, 4, 1, 0x3ff, 0x0, 0x0, 0x0⟩, -- SEC_LKEY_CFG
  ⟨0xe01000, 4, 1024, 0xffffffff, 0x0, 0x0, 0x0⟩, -- SEC_KEY_BUF
  ⟨0xf00000, 4, 1, 0xf, 0x0, 0x0, 0x0⟩, -- BUP_STEP
  ⟨0xf00010, 4, 1, 0x0, 0x0, 0xffffffff, 0x0⟩, -- BUP_MAN_SEL
  ⟨0xf00014, 4, 1, 0x0, 0x0, 0xffffffff, 0x0⟩, -- BUP_MAN_HALF
  ⟨0xf00030, 4, 1, 0x10000, 0xffff, 0x0, 0x0⟩, -- BUP_RETRAIN
  ⟨0xf01000, 4, 40, 0x0, 0x0, 0xffffffff, 0x0⟩, -- BUP_TOPO
  ⟨0x1000000, 4, 1, 0x0, 0xffffffff, 0x0, 0x0⟩, -- RCV_CFG
  ⟨0x1000004, 4, 1, 0x0, 0xffff, 0x0, 0x0⟩, -- RCV_WATCH
  ⟨0x1000008, 4, 1, 0x0, 0x0, 0x83ffff07, 0x0⟩, -- RCV_REQ
  ⟨0x1100000, 4, 1, 0x0, 0xffffff00, 0x3, 0x0⟩, -- TWN_CFG
  ⟨0x1100004, 4, 1, 0x1, 0x0, 0x0, 0x0⟩, -- TWN_CTL
  ⟨0x1200000, 4, 1, 0x1, 0x0, 0x0, 0x0⟩, -- CNT_CTL
  ⟨0x1200004, 4, 1, 0x0, 0xffff, 0x0, 0x0⟩, -- CNT_CFG
  ⟨0x1300008, 4, 1, 0xffffffff, 0x0, 0x0, 0x0⟩, -- EVL_CTL
  ⟨0x130000c, 4, 1, 0x7, 0x0, 0x0, 0x0⟩] -- EVL_PAGE

end Sys2Proof.Machine
end

