-- ==== Sys2Proof/Machine/Tab.lean ====
section
/-! DEFINITION. Sparse tables: keys strictly rising, no entry equal to what an unlisted key reads as. -/

namespace Sys2Proof

/-- A sparse table by number. -/
abbrev Tab (α : Type) := List (Nat × α)

namespace Tab

variable {α : Type}

/-- The entry of a key, or the unlisted value. -/
def get : Tab α → Nat → α → α
  | [], _, d => d
  | (k', v) :: r, k, d => if k = k' then v else Tab.get r k d

/-- The table without a key. -/
def drop : Tab α → Nat → Tab α
  | [], _ => []
  | (k', v) :: r, k => if k = k' then Tab.drop r k else (k', v) :: Tab.drop r k

/-- The table with an entry put at its place by key. -/
def insert : Tab α → Nat → α → Tab α
  | [], k, v => [(k, v)]
  | (k', v') :: r, k, v =>
    if k < k' then (k, v) :: (k', v') :: r
    else if k = k' then (k, v) :: r
    else (k', v') :: Tab.insert r k v

/-- Write a key; a value equal to the unlisted one removes the entry. -/
def put [DecidableEq α] (t : Tab α) (k : Nat) (v d : α) : Tab α :=
  if v = d then t.drop k else t.insert k v

/-- The entries with keys from lo to below hi. -/
def within (t : Tab α) (lo hi : Nat) : Tab α :=
  t.filter fun e => decide (lo ≤ e.1) && decide (e.1 < hi)

/-- The entries with keys outside lo to below hi. -/
def outside (t : Tab α) (lo hi : Nat) : Tab α :=
  t.filter fun e => !(decide (lo ≤ e.1) && decide (e.1 < hi))

/-- Replace the range lo to below hi of t by that of u. -/
def copyRange (t u : Tab α) (lo hi : Nat) : Tab α :=
  (t.filter fun e => decide (e.1 < lo)) ++ u.within lo hi ++ (t.filter fun e => decide (hi ≤ e.1))

/-- Keys strictly rising. -/
def sorted : Tab α → Bool
  | [] => true
  | (k, _) :: r => (match r with
    | [] => true
    | (k', _) :: _ => decide (k < k')) && Tab.sorted r

/-- The canonical form of a table whose unlisted keys read as d says. -/
def wf [DecidableEq α] (t : Tab α) (d : Nat → α) : Bool :=
  t.sorted && t.all fun e => decide (e.2 ≠ d e.1)

end Tab

end Sys2Proof
end

