-- ==== Sys2Proof/Machine/Data.lean ====
section
/-! DEFINITION. The parts of the state: cells, clusters, letters, envelopes, manifests, programs and faults. -/

namespace Sys2Proof.Machine

/-! ### Cells and clusters (chapters 2 and 3) -/

/-- An accumulator (Table 3-1). -/
structure Acc where
  v : BitVec 40 := 0
  ex : BitVec 10 := 0
  empty : Bool := true
deriving DecidableEq, Repr

/-- The registers of the working state (R68); g0 is never listed. The WORK bank is in the memory. -/
structure Work where
  g : Tab Word := []
  acc0 : Acc := {}
  acc1 : Acc := {}
  exa : BitVec 8 := 0
  exb : BitVec 8 := 0
  flags : BitVec 4 := 0
deriving DecidableEq, Repr

/-- The envelope context of a cell (R82, R89): no envelope, the void envelope with the open's status, or a
contributor to the envelope of a handle. -/
inductive EnvCtx where
  | none
  | void (status : BitVec 16)
  | member (handle : BitVec 16)
deriving DecidableEq, Repr

/-- A WAIT in progress (R83): its mask, the beat at which TIME expires, and the register it writes. -/
structure WaitSt where
  mask : BitVec 8
  untilBeat : Option Nat
  dst : BitVec 4
deriving DecidableEq, Repr

/-- A cell (Tables 2-4 and 3-1), with what its program gives it and its cycle accounts (R84, R120). -/
structure Cell where
  work : Work := {}
  kept : Work := {}
  run : BitVec 2 := 0
  pc : BitVec 8 := 0
  slots : Tab Word := []
  circLand : Word := 0
  prog : Nat := 0
  img : Nat := 0
  entry : BitVec 8 := 0
  len : Nat := 0
  charged : Nat := 0
  done : Bool := false
  overrun : Bool := false
  ctx : EnvCtx := .none
  outst : Nat := 0
  waiting : Option WaitSt := none
  result : Option (BitVec 4 × Word) := none
  lastLoad : Option (BitVec 4) := none
  ready0 : Nat := 0
  ready1 : Nat := 0
  next : Nat := 0
  /-- The cell's last store: its cycle, its offset, and the bytes before and after it (R48). -/
  stored : Option (Nat × Nat × Bytes × Bytes) := none
deriving DecidableEq, Repr

/-- One letter (R46): its type, header, length, payload (PUT bytes; for an atomic the operand; for CAS the
compare value, then the new value), the envelope that carries it, its class and the cycle of its issue. -/
structure Letter where
  op : LOp
  hdr : Hdr
  len : Nat
  data : Bytes := []
  env : Option (BitVec 16) := none
  det : Bool := false
  issued : Nat := 0
deriving DecidableEq, Repr

/-- A reply on its way back (R50). -/
structure Reply where
  dest : ReplyTo
  op : LOp
  tag : BitVec 12
  status : Nat
  data : Bytes := []
deriving DecidableEq, Repr

/-- A circular (Table 2-6). -/
structure Circ where
  type : Nat
  src : Nat
  effect : Nat
  param : Nat
deriving DecidableEq, Repr

/-- What a cluster holds beside its FAB_CLUSTER_STATE word: the router's queue (R62), circular landings not
yet written (R57), CL_CIRC, and the counters of Table 19-3. -/
structure Cluster where
  queue : List (Letter × Ecc) := []
  landing : List Circ := []
  idleFrom : Nat := 0
  wakeAt : Nat := 0
  circ : Option Circ := none
  instr : Nat := 0
  mac : Nat := 0
  hold : Nat := 0
  sent : Nat := 0
  applied : Nat := 0
  gatedUs : Nat := 0
  wakes : Nat := 0
  ecc : Nat := 0
  /-- MAC issues since the last control step (R281), by 4 × format + class: formats 0 Q15, 1 MACB8, 2 MACB4. -/
  issues : Tab Nat := []
  /-- The digest of the sequencer store, as the router returns it (R344). -/
  image : Bytes := []
deriving DecidableEq, Repr

/-- The flit account of a deterministic route (R44): the 16-cycle window, the slots used in it, and the first
cycle after the last flit of the route's previous letter. -/
structure RouteRun where
  window : Nat := 0
  used : Nat := 0
  free : Nat := 0
deriving DecidableEq, Repr

/-! ### Envelopes (chapter 4) -/

/-- A contributor of an envelope: cell, outcome offset, letters sent and acknowledged, whether it has ended
its contribution, has sealed, and its seal is registered (R97). -/
structure Member where
  cell : Nat
  off : BitVec 11
  /-- The period of its program in which it contributed (Table 4-2). -/
  per : Nat := 0
  sent : Nat := 0
  acked : Nat := 0
  active : Bool := true
  sealing : Bool := false
  registered : Bool := false
  /-- The latest cycle of its seal and of its acknowledgements (R97). -/
  last : Nat := 0
deriving DecidableEq, Repr

/-- Table 4-3. -/
inductive EState where
  | free | open | sealed | actuating | aborted
deriving DecidableEq, Repr

/-- An envelope slot of a home partition (R88, R105). -/
structure Env where
  st : EState := .free
  /-- The generation in use, or of the last use; the first is 0 (log entry 3). -/
  gen : Nat := 30
  size : Nat := 0
  expect : Nat := 0
  deadline : Nat := 0
  members : List Member := []
  blocks : List Nat := []
  held : List Letter := []
  actuator : Option Bool := none
  sealedAt : Nat := 0
  vec : Option Nat := none
  status : Nat := 0
  boards : Nat := 0
  acked : Nat := 0
  unresolved : Nat := 0
  confirm : Bool := false
  commitAt : Nat := 0
deriving DecidableEq, Repr

/-- A hold acknowledgement on its way to the home (R94, R95): the letter and the doom it carries. -/
structure HoldAck where
  letter : Letter
  doom : Option Nat := none
deriving DecidableEq, Repr

/-! ### Manifests (chapter 5) -/

/-- PROGRAMS entry (Table 5-4). -/
structure ProgDef where
  prog : Nat
  crit : Bool
  cls : Nat
  peerPause : Bool
  period : Nat
  offset : Nat
  deadline : Nat
  budget : Nat
  depends : Nat
deriving DecidableEq, Repr

/-- CELLS entry (Table 5-5). -/
structure CellDef where
  cell : Nat
  prog : Nat
  img : Nat
  entry : Nat
deriving DecidableEq, Repr

/-- DATA entry. -/
structure DataDef where
  space : Nat
  unit : Nat
  off : Nat
  bytes : Bytes
deriving DecidableEq, Repr

/-- SLOTS entry. -/
structure SlotDef where
  cell : Nat
  word : Nat
  value : Word
deriving DecidableEq, Repr

/-- ROUTES entry. -/
structure RouteDef where
  sender : Nat
  receiver : Nat
  rate : Nat
deriving DecidableEq, Repr

/-- BOUNDS entry. -/
structure BoundDef where
  img : Nat
  idx : Nat
  kind : Nat
  value : Nat
deriving DecidableEq, Repr

/-- DRAM_DIGEST entry. -/
structure DigestDef where
  off : Nat
  len : Nat
  digest : Bytes
deriving DecidableEq, Repr

/-- LOOP_BIND entry (Table 8-1): its 128 bytes. -/
abbrev LoopDef := Bytes

/-- A manifest: the decoded entries of an image. The entries of LOOP_BIND and of the shelf sections are held
as their bytes and read by the chapters that own them. -/
structure Man where
  half : Bool := false
  part : Nat := 0
  shelf : Bool := false
  svn : Nat := 0
  build : Nat := 0
  owner : Bytes := []
  progs : List ProgDef := []
  imgs : List (Nat × List Word) := []
  cells : List CellDef := []
  data : List DataDef := []
  slots : List SlotDef := []
  routes : List RouteDef := []
  bounds : List BoundDef := []
  owns : List (Nat × Nat) := []
  digests : List DigestDef := []
  loops : List Bytes := []
  stage : List Bytes := []
  monitor : List Bytes := []
  throttle : List Bytes := []
  orphan : List Bytes := []
  digest : Bytes := []
  /-- The section types present. -/
  sects : List Nat := []
deriving DecidableEq, Repr

/-- A refusal of Table 5-6: status, reason, section type, entry index, and for reason 0x28 the partition
whose manifest holds the route. -/
structure Refuse where
  status : Nat
  reason : Nat
  sect : Nat
  entry : Nat
  other : Option Nat := none
deriving DecidableEq, Repr

/-- What the loader and the ladder hold of a partition beside its registers. -/
structure Part where
  man : Option Man := none
  cand : Option Man := none
  candHalf : Bool := false
  unload : Bool := false
  fromLoaded : Bool := false
  deciding : Bool := false
  passedAt : Nat := 0
  swapAt : Option Nat := none
  wroteAt : Option Nat := none
  held : Bool := false
  trained : Bool := false
  failed : Bool := false
deriving DecidableEq, Repr

/-- What the device holds of a program: periods begun since the load (SYS selector 1), the boundary of the
live period, whether it is paused (R363), the boundary from which its first start may fall (R124), and its
watch (R353): the progress counter, the counting periods since it last moved, whether the live period does
not count, and the lowest cell not done at its last drop. -/
structure Prog where
  begun : Nat := 0
  start : Option Nat := none
  last : Nat := 0
  paused : Bool := false
  pausedBy : Nat := 0
  from_ : Nat := 0
  settled : Bool := true
  progress : Nat := 0
  idlePeriods : Nat := 0
  exempt : Bool := false
  lowest : Nat := 0
deriving DecidableEq, Repr

/-! ### Faults and rungs (chapter 17) -/

/-- A fault named and not yet acted on (R355, R356): the context record's words 0 and 1, the reason, the
instruction index, the beat of its naming, the unit (program 1,024p + x, engine, partition or chip). -/
structure FaultRec where
  w0 : Nat
  w1 : Nat
  reason : Nat
  idx : Nat
  beat : Nat
  rung : Nat
  unit : Nat
  out : Bool := false
  escalated : Bool := false
  cluster : Option Nat := none
deriving DecidableEq, Repr

/-- A rung that is running: its number, unit, reason, start boundary D, and its progress. -/
structure Rung where
  rung : Nat
  unit : Nat
  reason : Nat
  start : Nat
  stage : Nat := 0
  wroteAt : Option Nat := none
  empty : Bool := false
  /-- The clusters that a partition rung tests. -/
  tests : List Nat := []
deriving DecidableEq, Repr

/-- Whether each lasting trigger of Table 1-7 has acted or been logged in its present run (R31): SAFE_REQ, and the loss of all
upstream frames. -/
structure Runs where
  safe : Bool := false
  links : Bool := false
deriving DecidableEq, Repr

/-- The recovery ladder's state beside the RCV registers: faults waiting, rungs running, the start beats of
counted rungs by (rung, unit), the clusters named by counted context faults (program, cluster, start beat), the A/B slots of the chip
rungs' starts in operating seconds (MRAM, R250), each with its number, and of the units of Table 17-1 the beats since the counter last
moved while watched, by unit number, a cluster's sequencer at 1,000 + 20p + c, with what was last seen of the counters. -/
structure Rcv where
  faults : List FaultRec := []
  rungs : List Rung := []
  starts : List (Nat × Nat × Nat) := []
  named : List (Nat × Nat × Nat) := []
  chipA : Nat × List Nat := (0, [])
  chipB : Nat × List Nat := (0, [])
  still : Tab Nat := []
  seen : Tab Nat := []
  /-- The PLLs that have lost lock since the reset: the units they clock have stopped (R414). -/
  stopped : List Pll := []
deriving DecidableEq, Repr

/-! ### Loop engines (chapter 8) -/

/-- A loop (R176 to R190), beside its LE registers. Its binding entry and whether a removal left it orphaned
(phases still driven), the window as last applied and in force, the accepted sets that wait with the cycle
from which a sample takes them, its control state, and its cascade and EXT_U inputs. -/
structure Loop where
  ent : Bytes := []
  app : Bytes := []
  win : Bytes := []
  next : List (Nat × Bytes) := []
  phases : Nat := 0
  i : Int := 0
  bias : Int := 0
  x1 : Int := 0
  x2 : Int := 0
  mm : Int := 0
  ePrev : Int := 0
  eLast : Int := 0
  dLast : Int := 0
  q1 : Int := 0
  q2 : Int := 0
  pl : Nat := 0
  fe : Nat := 0
  init : Bool := false
  base : Option Int := none
  clear : Bool := false
  extU : Int := 0
  extNew : Bool := false
  cascSp : Int := 0
  cascNew : Option (Nat × Int) := none
  /-- One more than the number of the last sample (two per beat), the EXTERNAL sample that waits for its
  take, and the full-beat output and the beat whose half-beat sample replaced it. -/
  sampled : Nat := 0
  ys : Option (Option Int) := none
  uFull : Int := 0
  halfAt : Option Nat := none
deriving DecidableEq, Repr

/-! ### Stage links (chapter 9) -/

/-- The upstream frame received in a beat. -/
structure Rx where
  beat : Nat
  frame : Bytes
  ok : Sections
  valid : Bool
deriving DecidableEq, Repr

/-- A stage board and its link. -/
structure Board where
  map : Bytes := []
  trained : Bool := false
  found : Nat := 0
  run : Nat := 0
  rx : Option Rx := none
  flags : Nat := 0
  phFault : Nat := 0
  applied : Bytes := []
  force : Bool := false
  fseq : Nat := 0
  slot : Nat := 0
  /-- Valid share samples of the window of R207, and the last frame sent: its number and bytes. -/
  shared : Nat := 0
  sent : Option (Nat × Bytes) := none
  /-- The last frame in which a SHEDDING phase took its t (R208). -/
  ticked : Nat := 0
deriving DecidableEq, Repr

/-- A shelf phase beside STG_PHASE: shed ramp t, carrier shift, the current sum of the window of R207 and the
limit trips of the window of R200. -/
structure Phase where
  t : Nat := 0
  shift : Nat := 0
  sum : Int := 0
  trips : Nat := 0
  /-- SAFE_U of the removed loop that drove the phase, until the phase is rebound (Table 8-5). -/
  safeU : Option Int := none
deriving DecidableEq, Repr

/-- A sharing and shedding group: HOLD count, and the last total current with its beat. -/
structure Grp where
  hold : Nat := 0
  itot : Option (Nat × Int) := none
deriving DecidableEq, Repr

/-- A pending set on its way (R107, R202): handle, values per board, commit boundary, the board whose exit it
serves, whether it is an envelope's, the decision sent, boards that did not acknowledge, boards unresolved. -/
structure Act where
  h : Nat
  sets : List (Nat × Bytes)
  c : Nat
  exit : Option Nat := none
  env : Bool := false
  dec : Nat := 0
  nack : Nat := 0
  unres : Nat := 0
  /-- The decision has been taken at C, and the states at C + 2. -/
  stage : Nat := 0
deriving DecidableEq, Repr

/-- The stage link controller (R193 to R217). -/
structure Stg where
  boards : Tab Board := []
  phases : Tab Phase := []
  groups : Tab Grp := []
  acts : List Act := []
  /-- The beat after the last whose samples were taken as a whole, and consecutive beats with no valid frame (R30). -/
  taken : Nat := 0
  nolink : Nat := 0
  /-- Windows of R207 and R200: number of the current share window, boards that carried FIRE in it, the beats of
  the last share update and limit window. -/
  shareWin : Nat := 0
  fired : Nat := 0
  shareAt : Option Nat := none
  cltAt : Option Nat := none
  /-- All-fire (R211): first frame and limit of the episode, boards that fire, the last v with its beat, beats at
  or above VREF, and whether a new episode may start. -/
  episode : Option (Nat × Nat) := none
  firing : Nat := 0
  vPrev : Option (Nat × Int) := none
  above : Nat := 0
  rearmed : Bool := true
  /-- One more than the last beat for which all-fire was evaluated. -/
  fireDone : Nat := 0
  /-- VREF's last boundary, and frames stopped after HOLDUP's LOCAL frame (R194). -/
  final : Bool := false
  stopped : Bool := false
  /-- The parts of the frames being composed, as taken at their cycles (R195), by 4 × board + part, with the frame they are of;
  boards whose exit is requested (R204); and whether STG_VCMD was written since the last boundary (R214). -/
  shots : Tab (Nat × Bytes) := []
  exits : Nat := 0
  vcmd : Bool := false
deriving DecidableEq, Repr

/-! ### Cell monitoring (chapter 10) -/

/-- A diagnosis of a cell (R240): the cell, the tap tested, the attempt, the reference in 100 µV, the step with the
sink off once its reply is in, and whether MON_DIAG_CMD requested it. -/
structure Diag where
  cell : Nat
  tap : Nat
  attempt : Nat := 1
  ref : Int := 0
  off : Option (Int × Int × Int) := none
  asked : Bool := false
  /-- The next attempt waits for a later gap (R240). -/
  again : Bool := false
deriving DecidableEq, Repr

/-- A command that waits for its port (R226): the unit, TYPE, the body without what is taken when it leaves, and one more than the L
of a sweep after which alone it may leave (R237); 0 where it waits for none. -/
structure MonCmd where
  c : Nat
  type : Nat
  body : Bytes
  after : Nat := 0
deriving DecidableEq, Repr

/-- A cell monitor unit beside MON_CMU_STATUS and MON_SENSE: its port or chain position, the commands of its port,
its kept sweep record, the record of the sweep in progress with its L, MON_BAL, the cells that FAULT frames have
named, reference checks in progress (regular or repeat) with their runs and the beat by which a reply is due, diagnoses, latest
verdicts by cell, and the beats from which its port is free for an exchange and for a command's bytes. -/
structure Cmu where
  mapped : Bool := false
  port : Nat := 0
  seq : Nat := 0
  last : Bytes := []
  fresh : Bool := false
  got : Option (Nat × Bytes) := none
  bal : Nat := 0
  named : Nat := 0
  refAsked : Option Bool := none
  refFails : Nat := 0
  refPasses : Nat := 0
  diag : Option Diag := none
  asks : List Nat := []
  verdicts : Tab Nat := []
  refDue : Option Nat := none
  freeAt : Nat := 0
  lineAt : Nat := 0
deriving DecidableEq, Repr

/-- A sweep in progress (R228): L, K. -/
structure Sweep where
  L : Nat
  K : Nat
deriving DecidableEq, Repr

/-- The monitor controller: the CONFIG entry in force, the number of chain positions, the chain's command count, the
units, sweeps in progress, the L of the last SWEEP command, and isolations too late for the next frame (string, beat). -/
structure Mon where
  cfg : Bytes := []
  chain : Nat := 0
  chainSeq : Nat := 0
  /-- REF commands that step 8 has sent on each port since the reset (R346). -/
  refs : Nat := 0
  cmus : Tab Cmu := []
  sweeps : List Sweep := []
  lastL : Nat := 0
  late : List (Nat × Nat) := []
  refAt : Option Nat := none
  /-- Commands that wait for their port (R226, R238, R426), the beat from which the chain is free, and per string the complete
  sweeps in a row since DER_LOST was last set (R234). -/
  queued : List MonCmd := []
  chainFree : Nat := 0
  lostRun : Tab Nat := []
deriving DecidableEq, Repr

/-! ### Storage state (chapter 11) -/

/-- A string beside its SST registers. -/
structure Str where
  present : Bool := false
  /-- Runs of valid frames with presence and without. -/
  presRun : Nat := 0
  absRun : Nat := 0
  /-- The present run of frames without presence has acted (R244). -/
  gone : Bool := false
  /-- D and THRU, u64 in pC (R246, R249), the last valid string voltage in mV, and the count that the pack is believed to hold
  (R255). -/
  d : BitVec 64 := 0
  thru : BitVec 64 := 0
  mv : Nat := 0
  packCount : Nat := 0
  /-- The pack record of the last verified response (Table 11-4); empty for none. -/
  record : Bytes := []
  lastI : Int := 0
  miss : Nat := 0
  /-- The beat at which the rest condition began, the beat of the authentication attempt, and of the last record. -/
  restAt : Option Nat := none
  authAt : Nat := 0
  recAt : Nat := 0
  /-- The challenge outstanding (its 48 bytes), the reply message received so far and whether it is complete or bad. -/
  challenge : Bytes := []
  msg : Bytes := []
  complete : Bool := false
  bad : Bool := false
  /-- The OLD count of the INCREMENT outstanding. -/
  incOld : Option Nat := none
  /-- The beat of a challenge that waits for its mirrored entropy (R375). -/
  waitDraw : Option Nat := none
  /-- The last sweep in which all 12 units were FRESH: L, the mean cell voltage in 100 µV. -/
  full : Option (Nat × Nat) := none
  /-- Limits published to grid control, in mW, and the energy and reserve floor in kJ (R251). -/
  dis : Nat := 0
  chg : Nat := 0
  floorKj : Nat := 0
deriving DecidableEq, Repr

/-- The storage state block: strings, the pack keys verified, by PACK_ID (kept in DRAM, R255), and those of them held at the last change of
a pack issuer (R327). -/
structure Sst where
  strs : Tab Str := []
  keys : List (Bytes × Bytes) := []
  stale : List Bytes := []
deriving DecidableEq, Repr

/-! ### Security (chapter 15) -/

/-- The security block beside its registers: owner and pack-issuer public keys by slot, whether a command runs and its
outcome, draws of entropy, the firmware banks (component 0 Postmaster, 1 always-on; bank) as images, ledger keys: the
epoch's public key and that of the next where they exist, with the beat at which the next one was generated, the epochs whose private
keys the franker holds (R324), a due rotation, the beat the epoch began; whether the command that runs needs a verification, the class
of R321 that the franker serves (0 none) and the requests it has completed; and the attestation transcript with its negotiated state. -/
structure Sec where
  owners : Tab Bytes := []
  packs : Tab Bytes := []
  result : Nat := 0
  /-- The draws of entropy so far, and the one that made SEC_NONCE (R325). -/
  draws : Nat := 1
  nonce : Nat := 0
  banks : Tab Bytes := []
  ready : Option Bytes := none
  nextReady : Option Bytes := none
  nextAt : Nat := 0
  keys : List Nat := []
  verifies : Bool := false
  serving : Nat := 0
  done : Nat := 0
  rotate : Bool := false
  began : Nat := 0
  transcript : Bytes := []
  negotiated : Bool := false
deriving DecidableEq, Repr

/-! ### Grid control (chapter 6) -/

/-- The GRD block beside its registers. -/
structure Grd where
  /-- Grid reference, grid target and string targets in force, and the shelf output of the last beat, in µW. -/
  refUw : Nat := 0
  tgtUw : Nat := 0
  strUw : Tab Int := []
  loadUw : Int := 0
  /-- Shelf output summed over the interval of the update and over the dispatch period, with their beats. -/
  out10 : Int := 0
  out100 : Int := 0
  /-- The grid reference summed over the dispatch period, the low pass of R139 in µW, and the strings whose last target committed
  is not their share under R139, by mask. -/
  ref100 : Nat := 0
  lp : Int := 0
  astray : Nat := 0
  /-- The last bus voltage in mV, and whether a loss of the grid was logged with no return since. -/
  busMv : Int := 0
  lossLogged : Bool := false
  /-- Beats in a row that the grid was lost and present (R148), and the boards that flagged it. -/
  lostRun : Nat := 0
  presRun : Nat := 0
  lostMask : Nat := 0
  /-- Beats in a row that the bus was above its set voltage by 16 V, within 8 V of it, and within 8 V of 800 V. -/
  highRun : Nat := 0
  calmRun : Nat := 0
  preRun : Nat := 0
  /-- The precharge timer's start, and whether phases are disabled and the bus enable withdrawn. -/
  preAt : Nat := 0
  disabled : Bool := false
  /-- RAMP_YIELD: the beat it was set and the steepest fall in W per beat. -/
  yieldAt : Nat := 0
  steepest : Nat := 0
  /-- Pins: samples in a row low and high; beats in a row that no condition of R152 held. -/
  coolLow : Nat := 0
  coolHigh : Nat := 0
  shelfLow : Nat := 0
  quiet : Nat := 0
  coolAt : Nat := 0
  coolHost : Bool := false
  coolDone : Bool := false
  nbrSrc : Nat := 0
  shareRun : Nat := 0
  /-- Dispatch: starts in a row with the target at or below 99 % of the cap, periods in a row without a commit, and
  whether one fell in this period. -/
  under99 : Nat := 0
  missed : Nat := 0
  committed : Bool := false
  /-- The forecast points of the last 100 updates, newest first, runs outside and inside the limit, the last error. -/
  fcst : List (Option Nat) := []
  errRun : Nat := 0
  okRun : Nat := 0
  errW : Nat := 0
  /-- The telemetry records taken, by target. -/
  telem : Tab Bytes := []
  /-- Host loss: its beat, whether the orphan table is in force, whether the host has been regained, and whether it
  has acknowledged a publication since. -/
  orphanAt : Nat := 0
  orphanOn : Bool := false
  regained : Bool := false
  reack : Bool := false
  /-- The online strings and fade segments of the last re-plan, and a write of RESERVE_KJ since. -/
  plan : Option (Nat × List Nat) := none
  replan : Bool := false
  /-- Beats in CAPPED not yet counted as a ms, and beats in a row with GRD_STORE_AVAIL above 0. -/
  cappedUs : Nat := 0
  availRun : Nat := 0
  /-- Telemetry and forecast windows of the shelf manifest. -/
  telemAddr : Nat := 0
  fcstAddr : Nat := 0
deriving DecidableEq, Repr

/-! ### Budgets (chapter 7) -/

/-- A publication delivered and not yet acknowledged: SEQ, EFFECT_BEAT, the targets its entries cover, and whether it
carries the survival budgets. -/
structure Pub where
  seq : Nat
  beat : Nat
  covers : Nat
  survival : Bool
deriving DecidableEq, Repr

/-- The BUD block beside its registers. -/
structure Bud where
  /-- Records committed since the last publication boundary with their beats, the last committed, the record in force as dispatch wrote it,
  and the last boundary processed. -/
  pend : List (Nat × Bytes) := []
  last : Bytes := []
  inForce : Bytes := []
  at_ : Option Nat := none
  pubs : List Pub := []
  /-- The latest publication acknowledged that covers each target, and that carries survival budgets, by EFFECT_BEAT. -/
  ackCover : Tab Nat := []
  ackSurvival : Nat := 0
  /-- Selection (R146): the mask committed, with clears that wait for the boundary, and the targets selected. -/
  mask : Bytes := []
  maskOld : Bytes := []
  maskAt : Nat := 0
  selected : Nat := 0
  /-- SEQ at which the record in force came into force, whether its floor hint stands, and the boundary of the latest
  publication acknowledged. -/
  forceSeq : Nat := 0
  floorOk : Bool := false
  ackBeat : Nat := 0
  /-- Targets held by the backstop and by the coolant rule, lines held by R154, targets held by the stop source. -/
  backstop : Nat := 0
  coolant : Nat := 0
  orphanLines : Nat := 0
  /-- The record whose budgets ORPHAN holds (R154), and the lines the module itself drives low (R169, R376). -/
  orphanRec : Bytes := []
  driven : Nat := 0
  stop : Nat := 0
  /-- Stages enabled and released, the boundary at which the highest was enabled, and the timer of its timeout. -/
  enabled : Nat := 0
  released : Nat := 0
  stageAt : Nat := 0
  ran : Nat := 0
  /-- A START or STOP that waits for its boundary; the boundary at which the stage began stopping and that of step 2. -/
  start : Bool := false
  stopReq : Bool := false
  stopAt : Nat := 0
  stopNeed : Nat := 0
  assertAt : Option Nat := none
  /-- Lines asserted by grid control since, throttle responses due (target, line, beat). -/
  since : Tab Nat := []
  resp : List (Nat × Nat × Nat) := []
  /-- The last record as delivered, and its boundary (R377). -/
  lastPub : Nat × Bytes := (0, [])
deriving DecidableEq, Repr

/-! ### The energy ledger (chapter 12) -/

/-- A queue of the ledger (R270), with the last estimate taken, the sum of WEIGHT × X_OPEN of the entries taking part. -/
structure LQ where
  x : Nat := 0
  ux : Nat := 0
  rem_ : Nat := 0
  frac : Nat := 0
  r : Nat := 0
  wx : Nat := 0
  est : Nat := 0
deriving DecidableEq, Repr

/-- A closed batch: header, number of its first receipt, leaf hashes, close beat, the number of its key, its signature, and
how much of it has been delivered. -/
structure Batch where
  hdr : Bytes
  /-- Its number since the block started, which gives its place in the batch store. -/
  place : Nat := 0
  first : Nat
  leaves : List Bytes
  beat : Nat
  key : Nat
  sig : Option Bytes := none
  /-- It closed before its key existed (R324). -/
  early : Bool := false
  given : Bool := false
  sent : Nat := 0
  holdup : Bool := false
deriving DecidableEq, Repr

/-- What waits at the ledger engine's attachment while its rung runs (R360): a request with the copies that cannot be read, an estimate at an
offset, or a letter to one of the two windows, which is answered when it is applied. -/
inductive Held where
  | request (rec : Bytes) (bad : Nat)
  | estimate (off : Nat) (data : Bytes)
  | letter (l : Letter)
deriving DecidableEq, Repr

/-- The ledger engine beside its registers. -/
structure Ldg where
  first : Nat := 0
  /-- Slot accumulators in fJ and miss allowances in fJ, by slot; the carried remainder; last valid terms by board. -/
  acc : Tab Int := []
  miss : Tab Nat := []
  rem_ : Nat := 0
  terms : Tab Int := []
  next : Nat := 0
  queues : Tab LQ := []
  /-- Opens and closes applied and not yet distributed, as (slot, entry), oldest first; entries not FREE, each with one more than
  its queue. -/
  opens : List (Nat × Nat) := []
  closes : List (Nat × Nat) := []
  /-- Entries closed while LOST, and entries lost before their weight joined. -/
  lost : List Nat := []
  unjoined : List Nat := []
  busy : Tab Nat := []
  /-- The estimate window's 64 KiB. -/
  ests : Tab Byte := []
  /-- Energy of each budget target over the last distributed slot in µJ. -/
  draw : Tab Int := []
  /-- LDG_LOSS and LDG_METER values last used. -/
  cal : Nat × Nat := (0, 250000)
  /-- The open batch: its number, first slot, first receipt and leaf hashes; receipts formed since the start. -/
  batch : Nat := 0
  bFirst : Option Nat := none
  bStart : Nat := 0
  leaves : List Bytes := []
  formed : Nat := 0
  closed : List Batch := []
  /-- Batches stored since the start. -/
  stored : Nat := 0
  /-- The number of the last batch whose receipts have been delivered (Table 18-1). -/
  delivered : Option Nat := none
  /-- Undelivered refusals, and the kinds of the ring records not yet consumed (true for a receipt). -/
  refusals : List Bytes := []
  ring : List Bool := []
  /-- A batch due to close stays open because the store is full, and the checkpoint's slots (MRAM). -/
  deferred : Bool := false
  ckptA : Bytes := []
  ckptB : Bytes := []
  /-- What waits at the engine's attachment (R360), in order of arrival. -/
  waiting : List Held := []
deriving DecidableEq, Repr

/-! ### Module power (chapter 13) -/

/-- The MPW block beside its registers: thermal allowance and the beat it began to bind, the results of the last control step
that wait for the next boundary (cap_eff in W and the duties), its boundary, measured input in mW, the calibration window's
sums, runs of windows outside and inside the band, steps at full issue, samples of low and high feed voltage with the last,
the sensors at 115 °C or more at the last boundary by bit, the sensor and reading of a junction trip due (R287), the beat of the last
feed sample, the energy not yet counted in 10 nJ (input, by partition, by queue), the beats of the last ageing checks, and the A/B
slots of the voltage offsets in MRAM, each a count and the offsets by domain (R292). -/
structure Mpw where
  thermal : Nat := 350
  thermAt : Option Nat := none
  next : Option (Nat × Nat × Nat × Nat) := none
  stepAt : Option Nat := none
  calAt : Option Nat := none
  heatAt : Option Nat := none
  pin : Nat := 0
  sumIn : Nat := 0
  sumEst : Nat := 0
  outRun : Nat := 0
  inRun : Nat := 0
  fullRun : Nat := 0
  lowRun : Nat := 0
  highRun : Nat := 0
  feedDv : Nat := 0
  hot : Nat := 0
  trip : Option (Nat × Nat) := none
  feedAt : Option Nat := none
  eRem : Nat := 0
  ePart : Tab Nat := []
  eQueue : Tab Nat := []
  slotA : Nat × Tab Nat := (0, [])
  slotB : Nat × Tab Nat := (0, [])
  aged : Tab Nat := []
  /-- A junction trip whose event 0x0B09 has not been written yet (R287). -/
  tripNew : Bool := false
  /-- A junction trip that came in HOLDUP waits for the end of the record closing (R31). -/
  tripHeld : Bool := false
deriving DecidableEq, Repr

/-! ### Host interface and side-band (chapter 14) -/

/-- A letter that a queue has formed and that has not completed: its own number, its queue and SEQ, its source (Table 14-3), type, address,
length, and the access it belongs to. -/
structure HLetter where
  id : Nat
  q : Nat
  seq : Nat
  src : Nat
  op : LOp
  addr : Nat
  len : Nat
  access : Nat
deriving DecidableEq, Repr

/-- A BAR2 read or AtomicOp that waits for its letters (R302): its number, the bytes it asks for, its letters by SEQ with what
each has returned, and the beat of its arrival. -/
structure Access where
  id : Nat
  /-- A read, whose GETs time out; not an AtomicOp. -/
  read : Bool
  len : Nat
  got : List (Nat × Option (Nat × Bytes))
  beat : Nat
deriving DecidableEq, Repr

/-- The HIF block beside its registers: letters and accesses outstanding, the next access number, per ring the entries not yet
signalled and one more than the cycle of the first of them; beats of the last heartbeat and of the one before it, of the
monitor's start and of the last link down; the side-band's own session (dynamic address, endpoint IDs), kept through a
whole-chip reset (R311); the update session: the beat of the agent's last message and the components verified in it; the preferred Postmaster bank (R339). -/
structure Hif where
  sent : List HLetter := []
  accs : List Access := []
  next : Nat := 0
  unsig : Tab (Nat × Nat) := []
  hbAt : Option Nat := none
  /-- The last heartbeat, for HB_AGE_MS. -/
  hbLast : Option Nat := none
  hbPrev : Option Nat := none
  watch : Option Nat := none
  downAt : Nat := 0
  dynAddr : Option (BitVec 7) := none
  eid : Byte := 0
  eidPcie : Byte := 0
  fwAt : Nat := 0
  fwDone : List Nat := []
  /-- The component being written and its bytes so far (R316). -/
  fwPart : Option (Nat × Bytes) := none
  pmBank : Nat := 0
  /-- Letters formed since power-on, the D-state, and AER's uncorrectable status and first header word (R296, R318). -/
  formed : Nat := 0
  dState : Nat := 0
  aer : Nat × Nat := (0, 0)
  /-- Bytes moved for each submission queue since the last control step (R290). -/
  moved : Tab Nat := []
deriving DecidableEq, Repr

/-! ### Bring-up (chapter 16) -/

/-- An access to a DRAM channel that retrains (R350): a letter, or a BAR4 write or read. -/
inductive ChanWait where
  | letter (l : Letter) (ecc : Ecc)
  | write (off : Nat) (data : Bytes)
  | read (off len : Nat)
deriving DecidableEq, Repr

/-- The BUP block beside its registers: the last step completed OK, the steps that have completed (bit n), whether step 9 has
been requested since the reset (R347), the outcome of the running step once its work has ended (status, reason), whether
step 5 has ended since the reset (R341), whether step 9 has started its loads, and the retraining turn: the beat of the last, the
next channel, the channel in progress, the failure runs by channel. -/
structure Bup where
  last : Nat := 0
  ended : Nat := 0
  asked9 : Bool := false
  outcome : Option (Nat × Nat) := none
  began : Nat := 0
  dram : Bool := false
  loading : Bool := false
  turnAt : Nat := 0
  nextCh : Nat := 0
  channel : Option Nat := none
  /-- The accesses that wait for the channel in progress, in arrival order (R350), and the reasons of failures that a repeat cannot
  cure (R337). -/
  waits : List ChanWait := []
  stuck : List Nat := []
  failRuns : Tab Nat := []
deriving DecidableEq, Repr

/-! ### Twin operation (chapter 18) -/

/-- A mirrored record (Table 18-1): a letter of a queue with its formation cycle, or a register write with the path it came on, which
the record does not carry to the peer. -/
inductive Mirrored where
  | letter (l : Letter) (cycle : Nat)
  | write (off : Nat) (v : Word) (path : Path := .host)
deriving DecidableEq, Repr

/-- The TWN block beside its registers: the mirrored records with their beats of formation; the peer's last valid frame and
whether one came in this beat, runs of missing and valid frames; whether frames composed now carry ACTIVE, and a change that
waits for its frame number; digests by beat (input, output); what was heard from and formed for monitor ports in this beat,
mirrored records applied and entropy used in it; entropy drawn for in-step work by beat; an output mismatch to judge (beat, own
items, peer's items), and whether one was found in this beat; matching comparisons in a row; clean beats; the beat of a switch
request; beats of the last fault and of the last uncorrectable error. -/
structure Twn where
  mirror : List (Nat × Mirrored) := []
  peer : Bytes := []
  got : Bool := false
  missRun : Nat := 0
  okRun : Nat := 0
  act : Bool := false
  flip : Option (Nat × Bool) := none
  digs : List (Nat × Bytes × Bytes) := []
  heard : List (Nat × Bytes) := []
  formed : List (Nat × Bytes) := []
  applied : Bytes := []
  used : Bytes := []
  draws : List (Nat × Bytes) := []
  mism : Bool := false
  judge : Option (Nat × Option Nat × Option Nat) := none
  matched : Nat := 0
  clean : Nat := 0
  asked : Option Nat := none
  faultAt : Option Nat := none
  /-- The beat at which a rung last ended (R378). -/
  rungAt : Option Nat := none
  eccAt : Option Nat := none
  /-- Feeds A and B (R387): samples in a row below 36.0 V, and from 40.0 V to 60.0 V; whether a feed has not been LOST since the
  module last acted on the loss of both. -/
  low : Nat × Nat := (0, 0)
  high : Nat × Nat := (0, 0)
  fed : Bool := false
deriving DecidableEq, Repr

/-! ### Collections (chapter 19) -/

/-- The CNT block beside its registers: the number of the next collection, the one in progress with its effect beat and
whether it has been presented, the words latched for it before its effect beat (R391), and the beat of the last periodic one. -/
structure Cnt where
  next : Nat := 0
  cur : Option (Nat × Nat × Bool) := none
  dueAt : Option Nat := none
  snap : List (Nat × Word) := []
deriving DecidableEq, Repr

end Sys2Proof.Machine
end

