-- ==== Sys2Proof/Machine/State.lean ====
section
/-! DEFINITION. The state of the Icjan, its faults and refusals, and the state right after reset. -/

namespace Sys2Proof.Machine

/-- A queued event (R399, R401): code, the SOURCE word, parameters, the fabric cycle at which it was raised (none before the clocks
run, and for the event of an entry to HOLDUP, which is first), and whether it is written with SEV bit 3 (R432). -/
structure Ev where
  code : Nat
  src : Nat
  p0 : Word
  p1 : Word
  p2 : Word
  p3 : Word
  cycle : Option Nat := none
  hold : Bool := false
deriving DecidableEq, Repr

/-- An event record (Table 19-6). -/
structure EvRec where
  code : Nat := 0
  sev : Nat := 0
  mark : Nat := 0
  rep : Nat := 0
  src : Nat := 0
  ops : Nat := 0
  pons : Nat := 0
  p0 : Word := 0
  p1 : Word := 0
  p2 : Word := 0
  p3 : Word := 0
deriving DecidableEq, Repr

/-- The event log beside its registers: the records in MRAM, the queue of 256, the run of drops at the queue
(count, first code), whether the log is closed, and the events unrecorded while it was (count, first code). -/
structure Evl where
  recs : Tab EvRec := []
  queue : List Ev := []
  dropped : Nat × Nat := (0, 0)
  closed : Bool := false
  missed : Nat × Nat := (0, 0)
  /-- EVL_DROP_CNT and EVL_TAIL when the clear in progress began (Table 19-10). -/
  before : Nat × Nat := (0, 0)
  /-- The operating time beyond EVL_OPS.OP_SECONDS, in beats (R397). -/
  opUs : Nat := 0
deriving DecidableEq, Repr

/-- What the module gives the world: an interrupt vector, a write to host memory, a downstream frame, a
monitor frame, a twin frame, a PCIe completion or Unsupported Request, a side-band answer (status, data), an SPDM message, a PLDM
sensor reading (none for Unavailable), a PLDM completion code. -/
inductive Out where
  /-- A beat marker on a board's link, sent ahead of its boundary by the link's latency in cycles (R193). -/
  | marker (board beat lead : Nat)
  | vector (n : Nat)
  | hostWrite (addr : Nat) (data : Bytes)
  | downstream (board : Nat) (frame : Bytes)
  /-- A frame on a monitor port, or on a radio channel to a chain position (R223); channel 0 for a port. -/
  | monitor (channel port : Nat) (frame : Bytes)
  | twin (frame : Bytes)
  | completion (data : Bytes)
  | unsupported
  /-- A side-band answer, with the mandatory data byte of the In-Band Interrupt that signals it (R310): 0xAE, the byte of the MCTP I3C
  binding, which the spec names and does not repeat (PRESUMED, log entry 36). SPDM and PLDM answers carry it where they leave on I3C. -/
  | sideband (status : Nat) (data : Bytes) (ibi : Byte := 0xAE)
  | spdm (msg : Bytes) (ibi : Byte := 0xAE)
  | pldm (sensor : Nat) (value : Option Nat) (ibi : Byte := 0xAE)
  | pldmCode (code : Nat) (ibi : Byte := 0xAE)
  /-- The answer to ActivateFirmware: whether an activation is pending until the next whole-chip reset (Table 14-7). -/
  | activated (pending : Bool) (ibi : Byte := 0xAE)
deriving DecidableEq, Repr

/-- The state of the module. -/
structure State where
  /-- The commands that wait, first in, first out. -/
  pending : List Instr
  /-- The beat counter (R58), whether it has been released (R430), and the fabric cycle within the beat. -/
  beat : Beat
  released : Bool
  cycle : Nat
  /-- Whether the module has power (R421). -/
  power : Bool
  /-- The registers of BAR0, and the values in force of staged fields (R7, R8). -/
  regs : Tab Word
  live : Tab Word
  /-- The latched high words of the host and of the side-band (R409), by offset of the high word. -/
  latchHost : Tab Word
  latchSide : Tab Word
  /-- The memories (R34, R36), by fabric address; the state window's KEPT bank (R67) apart. -/
  mem : List Host.Cell
  kept : Tab Byte
  /-- Cells by 10,240p + 512c + k, clusters by 20p + c, and the dead-letter list (R343; MRAM). -/
  cells : Tab Cell
  clusters : Tab Cluster
  deadCells : List Nat
  deadClusters : List Nat
  /-- Letters, replies and circulars in flight, and the flit accounts of the deterministic routes, by
  64 Ki × partition + index in ROUTES. -/
  net : List Letter
  replies : List Reply
  circs : List Circ
  routes : Tab RouteRun
  /-- Envelope slots by 64p + slot, and hold acknowledgements in flight. -/
  envs : Tab Env
  acks : List HoldAck
  /-- Partitions, and programs by 1,024p + x. -/
  parts : Tab Part
  progs : Tab Prog
  rcv : Rcv
  runs : Runs
  /-- Loops by 8 × engine + loop, and the stage link controller. -/
  loops : Tab Loop
  stg : Stg
  mon : Mon
  sst : Sst
  sec : Sec
  grd : Grd
  bud : Bud
  ldg : Ldg
  mpw : Mpw
  hif : Hif
  bup : Bup
  twn : Twn
  cnt : Cnt
  evl : Evl
  /-- What the module has given the world, oldest first. -/
  outs : List Out
  /-- The model's own counter of free values (log entry 1); no state of the spec. -/
  free : Nat
deriving DecidableEq, Repr

/-- The reasons a step can stop with a fault. Every command of the table has an effect in this model, and
none of them raises one: an access the spec calls illegal completes with a status, an event or all ones. -/
inductive Fault where
  /-- Raised by no meaning of this model: kept so that the type is inhabited (safe). -/
  | none
deriving DecidableEq, Repr

/-- The reasons a step can be refused. -/
inductive Refusal where
  /-- Raised by an arm of `exec` whose command has no meaning yet (safe). -/
  | notModelled (mnemonic : String)
deriving DecidableEq, Repr

/-- What `exec` and every meaning answer. -/
abbrev Res := Host.Outcome State Fault Refusal

/-- The machine right after a power-on reset: NOT_READY, the beat counter 0 and not released, every register at its
Reset column, but for CLK_STATUS.REF_OK and PM_STATUS.CORES bit 0, which read 1 from the release of reset
(Tables 20-4 and 20-5), and the fused SEC_STATUS.DEBUG, which is LOCKED in every shipped part (R330; log entry 3);
nothing loaded, nothing in flight. -/
def State.reset : State where
  pending := []
  beat := 0
  released := false
  cycle := 0
  power := true
  regs := [(0x100000, 1), (0xe00000, 1), (0x1400000, 1)]
  live := []
  latchHost := []
  latchSide := []
  mem := []
  kept := []
  cells := []
  clusters := []
  deadCells := []
  deadClusters := []
  net := []
  replies := []
  circs := []
  routes := []
  envs := []
  acks := []
  parts := []
  progs := []
  rcv := {}
  runs := {}
  loops := []
  stg := {}
  mon := {}
  sst := {}
  sec := {}
  grd := {}
  bud := {}
  ldg := {}
  mpw := {}
  hif := {}
  bup := {}
  twn := {}
  cnt := {}
  evl := {}
  outs := []
  free := 0

end Sys2Proof.Machine
end

