-- ==== Sys2Proof/Machine/Ops.lean ====
section
/-! DEFINITION. The named operations over time, registers, events, memory, cells and addresses. -/

namespace Sys2Proof.Machine

open Sys2Proof.Bits

/-! ### Time -/

/-- The beat counter as a number. -/
def State.beatN (s : State) : Nat := s.beat.toNat

/-- Fabric cycles since boundary 0. -/
def State.now (s : State) : Nat := s.beatN * 1250 + s.cycle

/-- The low and high 32 bits of the beat counter. -/
def State.beatLo (s : State) : Nat := s.beatN % 4294967296
def State.beatHi (s : State) : Nat := s.beatN / 4294967296

/-! ### Registers (R7, R10, R11) -/

/-- The register at a BAR0 offset. -/
def State.rd (s : State) (off : Nat) : Word := s.regs.get off (resetWord off)

/-- The device sets a register. -/
def State.wr (s : State) (off : Nat) (w : Word) : State :=
  { s with regs := s.regs.put off w (resetWord off) }

/-- A field of a register. -/
def State.f (s : State) (F : Fld) : Nat := fld (s.rd F.off) F.lo F.n

/-- The device sets a field. -/
def State.setF (s : State) (F : Fld) (v : Nat) : State := s.wr F.off (setFld (s.rd F.off) F.lo F.n v)

/-- A one-bit field as a truth value. -/
def State.b (s : State) (F : Fld) : Bool := decide (s.f F = 1)

/-- The value in force of a staged field (R7, R8). -/
def State.lf (s : State) (F : Fld) : Nat := fld (s.live.get F.off (resetWord F.off)) F.lo F.n

/-- One staged field takes a value in force, and no other (R231). -/
def State.setLive (s : State) (F : Fld) (v : Nat) : State :=
  { s with live := s.live.put F.off (setFld (s.live.get F.off (resetWord F.off)) F.lo F.n v) (resetWord F.off) }

/-- Staged fields of the offsets lo to below hi take effect (R7). -/
def State.stage (s : State) (lo hi : Nat) : State := { s with live := Tab.copyRange s.live s.regs lo hi }

/-- A 32-bit counter counts k more and saturates at 0xFFFF_FFFF. -/
def State.bumpBy (s : State) (off k : Nat) : State :=
  s.wr off (BitVec.ofNat 32 (satAdd 32 (s.rd off).toNat k))

/-- A 32-bit counter counts one. -/
def State.bump (s : State) (off : Nat) : State := s.bumpBy off 1

/-- A 64-bit value of two registers, low word first (R409). -/
def State.rd64 (s : State) (off : Nat) : Nat := (s.rd off).toNat + 4294967296 * (s.rd (off + 4)).toNat

/-- The device sets a 64-bit value of two registers. -/
def State.wr64 (s : State) (off v : Nat) : State :=
  (s.wr off (BitVec.ofNat 32 v)).wr (off + 4) (BitVec.ofNat 32 (v / 4294967296))

/-- A 64-bit counter counts k more and saturates. -/
def State.bump64 (s : State) (off k : Nat) : State := s.wr64 off (satAdd 64 (s.rd64 off) k)

/-- The bytes of n words of registers from an offset. -/
def State.rdBytes (s : State) (off : Nat) : Nat → Bytes
  | 0 => []
  | n + 1 => toLe 4 (s.rd off).toNat ++ State.rdBytes s (off + 4) n

/-- The device sets n words of registers from bytes. -/
def State.wrBytes (s : State) (off : Nat) (b : Bytes) : Nat → State
  | 0 => s
  | n + 1 => State.wrBytes (s.wr off (BitVec.ofNat 32 (le b 0 4))) (off + 4) (b.drop 4) n

/-- The module state (Table 1-6). -/
def State.mstate (s : State) : Nat := s.f Reg.GLB_STATE_MSTATE

/-! ### Events (R397, R401, R432) -/

/-- An event is raised: it is queued, dropped at a full queue, or unrecorded while the log is closed. -/
def State.raise (s : State) (code p0 p1 p2 p3 : Nat) (origin : Nat := 0xFFF) (path : Nat := 0) : State :=
  let e : Ev := { code := code, src := path * 4096 + origin
                  p0 := BitVec.ofNat 32 p0, p1 := BitVec.ofNat 32 p1, p2 := BitVec.ofNat 32 p2, p3 := BitVec.ofNat 32 p3
                  cycle := if s.released then some s.now else none, hold := decide (s.mstate = 6) }
  if s.evl.closed then
    { s.bump Reg.EVL_QDROP_CNT with
      evl := { s.evl with missed := (s.evl.missed.1 + 1, if s.evl.missed.1 = 0 then code else s.evl.missed.2) } }
  else if s.evl.queue.length ≥ 256 then
    { s.bump Reg.EVL_QDROP_CNT with
      evl := { s.evl with dropped := (s.evl.dropped.1 + 1, if s.evl.dropped.1 = 0 then code else s.evl.dropped.2) } }
  else { s with evl := { s.evl with queue := s.evl.queue ++ [e] } }

/-- An event whose parameters 2 and 3 are the low and high words of the beat counter. -/
def State.ev (s : State) (code p0 p1 : Nat) (origin : Nat := 0xFFF) (path : Nat := 0) : State :=
  s.raise code p0 p1 s.beatLo s.beatHi origin path

/-- The PATH code of a write's path (Table 19-6). -/
def pathCode : Path → Nat
  | .host => 1
  | .sideband => 2

/-- What the module gives the world. -/
def State.out (s : State) (o : Out) : State := { s with outs := s.outs ++ [o] }

/-- The serialisers of the stage, monitor and twin links are clocked (R414). -/
def State.clocked (s : State) : Bool := s.rcv.stopped.all fun p => decide (p = .lpddr5)

/-- A frame leaves on a serialiser link, while it is clocked (R414). -/
def State.drive (s : State) (o : Out) : State := if s.clocked then s.out o else s

/-- A vector raised in the host (R300, R307, R398): none while Bus Master Enable is 0; a vector masked in the MSI-X table sets
its pending bit, as PCIe defines (Table 20-6). -/
def State.vector (s : State) (n : Nat) : State :=
  if s.f Reg.HIF_LINK_BME = 0 then s
  else if fld (s.rd (0xD8000C + 16 * n)) 0 1 = 1 then
    let a := 0xD90000 + 4 * (n / 32)
    s.wr a (BitVec.ofNat 32 (setBit (s.rd a).toNat (n % 32) true))
  else s.out (.vector n)

/-! ### Memory (R34, R36; log entry 4) -/

/-- What an unlisted byte reads as: all ones in DRAM (R342), else 0 (R117). -/
def memDefault (a : Nat) : Byte := if a / 70368744177664 = 2 then 0xFF else 0

/-- The canonical form of memory: addresses strictly rising, no entry equal to what an unlisted address reads as. -/
def Memory.wf (m : List Host.Cell) : Bool := Tab.wf m memDefault

/-- One byte of memory. -/
def State.rdByte (s : State) (a : Nat) : Byte := Tab.get s.mem a (memDefault a)

/-- n bytes of memory. -/
def State.rdMem (s : State) (a : Nat) : Nat → Bytes
  | 0 => []
  | n + 1 => s.rdByte a :: State.rdMem s (a + 1) n

/-- The memory with bytes written from an address. -/
def memWrite (m : List Host.Cell) (a : Nat) : Bytes → List Host.Cell
  | [] => m
  | b :: r => memWrite (Tab.put m a b (memDefault a)) (a + 1) r

/-- Write bytes of memory. -/
def State.wrMem (s : State) (a : Nat) (d : Bytes) : State := { s with mem := memWrite s.mem a d }

/-- The KEPT bank's byte of a window address. -/
def State.rdKept (s : State) (a : Nat) : Byte := s.kept.get a 0

/-- Write bytes of the KEPT bank. -/
def keptWrite (m : Tab Byte) (a : Nat) : Bytes → Tab Byte
  | [] => m
  | b :: r => keptWrite (Tab.put m a b 0) (a + 1) r

/-- n bytes of the KEPT bank. -/
def State.rdKeptN (s : State) (a : Nat) : Nat → Bytes
  | 0 => []
  | n + 1 => s.rdKept a :: State.rdKeptN s (a + 1) n

/-! ### Numbers and addresses of cells and clusters (R34, R36) -/

/-- The number of a cell. -/
def cellNo (k : CellId) : Nat := k.p.val * 10240 + k.c.val * 512 + k.k.val

/-- The partition, cluster number and cell index of a cell number. -/
def partOf (n : Nat) : Nat := n / 10240
def clusterOf (n : Nat) : Nat := n / 512
def indexOf (n : Nat) : Nat := n % 512

/-- The fabric address of a cell's data memory offset. -/
def cellAddr (n off : Nat) : Nat :=
  partOf n * 2199023255552 + (clusterOf n % 20) * 68719476736 + indexOf n * 134217728 + off

/-- The fabric address of a cluster's shared memory offset. -/
def sharedAddr (cl off : Nat) : Nat :=
  70368744177664 + cl / 20 * 2199023255552 + cl % 20 * 68719476736 + off

/-- The fabric address of a partition's DRAM offset. -/
def dramAddr (p off : Nat) : Nat := 140737488355328 + p * 2199023255552 + off

/-- The sender identity of a cell (under Table 2-11). -/
def cellIdent (n : Nat) : Nat := indexOf n + clusterOf n % 20 * 512 + partOf n * 16384

/-- The parameter 0 that names a cell (Tables 2-11, 3-5). -/
def cellParam (n : Nat) : Nat := partOf n + clusterOf n % 20 * 256 + indexOf n * 65536

/-- The sender identity of a sender. -/
def senderIdent : Sender → Nat
  | .cell k => cellIdent (cellNo k)
  | .unit n => 1073741824 + n.toNat

/-- The Postmaster's number (R39). -/
def postmaster : Sender := .unit 0x0600

/-- The cell of a number. -/
def State.cell (s : State) (n : Nat) : Cell := s.cells.get n {}

/-- The state with a cell set. -/
def State.setCell (s : State) (n : Nat) (c : Cell) : State := { s with cells := s.cells.put n c {} }

/-- The cluster of a number. -/
def State.cl (s : State) (c : Nat) : Cluster := s.clusters.get c {}

/-- The state with a cluster set. -/
def State.setCl (s : State) (c : Nat) (v : Cluster) : State := { s with clusters := s.clusters.put c v {} }

/-- The partition of a number. -/
def State.part (s : State) (p : Nat) : Part := s.parts.get p {}

/-- The state with a partition set. -/
def State.setPart (s : State) (p : Nat) (v : Part) : State := { s with parts := s.parts.put p v {} }

/-- A program of a partition. -/
def State.prog (s : State) (p x : Nat) : Prog := s.progs.get (1024 * p + x) {}

/-- The state with a program set. -/
def State.setProg (s : State) (p x : Nat) (v : Prog) : State := { s with progs := s.progs.put (1024 * p + x) v {} }

/-- An envelope slot. -/
def State.env (s : State) (p sl : Nat) : Env := s.envs.get (64 * p + sl) {}

/-- The state with an envelope slot set. -/
def State.setEnv (s : State) (p sl : Nat) (v : Env) : State := { s with envs := s.envs.put (64 * p + sl) v {} }

/-- Whether a manifest is loaded: STATE, and the manifest in force. -/
def State.manOf (s : State) (p : Nat) : Option Man := (s.part p).man

/-- The definition of a program in a manifest. -/
def Man.prog? (m : Man) (x : Nat) : Option ProgDef := m.progs.find? (fun d => d.prog = x)

/-- The partition is held in its compute reset scope (R122, R361). -/
def State.held (s : State) (p : Nat) : Bool := (s.part p).held

/-- The cluster gate state (Table 2-10). -/
def State.cstate (s : State) (cl : Nat) : Nat := s.f (Reg.FAB_CLUSTER_STATE_CSTATE cl)

/-- GLB_STATE.DEGRADED follows the rungs 1 to 3 and the partitions held in reset (Table 1-8). -/
def State.degrade (s : State) : State :=
  s.setF Reg.GLB_STATE_DEGRADED
    (ofBool (s.rcv.rungs.any (fun r => decide (r.rung ≤ 3)) || s.parts.any (fun e => e.2.held)))

/-- The events that wait are written with SEV bit 3, and the last queued, if it was taken, before the others (R33, R432). -/
def State.holdFirst (s : State) (took : Bool) : State :=
  let q := s.evl.queue.map fun (e : Ev) => { e with hold := true }
  let q := match took, q.getLast? with
    | true, some e => { e with cycle := none } :: q.dropLast
    | _, _ => q
  { s with evl := { s.evl with queue := q } }

/-- A change of the module state, with its event 0x0F01 (R33), the first written on an entry to HOLDUP; the cause is kept in
LAST_CAUSE on an entry into NOT_READY, SAFE_STOP or HOLDUP (Table 1-8). -/
def State.toMstate (s : State) (m cause : Nat) : State :=
  let n := s.evl.queue.length
  let s := s.ev 0x0F01 (s.mstate + 16 * m + 256 * cause) 0
  let s := if m = 6 then s.holdFirst (decide (n < s.evl.queue.length)) else s
  let s := s.setF Reg.GLB_STATE_MSTATE m
  if m = 1 ∨ m = 5 ∨ m = 6 then s.setF Reg.GLB_STATE_LAST_CAUSE cause else s

/-- A trigger that does not act, as outranked or as one without a row for the present state, is logged (R31, R33). -/
def State.logTrigger (s : State) (cause : Nat) (outranked : Bool) : State :=
  s.ev 0x0F01 (s.mstate + 16 * s.mstate + 256 * cause) (ofBool outranked)

/-- A trigger that is outranked (R31). -/
def State.outranked (s : State) (cause : Nat) : State := s.logTrigger cause true

/-- A free value of one word (log entry 1): nothing constrains it. -/
def State.freeWord (s : State) : Word := Config.freeWord s.free

/-- The shared status codes (Table 0-4). -/
def statusCodes : List Nat := [0, 1, 2, 3, 0x10, 0x11, 0x12, 0x13, 0x20, 0x21, 0x22, 0x30, 0x31, 0x40, 0x41]

/-- A status that the spec does not name: one of Table 0-4, free (R12, R13). -/
def State.freeStatus (s : State) : Nat := statusCodes.getD (s.freeWord.toNat % 15) 0

/-- The next free value. -/
def State.useFree (s : State) : State := { s with free := s.free + 1 }

/-! ### Receivers and targets of letters (R36 to R38, R49, R431) -/

/-- What a fabric address names by its layout alone. -/
inductive Target where
  | cell (n off : Nat)
  | shared (cl off : Nat)
  | dram (p off : Nat)
  | cellCtl (n off : Nat)
  | clCtl (cl off : Nat)
  | setpoint (loop off : Nat)
  | loopStatus (loop off : Nat)
  | actuator (board off : Nat)
  | balance (cmu off : Nat)
  | request (off : Nat)
  | estimate (off : Nat)
  | publication (off : Nat)
  | nothing
deriving DecidableEq, Repr

/-- The fields of a fabric address (Table 2-2). -/
def aSpace (a : Nat) : Nat := a / 70368744177664 % 4
def aPart (a : Nat) : Nat := a / 2199023255552 % 32
def aCluster (a : Nat) : Nat := a / 68719476736 % 32
def aCell (a : Nat) : Nat := a / 134217728 % 512
def aOff (a : Nat) : Nat := a % 134217728

/-- Targets of cluster control space: the words of Table 2-5 and the engine windows (R431, Table 20-7). -/
def ctlTarget (p c off : Nat) : Target :=
  if 0x4000000 ≤ off ∧ off < 0x4000008 ∨ 0x4000010 ≤ off ∧ off < 0x4000024 then .clCtl (20 * p + c) off
  else if 0x4800000 ≤ off ∧ off < 0x4800200 ∧ (c = 0 ∨ c = 19) then
    .setpoint (8 * (2 * p + if c = 0 then 0 else 1) + (off - 0x4800000) / 64) (off % 64)
  else if 0x4801000 ≤ off ∧ off < 0x4801080 ∧ (c = 0 ∨ c = 19) then
    .loopStatus (8 * (2 * p + if c = 0 then 0 else 1) + (off - 0x4801000) / 16) (off % 16)
  else if p = 0 ∧ c = 19 ∧ 0x4C00000 ≤ off ∧ off < 0x4C00600 then .actuator ((off - 0x4C00000) / 64) (off % 64)
  else if p = 1 ∧ c = 19 ∧ 0x4E00000 ≤ off ∧ off < 0x4E00180 then .balance ((off - 0x4E00000) / 4) (off % 4)
  else if p = 1 ∧ c = 0 ∧ 0x5000000 ≤ off ∧ off < 0x5001000 then .request (off - 0x5000000)
  else if p = 1 ∧ c = 0 ∧ 0x5010000 ≤ off ∧ off < 0x5020000 then .estimate (off - 0x5010000)
  else .nothing

/-- What an address names by its layout (R36, R37, R38, R160). -/
def target (a : Nat) : Target :=
  if Config.pubWindow.toNat ≤ a ∧ a < Config.pubWindow.toNat + 16384 then .publication (a - Config.pubWindow.toNat)
  else if aSpace a = 2 then
    if a / 8589934592 % 256 = 0 then .dram (aPart a) (a % 8589934592) else .nothing
  else if aCluster a ≥ 20 then .nothing
  else if aSpace a = 0 then
    if aOff a < 0xC00 then .cell (10240 * aPart a + 512 * aCluster a + aCell a) (aOff a) else .nothing
  else if aSpace a = 1 then
    if aCell a = 0 ∧ aOff a < 0x40000 then .shared (20 * aPart a + aCluster a) (aOff a) else .nothing
  else if aOff a < 0x4000000 then
    if aOff a < 0x28 then .cellCtl (10240 * aPart a + 512 * aCluster a + aCell a) (aOff a) else .nothing
  else if aCell a = 0 then ctlTarget (aPart a) (aCluster a) (aOff a)
  else .nothing

/-- An engine window (R431). -/
def Target.isWindow : Target → Bool
  | .setpoint .. | .loopStatus .. | .actuator .. | .balance .. | .request .. | .estimate .. | .publication .. => true
  | _ => false

/-- The partition and cluster a target lies in, for the gate and the reset scope. -/
def Target.cluster? : Target → Option Nat
  | .cell n _ => some (clusterOf n)
  | .cellCtl n _ => some (clusterOf n)
  | .shared cl _ => some cl
  | .clCtl cl _ => some cl
  | _ => none

def Target.part? : Target → Option Nat
  | .cell n _ => some (partOf n)
  | .cellCtl n _ => some (partOf n)
  | .shared cl _ => some (cl / 20)
  | .clCtl cl _ => some (cl / 20)
  | .dram p _ => some p
  | _ => none

/-- The receiver of an address as a ROUTES entry spells it (R49, Table 5-5): the address with offset 0; a
cell's control offsets belong to the cell, a cluster's to the cluster, and an engine window (R431) is named by its first
address. -/
def receiverOf (a : Nat) : Nat :=
  match target a with
  | .cell n _ => cellAddr n 0
  | .cellCtl n _ => cellAddr n 0
  | .shared cl _ => sharedAddr cl 0
  | .clCtl cl _ => sharedAddr cl 0
  | .dram p _ => dramAddr p 0
  | .setpoint _ off => a - off
  | .loopStatus _ off => a - off
  | .actuator _ off => a - off
  | .balance c off => a - 4 * c - off
  | .request off => a - off
  | .estimate off => a - off
  | .publication off => a - off
  | .nothing => a

/-! ### Naming a fault (R355 to R358) -/

/-- A start beat lies within the last ESC_WINDOW_S seconds (R357). -/
def State.inWindow (s : State) (start : Nat) : Bool := decide (s.beatN < start + 1000000 * s.lf Reg.RCV_CFG_ESC_WINDOW_S)

/-- Rungs of a unit that started within the last ESC_WINDOW_S seconds (R357). -/
def State.rungCount (s : State) (rung unit : Nat) : Nat :=
  (s.rcv.starts.filter fun e => decide (e.1 = rung ∧ e.2.1 = unit) && s.inWindow e.2.2).length

/-- The chip rungs' starts: the slot in force is the later of the two (R250, R357). -/
def Rcv.chipStarts (r : Rcv) : List Nat := if r.chipB.1 < r.chipA.1 then r.chipA.2 else r.chipB.2

/-- New starts are written to the slot that is not in force (R250). -/
def Rcv.putChip (r : Rcv) (l : List Nat) : Rcv :=
  if r.chipB.1 < r.chipA.1 then { r with chipB := (r.chipA.1 + 1, l) } else { r with chipA := (r.chipB.1 + 1, l) }

/-- Beats since the counter of a unit of Table 17-1 last moved while it was watched (R354). -/
def State.still (s : State) (unit : Nat) : Nat := s.rcv.still.get unit 0

/-- The chip rungs that count: their starts, in operating seconds, lie in the window (R357). -/
def State.chipCount (s : State) : Nat :=
  (s.rcv.chipStarts.filter fun t => decide ((s.rd Reg.EVL_OPS_OP_SECONDS.off).toNat < t + s.lf Reg.RCV_CFG_ESC_WINDOW_S)).length

/-- A rung of equal or wider scope runs on the unit, or the partition is held (R358). -/
def State.underRung (s : State) (rung unit : Nat) : Bool :=
  s.rcv.rungs.any (fun r => decide (r.rung = rung ∧ r.unit = unit)) ||
  (decide (rung = 1) && s.held (unit / 1024)) || (decide (rung = 3) && s.held unit)

/-- The rung a fault takes, its unit, whether it holds the partition out of service, and the count of each
limit that was reached on the way (R357): (rung, unit, out, escalations (from, to, count)). -/
def State.choose (s : State) (rung unit : Nat) : Nat × Nat × Bool × List (Nat × Nat × Nat) :=
  let chip (from_ k : Nat) : Nat × Nat × Bool × List (Nat × Nat × Nat) :=
    if s.chipCount ≥ s.lf Reg.RCV_CFG_CHIP_LIMIT then (5, 0, false, [(from_, 4, k), (4, 5, s.chipCount)])
    else (4, 0, false, [(from_, 4, k)])
  let partRung (p : Nat) : Nat × Nat × Bool × List (Nat × Nat × Nat) :=
    if s.rungCount 3 p ≥ s.lf Reg.RCV_CFG_PART_LIMIT then
      if s.b (Reg.MAN_STATUS_SERVICE_LOCK p) then chip 3 (s.rungCount 3 p)
      else (3, p, true, [(3, 3, s.rungCount 3 p)])
    else (3, p, false, [])
  if rung = 1 then
    if s.rungCount 1 unit ≥ s.lf Reg.RCV_CFG_CTX_LIMIT then
      let r := partRung (unit / 1024)
      (r.1, r.2.1, r.2.2.1, (1, 3, s.rungCount 1 unit) :: r.2.2.2)
    else (1, unit, false, [])
  else if rung = 2 then
    if s.rungCount 2 unit ≥ s.lf Reg.RCV_CFG_ENG_LIMIT then chip 2 (s.rungCount 2 unit) else (2, unit, false, [])
  else if rung = 3 then partRung unit
  else if s.chipCount ≥ s.lf Reg.RCV_CFG_CHIP_LIMIT then (5, 0, false, [(4, 5, s.chipCount)])
  else (4, 0, false, [])

/-- The context record in RCV_LAST_FAULT and the fault history (R355). -/
def State.histFault (s : State) (w0 w1 w2 w3 : Nat) : State :=
  let b := toLe 4 w0 ++ toLe 4 w1 ++ toLe 4 w2 ++ toLe 4 w3
  let i := s.f Reg.RCV_FAULT_IDX_NEXT
  (((s.wrBytes 0x1000200 b 4).wrBytes (0x1000400 + 16 * i) b 4).setF Reg.RCV_FAULT_IDX_NEXT ((i + 1) % 16))

/-- A fault is named (R355): its context record is kept and written as event 0x0F02, and it waits for its
rung at the next boundary unless it is absorbed. ORIGIN names the partition or the unit. -/
def State.nameFault (s : State) (w0 w1 reason idx rung unit origin : Nat) (cluster : Option Nat := none) : State :=
  let lost := if reason = 3 then some s.beatN else s.twn.eccAt
  let s : State := { s with twn := { s.twn with faultAt := some s.beatN, eccAt := lost } }
  let absorbed := s.underRung rung unit
  let ch := s.choose rung unit
  let esc := !ch.2.2.2.isEmpty
  let w2 := reason + 256 * (if absorbed then rung else ch.1) + 2048 * ofBool (esc && !absorbed)
    + 4096 * ofBool absorbed + 65536 * (idx % 256)
  let s := s.histFault w0 w1 w2 s.beatLo
  let s := s.raise 0x0F02 w0 w2 w1 s.beatLo origin
  let s := if reason = 0x10 then s.bump Reg.RCV_NOPROG_CNT else s
  if absorbed then s.bump Reg.RCV_ABSORB_CNT
  else
    let s := ch.2.2.2.foldl (fun s e => s.ev 0x0F05 (e.1 + 16 * e.2.1) e.2.2) s
    { s with rcv := { s.rcv with faults := s.rcv.faults ++ [
        { w0 := w0, w1 := w1, reason := reason, idx := idx, beat := s.beatN, rung := ch.1, unit := ch.2.1,
          out := ch.2.2.1, escalated := esc, cluster := cluster }] } }

/-- The context word 0 of a cell or program (Table 17-2). -/
def cellWord0 (n prog kind : Nat) : Nat :=
  partOf n + 32 * (clusterOf n % 20) + 1024 * indexOf n + 524288 * prog + 536870912 * kind

/-! ### Writes of in-step registers (R375, R376) -/

/-- The module is the active of a twin pair, so that the writes it accepts are mirrored. -/
def State.twinActive (s : State) : Bool := s.b Reg.TWN_CFG_MODE && decide (s.mstate = 3)

/-- Bytes that a mirrored record takes in RECORDS (Table 18-1): a 16-byte header and a payload padded to 8 bytes. -/
def Mirrored.size : Mirrored → Nat
  | .letter l _ => 16 + (l.data.length + 7) / 8 * 8
  | .write .. => 24

/-- The first beat from b whose frame has room in RECORDS for a record after those that wait (R375). -/
def mirrorBeat (m : List (Nat × Mirrored)) (size : Nat) (b : Nat) : Nat → Nat
  | 0 => b
  | n + 1 =>
    if ((m.filter fun (e : Nat × Mirrored) => decide (e.1 = b)).map fun (e : Nat × Mirrored) => e.2.size).sum + size ≤ 2904 then b
    else mirrorBeat m size (b + 1) n

/-- A record joins the mirrored records of the first beat with room. -/
def State.mirror (s : State) (r : Mirrored) : State :=
  let from_ := match s.twn.mirror.getLast? with | some e => max e.1 s.beatN | none => s.beatN
  let b := mirrorBeat s.twn.mirror r.size from_ (s.twn.mirror.length + 1)
  let r := match r with
    | .letter l c => if s.beatN < b then .letter l 0 else .letter l c
    | .write off v path => .write off v path
  { s with twn := { s.twn with mirror := s.twn.mirror ++ [(b, r)] } }

/-- A write of an in-step register: a STANDBY refuses it with LOCKED_WRITE, by the block's event (R376; 0 for a block that has
none); the active of a twin pair mirrors it and applies it at beat N + 3 (R375); else its effect f follows at once. -/
def State.inStep (s : State) (code off v : Nat) (path : Path) (f : State → State) (origin : Nat := 0xFFF) : State :=
  if s.mstate = 4 then (if code = 0 then s else s.ev code off v origin (pathCode path))
  else if s.twinActive then s.mirror (.write off (BitVec.ofNat 32 v) path)
  else f s

end Sys2Proof.Machine
end

