-- ==== Sys2Proof/Machine/Boards.lean ====
section
/-! DEFINITION. Stage boards: their states, phase states and isolation (chapter 9). -/

namespace Sys2Proof.Machine

open Sys2Proof.Bits

/-- The board of a number, and the state with a board set. -/
def State.board (s : State) (b : Nat) : Board := s.stg.boards.get b {}
def State.setBoard (s : State) (b : Nat) (v : Board) : State :=
  { s with stg := { s.stg with boards := s.stg.boards.put b v {} } }

/-- A shelf phase, and the state with one set. -/
def State.phase (s : State) (n : Nat) : Phase := s.stg.phases.get n {}
def State.setPhase (s : State) (n : Nat) (v : Phase) : State :=
  { s with stg := { s.stg with phases := s.stg.phases.put n v {} } }

/-- Fields of the STAGE_MAP entry in force (Table 9-4). -/
def Board.role (b : Board) : Nat := if b.map = [] then 0 else (byteAt b.map 1).toNat
def Board.scaleI (b : Board) : Nat := max 1 (le b.map 4 2)
def Board.scaleV (b : Board) : Nat := max 1 (le b.map 6 2)
def Board.shedEn (b : Board) : Bool := bit (byteAt b.map 8).toNat 0

/-- The string that STR_A (i = 0) or STR_B (i = 1) names. -/
def Board.str (b : Board) (i : Nat) : Option Nat :=
  let v := (byteAt b.map (2 + i)).toNat
  if b.role = 3 ∧ bit v 7 then some (v % 8) else none

/-- The STRINGS board and its side that serve a string (R16). -/
def State.boardOf (s : State) (st : Nat) : Option (Nat × Nat) :=
  s.stg.boards.findSome? fun e =>
    if e.2.str 0 = some st then some (e.1, 0) else if e.2.str 1 = some st then some (e.1, 1) else none

/-- The origin of the stage block's events. -/
def stgOrigin : Nat := 0x150

/-- BSTATE (Table 9-10): 0 UNUSED, 1 LOST, 2 LOCAL, 3 EXITING, 4 NORMAL. -/
def State.bstate (s : State) (b : Nat) : Nat := s.f (Reg.STG_BOARD_STATUS_BSTATE b)

/-- A change of board state, with event 0x0701 (R203). -/
def State.setBState (s : State) (b new cause : Nat) : State :=
  if s.bstate b = new then s
  else (s.setF (Reg.STG_BOARD_STATUS_BSTATE b) new).ev 0x0701 (b + 256 * s.bstate b + 4096 * new) cause stgOrigin

/-- LOCAL is commanded to a board (Table 9-6): MODE LOCAL in its next frame. -/
def State.commandLocal (s : State) (b : Nat) : State :=
  if (s.board b).trained then
    let s := s.setBoard b { s.board b with force := true }
    if s.bstate b = 4 then (s.bump Reg.STG_LOCAL_CNT).setBState b 2 1 else s
  else s

/-- PSTATE (Table 9-10): 0 ON, 1 SHEDDING, 2 SHED, 3 OFF. -/
def State.pstate (s : State) (n : Nat) : Nat := s.f (Reg.STG_PHASE_PSTATE n)

/-- The ON and SHEDDING phases of a board. -/
def State.running (s : State) (b : Nat) : List Nat := (List.range 4).filter fun j => decide (s.pstate (4 * b + j) ≤ 1)

/-- The phases of a board take new states: trims of phases that leave or become ON are 0 (R207), and where the ON
and SHEDDING set changes their shifts follow (R210). -/
def State.setPstates (s : State) (b : Nat) (new : Nat → Nat) : State :=
  let before := s.running b
  let s := (List.range 4).foldl (fun s j =>
    let n := 4 * b + j
    if s.pstate n = new j then s
    else
      let s := if s.pstate n = 0 ∨ new j = 0 then s.setF (Reg.STG_PHASE_TRIM n) 0 else s
      let s := s.setPhase n { s.phase n with t := 0 }
      s.setF (Reg.STG_PHASE_PSTATE n) (new j)) s
  let run := s.running b
  let s := if run = before then s
    else (List.range 4).foldl (fun s j =>
      if run.contains j then s.setPhase (4 * b + j) { s.phase (4 * b + j) with shift := run.findIdx (· = j) * 65536 / run.length }
      else s) s
  s.setF (Reg.STG_BOARD_STATUS_SHED b)
    ((List.range 4).foldl (fun m j => m + (if s.pstate (4 * b + j) = 1 ∨ s.pstate (4 * b + j) = 2 then 2 ^ j else 0)) 0)

/-- Phase states follow ADMIN_EN and PH_FAULT (Phase duty): OFF, or from OFF to SHED or ON. -/
def State.admin (s : State) (b : Nat) : State :=
  let B := s.board b
  s.setPstates b fun j =>
    if ¬ bit (byteAt B.applied 0).toNat j ∨ bit B.phFault j then 3
    else if s.pstate (4 * b + j) = 3 then (if B.shedEn then 2 else 0)
    else s.pstate (4 * b + j)

/-- ISO of a string (R216): the host's bit, the autonomous isolation of monitoring (R234), or the swap source, held in
every state but ONLINE of a string in use (R245). -/
def State.isoHeld (s : State) (st : Nat) : Bool :=
  bit (s.f Reg.STG_ISO_ISO) st || (s.b (Reg.MON_STRING_ISO st) && !s.mon.late.contains (st, s.beatN)) ||
  !(decide (s.f (Reg.SST_STRING_STATUS_SSTATE st) = 0) || decide (s.f (Reg.SST_STRING_STATUS_SSTATE st) = 4))

/-- The ISO field of a board's frame. -/
def State.isoField (s : State) (b : Nat) : Nat :=
  (match (s.board b).str 0 with | some st => ofBool (s.isoHeld st) | none => 0) +
  2 * (match (s.board b).str 1 with | some st => ofBool (s.isoHeld st) | none => 0)

/-- An actuator window set with its reserved bytes cleared (R202). -/
def actClean (b : Bytes) : Bytes := (fit b 32).take 2 ++ zeros 2 ++ ((fit b 32).drop 4).take 16 ++ zeros 12

/-- The boards in a set of boards. -/
def boardsIn (m : Nat) : List Nat := (List.range 24).filter (bit m)

/-- A pending set for boards, at commit boundary c (R107, R202). -/
def State.startAct (s : State) (a : Act) : State := { s with stg := { s.stg with acts := s.stg.acts ++ [a] } }

end Sys2Proof.Machine
end

