-- ==== Sys2Proof/Machine/Fabric.lean ====
section
/-! DEFINITION. Clusters' gates, mail slots, and letters at cells, clusters and DRAM (chapter 2). -/

namespace Sys2Proof.Machine

open Sys2Proof.Bits

/-! ### Cluster gates (R60, R61) -/

/-- The µs a cluster has spent GATED (Table 19-3). -/
def State.gatedUs (s : State) (c : Nat) : Nat :=
  (s.cl c).gatedUs + (if s.cstate c = 0 then (s.now - (s.cl c).wakeAt) / 1250 else 0)

/-- A wake starts: WAKING, WAKE_COUNT and WAKES one more (R61); none in HOLDUP, where the fabric is gated (Table 1-7). -/
def State.startWake (s : State) (c : Nat) : State :=
  if c < 640 ∧ s.cstate c = 0 ∧ s.mstate ≠ 6 then
    let v := s.cl c
    let s := (s.setF (Reg.FAB_CLUSTER_STATE_WAKE_COUNT c) (satAdd 16 (s.f (Reg.FAB_CLUSTER_STATE_WAKE_COUNT c)) 1)
      ).setCl c { v with wakes := satAdd 32 v.wakes 1, gatedUs := s.gatedUs c, wakeAt := s.now }
    s.setF (Reg.FAB_CLUSTER_STATE_CSTATE c) 1
  else s

/-- Every GATED cluster of a list starts its wake. -/
def State.wakeAll (s : State) (cs : List Nat) : State := cs.foldl State.startWake s

/-- The clusters of a partition. -/
def clustersOf (p : Nat) : List Nat := (List.range 20).map (20 * p + ·)

/-- The clusters listed GATED among the registers. -/
def State.gatedClusters (s : State) : List Nat :=
  (List.range 640).filter fun c => decide (s.cstate c = 0)

/-- The cells of a cluster that the state lists. -/
def State.cellsIn (s : State) (c : Nat) : List (Nat × Cell) := s.cells.within (512 * c) (512 * c + 512)

/-- A scheduled wake of the cluster is due within 3 beats: a period of one of its programs begins, or a beat
WAIT expires (Table 2-7). -/
def State.wakeDue (s : State) (c : Nat) : Bool :=
  (s.cellsIn c).any fun e =>
    (match e.2.waiting with
     | some w => (match w.untilBeat with
        | some b => decide (s.beatN < b ∧ b ≤ s.beatN + 3)
        | none => false)
     | none => false) ||
    (match s.manOf (c / 20) with
     | some m => (match m.prog? e.2.prog with
        | some d =>
          let pr := s.prog (c / 20) d.prog
          e.2.run != 0 && !pr.paused && (List.range 3).any fun i =>
            decide (pr.from_ ≤ s.beatN + 1 + i ∧ (s.beatN + 1 + i) % d.period = d.offset % d.period)
        | none => false)
     | none => false)

/-- Every cell of the cluster is unassigned, waiting or done. -/
def State.clusterIdle (s : State) (c : Nat) : Bool := (s.cellsIn c).all fun e => decide (e.2.run ≠ 1)

/-- A cell stopped running in this beat: idleness counts from the next beat (Table 2-7). The model starts the run of idle beats again at
the release E of a partition and at a wake's completion: the spec does not say whether the beats before those count (DESIGN CHOICE, log
entry 62). -/
def State.restless (s : State) (c : Nat) : State :=
  s.setCl c { s.cl c with idleFrom := if s.cycle = 0 then s.beatN else s.beatN + 1 }

/-! ### Mail slots (R54, R55) -/

/-- Fields of a SLOT word (Table 2-4). -/
def slotAddr (w : Word) : Nat := fld w 0 11
def slotLen (w : Word) : Nat := 4 * (fld w 11 4 + 1)
def slotEn (w : Word) : Bool := decide (fld w 15 1 = 1)
def slotCount (w : Word) : Nat := fld w 16 8

/-- Bytes off to off + len of data memory overlap the slot's range and it is armed. -/
def slotHit (w : Word) (off len : Nat) : Bool :=
  slotEn w && decide (off < slotAddr w + slotLen w ∧ slotAddr w < off + len)

/-- The word with its COUNT one more, saturating at 255. -/
def slotInc (w : Word) : Word := setFld w 16 8 (satAdd 8 (slotCount w) 1)

/-- Every armed slot that the bytes overlap counts once (R55). -/
def Cell.arrive (c : Cell) (off len : Nat) : Cell :=
  { c with slots := (List.range 8).foldl (fun t i =>
      if slotHit (t.get i 0) off len then t.put i (slotInc (t.get i 0)) 0 else t) c.slots }

/-- Some armed slot of the cell overlaps the bytes. -/
def Cell.watches (c : Cell) (off len : Nat) : Bool := (List.range 8).any fun i => slotHit (c.slots.get i 0) off len

/-! ### Writes into a cell from outside (R48, R52, R67) -/

/-- Bytes written to a cell's data memory by a letter or a reply part: WORK and, in the window, KEPT. -/
def State.wrData (s : State) (n off : Nat) (d : Bytes) : State :=
  let s := s.wrMem (cellAddr n off) d
  { s with kept := keptWrite s.kept (cellAddr n off) (d.take (256 - off)) }

/-- A letter's or reply part's bytes land in a running cell: they are written and the slots count. -/
def State.land (s : State) (n off : Nat) (d : Bytes) : State :=
  let s := s.wrData n off d
  s.setCell n ((s.cell n).arrive off d.length)

/-- The program of a cell is being rewritten by a context rung (R359). -/
def State.underContext (s : State) (n : Nat) : Bool :=
  s.rcv.rungs.any fun r => decide (r.rung = 1 ∧ r.unit = 1024 * partOf n + (s.cell n).prog) && (s.cell n).run != 0

/-- A letter that a cluster's router queues (R62): a GATED cluster wakes when the letter overlaps an armed slot
or the queue holds 64. -/
def State.enqueue (s : State) (c : Nat) (l : Letter) (ecc : Ecc) (hit : Bool) : State :=
  let v := s.cl c
  let s := s.setCl c { v with queue := v.queue ++ [(l, ecc)] }
  if hit || decide (v.queue.length + 1 ≥ 64) then s.startWake c else s

/-- A reply part reaches a cell (R50, R52): discarded while the cell is in reset or its program is being reset;
queued while the cluster sleeps (R56), where it counts among the 64 letters and in APPLIED as a letter does, and never waits in the
network (R62 speaks of letters alone: log entry 59); else it lands. -/
def State.replyPart (s : State) (n off : Nat) (d : Bytes) : State :=
  if s.held (partOf n) || s.underContext n || s.deadCells.contains n || decide (s.cstate (clusterOf n) = 3) then s
  else if s.cstate (clusterOf n) = 2 then s.land n off d
  else s.enqueue (clusterOf n)
    { op := .put, hdr := { sender := postmaster, addr := BitVec.ofNat 48 (cellAddr n off), tag := 0, reply := .none },
      len := d.length, data := d } .clean ((s.cell n).watches off d.length)

/-! ### Letters at memories and control words -/

/-- The reply of a letter: GET and every atomic always reply, a PUT if it was asked to, and without a data part (R46, R50). -/
def State.reply (s : State) (l : Letter) (status : Nat) (d : Bytes := []) : State :=
  match l.hdr.reply with
  | .none => s
  | d' => { s with replies := s.replies ++ [{ dest := d', op := l.op, tag := l.hdr.tag, status := status,
                                              data := if status = 0 ∧ l.op ≠ .put then d else [] }] }

/-- The letter type code (Table 2-3). -/
def LOp.code : LOp → Nat
  | .put => 1 | .get => 2 | .add => 3 | .swap => 4 | .cas => 5 | .max => 6 | .min => 7

/-- A letter completes NOT_READY (R38): event 0x0101 and FAB_NOT_READY_CNT. -/
def State.notReady (s : State) (l : Letter) : State :=
  let a := l.hdr.addr.toNat
  ((s.bump 0x20002C).raise 0x0101 (a % 4294967296) (a / 4294967296 + 65536 * LOp.code l.op)
    (senderIdent l.hdr.sender) s.beatLo).reply l 0x0030

/-- A staging half of a partition's DRAM (R113). -/
def inStaging (off : Nat) : Bool := decide (0x1F0000000 ≤ off)

/-- The ledger region of partitions 0 and 1 (R267). -/
def inLedger (p off : Nat) : Bool := decide (p ≤ 1 ∧ 0x100000000 ≤ off ∧ off < 0x1A0000000)

/-- The address names nothing for reasons of the state (R38). -/
def State.namesNothing (s : State) (t : Target) (sender : Sender) : Bool :=
  (match t with
   | .nothing => true
   | .cell n _ => s.deadCells.contains n || decide (s.cstate (clusterOf n) = 3)
   | .cellCtl n _ => s.deadCells.contains n || decide (s.cstate (clusterOf n) = 3)
   | .shared cl _ => decide (s.cstate cl = 3)
   | .clCtl cl _ => decide (s.cstate cl = 3)
   | .dram p off => inStaging off || inLedger p off
   | _ => false) ||
  (match t.part? with
   | some p => (s.manOf p).isNone && sender != postmaster
   | none => false)

/-- The signed value of an operand of w bytes. -/
def opVal (w : Nat) (b : Bytes) : Int := sint (8 * w) (le b 0 w)

/-- What an atomic writes (Table 2-3): none where a CAS does not match. -/
def atomicResult (op : LOp) (w : Nat) (old operand new : Nat) : Option Nat :=
  match op with
  | .add => some ((old + operand) % 2 ^ (8 * w))
  | .swap => some operand
  | .cas => if old = operand then some new else none
  | .max => some (if sint (8 * w) old < sint (8 * w) operand then operand else old)
  | .min => some (if sint (8 * w) operand < sint (8 * w) old then operand else old)
  | .put => none
  | .get => none

/-- The bytes an ordinary letter reads at a memory (R67): a GET of the state window reads KEPT. -/
def State.readFor (s : State) (t : Target) (a len : Nat) (get : Bool) : Bytes :=
  match t with
  | .cell _ off => if get && decide (off < 256) then s.rdKeptN a len else s.rdMem a len
  | _ => s.rdMem a len

/-- Write a memory target: a cell's data counts slots and copies to KEPT. All the bytes of the operand's place count as the bytes the
letter changed (R67), those that keep their value too (log entry 59). -/
def State.writeFor (s : State) (t : Target) (a : Nat) (d : Bytes) : State :=
  match t with
  | .cell n off => if off < 0x800 then s.land n off d else s.wrMem a d
  | _ => s.wrMem a d

/-- Correctable errors are corrected and counted (R35). -/
def State.eccCorrected (s : State) (t : Target) : State :=
  let s := s.bump 0x200028
  match t.cluster? with
  | some c => s.setCl c { s.cl c with ecc := satAdd 32 (s.cl c).ecc 1 }
  | none => s

/-- An uncorrectable error of a reading letter (R35). -/
def State.eccLost (s : State) (l : Letter) : State :=
  let a := l.hdr.addr.toNat
  let s : State := { s with twn := { s.twn with eccAt := some s.beatN } }
  (s.raise 0x0103 (a % 4294967296) (a / 4294967296) (senderIdent l.hdr.sender) s.beatLo).reply l 0x0002

/-- A cell control word's byte (Table 2-4). -/
def State.cellCtlWord (s : State) (n i : Nat) : Word :=
  let c := s.cell n
  if i < 8 then c.slots.get i 0
  else if i = 8 then c.circLand
  else BitVec.ofNat 32 (c.run.toNat + 4 * ofBool (s.deadCells.contains n))

/-- The bytes of a circular (Table 2-6). -/
def Circ.bytes (c : Circ) : Bytes := toLe 2 c.type ++ toLe 2 c.src ++ toLe 8 c.effect ++ toLe 4 c.param

/-- A control byte of a cell or cluster. -/
def State.ctlByte (s : State) (t : Target) : Byte :=
  match t with
  | .cellCtl n off => byteAt (toLe 4 (s.cellCtlWord n (off / 4)).toNat) (off % 4)
  | .clCtl cl off =>
    if off < 0x4000008 then byteAt (toLe 8 s.beatN) (off - 0x4000000)
    else if off < 0x4000020 then
      (match (s.cl cl).circ with
       | some c => byteAt c.bytes (off - 0x4000010)
       | none => 0)
    else byteAt (toLe 4 (s.rd (0x201000 + 4 * cl)).toNat) (off - 0x4000020)
  | _ => 0

/-- The control bytes of a range; none where an offset is reserved (R38). -/
def State.ctlBytes (s : State) (a : Nat) : Nat → Option Bytes
  | 0 => some []
  | n + 1 => match target a, State.ctlBytes s (a + 1) n with
    | .cellCtl k off, some r => some (s.ctlByte (.cellCtl k off) :: r)
    | .clCtl k off, some r => some (s.ctlByte (.clCtl k off) :: r)
    | _, _ => none

/-- The Postmaster's write of cell control words (R53): SLOT_s keeps its COUNT, CELL_STATUS is RO. -/
def State.ctlWrite (s : State) (n off : Nat) : Bytes → State
  | [] => s
  | b :: r =>
    let c := s.cell n
    let i := off / 4
    let w := s.cellCtlWord n i
    let v := BitVec.ofNat 32 (le (patch (toLe 4 w.toNat) (off % 4) [b]) 0 4)
    let s' := if i < 8 then s.setCell n { c with slots := c.slots.put i (setFld (v &&& 0x00FFFFFF#32) 16 8 (slotCount w)) 0 }
      else if i = 8 then s.setCell n { c with circLand := v &&& 0x87FF#32 } else s
    State.ctlWrite s' n (off + 1) r

/-- Program memory takes the Postmaster's writes while a manifest load of the cell's partition is in progress (R37): its swap, or a
partition rung's reload. -/
def State.takesProgram (s : State) (n : Nat) (sender : Sender) : Bool :=
  sender == postmaster && (decide (s.f (Reg.MAN_STATUS_STATE (partOf n)) = 2) || s.held (partOf n))

/-- The cell's store of this very cycle, taken back before a letter of the cycle and made after it (R48). -/
def State.undoStore (s : State) (n : Nat) : State :=
  match (s.cell n).stored with
  | some (t, off, old, _) => if t = s.now then s.wrMem (cellAddr n off) old else s
  | none => s
/-- The store made again: what it covers now is what the letter left there, for a second letter of the same cycle. -/
def State.redoStore (s : State) (n : Nat) : State :=
  match (s.cell n).stored with
  | some (t, off, _, new) =>
    if t = s.now then
      (s.setCell n { s.cell n with stored := some (t, off, s.rdMem (cellAddr n off) new.length, new) }).wrMem (cellAddr n off) new
    else s
  | none => s

/-- A letter is applied at a cell, cluster or DRAM that can serve it (R37, R46, R48, R53, R55). -/
def State.applyLetter (s : State) (l : Letter) (ecc : Ecc) : State :=
  let a := l.hdr.addr.toNat
  let t := target a
  let s := match t.cluster? with
    | some c => s.setCl c { s.cl c with applied := satAdd 32 (s.cl c).applied 1 }
    | none => s
  let reads : Bool := l.op != .put
  match t with
  | .cellCtl n off =>
    if s.underContext n then s.reply l 0x0002 else
    (match s.ctlBytes a l.len with
     | none => s.notReady l
     | some old =>
       if l.op = .get then s.reply l 0 old
       else if off ≥ 0x24 then s.reply l 0 old
       else if l.hdr.sender ≠ postmaster then s.reply l 0x0020
       else if l.op = .put then (s.ctlWrite n off l.data).reply l 0
       else match atomicResult l.op l.len (le old 0 l.len) (le l.data 0 l.len) (le l.data l.len l.len) with
         | some v => (s.ctlWrite n off (toLe l.len v)).reply l 0 old
         | none => s.reply l 0 old)
  | .clCtl _ _ =>
    (match s.ctlBytes a l.len with
     | none => s.notReady l
     | some old => s.reply l 0 old)
  | .cell n off =>
    if s.underContext n then s.reply l 0x0002
    else if off ≥ 0x800 ∧ l.op ≠ .get ∧ ¬ s.takesProgram n l.hdr.sender then s.reply l 0x0020
    else if reads && decide (ecc = .uncorrectable) then s.eccLost l
    else
      let s := (if reads && decide (ecc = .corrected) then s.eccCorrected t else s).undoStore n
      let old := s.readFor t a l.len (decide (l.op = .get))
      State.redoStore (
        if l.op = .put then (s.writeFor t a l.data).reply l 0
        else if l.op = .get then (s.setCell n ((s.cell n).arrive off l.len)).reply l 0 old
        else match atomicResult l.op l.len (le old 0 l.len) (le l.data 0 l.len) (le l.data l.len l.len) with
          | some v => (s.writeFor t a (toLe l.len v)).reply l 0 old
          | none => (s.setCell n ((s.cell n).arrive off l.len)).reply l 0 old) n
  | _ =>
    if reads && decide (ecc = .uncorrectable) then s.eccLost l
    else
      let s := if reads && decide (ecc = .corrected) then s.eccCorrected t else s
      let old := s.rdMem a l.len
      if l.op = .put then (s.wrMem a l.data).reply l 0
      else if l.op = .get then s.reply l 0 old
      else match atomicResult l.op l.len (le old 0 l.len) (le l.data 0 l.len) (le l.data l.len l.len) with
        | some v => (s.wrMem a (toLe l.len v)).reply l 0 old
        | none => s.reply l 0 old

/-- The letter overlaps an armed slot of its target cell (R55, R56). -/
def State.hits (s : State) (l : Letter) : Bool :=
  match target l.hdr.addr.toNat with
  | .cell n off => (s.cell n).watches off l.len
  | _ => false

/-- A letter that targets no engine window reaches its target router (R38, R51, R52, R60 to R62). Where R38 and R51 both apply the model
chooses: an address that the layout gives to nothing is NOT_READY, then a target in a held partition is TARGET_RESET, then a dead
cell, a staging half or the ledger region is NOT_READY; and a Postmaster's letter to a held partition is applied (log entry 11). -/
def State.arriveLetter (s : State) (l : Letter) (ecc : Ecc) : State :=
  let t := target l.hdr.addr.toNat
  if t = .nothing then s.notReady l
  else if (match t.part? with | some p => s.held p && l.hdr.sender != postmaster | none => false) then s.reply l 0x0003
  else if s.namesNothing t l.hdr.sender then s.notReady l
  else match t.cluster? with
    | some c => if s.cstate c = 0 ∨ s.cstate c = 1 then s.enqueue c l ecc (s.hits l) else s.applyLetter l ecc
    | none => s.applyLetter l ecc

/-- The circular lands in the receiving cells of a running cluster (R57); one that lands in the state window goes to both banks, as a
letter's bytes do (R67 does not name circulars: log entry 59). -/
def State.landCirc (s : State) (c : Nat) (k : Circ) : State :=
  (s.cellsIn c).foldl (fun s e =>
    if decide (fld e.2.circLand 15 1 = 1) && !s.deadCells.contains e.1 then s.land e.1 (fld e.2.circLand 0 11) k.bytes else s) s

/-- The wake of a cluster completes (Table 2-7): queued letters in arrival order, then circular landings. The run of idle beats starts
again here (DESIGN CHOICE, log entry 62). -/
def State.wakeDone (s : State) (c : Nat) : State :=
  let v := s.cl c
  let s := s.setF (Reg.FAB_CLUSTER_STATE_CSTATE c) 2
  let s := s.setCl c { v with queue := [], landing := [] }
  let s := v.queue.foldl (fun s e => s.applyLetter e.1 e.2) s
  let s := v.landing.foldl (fun s k => s.landCirc c k) s
  s.restless c

/-- A cluster is added to the dead-letter list (Table 2-7, R343): DEAD, event 0x0104, queued letters NOT_READY. A reply part queued
there ends as a letter does, counted and logged under the Postmaster's identity: the spec speaks of letters alone (DESIGN CHOICE, log
entry 64). -/
def State.killCluster (s : State) (c : Nat) : State :=
  if s.cstate c = 3 then s
  else
    let v := s.cl c
    let s := s.setCl c { v with queue := [], landing := [], gatedUs := s.gatedUs c }
    let s := s.setF (Reg.FAB_CLUSTER_STATE_CSTATE c) 3
    let s := { s with deadClusters := if s.deadClusters.contains c then s.deadClusters else s.deadClusters ++ [c] }
    let s := s.ev 0x0104 (c / 20 + 256 * (c % 20)) 0 (c / 20)
    v.queue.foldl (fun s e => s.notReady e.1) s

/-- The class of a letter (R42): the index and rate of the deterministic route its sender's manifest declares. -/
def State.routeOf (s : State) (p : Nat) (sender : Sender) (a : Nat) : Option (Nat × Nat) :=
  match s.manOf p with
  | none => none
  | some m =>
    let i := m.routes.findIdx (fun r => decide (r.sender = senderIdent sender ∧ receiverOf r.receiver = receiverOf a))
    match m.routes[i]? with
    | some r => some (65536 * p + i, r.rate)
    | none => none

/-- Payload flits and header of a letter of n payload bytes (R40). -/
def flitsOf (n : Nat) : Nat := if n ≤ 32 then 2 else 3

/-- The cycle at which a route's next letter issues at or after t, and its account after it (R44). -/
def routeIssue (r : RouteRun) (rate flits t : Nat) : Nat × RouteRun :=
  let t := max t r.free
  let t := if t / 16 = r.window ∧ r.used ≥ rate then (t / 16 + 1) * 16 else t
  let used := if t / 16 = r.window then r.used else 0
  let first := min flits (min (rate - used) (16 - t % 16))
  let rest := flits - first
  if rest = 0 then (t, { window := t / 16, used := used + first, free := t + first })
  else
    let k := ceilDiv rest rate
    let lastN := rest - (k - 1) * rate
    (t, { window := t / 16 + k, used := lastN, free := (t / 16 + k) * 16 + lastN })

/-- A letter leaves its sender. -/
def State.send (s : State) (l : Letter) : State := { s with net := s.net ++ [l] }

/-- An engine's letter leaves it in the class and at the cycle that the manifest of p gives it (R42, R44). -/
def State.sendRouted (s : State) (p : Nat) (l : Letter) : State :=
  match s.routeOf p l.hdr.sender l.hdr.addr.toNat with
  | some (i, rate) =>
    let r := routeIssue (s.routes.get i {}) rate (flitsOf l.len) l.issued
    State.send { s with routes := s.routes.put i r.2 {} } { l with det := true, issued := r.1 }
  | none => s.send l

/-- The letter in flight that an arrival names: the first of its type, sender, address and tag. -/
def State.inFlight (s : State) (op : LOp) (h : Hdr) (env : Bool) : Option Letter :=
  s.net.find? fun l => decide (l.op = op ∧ l.hdr.sender = h.sender ∧ l.hdr.addr = h.addr ∧ l.hdr.tag = h.tag ∧
    l.env.isSome = env)

/-- A deterministic delivery is held against its bound (R45). -/
def State.boundCheck (s : State) (l : Letter) : State :=
  let late := s.now - l.issued
  if l.det && decide (late > 256) then
    let s : State := { s with twn := { s.twn with eccAt := some s.beatN } }
    (s.bump 0x200024).raise 0x0102 (l.hdr.addr.toNat % 4294967296) (l.hdr.addr.toNat / 4294967296)
      (senderIdent l.hdr.sender) late
  else s

/-- The letter leaves the network. -/
def State.unflight (s : State) (op : LOp) (h : Hdr) : State :=
  match s.inFlight op h false with
  | none => s
  | some l => State.boundCheck { s with net := s.net.erase l } l

/-- The router of loop engine e (R175). -/
def engineRouter (e : Nat) : Nat := 20 * (e / 2) + (if e % 2 = 0 then 0 else 19)

/-- The router at which a sender's letters enter the network (R39, R175): a cell's own; host queues at (0, 0); the Postmaster at
(31, 0); a loop engine at its own; the stage controller at (0, 19), the monitor controller at (1, 19), the ledger engine at (1, 0). -/
def entryOf : Sender → Nat
  | .cell k => clusterOf (cellNo k)
  | .unit n =>
    let u := n.toNat
    if 0x100 ≤ u ∧ u < 0x140 then engineRouter (u - 0x100)
    else if u = 0x200 then 19
    else if u = 0x300 then 39
    else if u = 0x400 then 20
    else if u = 0x600 then 620
    else 0

/-- The router at which an address's letters leave the network: the cluster's own, the channel's, or the attachment of the unit that
serves the window. -/
def exitOf (a : Nat) : Nat :=
  match target a with
  | .dram p off => 20 * p + 19 * (off / 256 % 2)
  | .setpoint k _ => engineRouter (k / 8)
  | .loopStatus k _ => engineRouter (k / 8)
  | .actuator .. => 19
  | .balance .. => 39
  | .request _ => 20
  | .estimate _ => 20
  | t => match t.cluster? with
    | some c => c
    | none => 0

/-- A letter never arrives before another that entered the network earlier: of the same sender to the same receiver, both in
envelopes or both not (R49), or both best-effort on the same path (R45), where an envelope's letter may stand before an ordinary one. -/
def Letter.behind (l e : Letter) : Bool :=
  decide (e.hdr.sender = l.hdr.sender ∧ receiverOf e.hdr.addr.toNat = receiverOf l.hdr.addr.toNat ∧ e.env.isSome = l.env.isSome) ||
  (!e.det && !l.det && decide (entryOf e.hdr.sender = entryOf l.hdr.sender ∧ exitOf e.hdr.addr.toNat = exitOf l.hdr.addr.toNat))

/-- A letter in the network is behind another still in it. -/
def State.blocked (s : State) (l : Letter) : Bool := (s.net.takeWhile (· != l)).any l.behind

/-- The router of a sleeping cluster holds its 64 letters: further ones wait in the network (R62). -/
def State.routerFull (s : State) (a : Nat) : Bool :=
  match (target a).cluster? with
  | some c => decide ((s.cstate c = 0 ∨ s.cstate c = 1) ∧ 64 ≤ (s.cl c).queue.length)
  | none => false

/-- The letter that an arrival names stays in the network: its router holds 64, or it is behind another letter. -/
def State.mustWait (s : State) (op : LOp) (h : Hdr) : Bool :=
  s.routerFull h.addr.toNat ||
  match s.inFlight op h false with
  | none => false
  | some l => s.blocked l

/-! ### Meanings -/

/-- CLUSTER_GATE (R61): a RUNNING cluster that is not pinned, whose partition is not held, with GATE_EN 1, idle
for IDLE_BEATS beats, with no letter queued and no scheduled wake due, stops its clock. -/
def execClusterGate (p : Fin 32) (c : Fin 20) (s : State) : Res :=
  let k := 20 * p.val + c.val
  .next (if s.cstate k = 2 ∧ s.f (Reg.FAB_CLUSTER_STATE_PINNED k) = 0 ∧ ¬ s.held p.val ∧ s.f Reg.FAB_GATE_CTL_GATE_EN = 1 ∧
      s.clusterIdle k ∧ (s.cl k).idleFrom + max 1 (s.lf Reg.FAB_GATE_CTL_IDLE_BEATS) ≤ s.beatN ∧ (s.cl k).queue = [] ∧
      ¬ s.wakeDue k then
    (s.setCl k { s.cl k with wakeAt := s.now }).setF (Reg.FAB_CLUSTER_STATE_CSTATE k) 0
  else s)

/-- CLUSTER_SCHEDULED_WAKE (R61): a GATED cluster with a scheduled wake due starts its wake. -/
def execClusterScheduledWake (p : Fin 32) (c : Fin 20) (s : State) : Res :=
  .next (if s.wakeDue (20 * p.val + c.val) then s.startWake (20 * p.val + c.val) else s)

/-- CLUSTER_WAKE_COMPLETE (R61): 2,500 cycles after its wake started a WAKING cluster runs. -/
def execClusterWakeComplete (p : Fin 32) (c : Fin 20) (s : State) : Res :=
  let k := 20 * p.val + c.val
  .next (if s.cstate k = 1 ∧ (s.cl k).wakeAt + 2500 ≤ s.now then s.wakeDone k else s)

end Sys2Proof.Machine
end

