-- ==== Sys2Proof/Machine/Flags.lean ====
section
/-! DEFINITION. FLAGS (R66) and the saturating and block arithmetic that sets them (R75 to R78). -/

namespace Sys2Proof.Machine

open Sys2Proof.Bits

/-- FLAGS bits (Table 3-1). -/
def Work.carry (w : Work) : Nat := w.flags.toNat % 2

/-- C written by ADD, SUB, ADDC and SUBB. -/
def Work.setC (w : Work) (c : Bool) : Work := { w with flags := (w.flags &&& 0b1110#4) ||| BitVec.ofNat 4 (ofBool c) }

/-- The sticky QSAT, ASAT and DROPPED. -/
def Work.orQsat (w : Work) (b : Bool) : Work := if b then { w with flags := w.flags ||| 0b0010#4 } else w
def Work.orAsat (w : Work) (b : Bool) : Work := if b then { w with flags := w.flags ||| 0b0100#4 } else w
def Work.setDropped (w : Work) : Work := { w with flags := w.flags ||| 0b1000#4 }

/-- A SYS read of FLAGS clears QSAT, ASAT and DROPPED. -/
def Work.clearSticky (w : Work) : Work := { w with flags := w.flags &&& 0b0001#4 }

/-- The carry out of bit 31 of a + b + c, and the borrow of a − b − c (Table 3-3). -/
def carryOut (a b : Word) (c : Nat) : Bool := decide (4294967296 ≤ a.toNat + b.toNat + c)
def borrowOut (a b : Word) (c : Nat) : Bool := decide (a.toNat < b.toNat + c)

/-- A 40-bit two's complement pattern. -/
def v40 (v : Int) : BitVec 40 := BitVec.ofInt 40 v

/-- MACQ and MSUQ on an accumulator (R75): the accumulator and whether sat40 clamped. -/
def macq (a : Acc) (x y : Int) (sub : Bool) : Acc × Bool :=
  let r := if sub then a.v.toInt - x * y else a.v.toInt + x * y
  ({ a with v := v40 (sat40 r), empty := false }, decide (sat40 r ≠ r))

/-- MACB8 and MACB4 on an accumulator (R78): the accumulator and whether sat32 clamped. -/
def macb (a : Acc) (s : Int) (pe : Int) : Acc × Bool :=
  if a.empty then ({ v := v40 (sat32 s), ex := BitVec.ofInt 10 pe, empty := false }, decide (sat32 s ≠ s))
  else
    let v0 := a.v.toInt
    let v := sat32 v0
    let ex := a.ex.toInt
    let s' := if pe < ex then rhe s (ex - pe).toNat else s
    let v' := if pe > ex then rhe v (pe - ex).toNat else v
    let ex' := max pe ex
    ({ v := v40 (sat32 (v' + s')), ex := BitVec.ofInt 10 ex', empty := false },
     decide (sat32 v0 ≠ v0) || decide (sat32 (v' + s') ≠ v' + s'))

end Sys2Proof.Machine
end

