-- ==== Sys2Proof/Machine/Operands.lean ====
section
/-! DEFINITION. Operand forms of the cell's instructions: registers, halves, lanes, local addresses, and the fields of a
format L instruction (R65, R71, R75, R77, R80, R81). -/

namespace Sys2Proof.Machine

open Sys2Proof.Bits

/-- A general register; g0 reads 0 (Table 3-1). -/
def Work.reg (w : Work) (r : BitVec 4) : Word := if r = 0 then 0 else w.g.get r.toNat 0

/-- Write a general register; a write of g0 is ignored. -/
def Work.setReg (w : Work) (r : BitVec 4) (v : Word) : Work :=
  if r = 0 then w else { w with g := w.g.put r.toNat v 0 }

/-- An accumulator by N. -/
def Work.acc (w : Work) (n : Bool) : Acc := if n then w.acc1 else w.acc0
def Work.setAcc (w : Work) (n : Bool) (a : Acc) : Work := if n then { w with acc1 := a } else { w with acc0 := a }

/-- The signed half of a register that HA or HB selects (Table 3-4). -/
def half (w : Word) (hi : Bool) : Int := sint 16 (if hi then w.toNat / 65536 else w.toNat)

/-- The exact lane sum of MACB8 (four 8-bit lanes) and MACB4 (eight 4-bit lanes) (R77, R78). -/
def laneSum (bits : Nat) (a b : Word) : Nat → Int
  | 0 => 0
  | i + 1 => sint bits (a.toNat / 2 ^ (bits * i)) * sint bits (b.toNat / 2 ^ (bits * i)) + laneSum bits a b i

/-- The local address a + sext(IMM), on 32 bits (R74). -/
def localAddr (a : Word) (imm : BitVec 16) : Nat := (a + imm.signExtend 32).toNat

/-- The part of an accumulator that GETA reads (Table 3-4). -/
def Acc.part (a : Acc) (p : BitVec 2) : Word :=
  if p = 0 then a.v.truncate 32
  else if p = 1 then BitVec.ofInt 32 (sint 8 (a.v.toNat / 4294967296))
  else if p = 2 then BitVec.ofInt 32 a.ex.toInt
  else BitVec.ofNat 32 (ofBool a.empty)

/-- The accumulator after SETA (Table 3-4). -/
def Acc.setPart (a : Acc) (p : BitVec 2) (v : Word) : Acc :=
  if p = 0 then { a with v := BitVec.ofNat 40 (a.v.toNat / 4294967296 * 4294967296 + v.toNat) }
  else if p = 1 then { a with v := BitVec.ofNat 40 (v.toNat % 256 * 4294967296 + a.v.toNat % 4294967296) }
  else if p = 2 then { a with ex := BitVec.ofNat 10 v.toNat }
  else { a with empty := decide (v.toNat % 2 = 1) }

/-- The conditions of BR (Table 3-4). -/
def brHolds (c : BitVec 3) (a b : Word) (carry : Nat) : Bool :=
  match c.toNat with
  | 0 => decide (a = b)
  | 1 => decide (a ≠ b)
  | 2 => decide (a.toInt < b.toInt)
  | 3 => decide (b.toInt ≤ a.toInt)
  | 4 => decide (a.toNat < b.toNat)
  | 5 => decide (b.toNat ≤ a.toNat)
  | 6 => decide (carry = 1)
  | _ => decide (carry = 0)

/-- What a format L instruction names (R80): target, local offset, LEN, completion offset. -/
structure LArgs where
  addr : Nat
  loff : Nat
  len : Nat
  coff : Nat
deriving DecidableEq, Repr

/-- The arguments of a format L instruction in a cell. -/
def lArgs (w : Work) (f : LFields) : LArgs :=
  let a := BitVec.ofNat 4 (2 * f.aHalf.toNat)
  { addr := fld (w.reg (a + 1)) 0 16 * 4294967296 + (w.reg a).toNat
    loff := fld (w.reg f.b) 0 11
    len := fld (w.reg f.b) 16 7
    coff := fld (w.reg f.c) 0 11 }

/-- An atomic letter type. -/
def LOp.atomic : LOp → Bool
  | .put | .get => false
  | _ => true

/-- R46, R47, R81: the letter is malformed and is never sent. -/
def lBad (op : LOp) (x : LArgs) (want : Bool) : Bool :=
  let n := if op = .cas then 2 * x.len else x.len
  (if LOp.atomic op then
     decide (x.len ≠ 4 ∧ x.len ≠ 8) || decide (x.loff % x.len ≠ 0) || decide (x.addr % x.len ≠ 0)
   else decide (x.len = 0 ∨ 64 < x.len) || decide (64 < x.addr % 64 + x.len)) ||
  decide (2048 < x.loff + n) || (want && decide (x.coff % 4 ≠ 0))

end Sys2Proof.Machine
end

