-- ==== Sys2Proof/Machine/Env.lean ====
section
/-! DEFINITION. Envelopes at their home and at the hold stores (chapter 4). -/

namespace Sys2Proof.Machine

open Sys2Proof.Bits

/-! ### Handles and buffers -/

/-- A handle (R88). -/
def handleOf (p slot gen : Nat) : Nat := p * 2048 + slot * 32 + gen
def hPart (h : Nat) : Nat := h / 2048 % 32
def hSlot (h : Nat) : Nat := h / 32 % 64
def hGen (h : Nat) : Nat := h % 32

/-- Entries of a partition's commit buffer (Table 4-5). -/
def State.bufSize (s : State) (p : Nat) : Nat := 256 * 2 ^ s.f (Reg.ENV_BUF_CFG_BUF_SIZE p)

/-- The slots of a partition. -/
def State.slotsOf (s : State) (p : Nat) : List Env := (List.range 64).map (s.env p)

/-- Entries an envelope reserves or uses (R96). -/
def Env.entries (e : Env) : Nat :=
  if e.st = .open ∨ e.st = .sealed then (if e.size > 0 then e.size else e.blocks.length) else 0

/-- Entries reserved or in use in a partition. -/
def State.bufUsed (s : State) (p : Nat) : Nat := ((s.slotsOf p).map Env.entries).sum

/-- Envelopes of a partition not FREE. -/
def State.openEnvs (s : State) (p : Nat) : Nat := ((s.slotsOf p).filter fun e => decide (e.st ≠ .free)).length

/-- ENV_PART_STATUS follows the slots (Table 4-6). -/
def State.envStatus (s : State) (p : Nat) : State :=
  let o := s.openEnvs p
  let s := s.setF (Reg.ENV_PART_STATUS_OPEN p) o
  let s := s.setF (Reg.ENV_PART_STATUS_BUF_USED p) (s.bufUsed p)
  s.setF (Reg.ENV_PART_STATUS_OPEN_HWM p) (max o (s.f (Reg.ENV_PART_STATUS_OPEN_HWM p)))

/-- A slot changes and the partition's status follows. -/
def State.putEnv (s : State) (p sl : Nat) (e : Env) : State := (s.setEnv p sl e).envStatus p

/-- The envelope slot a handle names, if its generation is the one in use and the slot is not FREE. -/
def State.handleEnv (s : State) (h : Nat) : Option Env :=
  let e := s.env (hPart h) (hSlot h)
  if e.st ≠ .free ∧ e.gen = hGen h then some e else none

/-- An aborted slot is released once every contributor has ended its contribution (R105). -/
def Env.settle (e : Env) : Env :=
  if e.st = .aborted ∧ e.members.all (fun m => !m.active) then { e with st := .free, members := [], status := 0 } else e

/-- Outcome words to every cell that was ever a contributor (R104). -/
def State.outcome (s : State) (e : Env) (h status : Nat) : State :=
  e.members.foldl (fun s m => s.replyPart m.cell m.off.toNat (toLe 4 (status + 65536 * h))) s

/-- The event and counter of an abort (Tables 4-8, 4-9); x is the winner's handle or the target's low bits. -/
def State.abortNote (s : State) (p h status : Nat) (e : Env) (x : Nat) : State :=
  let p0 := h + 65536 * status
  if status = 0x10 then (s.bump 0x300404).ev 0x0201 p0 (e.size + 65536 * s.bufSize p) p
  else if status = 0x11 then (s.bump 0x300408).ev 0x0202 p0 x p
  else if status = 0x12 then
    (s.bump 0x30040C).ev 0x0203 p0 ((e.members.filter (·.registered)).length + 256 * e.expect) p
  else if status = 0x02 then s.bump 0x300410
  else (s.bump 0x300410).ev 0x0205 p0 (x % 4294967296) p

/-- Partition q enters reset at a boundary that has come and whose command waits: its swap, or a partition rung (R122, R356). -/
def State.resetsNow (s : State) (q : Nat) : Bool :=
  !s.held q && ((match (s.part q).swapAt with | some b => decide (b ≤ s.beatN) | none => false) ||
    s.rcv.faults.any fun f => decide (f.rung = 3 ∧ f.unit = q ∧ f.beat < s.beatN))

/-- The live period of a contributor's program is dropped at a boundary that has come: its deadline, a PEER_DOWN presented there, or,
for a cell that still contributes, a context rung (R126, R359, R363; a rung is no drop for a cell that has sealed: log entry 65). -/
def State.dropsNow (s : State) (mb : Member) : Bool :=
  let p := partOf mb.cell
  let x := (s.cell mb.cell).prog
  decide ((s.prog p x).begun = mb.per) &&
  ((mb.active && s.rcv.faults.any fun f => decide (f.rung = 1 ∧ f.unit = 1024 * p + x ∧ f.beat < s.beatN)) ||
    (match s.manOf p, (s.prog p x).start with
     | some m, some b => (match m.prog? x with
       | some d =>
         (decide (b + d.deadline ≤ s.beatN) && m.cells.any fun c => decide (c.prog = x) && !(s.cell (10240 * p + c.cell)).done) ||
         s.circs.any fun k => decide (k.type = 2 ∧ k.effect ≤ s.beatN ∧ k.src % 32 ≠ p) && bit d.depends (k.src % 32)
       | none => false)
     | _, _ => false))

/-- The first held letter whose target partition satisfies f. -/
def Env.targetIn (e : Env) (f : Nat → Bool) : Option Letter :=
  e.held.find? fun l => match (target l.hdr.addr.toNat).part? with | some q => f q | none => false

/-- The status and parameter of an abort once the causes settled at the present boundary are ranked (R103): a target's reset, then a
home's or contributor's reset or drop, then the cause that is acted on. -/
def State.rankAbort (s : State) (p : Nat) (e : Env) (status x : Nat) : Nat × Nat :=
  match e.targetIn s.resetsNow with
  | some l => (3, l.hdr.addr.toNat)
  | none =>
    if status ≠ 3 ∧ (s.resetsNow p || e.members.any fun m => s.resetsNow (partOf m.cell) || s.dropsNow m) then (2, 0)
    else (status, x)

/-- An abort cause of Table 4-2 (R102 to R105): an OPEN or SEALED envelope that is in no commit vector becomes
ABORTED, its letters and entries are freed and the outcome words written. Later causes change nothing. -/
def State.abortEnv (s : State) (p sl status : Nat) (x : Nat := 0) : State :=
  let e := s.env p sl
  if (e.st = .open ∨ e.st = .sealed) ∧ e.vec = none then
    let h := handleOf p sl e.gen
    let r := s.rankAbort p e status x
    let status := r.1
    let s := s.abortNote p h status e r.2
    let s := s.wr (0x300200 + 8 * p) (BitVec.ofNat 32 (status + 65536 * h))
    let s := s.wr (0x300204 + 8 * p) (BitVec.ofNat 32 s.beatLo)
    let s := s.outcome e h status
    s.putEnv p sl (Env.settle { e with st := .aborted, held := [], blocks := [], status := status })
  else s

/-- The contribution of a cell to the envelope of a handle ends. -/
def State.endMember (s : State) (n h : Nat) : State :=
  match s.handleEnv h with
  | some e => s.putEnv (hPart h) (hSlot h)
      (Env.settle { e with members := e.members.map (fun (m : Member) => if m.cell = n then { m with active := false } else m) })
  | none => s

/-- A cell is stopped by a fault, a rung, a reset or its deadline: its envelope aborts DISCARDED and its
contribution ends (R85, R102). -/
def State.dropContext (s : State) (n : Nat) : State :=
  let c := s.cell n
  match c.ctx with
  | .none => s
  | .void _ => s.setCell n { c with ctx := .none }
  | .member h =>
    let s := (s.abortEnv (hPart h.toNat) (hSlot h.toNat) 2).endMember n h.toNat
    s.setCell n { s.cell n with ctx := .none }

/-- Every envelope that a cell satisfying f ever contributed to, and whose home satisfies g, aborts (Table 4-2). -/
def State.abortWhere (s : State) (status : Nat) (g : Nat → Bool) (f : Nat → Bool) : State :=
  (s.envs.within 0 2048).foldl (fun s e =>
    if g (e.1 / 64) || e.2.members.any (fun m => f m.cell) then s.abortEnv (e.1 / 64) (e.1 % 64) status else s) s

/-! ### Opening, joining, sealing (R87 to R91) -/

/-- The lowest FREE slot of a partition. -/
def State.freeSlot (s : State) (p : Nat) : Option Nat := (List.range 64).find? fun i => decide ((s.env p i).st = .free)

/-- ENV_OPEN, issued in a beat, at the home (R87 to R89): the state after it, and the result word. -/
def State.openEnvelope (s : State) (n beat : Nat) (decl off : Word) : State × Word :=
  let p := partOf n
  let size := fld decl 0 13
  let reserved := fld decl 13 3 ≠ 0 ∨ fld decl 30 2 ≠ 0
  let dl := fld decl 22 8
  let c := s.cell n
  let void (st : Nat) (s : State) : State × Word :=
    (s.setCell n { s.cell n with ctx := .void (BitVec.ofNat 16 st) }, BitVec.ofNat 32 (st + 0xFFFF0000))
  if reserved then void 0x30 s
  else if size > s.bufSize p then
    void 0x10 ((s.bump 0x300404).ev 0x0201 (0xFFFF + 0x100000) (size + 65536 * s.bufSize p) p)
  else match s.freeSlot p with
    | none => void 0x22 s
    | some sl =>
      if size + s.bufUsed p > s.bufSize p then void 0x22 s
      else
        let gen := ((s.env p sl).gen + 1) % 31
        let h := handleOf p sl gen
        let period := match s.manOf p with
          | some m => (match m.prog? c.prog with | some d => d.deadline | none => 0)
          | none => 0
        let d := if dl > 0 then beat + dl else (s.prog p c.prog).last + period
        let e : Env := { st := .open, gen := gen, size := size, expect := fld decl 16 6 + 1, deadline := d,
                         members := [{ cell := n, off := BitVec.ofNat 11 ((off.toNat % 2048) / 4 * 4), per := (s.prog p c.prog).begun }] }
        let s := s.putEnv p sl e
        (s.setCell n { s.cell n with ctx := .member (BitVec.ofNat 16 h) }, BitVec.ofNat 32 (65536 * h))

/-- ENV_JOIN at the home (R90). A join that fails answers the handle asked for beside its status (the spec gives the status alone: log
entry 59). -/
def State.joinEnvelope (s : State) (n h : Nat) (off : Word) : State × Word :=
  let w (st : Nat) : Word := BitVec.ofNat 32 (st + 65536 * h)
  match s.handleEnv h with
  | none => (s, w 0x30)
  | some e =>
    if e.st = .aborted then (s, w e.status)
    else if e.st = .actuating then (s, w 0x30)
    else if e.members.length ≥ e.expect then (s, w 0x22)
    else
      let s := s.putEnv (hPart h) (hSlot h)
        { e with members := e.members ++ [{ cell := n, off := BitVec.ofNat 11 ((off.toNat % 2048) / 4 * 4)
                                            per := (s.prog (partOf n) (s.cell n).prog).begun }] }
      (s.setCell n { s.cell n with ctx := .member (BitVec.ofNat 16 h) }, w 0)

/-- Seals are registered where every letter is acknowledged; with the last one the envelope is SEALED, at the latest cycle of a seal or
acknowledgement of its contributors (R97). -/
def Env.register (e : Env) : Env :=
  let ms := e.members.map fun m => if m.sealing && decide (m.acked = m.sent) then { m with registered := true } else m
  let e := { e with members := ms }
  if e.st = .open ∧ (ms.filter (·.registered)).length ≥ e.expect then
    { e with st := .sealed, sealedAt := (ms.filter (·.registered)).foldl (fun t m => max t m.last) 0 }
  else e

/-- The members with the cell's active membership changed. -/
def updMember (n : Nat) (f : Member → Member) (ms : List Member) : List Member :=
  ms.map fun m => if m.cell = n && m.active then f m else m

/-- ENV_SEAL of a contributor, issued at cycle t (R91, R97): the state and the result status. -/
def State.sealEnvelope (s : State) (n h t : Nat) : State × Nat :=
  match s.handleEnv h with
  | none => (s, 0x30)
  | some e =>
    if e.st = .aborted then (s.endMember n h, e.status)
    else
      let e := { e with members := updMember n (fun m => { m with active := false, sealing := true, last := max m.last t }) e.members }
      (s.putEnv (hPart h) (hSlot h) e.register, 0x01)

/-- ENV_ABORT of a contributor (R91). -/
def State.abortEnvelope (s : State) (n h : Nat) : State × Nat :=
  match s.handleEnv h with
  | none => (s, 0x30)
  | some e =>
    if e.st = .aborted then (s.endMember n h, e.status)
    else ((s.abortEnv (hPart h) (hSlot h) 2).endMember n h, 0)

/-! ### Hold stores and the home (R93 to R97, R106) -/

/-- The hold store of a letter (R95): one per cluster router, for its cells and shared memory, and one per engine attachment: each loop
engine, the stage controller, the monitor controller, the ledger engine, the host interface. -/
def storeOf (a : Nat) : Nat :=
  match target a with
  | .setpoint k _ => 1024 + k / 8
  | .loopStatus k _ => 1024 + k / 8
  | .actuator .. => 1088
  | .balance .. => 1089
  | .request _ => 1090
  | .estimate _ => 1090
  | .publication _ => 1091
  | _ => a / 68719476736 % 1024

/-- Letters held in a store. -/
def State.heldIn (s : State) (k : Nat) : Nat :=
  (s.envs.map fun e => (e.2.held.filter fun l => decide (storeOf l.hdr.addr.toNat = k)).length).sum

/-- What the hold store finds of a letter: the doom's status (R94). -/
def State.holdDoom (s : State) (l : Letter) : Option Nat :=
  let t := target l.hdr.addr.toNat
  if t.isWindow then none
  else if t = .nothing then some 0x30
  else if (match t.part? with | some p => s.held p | none => false) then some 0x03
  else if s.namesNothing t l.hdr.sender then some 0x30
  else none

/-- Kinds of target an envelope letter may have (R94). -/
def envKind (a : Nat) : Bool :=
  match target a with
  | .cell _ off => decide (off < 0x800)
  | .shared .. | .setpoint .. | .actuator .. | .publication .. => true
  | _ => false

/-- The setpoint window of a loop (R176). -/
def setpointAddr (loop : Nat) : Nat :=
  211106232532992 + loop / 16 * 2199023255552 + (if loop / 8 % 2 = 0 then 0 else 19) * 68719476736
    + 0x4800000 + 64 * (loop % 8)

/-- The loop number of a LOOP_BIND entry. -/
def loopNo (b : Bytes) : Nat := 8 * (byteAt b 0).toNat + (byteAt b 1).toNat

/-- The home's manifest owns the range (R94, R117). -/
def State.owns (s : State) (p a len : Nat) : Bool :=
  (match target a with
   | .cell n _ => decide (partOf n = p)
   | .shared cl _ => decide (cl / 20 = p)
   | _ => false) ||
  (match s.manOf p with
   | none => false
   | some m =>
     m.owns.any (fun r => decide (r.1 ≤ a ∧ a + len ≤ r.1 + r.2)) ||
     m.loops.any (fun b => decide (setpointAddr (loopNo b) ≤ a ∧ a + len ≤ setpointAddr (loopNo b) + 64)))

/-- The actuator byte range of a board's letter touches DUTY_OL of a phase that a loop drives (R106). -/
def State.boundDuty (s : State) (board off len : Nat) : Bool :=
  s.parts.any fun e => match e.2.man with
    | none => false
    | some m => m.loops.any fun b =>
        decide ((byteAt b 12).toNat = 0 ∧ (byteAt b 13).toNat = board) &&
        (List.range 4).any fun j => bit (byteAt b 14).toNat j && decide (off < 6 + 2 * j ∧ 4 + 2 * j < off + len)

/-- What the home finds of an acknowledged letter: a doom (R94, R106). -/
def State.homeDoom (s : State) (p : Nat) (e : Env) (l : Letter) : Option Nat :=
  let a := l.hdr.addr.toNat
  if !envKind a || !s.owns p a l.len then some 0x30
  else match target a with
    | .actuator k off => if e.actuator = some false || s.boundDuty k off l.len then some 0x30 else none
    | _ => if e.actuator = some true then some 0x30 else none

/-- HOLD_STORE_ARRIVAL (R94, R95): the first envelope letter in flight whose hold store has room and that is behind no other reaches it;
it is held unless a check fails, and the acknowledgement leaves for the home. A letter of an envelope that has
ended is freed. -/
def State.holdArrival (s : State) : State :=
  match s.net.find? (fun l => l.env.isSome && decide (s.heldIn (storeOf l.hdr.addr.toNat) < 1024) && !s.blocked l) with
  | none => s
  | some l =>
    let s := State.boundCheck { s with net := s.net.erase l } l
    match l.env with
    | none => s
    | some hb =>
      let h := hb.toNat
      match s.handleEnv h with
      | none => s
      | some e =>
        if e.st = .open ∨ e.st = .sealed then
          match s.holdDoom l with
          | some d => { s with acks := s.acks ++ [{ letter := l, doom := some d }] }
          | none =>
            { s.setEnv (hPart h) (hSlot h) { e with held := e.held ++ [l] } with
              acks := s.acks ++ [{ letter := l }] }
        else s

/-- HOLD_ACKNOWLEDGEMENT (R94 to R97, R106): the home records the first acknowledgement that waits. -/
def State.holdAck (s : State) : State :=
  match s.acks with
  | [] => s
  | k :: r =>
    let s := { s with acks := r }
    let l := k.letter
    match l.env with
    | none => s
    | some hb =>
      let h := hb.toNat
      let p := hPart h
      match s.handleEnv h with
      | none => s
      | some e =>
        if e.st = .open ∨ e.st = .sealed then
          match (k.doom <|> s.homeDoom p e l) with
          | some d => s.abortEnv p (hSlot h) d l.hdr.addr.toNat
          | none =>
            if (e.size > 0 ∧ e.blocks.length ≥ e.size) ∨ (e.size = 0 ∧ s.bufUsed p ≥ s.bufSize p) then
              s.abortEnv p (hSlot h) 0x10
            else
              let n := match l.hdr.sender with | .cell k => cellNo k | .unit _ => 0
              let i := e.members.findIdx fun m => decide (m.cell = n ∧ m.acked < m.sent)
              let ms := e.members.mapIdx fun j m => if j = i then { m with acked := m.acked + 1, last := max m.last s.now } else m
              let act := match e.actuator with
                | some b => some b
                | none => (match target l.hdr.addr.toNat with | .actuator .. => some true | _ => some false)
              s.putEnv p (hSlot h)
                (Env.register { e with members := ms, blocks := e.blocks ++ [l.hdr.addr.toNat / 64], actuator := act })
        else s

/-- HOLD_STORE_ARRIVAL (R94). -/
def execHoldStoreArrival (s : State) : Res := .next s.holdArrival

/-- HOLD_ACKNOWLEDGEMENT (R94). -/
def execHoldAcknowledgement (s : State) : Res := .next s.holdAck

/-- ENV_LATE (R101): an envelope not in the commit vector published in beat D − 1 aborts at boundary D. -/
def execEnvLate (p : Fin 32) (slot : Fin 64) (s : State) : Res :=
  let e := s.env p.val slot.val
  .next (if (e.st = .open ∨ e.st = .sealed) ∧ e.deadline ≤ s.beatN ∧ e.vec = none then s.abortEnv p.val slot.val 0x12 else s)

/-! ### The commit vector (R98, R100, R110) -/

/-- The boards an actuator envelope addresses. -/
def Env.boardMask (e : Env) : Nat :=
  e.held.foldl (fun m l => match target l.hdr.addr.toNat with | .actuator k _ => setBit m k true | _ => m) 0

/-- Boards of internal sets (R202) that are not yet past C + 3 at boundary c. -/
def State.setBoards (s : State) (c : Nat) : Nat :=
  s.stg.acts.foldl (fun m a => if ¬ a.env ∧ c < a.c + 3 then a.sets.foldl (fun m e => setBit m e.1 true) m else m) 0

/-- Boards addressed by internal sets, by envelopes that are actuating, or set for the coming boundary c, and not yet past C + 3. -/
def State.busyBoards (s : State) (c : Nat) : Nat :=
  s.setBoards c ||| s.envs.foldl (fun m e =>
    if (e.2.st = .actuating ∧ c < e.2.commitAt + 3) ∨ (e.2.vec = some c ∧ e.2.actuator = some true)
    then m ||| (if e.2.st = .actuating then e.2.boards else e.2.boardMask) else m) 0

/-- Sealed envelopes of all homes that may be set for boundary c, earliest last seal first, then partition and slot. -/
def State.candidates (s : State) (c : Nat) : List Nat :=
  let l := (s.envs.within 0 2048).filter fun e => decide (e.2.st = .sealed ∧ e.2.vec = none ∧ e.2.sealedAt < (c - 1) * 1250 + 750)
  let key (e : Nat × Env) : Nat := e.2.sealedAt * 4096 + e.1
  (l.foldl (fun acc e => (acc.filter fun x => decide (key x < key e)) ++ [e] ++ (acc.filter fun x => decide (key e ≤ key x))) []).map (·.1)

/-- One candidate joins the vector unless an envelope of its home already in it holds one of its blocks (R100),
or it addresses a board still actuating (R110). -/
def State.vote (c : Nat) (s : State) (k : Nat) : State :=
  let e := s.env (k / 64) (k % 64)
  let clash := s.envs.any fun f => decide (f.1 / 64 = k / 64 ∧ f.1 ≠ k ∧ f.2.vec = some c) && f.2.blocks.any (e.blocks.contains ·)
  if clash then s
  else if e.actuator = some true ∧ e.boardMask &&& s.busyBoards c ≠ 0 then s.bump 0x30041C
  else s.setEnv (k / 64) (k % 64) { e with vec := some c }

/-- COMMIT_VECTOR (R98): at cycle 750 each home publishes its vector for the coming boundary. -/
def execCommitVector (s : State) : Res :=
  .next (if s.cycle ≥ 750 then (s.candidates (s.beatN + 1)).foldl (State.vote (s.beatN + 1)) s else s)

/-- ENV_RESULT_WORD (R89, R90, R92): the result word of ENV_OPEN or ENV_JOIN reaches gd and the cell goes on. -/
def execEnvResultWord (k : CellId) (s : State) : Res :=
  let n := cellNo k
  let c := s.cell n
  .next (match c.result with
    | none => s
    | some (d, w) =>
      s.setCell n { c with result := none, next := max c.next s.now, work := c.work.setReg d w })

end Sys2Proof.Machine
end

