-- ==== Sys2Proof/Machine/Cell.lean ====
section
/-! DEFINITION. What every instruction of a cell shares: when it may execute, its charge and stalls (R84, R120), the
throttle hold (R284), cell faults (R85), and the step past it. -/

namespace Sys2Proof.Machine

open Sys2Proof.Bits

/-- What an instruction's own effect is: it completes and the PC moves on, it completes at a later cycle, it jumps, it faults, or it does not
issue (the state it leaves). The fault carries reason, parameters 0 and 1 overriding, and its event. -/
inductive Eff where
  | done (s : State)
  | late (s : State) (t : Nat)
  | jump (s : State) (tgt : BitVec 8)
  | fault (reason : Nat) (x : Nat)
  | stop (s : State)

/-- The reason codes of Table 3-5. -/
def memRange : Nat := 1
def memAlign : Nat := 2
def memUncorrectable : Nat := 3
def letterForm : Nat := 4
def pcRange : Nat := 5
def envSequence : Nat := 6

/-- A cell fault (R85, Table 3-5): the cell stops, its event is written, its envelope aborts and the context is
named. x is parameter 1 of event 0x0106, or the fabric address of event 0x0103. -/
def State.cellFault (s : State) (n reason x idx : Nat) : State :=
  let c := s.cell n
  let p := partOf n
  let s :=
    if reason = 4 then s.raise 0x0106 (cellParam n) x idx s.beatLo p
    else if reason = 3 then s.raise 0x0103 (x % 4294967296) (x / 4294967296) 0xFFFFFFFF s.beatLo p
    else s.raise 0x0107 (cellParam n) reason idx s.beatLo p
  let s := (s.setCell n { c with run := 3 }).dropContext n
  let s := s.restless (clusterOf n)
  s.nameFault (cellWord0 n c.prog 0) ((s.prog p c.prog).begun % 4294967296) reason idx 1 (1024 * p + c.prog) p
    (some (clusterOf n))

/-- The cycle budget B of a cell's program (Table 5-4). -/
def State.budget (s : State) (n : Nat) : Nat :=
  match s.manOf (partOf n) with
  | none => 0
  | some m => match m.prog? (s.cell n).prog with
    | some d => d.budget
    | none => 0

/-- The MAC issue class of a cell's program (Table 5-4). -/
def State.macClass (s : State) (n : Nat) : Nat :=
  match s.manOf (partOf n) with
  | none => 0
  | some m => match m.prog? (s.cell n).prog with
    | some d => d.cls
    | none => 0

/-- DUTY of a class: open issue cycles of each 16 (R284); MPW_ALLOW holds 0 for 16. -/
def State.duty (s : State) (cls : Nat) : Nat :=
  let d := match cls with
    | 0 => 0
    | 1 => s.f Reg.MPW_ALLOW_DUTY1
    | 2 => s.f Reg.MPW_ALLOW_DUTY2
    | _ => s.f Reg.MPW_ALLOW_DUTY3
  if d = 0 then 16 else d

/-- DUTY of a class at a fabric cycle (R283, R284): from the next boundary on, what the last control step set. -/
def State.dutyAt (s : State) (cls t : Nat) : Nat :=
  match s.mpw.next with
  | some (_, a, b, c) =>
    if t / 1250 ≤ s.beatN ∨ cls = 0 then s.duty cls else if cls = 1 then a else if cls = 2 then b else c
  | none => s.duty cls

/-- The first open issue cycle of a class at or after t (R284); a window's first cycle is always open, so 16 steps find it. -/
def State.openCycle (s : State) (cls t : Nat) : Nat → Nat
  | 0 => t
  | n + 1 => if t % 16 < s.dutyAt cls t then t else State.openCycle s cls (t + 1) n

/-- A MAC issue of a format is counted for the power estimate (R281). -/
def State.macIssue (s : State) (n fmt : Nat) : State :=
  let c := clusterOf n
  let k := 4 * fmt + s.macClass n
  s.setCl c { s.cl c with issues := (s.cl c).issues.put k ((s.cl c).issues.get k 0 + 1) 0 }

/-- A cell may execute: it runs, its cluster's clock runs, its partition is not held, no WAIT or result word is
outstanding. -/
def State.canRun (s : State) (n : Nat) : Bool :=
  let c := s.cell n
  decide (c.run = 1) && decide (s.cstate (clusterOf n) = 2) && !s.held (partOf n) && c.result.isNone && c.waiting.isNone

/-- Past an instruction that issued at cycle t: the charge, the next issue cycle, the PC; a fall through past
the program's last instruction faults (R74), unless the budget is spent (R120). -/
def State.retire (s : State) (n t ch cost : Nat) (tgt : Option (BitVec 8)) : State :=
  let c := s.cell n
  let fell := tgt.isNone && decide (c.pc.toNat + 1 ≥ c.len) && decide (c.run = 1)
  let pc := match tgt with | some x => x | none => c.pc + 1
  let s := s.setCell n { c with charged := c.charged + ch, next := t + cost, pc := pc }
  let k := clusterOf n
  let s := s.setCl k { s.cl k with instr := satAdd 64 (s.cl k).instr 1 }
  if fell then
    if c.charged + ch ≥ s.budget n then
      (s.setCell n { s.cell n with run := 3, overrun := true }).restless k
    else s.cellFault n pcRange 0 (c.pc.toNat + 1)
  else s

/-- How an instruction issued at cycle t in state s ends (R74, R84, R85): it retires, faults, or has not issued. -/
def Eff.finish (e : Eff) (s : State) (n t ch cost : Nat) : State :=
  match e with
  | .done s' => s'.retire n t ch cost none
  | .late s' t' => s'.retire n t' ch cost none
  | .jump s' tgt => s'.retire n t ch cost (some tgt)
  | .fault r x => s.cellFault n r x (s.cell n).pc.toNat
  | .stop s' => s'

/-- The stall of an instruction at issue cycle t0 (R84): a register just loaded that it reads, an accumulator not ready. A load into g0
makes no later read of g0 wait (Table 3-3 states no exception, and g0 reads 0 whatever is loaded: DESIGN CHOICE, log entry 67). -/
def Cell.stallAt (c : Cell) (reads : List (BitVec 4)) (acc : Option Bool) (t0 : Nat) : Nat :=
  let load := match c.lastLoad with
    | some d => ofBool (d != 0 && reads.contains d)
    | none => 0
  let ready := match acc with
    | some true => c.ready1
    | some false => c.ready0
    | none => 0
  max load (ready - t0)

/-- The state in which an instruction of issue cycle t has its effect: no register is just loaded any more; a MAC instruction has
counted, with the cycles it was held since t1 (R284, Table 19-3). -/
def State.issueState (s : State) (n : Nat) (mac : Bool) (t1 t : Nat) : State :=
  let s := s.setCell n { s.cell n with lastLoad := none }
  let v := s.cl (clusterOf n)
  if mac then
    s.setCl (clusterOf n) { v with
      hold := if t > t1 then satAdd 64 v.hold (t - t1) else v.hold
      mac := satAdd 64 v.mac 1 }
  else s

/-- One instruction: stalls of R84 (a register just loaded, an accumulator not ready), the throttle hold of a
MAC instruction (R284), the budget stop (R120), then the effect. -/
def State.instr (s : State) (k : CellId) (reads : List (BitVec 4)) (acc : Option Bool) (mac : Bool)
    (charge : Cell → Nat) (cost : Cell → Nat) (body : State → Nat → Eff) : State :=
  let n := cellNo k
  let c := s.cell n
  if !s.canRun n then s
  else
    let t0 := max c.next s.now
    let stall := c.stallAt reads acc t0
    let ch := stall + charge c
    if c.charged + ch > s.budget n then
      (s.setCell n { c with run := 3, overrun := true }).restless (clusterOf n)
    else
      let t1 := t0 + stall
      let t := if mac then s.openCycle (s.macClass n) t1 16 else t1
      let s := s.issueState n mac t1 t
      (body s t).finish s n t ch (cost c)

/-- The working registers of a cell change. -/
def State.setWork (s : State) (n : Nat) (w : Work) : State := s.setCell n { s.cell n with work := w }

/-- An instruction that only changes the working registers, of one cycle. -/
def State.alu (s : State) (k : CellId) (reads : List (BitVec 4)) (cost : Nat) (f : Work → Work) : State :=
  s.instr k reads none false (fun _ => cost) (fun _ => cost) fun s _ =>
    .done (s.setWork (cellNo k) (f (s.cell (cellNo k)).work))

/-- An instruction gd ← f a b. -/
def State.alu2 (s : State) (k : CellId) (d a b : BitVec 4) (cost : Nat) (f : Word → Word → Word) : State :=
  s.alu k [a, b] cost fun w => w.setReg d (f (w.reg a) (w.reg b))

/-- An instruction gd ← f a. -/
def State.alu1 (s : State) (k : CellId) (d a : BitVec 4) (f : Word → Word) : State :=
  s.alu k [a] 1 fun w => w.setReg d (f (w.reg a))

/-! ### Integer instructions (Table 3-3) -/

/-- NOP (R73). -/
def execNop (k : CellId) (s : State) : Res := .next (s.alu k [] 1 id)

/-- ADD (R73): C is the carry out of bit 31. -/
def execAdd (k : CellId) (d a b : BitVec 4) (s : State) : Res :=
  .next (s.alu k [a, b] 1 fun w => (w.setReg d (w.reg a + w.reg b)).setC (carryOut (w.reg a) (w.reg b) 0))

/-- SUB (R73): C is 1 if a < b unsigned. -/
def execSub (k : CellId) (d a b : BitVec 4) (s : State) : Res :=
  .next (s.alu k [a, b] 1 fun w => (w.setReg d (w.reg a - w.reg b)).setC (borrowOut (w.reg a) (w.reg b) 0))

/-- ADDC (R73). -/
def execAddc (k : CellId) (d a b : BitVec 4) (s : State) : Res :=
  .next (s.alu k [a, b] 1 fun w =>
    (w.setReg d (w.reg a + w.reg b + BitVec.ofNat 32 w.carry)).setC (carryOut (w.reg a) (w.reg b) w.carry))

/-- SUBB (R73). -/
def execSubb (k : CellId) (d a b : BitVec 4) (s : State) : Res :=
  .next (s.alu k [a, b] 1 fun w =>
    (w.setReg d (w.reg a - w.reg b - BitVec.ofNat 32 w.carry)).setC (borrowOut (w.reg a) (w.reg b) w.carry))

/-- AND, OR, XOR (R73). -/
def execAnd (k : CellId) (d a b : BitVec 4) (s : State) : Res := .next (s.alu2 k d a b 1 (· &&& ·))
def execOr (k : CellId) (d a b : BitVec 4) (s : State) : Res := .next (s.alu2 k d a b 1 (· ||| ·))
def execXor (k : CellId) (d a b : BitVec 4) (s : State) : Res := .next (s.alu2 k d a b 1 (· ^^^ ·))

/-- SHL, SHR, SRA by b[4:0] (R73). -/
def execShl (k : CellId) (d a b : BitVec 4) (s : State) : Res := .next (s.alu2 k d a b 1 fun x y => x <<< (y.toNat % 32))
def execShr (k : CellId) (d a b : BitVec 4) (s : State) : Res := .next (s.alu2 k d a b 1 fun x y => x >>> (y.toNat % 32))
def execSra (k : CellId) (d a b : BitVec 4) (s : State) : Res :=
  .next (s.alu2 k d a b 1 fun x y => x.sshiftRight (y.toNat % 32))

/-- MUL (R73): 2 cycles. -/
def execMul (k : CellId) (d a b : BitVec 4) (s : State) : Res := .next (s.alu2 k d a b 2 (· * ·))

/-- SLT, SLTU (R73). -/
def execSlt (k : CellId) (d a b : BitVec 4) (s : State) : Res :=
  .next (s.alu2 k d a b 1 fun x y => BitVec.ofNat 32 (ofBool (x.slt y)))
def execSltu (k : CellId) (d a b : BitVec 4) (s : State) : Res :=
  .next (s.alu2 k d a b 1 fun x y => BitVec.ofNat 32 (ofBool (x.ult y)))

/-- QADD, QSUB (R73, R76): signed halves, saturated to 16 bits, QSAT on saturation. -/
def execQadd (k : CellId) (d a b : BitVec 4) (s : State) : Res :=
  .next (s.alu k [a, b] 1 fun w =>
    let v := half (w.reg a) false + half (w.reg b) false
    (w.setReg d (BitVec.ofInt 32 (sat16 v))).orQsat (decide (sat16 v ≠ v)))
def execQsub (k : CellId) (d a b : BitVec 4) (s : State) : Res :=
  .next (s.alu k [a, b] 1 fun w =>
    let v := half (w.reg a) false - half (w.reg b) false
    (w.setReg d (BitVec.ofInt 32 (sat16 v))).orQsat (decide (sat16 v ≠ v)))

/-- ADDI, ANDI, ORI, XORI, LUI (R73). -/
def execAddi (k : CellId) (d a : BitVec 4) (imm : BitVec 16) (s : State) : Res :=
  .next (s.alu1 k d a (· + imm.signExtend 32))
def execAndi (k : CellId) (d a : BitVec 4) (imm : BitVec 16) (s : State) : Res :=
  .next (s.alu1 k d a (· &&& imm.zeroExtend 32))
def execOri (k : CellId) (d a : BitVec 4) (imm : BitVec 16) (s : State) : Res :=
  .next (s.alu1 k d a (· ||| imm.zeroExtend 32))
def execXori (k : CellId) (d a : BitVec 4) (imm : BitVec 16) (s : State) : Res :=
  .next (s.alu1 k d a (· ^^^ imm.zeroExtend 32))
def execLui (k : CellId) (d : BitVec 4) (imm : BitVec 16) (s : State) : Res :=
  .next (s.alu k [] 1 fun w => w.setReg d (imm.zeroExtend 32 <<< 16))

/-- SHLI, SHRI, SRAI (R73). -/
def execShli (k : CellId) (d a : BitVec 4) (sh : BitVec 5) (s : State) : Res := .next (s.alu1 k d a (· <<< sh.toNat))
def execShri (k : CellId) (d a : BitVec 4) (sh : BitVec 5) (s : State) : Res := .next (s.alu1 k d a (· >>> sh.toNat))
def execSrai (k : CellId) (d a : BitVec 4) (sh : BitVec 5) (s : State) : Res :=
  .next (s.alu1 k d a fun x => x.sshiftRight sh.toNat)

/-- SYS (R73, Table 3-4). A reserved selector never executes: no manifest load accepts it (R72). -/
def execSys (k : CellId) (d : BitVec 4) (sel : BitVec 4) (s : State) : Res :=
  let n := cellNo k
  .next (if sel.toNat > 4 then s else
    s.instr k [] none false (fun _ => 1) (fun _ => 1) fun s t =>
      let w := (s.cell n).work
      let v := match sel.toNat with
        | 0 => cellIdent n
        | 1 => (s.prog (partOf n) (s.cell n).prog).begun
        | 2 => t - 1250 * (s.prog (partOf n) (s.cell n).prog).last
        | 3 => t / 1250
        | _ => w.flags.toNat
      let w := if sel.toNat = 4 then w.clearSticky else w
      .done (s.setWork n (w.setReg d (BitVec.ofNat 32 v))))

/-! ### Loads and stores (R35, R74, R84) -/

/-- A load of w bytes (R74): the range, the alignment, the ECC outcome, then gd. -/
def State.load (s : State) (k : CellId) (d a : BitVec 4) (imm : BitVec 16) (ecc : Ecc) (w : Nat) (ext : Nat → Int) : State :=
  let n := cellNo k
  s.instr k [a] none false (fun _ => 1) (fun _ => 1) fun s _ =>
    let c := s.cell n
    let ea := localAddr (c.work.reg a) imm
    if ea > 0x7FF then .fault memRange memRange
    else if ea % w ≠ 0 then .fault memAlign memAlign
    else match ecc with
      | .uncorrectable => .fault memUncorrectable (cellAddr n ea)
      | _ =>
        let s := if ecc = .corrected then s.eccCorrected (.cell n ea) else s
        let v := le (s.rdMem (cellAddr n ea) w) 0 w
        .done (s.setCell n { c with work := c.work.setReg d (BitVec.ofInt 32 (ext v)), lastLoad := some d })

/-- LDW, LDH, LDHU, LDB. -/
def execLdw (k : CellId) (d a : BitVec 4) (imm : BitVec 16) (ecc : Ecc) (s : State) : Res :=
  .next (s.load k d a imm ecc 4 fun v => v)
def execLdh (k : CellId) (d a : BitVec 4) (imm : BitVec 16) (ecc : Ecc) (s : State) : Res :=
  .next (s.load k d a imm ecc 2 (sint 16))
def execLdhu (k : CellId) (d a : BitVec 4) (imm : BitVec 16) (ecc : Ecc) (s : State) : Res :=
  .next (s.load k d a imm ecc 2 fun v => v)
def execLdb (k : CellId) (d a : BitVec 4) (imm : BitVec 16) (ecc : Ecc) (s : State) : Res :=
  .next (s.load k d a imm ecc 1 (sint 8))

/-- A store of w bytes reaches WORK alone (R67, R74); it is noted for a letter of the same cycle (R48). -/
def State.store (s : State) (k : CellId) (d a : BitVec 4) (imm : BitVec 16) (w : Nat) : State :=
  let n := cellNo k
  s.instr k [a, d] none false (fun _ => 1) (fun _ => 1) fun s t =>
    let c := s.cell n
    let ea := localAddr (c.work.reg a) imm
    let b := toLe w (c.work.reg d).toNat
    if ea > 0x7FF then .fault memRange memRange
    else if ea % w ≠ 0 then .fault memAlign memAlign
    else .done ((s.wrMem (cellAddr n ea) b).setCell n { c with stored := some (t, ea, s.rdMem (cellAddr n ea) w, b) })

/-- STW, STH, STB. -/
def execStw (k : CellId) (d a : BitVec 4) (imm : BitVec 16) (s : State) : Res := .next (s.store k d a imm 4)
def execSth (k : CellId) (d a : BitVec 4) (imm : BitVec 16) (s : State) : Res := .next (s.store k d a imm 2)
def execStb (k : CellId) (d a : BitVec 4) (imm : BitVec 16) (s : State) : Res := .next (s.store k d a imm 1)

/-! ### Accumulators (R75 to R78, R84) -/

/-- A MAC instruction: it waits for an open issue cycle and the accumulator is ready 3 cycles after it. -/
def State.macOp (s : State) (fmt : Nat) (k : CellId) (a b : BitVec 4) (n : Bool) (f : Work → Acc × Bool) : State :=
  let c := cellNo k
  s.instr k [a, b] none true (fun _ => 1) (fun _ => 1) fun s t =>
    let v := s.cell c
    let r := f v.work
    let v := { v with work := (v.work.setAcc n r.1).orAsat r.2 }
    .done ((s.setCell c (if n then { v with ready1 := t + 3 } else { v with ready0 := t + 3 })).macIssue c fmt)

/-- MACQ, MSUQ (R75). -/
def execMacq (k : CellId) (a b : BitVec 4) (n ha hb : Bool) (s : State) : Res :=
  .next (s.macOp 0 k a b n fun w => macq (w.acc n) (half (w.reg a) ha) (half (w.reg b) hb) false)
def execMsuq (k : CellId) (a b : BitVec 4) (n ha hb : Bool) (s : State) : Res :=
  .next (s.macOp 0 k a b n fun w => macq (w.acc n) (half (w.reg a) ha) (half (w.reg b) hb) true)

/-- MACB8, MACB4 (R78). -/
def execMacb8 (k : CellId) (a b : BitVec 4) (n : Bool) (s : State) : Res :=
  .next (s.macOp 1 k a b n fun w => macb (w.acc n) (laneSum 8 (w.reg a) (w.reg b) 4) (w.exa.toInt + w.exb.toInt))
def execMacb4 (k : CellId) (a b : BitVec 4) (n : Bool) (s : State) : Res :=
  .next (s.macOp 2 k a b n fun w => macb (w.acc n) (laneSum 4 (w.reg a) (w.reg b) 8) (w.exa.toInt + w.exb.toInt))

/-- An instruction that writes an accumulator and is no MAC (CLRA, SETA). -/
def State.accOp (s : State) (k : CellId) (reads : List (BitVec 4)) (n : Bool) (f : Work → Acc) : State :=
  let c := cellNo k
  s.instr k reads none false (fun _ => 1) (fun _ => 1) fun s t =>
    let v := s.cell c
    let v := { v with work := v.work.setAcc n (f v.work) }
    .done (s.setCell c (if n then { v with ready1 := t + 3 } else { v with ready0 := t + 3 }))

/-- CLRA (R73). -/
def execClra (k : CellId) (n : Bool) (s : State) : Res := .next (s.accOp k [] n fun _ => {})

/-- SETA (R73). -/
def execSeta (k : CellId) (a : BitVec 4) (n : Bool) (part : BitVec 2) (s : State) : Res :=
  .next (s.accOp k [a] n fun w => (w.acc n).setPart part (w.reg a))

/-- An instruction that reads an accumulator into gd. -/
def State.fromAcc (s : State) (k : CellId) (d : BitVec 4) (n : Bool) (f : Acc → Word × Bool) : State :=
  s.instr k [] (some n) false (fun _ => 1) (fun _ => 1) fun s _ =>
    let w := (s.cell (cellNo k)).work
    let r := f (w.acc n)
    .done (s.setWork (cellNo k) ((w.setReg d r.1).orQsat r.2))

/-- EXTQ, EXTB (R76), GETA (R73). -/
def execExtq (k : CellId) (d : BitVec 4) (n : Bool) (sh : BitVec 5) (s : State) : Res :=
  .next (s.fromAcc k d n fun a =>
    (BitVec.ofInt 32 (ext16 a.v.toInt (sh.toInt - 15)), ext16Sat a.v.toInt (sh.toInt - 15)))
def execExtb (k : CellId) (d : BitVec 4) (n : Bool) (sh : BitVec 5) (s : State) : Res :=
  .next (s.fromAcc k d n fun a =>
    (BitVec.ofInt 32 (ext16 a.v.toInt (a.ex.toInt + 15 + sh.toInt)), ext16Sat a.v.toInt (a.ex.toInt + 15 + sh.toInt)))
def execGeta (k : CellId) (d : BitVec 4) (n : Bool) (part : BitVec 2) (s : State) : Res :=
  .next (s.fromAcc k d n fun a => (a.part part, false))

/-- SETX (R73). -/
def execSetx (k : CellId) (a b : BitVec 4) (s : State) : Res :=
  .next (s.alu k [a, b] 1 fun w => { w with exa := (w.reg a).truncate 8, exb := (w.reg b).truncate 8 })

/-! ### Control flow (R73, R74) -/

/-- The registers that a BR of a condition reads: none on CS and CC (Table 3-4). -/
def brReads (cond : BitVec 3) (a b : BitVec 4) : List (BitVec 4) := if cond.toNat < 6 then [a, b] else []

/-- BR: 1 cycle not taken, 2 taken. -/
def execBr (k : CellId) (a b : BitVec 4) (cond : BitVec 3) (tgt : BitVec 8) (s : State) : Res :=
  let holds (c : Cell) : Bool := brHolds cond (c.work.reg a) (c.work.reg b) c.work.carry
  .next (s.instr k (brReads cond a b) none false (fun c => 1 + ofBool (holds c)) (fun c => 1 + ofBool (holds c)) fun s _ =>
    if holds (s.cell (cellNo k)) then .jump s tgt else .done s)

/-- JAL: gd ← PC + 1, PC ← target. -/
def execJal (k : CellId) (d : BitVec 4) (tgt : BitVec 8) (s : State) : Res :=
  .next (s.instr k [] none false (fun _ => 2) (fun _ => 2) fun s _ =>
    let c := s.cell (cellNo k)
    .jump (s.setWork (cellNo k) (c.work.setReg d (BitVec.ofNat 32 (c.pc.toNat + 1)))) tgt)

/-- JR: a target at or beyond the program's length faults (R74). -/
def execJr (k : CellId) (a : BitVec 4) (s : State) : Res :=
  .next (s.instr k [a] none false (fun _ => 2) (fun _ => 2) fun s _ =>
    let c := s.cell (cellNo k)
    let t := (c.work.reg a).toNat % 256
    if t ≥ c.len then .fault pcRange pcRange else .jump s (BitVec.ofNat 8 t))

/-! ### Letters (R80 to R82, R44, R50, R93, R95) -/

/-- Bytes that a letter takes from the cell: those of LPUT, the operand of an atomic, both values of LCAS (R80). -/
def localBytes (op : LOp) (len : Nat) : Nat := if op = .cas then 2 * len else if op = .get then 0 else len

/-- The account of a letter's deterministic route and the cycle at which it issues, for a letter ready at cycle t (R42, R44). -/
def State.issueOf (s : State) (k : CellId) (x : LArgs) (n t : Nat) : Option (Nat × Nat × RouteRun) :=
  match s.routeOf (partOf (cellNo k)) (.cell k) x.addr with
  | some (i, rate) => some (i, routeIssue (s.routes.get i {}) rate (flitsOf n) t)
  | none => none

/-- The letter of a format L instruction that issues at cycle t (R80). The local bytes it takes at LOFF are read with no error outcome: R35
names a cell's own loads and reading letters (log entry 59). -/
def State.letterOf (s : State) (k : CellId) (f : LFields) (op : LOp) (env : Option (BitVec 16)) (det : Bool) (t : Nat) : Letter :=
  let x := lArgs (s.cell (cellNo k)).work f
  { op := op
    hdr := { sender := .cell k, addr := BitVec.ofNat 48 x.addr, tag := f.tag
             reply := if op != .put || f.reply then .cell k (BitVec.ofNat 11 x.loff) (BitVec.ofNat 11 x.coff) else .none }
    len := x.len, data := s.rdMem (cellAddr (cellNo k) x.loff) (localBytes op x.len), env := env, det := det, issued := t }

/-- The route of a letter ready at cycle t takes its flits, and a letter that issues later counts (R44); the answer is the cycle of
its issue. -/
def State.pace (s : State) (t : Nat) : Option (Nat × Nat × RouteRun) → State × Nat
  | none => (s, t)
  | some (i, t', r) =>
    let s : State := { s with routes := s.routes.put i r {} }
    (if t' > t then s.bump 0x200020 else s, t')

/-- A letter ready at cycle t leaves the cell, and the cell goes on from the cycle of its issue (R44, R80). -/
def State.leave (s : State) (k : CellId) (f : LFields) (op : LOp) (env : Option (BitVec 16)) (t : Nat) : Eff :=
  let n := cellNo k
  let c := s.cell n
  let x := lArgs c.work f
  let issue := s.issueOf k x (localBytes op x.len) t
  let r := s.pace t issue
  let v := s.cl (clusterOf n)
  .late (((r.1.send (s.letterOf k f op env issue.isSome r.2)).setCl (clusterOf n) { v with sent := satAdd 32 v.sent 1 }).setCell n
    { c with outst := c.outst + ofBool (op != .put || f.reply) }) r.2

/-- A format L instruction sends one letter, or faults, or does not issue while 16 replies are outstanding. -/
def State.letterOp (s : State) (k : CellId) (f : LFields) (op : LOp) : State :=
  let n := cellNo k
  let want := op != .put || f.reply
  let ra := BitVec.ofNat 4 (2 * f.aHalf.toNat)
  let s0 := s
  s.instr k ([ra, ra + 1, f.b] ++ if want then [f.c] else []) none false (fun _ => 1) (fun _ => 1) fun s t =>
    let c := s.cell n
    let x := lArgs c.work f
    if f.env && decide (c.ctx = .none) then .fault envSequence envSequence
    else if lBad op x want || (f.env && want) then .fault letterForm (LOp.code op + 16 * x.len)
    else if want && decide (c.outst ≥ 16) then .stop s0
    else if f.env then
      match c.ctx with
      | .member h =>
        (match s.handleEnv h.toNat with
         | some e =>
           if e.st = .open ∨ e.st = .sealed then
             (s.setEnv (hPart h.toNat) (hSlot h.toNat)
               { e with members := updMember n (fun m => { m with sent := m.sent + 1 }) e.members }).leave k f op (some h) t
           else .done s
         | none => .done s)
      | _ => .done s
    else s.leave k f op none t

/-- LPUT, LGET, LADD, LSWAP, LCAS, LMAX, LMIN (R80). -/
def execLput (k : CellId) (f : LFields) (s : State) : Res := .next (s.letterOp k f .put)
def execLget (k : CellId) (f : LFields) (s : State) : Res := .next (s.letterOp k f .get)
def execLadd (k : CellId) (f : LFields) (s : State) : Res := .next (s.letterOp k f .add)
def execLswap (k : CellId) (f : LFields) (s : State) : Res := .next (s.letterOp k f .swap)
def execLcas (k : CellId) (f : LFields) (s : State) : Res := .next (s.letterOp k f .cas)
def execLmax (k : CellId) (f : LFields) (s : State) : Res := .next (s.letterOp k f .max)
def execLmin (k : CellId) (f : LFields) (s : State) : Res := .next (s.letterOp k f .min)

/-! ### Envelopes from a cell (R82, R89 to R92) -/

/-- ENV_OPEN (R89): charged 128 cycles; the cell waits for its result word. -/
def execEnvOpen (k : CellId) (d a b : BitVec 4) (s : State) : Res :=
  let n := cellNo k
  .next (s.instr k [a, b] none false (fun _ => 128) (fun _ => 1) fun s t =>
    let c := s.cell n
    if c.ctx ≠ .none then .fault envSequence envSequence
    else
      let r := s.openEnvelope n (t / 1250) (c.work.reg a) (c.work.reg b)
      .done (r.1.setCell n { r.1.cell n with result := some (d, r.2) }))

/-- ENV_JOIN (R90): charged 512 cycles; the cell waits for its result word. -/
def execEnvJoin (k : CellId) (d a b : BitVec 4) (s : State) : Res :=
  let n := cellNo k
  .next (s.instr k [a, b] none false (fun _ => 512) (fun _ => 1) fun s _ =>
    let c := s.cell n
    if c.ctx ≠ .none then .fault envSequence envSequence
    else
      let r := s.joinEnvelope n (fld (c.work.reg a) 16 16) (c.work.reg b)
      .done (r.1.setCell n { r.1.cell n with result := some (d, r.2) }))

/-- The end of a contribution by ENV_SEAL or ENV_ABORT: the result word in gd. -/
def State.endEnv (s : State) (k : CellId) (d : BitVec 4) (f : State → Nat → Nat → Nat → State × Nat) : State :=
  let n := cellNo k
  s.instr k [] none false (fun _ => 1) (fun _ => 1) fun s t =>
    let c := s.cell n
    match c.ctx with
    | .none => .fault envSequence envSequence
    | .void st =>
      .done (s.setCell n { c with ctx := .none, work := c.work.setReg d (BitVec.ofNat 32 (st.toNat + 0xFFFF0000)) })
    | .member h =>
      let r := f s n h.toNat t
      let c := r.1.cell n
      .done (r.1.setCell n { c with ctx := .none, work := c.work.setReg d (BitVec.ofNat 32 (r.2 + 65536 * h.toNat)) })

/-- ENV_SEAL, ENV_ABORT (R91). -/
def execEnvSeal (k : CellId) (d : BitVec 4) (s : State) : Res := .next (s.endEnv k d State.sealEnvelope)
def execEnvAbort (k : CellId) (d : BitVec 4) (s : State) : Res := .next (s.endEnv k d fun s n h _ => s.abortEnvelope n h)

/-! ### Waiting and the end of a period (R70, R83) -/

/-- WAIT: RUN 2 until a selected slot counts or TIME expires. MASK 0 with TIME 0 never executes (R72). -/
def execWait (k : CellId) (d : BitVec 4) (mask : BitVec 8) (time : BitVec 14) (s : State) : Res :=
  let n := cellNo k
  .next (if mask = 0 ∧ time = 0 then s else
    s.instr k [] none false (fun _ => 1) (fun _ => 1) fun s t =>
      let c := s.cell n
      let w : WaitSt := { mask := mask, dst := d
                          untilBeat := if time = 0 then none else some (t / 1250 + time.toNat) }
      .done ((s.setCell n { c with run := 2, waiting := some w }).restless (clusterOf n)))

/-- The lowest slot of a mask whose COUNT is above 0. -/
def Cell.ready (c : Cell) (mask : BitVec 8) : Option Nat :=
  (List.range 8).find? fun i => bit mask.toNat i && decide (slotCount (c.slots.get i 0) > 0)

/-- The fall through past the last instruction after a WAIT (R74). -/
def State.resumeCheck (s : State) (n : Nat) : State :=
  let c := s.cell n
  if c.pc.toNat ≥ c.len ∨ c.pc = 0 ∧ c.len = 256 then
    if c.charged ≥ s.budget n then (s.setCell n { c with run := 3, overrun := true }).restless (clusterOf n)
    else s.cellFault n pcRange 0 c.len
  else s

/-- WAIT_SLOT_RESUME (R83): the lowest such slot counts one less, gd is its number. -/
def execWaitSlotResume (k : CellId) (s : State) : Res :=
  let n := cellNo k
  let c := s.cell n
  .next (match c.waiting with
    | none => s
    | some w => match c.ready w.mask with
      | none => s
      | some i =>
        if s.cstate (clusterOf n) = 2 ∧ ¬ s.held (partOf n) then
          let v := c.slots.get i 0
          let c' := { c with slots := c.slots.put i (setFld v 16 8 (slotCount v - 1)) 0, run := 1, waiting := none }
          (s.setCell n { c' with work := c.work.setReg w.dst (BitVec.ofNat 32 i), next := max c.next (s.now + 1) }).resumeCheck n
        else s)

/-- WAIT_BEAT_RESUME (R83): TIME expired and no selected slot counts: gd is 8. -/
def execWaitBeatResume (k : CellId) (s : State) : Res :=
  let n := cellNo k
  let c := s.cell n
  .next (match c.waiting with
    | none => s
    | some w => match w.untilBeat with
      | none => s
      | some b =>
        if b ≤ s.beatN ∧ c.ready w.mask = none ∧ s.cstate (clusterOf n) = 2 ∧ ¬ s.held (partOf n) then
          let c' := { c with run := 1, waiting := none, next := max c.next s.now }
          (s.setCell n { c' with work := c.work.setReg w.dst 8 }).resumeCheck n
        else s)

/-- DONE (R70, R82): the cell's period ends; contributing to an unsealed envelope faults. -/
def execDone (k : CellId) (s : State) : Res :=
  let n := cellNo k
  .next (s.instr k [] none false (fun _ => 1) (fun _ => 1) fun s _ =>
    let c := s.cell n
    if c.ctx ≠ .none then .fault envSequence envSequence
    else .done ((s.setCell n { c with run := 3, done := true }).restless (clusterOf n)))

end Sys2Proof.Machine
end

