-- ==== Sys2Proof/Machine/Program.lean ====
section
/-! DEFINITION. Periods of programs: their start, settlement, deadline and drop (R69, R124 to R127, R353). -/

namespace Sys2Proof.Machine

open Sys2Proof.Bits

/-- The cells of a program, by number, in the order of CELLS. -/
def Man.cellsOf (m : Man) (p x : Nat) : List Nat :=
  (m.cells.filter fun d => decide (d.prog = x)).map fun d => 10240 * p + d.cell

/-- The WORK bank's window of a cell copied to KEPT, and back; neither table lists what it reads as unlisted. -/
def State.saveWindow (s : State) (n : Nat) : State :=
  let u : Tab Byte := s.mem.filter fun (e : Nat × Byte) => decide (e.2 ≠ 0)
  { s with kept := Tab.copyRange s.kept u (cellAddr n 0) (cellAddr n 256) }
def State.restoreWindow (s : State) (n : Nat) : State :=
  let u : Tab Byte := s.kept.filter fun (e : Nat × Byte) => decide (e.2 ≠ memDefault e.1)
  { s with mem := Tab.copyRange s.mem u (cellAddr n 0) (cellAddr n 256) }

/-- The period of a cell is settled (R69): completed keeps the working state; dropped restores it and sets DROPPED. -/
def State.settleCell (s : State) (completed : Bool) (n : Nat) : State :=
  let c := s.cell n
  if completed then (s.setCell n { c with kept := c.work }).saveWindow n
  else (s.setCell n { c with work := c.kept.setDropped }).restoreWindow n

/-- A cell restarts at its entry (R69). -/
def State.restartCell (s : State) (n : Nat) : State :=
  let c := s.cell n
  let c := { c with pc := c.entry, run := 1, done := false, overrun := false, charged := 0 }
  s.setCell n { c with waiting := none, result := none, lastLoad := none, ctx := .none, next := s.now }

/-- A cell still running or waiting stops; RUN reads 3 and its contribution ends (R126, R359). -/
def State.stopCell (s : State) (n : Nat) : State :=
  let c := s.cell n
  let s := s.dropContext n
  if c.run = 0 then s
  else (s.setCell n { s.cell n with run := 3, waiting := none, result := none }).restless (clusterOf n)

/-- Every cell of the program executed DONE. -/
def State.allDone (s : State) (cells : List Nat) : Bool := cells.all fun n => (s.cell n).done

/-- The live period of program x of p is dropped with a cause (R126, R363): its cells stop, envelopes it
contributed to in that period abort DISCARDED, the counter, MAN_LAST_DROP and event 0x0303. -/
def State.dropPeriod (s : State) (p x cause : Nat) : State :=
  match s.manOf p with
  | none => s
  | some m =>
    let cells := m.cellsOf p x
    let notDone := cells.filter fun n => !(s.cell n).done
    let beyond := cells.any fun n => (s.cell n).overrun
    let cause := if cause = 0 ∧ beyond then 1 else cause
    let pr := s.prog p x
    let s := notDone.foldl State.stopCell s
    let s := (s.envs.within 0 2048).foldl (fun s e =>
      if e.2.members.any (fun mb => cells.contains mb.cell && decide (mb.per = pr.begun)) then
        s.abortEnv (e.1 / 64) (e.1 % 64) 2 else s) s
    let s := if cause = 1 then s.bump (Reg.MAN_OVERRUN_CNT p) else s.bump (Reg.MAN_LATE_CNT p)
    let s := s.wr (0x400600 + 8 * p) (BitVec.ofNat 32 (x + 1024 * cause))
    let s := s.wr (0x400604 + 8 * p) (BitVec.ofNat 32 s.beatLo)
    let s := s.ev 0x0303 (p + 65536 * x) (cause + 256 * min 255 notDone.length) p
    let low := match notDone with | n :: r => r.foldl min n | [] => pr.lowest
    s.setProg p x { s.prog p x with start := none, lowest := low, exempt := pr.exempt || decide (cause = 2) }

/-- The deadline boundary of the live period (R126): dropped if any cell has not executed DONE. -/
def State.deadline (s : State) (p x : Nat) : State :=
  match s.manOf p with
  | none => s
  | some m =>
    match m.prog? x, (s.prog p x).start with
    | some d, some b =>
      if b + d.deadline ≤ s.beatN then
        if s.allDone (m.cellsOf p x) then s.setProg p x { s.prog p x with start := none }
        else s.dropPeriod p x 0
      else s
    | _, _ => s

/-- PERIOD_DEADLINE (R126). -/
def execPeriodDeadline (p : Fin 32) (prog : Fin 1024) (s : State) : Res := .next (s.deadline p.val prog.val)

/-- The watch of a program at the settlement of a period (R353): the progress counter, or one more period
without it; at the window the fault NO_PROGRESS is named. -/
def State.watch (s : State) (p x : Nat) (d : ProgDef) (completed : Bool) : State :=
  let pr := s.prog p x
  if completed then s.setProg p x { pr with progress := pr.progress + 1, idlePeriods := 0, settled := true }
  else if pr.exempt then s.setProg p x { pr with settled := true }
  else
    let win := if d.crit then s.lf Reg.RCV_WATCH_CRIT_WINDOW else s.lf Reg.RCV_WATCH_WINDOW
    if pr.idlePeriods + 1 ≥ win then
      (s.setProg p x { pr with idlePeriods := 0, settled := true }).nameFault (cellWord0 pr.lowest x 1)
        (pr.begun % 4294967296) 0x10 0 1 (1024 * p + x) p (some (clusterOf pr.lowest))
    else s.setProg p x { pr with idlePeriods := pr.idlePeriods + 1, settled := true }

/-- Program x may begin a period at this boundary (R124, R127, R359, R363). -/
def State.mayStart (s : State) (p x : Nat) (d : ProgDef) : Bool :=
  let pr := s.prog p x
  s.released && !s.held p && !pr.paused && decide (pr.from_ ≤ s.beatN) && decide (s.beatN % d.period = d.offset) &&
  decide (pr.begun = 0 ∨ pr.last ≠ s.beatN) &&
  !(s.rcv.rungs.any fun r => decide (r.rung = 1 ∧ r.unit = 1024 * p + x))

/-- A program begins a period (R69). A period that PEER_DOWN dropped after all its cells executed DONE was counted and logged as dropped,
and settles as Completed (R69 and R363 leave the case open: log entry 59). -/
def State.startPeriod (s : State) (p x : Nat) : State :=
  match s.manOf p with
  | none => s
  | some m => match m.prog? x with
    | none => s
    | some d =>
      if s.mayStart p x d then
        let cells := m.cellsOf p x
        let s := s.deadline p x
        let s := if (s.prog p x).settled then s
          else
            let completed := s.allDone cells
            let s := cells.foldl (fun s n => s.settleCell completed n) s
            s.watch p x d completed
        let s := cells.foldl State.restartCell s
        let pr := s.prog p x
        s.setProg p x { pr with begun := pr.begun + 1, start := some s.beatN, last := s.beatN, settled := false, exempt := false }
      else s

/-- PERIOD_START (R69). -/
def execPeriodStart (p : Fin 32) (prog : Fin 1024) (s : State) : Res := .next (s.startPeriod p.val prog.val)

/-- PEER_DOWN presented for partition q (R363): dependent programs' live periods are dropped and those with
PEER_PAUSE pause. -/
def State.peerDown (s : State) (q : Nat) : State :=
  (s.parts.within 0 32).foldl (fun s e => match e.2.man with
    | none => s
    | some m => m.progs.foldl (fun s d =>
        if e.1 ≠ q ∧ bit d.depends q then
          let s := if (s.prog e.1 d.prog).start.isSome then s.dropPeriod e.1 d.prog 2 else s
          if d.peerPause then
            s.setProg e.1 d.prog { s.prog e.1 d.prog with paused := true, pausedBy := setBit (s.prog e.1 d.prog).pausedBy q true }
          else s
        else s) s) s

/-- PEER_UP presented for partition q: programs it paused go on at their next offset (R363). -/
def State.peerUp (s : State) (q : Nat) : State :=
  (s.parts.within 0 32).foldl (fun s e => match e.2.man with
    | none => s
    | some m => m.progs.foldl (fun s d =>
        let pr := s.prog e.1 d.prog
        if pr.paused ∧ bit pr.pausedBy q then
          let by_ := setBit pr.pausedBy q false
          s.setProg e.1 d.prog { pr with pausedBy := by_, paused := decide (by_ ≠ 0), from_ := max pr.from_ s.beatN }
        else s) s) s

end Sys2Proof.Machine
end

