-- ==== Sys2Proof/Machine/Loops.lean ====
section
/-! DEFINITION. The loop engines: bindings, windows, the control law, supervision and trips (chapter 8). -/

namespace Sys2Proof.Machine

open Sys2Proof.Bits

/-! ### Fields of a binding entry (Table 8-1) and of a window (Table 8-2) -/

def lForm (b : Bytes) : Nat := (byteAt b 2).toNat
def lDiv (b : Bytes) : Nat := le b 4 2
def lFbBoard (b : Bytes) : Nat := (byteAt b 7).toNat
def lOutKind (b : Bytes) : Nat := (byteAt b 12).toNat
def lOutBoard (b : Bytes) : Nat := (byteAt b 13).toNat
def lSafeU (b : Bytes) : Int := i16 b 48
def lCascade (b : Bytes) : List Nat :=
  ((List.range 8).filter fun j => bit (le b (16 + 2 * j) 2) 15).map fun j =>
    8 * (le b (16 + 2 * j) 2 % 64) + le b (16 + 2 * j) 2 / 64 % 8

/-- A loop. -/
def State.loop (s : State) (k : Nat) : Loop := s.loops.get k {}

/-- The state with a loop set. -/
def State.setLoop (s : State) (k : Nat) (v : Loop) : State := { s with loops := s.loops.put k v {} }

/-- LSTATE of a loop (Table 8-7): 0 UNBOUND, 1 IDLE, 2 RUNNING, 3 TRIPPED. -/
def State.lstate (s : State) (k : Nat) : Nat := s.f (Reg.LE_LOOP_STATUS_LSTATE k)

/-- The last output, feedback and model value of a loop. -/
def State.loopU (s : State) (k : Nat) : Int := sint 16 (s.f (Reg.LE_LOOP_OUT_U k))
def State.loopY (s : State) (k : Nat) : Int := sint 16 (s.f (Reg.LE_LOOP_OUT_Y k))
def State.loopM (s : State) (k : Nat) : Int := sint 16 (s.f (Reg.LE_LOOP_MODEL_M k))

/-- A rung resets an engine (R190, R360). -/
def State.engineReset (s : State) (u : Nat) : Bool := s.rcv.rungs.any fun r => decide (r.rung = 2 ∧ r.unit = u)

/-! ### The window (R179, R180) -/

/-- The cause and first offending byte of a window set that is rejected (R180, Table 8-11). -/
def windowFault (ent win : Bytes) : Option (Nat × Nat) :=
  if i16 win 2 > i16 win 4 then some (0, 2)
  else if lOutKind ent = 0 ∧ i16 win 2 < 0 then some (1, 2)
  else
    let zero (j : Nat) : Bool := match lForm ent with
      | 0 => decide (8 ≤ j ∧ j < 28)
      | 3 => decide (28 ≤ j ∧ j < 30)
      | _ => decide (16 ≤ j ∧ j < 30)
    match (List.range 64).find? fun j =>
        (zero j || decide (30 ≤ j) || decide (j = 7)) && byteAt win j != 0 || decide (j = 6 ∧ (byteAt win 6).toNat ≥ 4) with
    | some j => some (2, j)
    | none => none

/-- The setpoint in force (R181). -/
def State.loopSp (s : State) (L : Loop) : Int :=
  let src := (byteAt L.ent 15).toNat % 16
  let unit := max 1 (le L.ent 56 4)
  if src = 1 then min 32767 ((s.grd.refUw : Int).fdiv unit)
  else if src = 2 then clamp (-32768) 32767 ((s.grd.strUw.get ((byteAt L.ent 15).toNat / 16 % 8) 0).fdiv unit)
  else if src = 3 then L.cascSp
  else i16 L.win 0

/-- Parameter 0 bits that name a loop (R192). -/
def loopParam (k : Nat) : Nat := k / 8 + 64 * (k % 8)

/-- An event of a loop. -/
def State.loopEv (s : State) (code k more p1 : Nat) : State := s.ev code (loopParam k + more) p1 (0x100 + k / 8)

/-- The last output set. -/
def State.setU (s : State) (k : Nat) (u : Int) : State := s.setF (Reg.LE_LOOP_OUT_U k) (uint 16 u)

/-- A cascade loop's output becomes the setpoint of its targets (R185): of the same engine with a higher index for
the same sample, else for the target's next sample. -/
def State.emit (s : State) (k : Nat) (u : Int) : State :=
  let L := s.loop k
  if lOutKind L.ent = 1 then
    (lCascade L.ent).foldl (fun s t =>
      let T := s.loop t
      if t / 8 = k / 8 ∧ t > k then s.setLoop t { T with cascSp := u, cascNew := none }
      else
        let sp := match T.cascNew with
          | some (n, v) => if n < L.sampled then v else T.cascSp
          | none => T.cascSp
        s.setLoop t { T with cascSp := sp, cascNew := some (L.sampled, u) }) s
  else s

/-- A change of loop state other than a trip (R188): the output of IDLE and of a removal is SAFE_U, event 0x0602. -/
def State.loopTo (s : State) (k new : Nat) : State :=
  let prev := s.lstate k
  let L := s.loop k
  let s := s.setF (Reg.LE_LOOP_STATUS_LSTATE k) new
  let s := if new = 2 then s else s.setU k (lSafeU L.ent)
  let s := s.setF (Reg.LE_LOOP_MODEL_SP k) (uint 16 (s.loopSp L))
  let s := s.loopEv 0x0602 k (512 * prev + 2048 * new) (uint 16 (s.loopSp L))
  if new = 2 then s else s.emit k (lSafeU L.ent)

/-- Values of the window come into force at a sample (R179), and the loop is re-based (R128). -/
def Loop.rebase (L : Loop) (win : Bytes) : Loop :=
  let d (j : Nat) : Int := i16 L.win j - i16 win j
  let f := lForm L.ent
  let L := if f = 1 ∨ f = 2 then { L with i := sat40 (L.i + d 8 * L.eLast + d 12 * L.dLast) }
    else if f = 3 then { L with bias := sat40 (L.bias + d 22 * L.q1 + d 24 * L.q2 + d 26 * L.eLast) }
    else L
  { L with win := win }

/-- Of the accepted sets due at a sample latched at cycle t the last comes into force, with one re-base from the gains in force (R8,
R128). -/
def Loop.promote (L : Loop) (t : Nat) : Loop :=
  let due := L.next.filter fun e => decide (e.1 ≤ t)
  let L' := match due.getLast? with | some e => L.rebase e.2 | none => L
  { L' with next := L.next.filter fun e => decide (t < e.1)
            clear := L'.clear || due.any fun e => bit (byteAt e.2 6).toNat 1 }

/-- The values a later set builds on: the last accepted set. -/
def Loop.latest (L : Loop) : Bytes := match L.next.getLast? with | some e => e.2 | none => L.win

/-- The set that bytes written to a window make of the last accepted one. -/
def Loop.candidate (L : Loop) (parts : List (Nat × Bytes)) : Bytes := parts.foldl (fun w e => patch w e.1 e.2) (fit L.latest 64)

/-- The bytes touch EXT_U alone, which is part of no set (R180). -/
def Loop.extOnly (L : Loop) (parts : List (Nat × Bytes)) : Bool :=
  parts.all (fun e => decide (28 ≤ e.1 ∧ e.1 + e.2.length ≤ 30)) && decide (lForm L.ent = 0)

/-- Bytes written to a setpoint window (R176, R179, R180), as one set; from is the first cycle whose samples take it.
EXT_U is applied at once. -/
def State.windowSet (s : State) (k fromCycle : Nat) (parts : List (Nat × Bytes)) : State :=
  let L := s.loop k
  let app := parts.foldl (fun w e => patch w e.1 e.2) (fit L.app 64)
  let ext := parts.any fun e => decide (e.1 < 30 ∧ 28 < e.1 + e.2.length)
  let L := { L with app := app, extU := if ext then i16 app 28 else L.extU, extNew := L.extNew || ext }
  if s.lstate k = 0 then s.setLoop k L
  else
    let cand := L.candidate parts
    if L.extOnly parts then s.setLoop k L
    else match windowFault L.ent cand with
      | some (cause, j) => ((s.setLoop k L).bump Reg.LE_SP_REJECT_CNT).loopEv 0x0603 k (512 * cause) j
      | none =>
        let touched := parts.any fun e => decide (e.1 ≤ 6 ∧ 6 < e.1 + e.2.length)
        let cand := if touched then cand else patch cand 6 [BitVec.ofNat 8 ((byteAt cand 6).toNat % 2)]
        s.setLoop k { L with next := L.next ++ [(fromCycle, cand)] }

/-! ### Binding (R176, R177, R188) -/

/-- A loop of a manifest is bound at the release (Table 8-5). A phase that is driven again is no longer the orphan of a
removed loop. -/
def State.loopBind (s : State) (p : Nat) (b : Bytes) : State :=
  let k := loopNo b
  let win := (b.drop 64).take 64
  let ph := if lOutKind b = 0 then (byteAt b 14).toNat % 16 else 0
  let s := (List.range 4).foldl (fun s j =>
    if bit ph j then s.setPhase (4 * lOutBoard b + j) { s.phase (4 * lOutBoard b + j) with safeU := none } else s) s
  let L : Loop := { ent := b, app := win, win := win, phases := ph, extU := i16 win 28, init := bit (byteAt b 3).toNat 0, cascSp := 0 }
  let s := s.setLoop k L
  let s := s.wr (0x700800 + 4 * k) (BitVec.ofNat 32 (64 * (lForm b % 4) + 256 * p))
  let s := s.wr (0x701000 + 4 * k) (BitVec.ofNat 32 (uint 16 (lSafeU b)))
  s.wr (0x701800 + 4 * k) 0

/-- The loops of a manifest are bound at E: their windows, the cascade setpoints at the feeders' SAFE_U (R181), then
RUNNING or IDLE, each with event 0x0602. -/
def State.loopsBind (s : State) (p : Nat) (bs : List Bytes) : State :=
  let s := bs.foldl (fun s b => s.loopBind p b) s
  let s := bs.foldl (fun s b => if lOutKind b = 1 then
    (lCascade b).foldl (fun s t => s.setLoop t { s.loop t with cascSp := lSafeU b }) s else s) s
  bs.foldl (fun s b => s.loopTo (loopNo b) (if bit (byteAt b 3).toNat 0 then 2 else 1)) s

/-- The loops bound by a partition are removed at S (Table 8-5). -/
def State.loopsUnbind (s : State) (p : Nat) : State :=
  (s.loops.within 0 512).foldl (fun s e =>
    if s.lstate e.1 ≠ 0 ∧ s.f (Reg.LE_LOOP_STATUS_PART e.1) = p then
      let s := s.loopTo e.1 0
      let L := s.loop e.1
      let s := (List.range 4).foldl (fun s j =>
        let n := 4 * lOutBoard L.ent + j
        if bit L.phases j then s.setPhase n { s.phase n with safeU := some (lSafeU L.ent) } else s) s
      let s := s.setLoop e.1 { L with next := [], ys := none, clear := false, cascNew := none, phases := 0 }
      s.wr (0x700800 + 4 * e.1) 0
    else s) s

/-- The bound loop whose output drives phase j of a board. -/
def State.phaseLoop (s : State) (b j : Nat) : Option (Nat × Loop) :=
  s.loops.find? fun e => bit e.2.phases j && decide (lOutKind e.2.ent = 0 ∧ lOutBoard e.2.ent = b)

/-! ### The control law (R184) -/

/-- The output, its clamp and the loop after R184's law on feedback y, setpoint r and last model value m; ur is
the repeated output of an EXTERNAL loop. The answer is (loop, output, clamped, model value). -/
def loopLaw (L : Loop) (y r m : Int) (rep : Option Int) : Loop × Int × Bool × Int :=
  let w (j : Nat) : Int := i16 L.win j
  let f := lForm L.ent
  let e := sat16 (r - y)
  let d := if f = 2 then sat16 (e - L.ePrev) else 0
  let q1 := if f = 3 then ext16 L.x1 (-15) else 0
  let q2 := if f = 3 then ext16 L.x2 (-15) else 0
  let acc := if f = 3 then w 22 * q1 + w 24 * q2 + w 26 * e + L.bias else w 8 * e + w 12 * d + L.i
  let sh := sint 8 (byteAt L.ent 33).toNat
  let ur := match rep with
    | some v => v
    | none => if f = 0 then L.extU else
        (if 15 - sh < 0 then acc * (2 : Int) ^ (sh - 15).toNat else rhe acc (15 - sh).toNat)
  let u := min (max ur (w 2)) (w 4)
  let aw := sat16 (u - ur)
  let L := if f = 3 then
      { L with x1 := sat40 (w 8 * q1 + w 10 * q2 + w 18 * e + w 14 * aw), x2 := sat40 (w 12 * q1 + w 16 * q2 + w 20 * e) }
    else if f = 0 then L
    else { L with i := sat40 (L.i + w 10 * e + w 14 * aw) }
  let gu := ext16 (i16 L.ent 46 * u) (sint 8 (byteAt L.ent 34).toNat - 15)
  let mm := sat40 (L.mm + i16 L.ent 44 * sat16 (gu - m))
  ({ L with ePrev := e, eLast := e, dLast := d, q1 := q1, q2 := q2, mm := mm }, u, decide (u ≠ ur), ext16 mm (-15))

/-- Initialisation at the first valid sample (R185, R190). -/
def Loop.initAt (L : Loop) (y r : Int) : Loop :=
  let b := (match L.base with | some v => v | none => lSafeU L.ent) * (2 : Int) ^ (15 - sint 8 (byteAt L.ent 33).toNat).toNat
  { L with i := b, bias := b, x1 := 0, x2 := 0, ePrev := sat16 (r - y), mm := y * 32768, pl := 0, fe := 0, init := false, base := none }

/-- A trip (R187, Table 8-4). -/
def State.loopTrip (s : State) (k why : Nat) (y : Int) : State :=
  let L := s.loop k
  let act := (byteAt L.ent 32).toNat
  let s := (s.setF (Reg.LE_LOOP_STATUS_LSTATE k) 3).setF (Reg.LE_LOOP_STATUS_WHY k) why
  let s := if act = 1 then (s.setU k (lSafeU L.ent)).emit k (lSafeU L.ent)
    else if act = 2 then s.commandLocal (if lOutKind L.ent = 0 then lOutBoard L.ent else lFbBoard L.ent)
    else s
  let s := s.sendRouted (s.f (Reg.LE_LOOP_STATUS_PART k))
    { op := .put, hdr := { sender := .unit (BitVec.ofNat 16 (0x100 + k / 8)), addr := BitVec.ofNat 48 (le L.ent 50 6)
                           tag := 0, reply := .none },
      len := 8, data := toLe 4 (loopParam k + 512 * why) ++ toLe 4 s.beatLo, issued := s.now }
  let s := s.bump Reg.LE_TRIP_CNT
  s.loopEv 0x0601 k (512 * why + 2048 * act) (uint 16 y + 65536 * s.f (Reg.LE_LOOP_MODEL_M k))

/-- A valid sample of a RUNNING loop (R184, R185): supervision, a trip, EN 0, or the law, with the output repeated where an
EXTERNAL loop's EXT_U is late (R183). -/
def State.loopRun (s : State) (k : Nat) (y : Int) (late : Bool) : State :=
  let L := s.loop k
  let r := s.loopSp L
  let L := if L.init then L.initAt y r else L
  let m := if (s.loop k).init then y else s.loopM k
  let s := s.setF (Reg.LE_LOOP_MODEL_M k) (uint 16 m)
  let e := sat16 (r - y)
  let pl := if (y - m).natAbs > le L.ent 40 2 then L.pl + 1 else 0
  let held := decide ((r - m).natAbs > le L.ent 36 2)
  let fe := if held then L.fe else if e.natAbs > le L.ent 36 2 then L.fe + 1 else 0
  let L := { L with pl := pl, fe := fe }
  let s := s.setF (Reg.LE_LOOP_STATUS_FE_HELD k) (ofBool held)
  let s := if held then s.bump Reg.LE_FE_HELD_CNT else s
  let s := s.setLoop k L
  let why := ofBool (decide (fe > le L.ent 38 2)) + 2 * ofBool (decide (pl > le L.ent 42 2))
  if why ≠ 0 then s.loopTrip k why y
  else if ¬ bit (byteAt L.win 6).toNat 0 then s.loopTo k 1
  else
    let rep := if late then some (s.loopU k) else none
    let (L', u, cl, m') := loopLaw L y r m rep
    let s := s.setLoop k L'
    let s := (s.setU k u).setF (Reg.LE_LOOP_MODEL_M k) (uint 16 m')
    let s := s.setF (Reg.LE_LOOP_STATUS_CLAMPED k) (ofBool cl)
    let s := if cl then s.bump Reg.LE_CLAMP_CNT else s
    s.emit k u

/-- What every sample of a bound loop leaves, whatever its state (R186, R191): the setpoint in force, the feedback of a valid one,
and the count and event of an invalid one. -/
def State.loopNote (s : State) (k : Nat) (y : Option Int) : State :=
  let L := s.loop k
  let s := s.setF (Reg.LE_LOOP_MODEL_SP k) (uint 16 (s.loopSp L))
  match y with
  | some v => (s.setF (Reg.LE_LOOP_STATUS_MISS k) 0).setF (Reg.LE_LOOP_OUT_Y k) (uint 16 v)
  | none =>
    let miss := satAdd 16 (s.f (Reg.LE_LOOP_STATUS_MISS k)) 1
    ((s.setF (Reg.LE_LOOP_STATUS_MISS k) miss).bump Reg.LE_MISS_CNT).loopEv 0x0604 k (2048 * (lFbBoard L.ent % 32)) miss

/-- The take of EXT_U by a RUNNING EXTERNAL loop (R183): whether none has been applied since the last, which is counted. -/
def State.extTake (s : State) (k : Nat) : State × Bool :=
  let L := s.loop k
  if lForm L.ent = 0 ∧ s.lstate k = 2 ∧ bit (byteAt L.win 6).toNat 0 then
    if L.extNew then (s.setLoop k { L with extNew := false }, false)
    else ((s.bump Reg.LE_EXT_LATE_CNT).loopEv 0x0605 k 0 (uint 16 (s.loopU k)), true)
  else (s, false)

/-- A sample of a loop (R184 to R188), y absent where it is invalid (R186). -/
def State.loopEval (s : State) (k : Nat) (y : Option Int) : State :=
  let s := s.loopNote k y
  let L := s.loop k
  let en := bit (byteAt L.win 6).toNat 0
  let s := s.setLoop k { L with clear := false }
  if L.clear ∧ s.lstate k = 3 then (s.setF (Reg.LE_LOOP_STATUS_WHY k) 0).loopTo k 1
  else if s.lstate k = 1 ∧ ¬ en then s.emit k (s.loopU k)
  else
    let s := if s.lstate k = 1 then
        let s := s.loopTo k 2
        s.setLoop k { s.loop k with init := true, base := none }
      else s
    if s.lstate k ≠ 2 then s
    else
      let r := s.extTake k
      match y with
      | some v => r.1.loopRun k v r.2
      | none => if ¬ en then r.1.loopTo k 1 else r.1

/-- A sample field of a board latched in this beat, full or half; none where its section is not valid (R198). -/
def State.field (s : State) (b i : Nat) (half : Bool) : Option Int :=
  match (s.board b).rx with
  | none => none
  | some rx =>
    if rx.beat = s.beatN ∧ (if half then rx.ok.half else rx.ok.sample) then
      some (i16 rx.frame ((if half then 640 else 0) + 2 * i))
    else none

/-- The feedback of a loop (FB_KIND). -/
def State.feedback (s : State) (b : Bytes) (half : Bool) : Option Int :=
  let fs := (List.range 4).filterMap fun j =>
    let i := (byteAt b (8 + j)).toNat
    if i = 255 then none else some (s.field (lFbBoard b) i half)
  if fs.any (fun v => v.isNone) then none
  else
    let vs := fs.map fun v => v.getD 0
    if byteAt b 6 = 1 then some (sat16 vs.sum)
    else if byteAt b 6 = 2 then some (ext16 (vs.getD 0 0 * vs.getD 1 0) (-15))
    else some (vs.getD 0 0)

/-- A loop is due at a boundary (R182). -/
def State.loopDue (s : State) (k : Nat) : Bool :=
  let div := lDiv (s.loop k).ent
  decide (div = 0 ∨ s.beatN % div = 0)

/-- A due loop is evaluated on its sample (R182, R183); an EXTERNAL loop waits for its take. -/
def State.loopSample (s : State) (k : Nat) (half : Bool) : State :=
  let L := s.loop k
  let n := 2 * s.beatN + ofBool half
  let due := if half then decide (lDiv L.ent = 0) else decide (lDiv L.ent = 0 ∨ s.beatN % lDiv L.ent = 0)
  if s.lstate k ≠ 0 ∧ due ∧ L.sampled < n + 1 ∧ ¬ s.engineReset (k / 8) then
    let L := L.promote (s.beatN * 1250 + if half then 625 else 0)
    let L := match L.cascNew with
      | some (t, v) => if t < n + 1 then { L with cascSp := v, cascNew := none } else L
      | none => L
    let L := { L with sampled := n + 1, uFull := s.loopU k, halfAt := if half then some s.beatN else L.halfAt }
    let y := s.feedback L.ent half
    if lForm L.ent = 0 then s.setLoop k { L with ys := some y }
    else (s.setLoop k L).loopEval k y
  else s

/-- The take of EXT_U by an EXTERNAL loop whose sample waits (R183), and by all of them. -/
def State.takeOne (s : State) (k : Nat) : State :=
  match (s.loop k).ys with
  | some y => (s.setLoop k { s.loop k with ys := none }).loopEval k y
  | none => s
def State.takeExt (s : State) : State := (s.loops.within 0 512).foldl (fun s e => s.takeOne e.1) s

/-- A setpoint window's bytes arrive: EXT_U after cycle 875 is too late for the take of its beat (R183). -/
def State.windowIn (s : State) (k fromCycle : Nat) (parts : List (Nat × Bytes)) : State :=
  (if s.cycle > 875 then s.takeOne k else s).windowSet k fromCycle parts

/-- LOOP_SAMPLE (R184). -/
def execLoopSample (e : Fin 64) (l : Fin 8) (half : Bool) (s : State) : Res := .next (s.loopSample (8 * e.val + l.val) half)

/-- SETPOINT_WINDOW (R180): a write of up to 64 bytes to a loop's setpoint window, taken by samples latched later. -/
def execSetpointWindow (e : Fin 64) (l : Fin 8) (off : BitVec 6) (data : Bytes) (s : State) : Res :=
  .next (s.windowIn (8 * e.val + l.val) (s.now + 1) [(off.toNat, data.take (64 - off.toNat))])

/-- LOOP_CLEAR (R188): a tripped loop enters IDLE at its next sample (triggers are evaluated at the samples). -/
def State.loopClear (s : State) (k : Nat) : State :=
  if s.lstate k = 3 then s.setLoop k { s.loop k with clear := true } else s

/-- An engine's reset ends (R190): RUNNING loops initialise from their last output; event 0x0606. -/
def State.engineBack (s : State) (e : Nat) : State :=
  let run := (List.range 8).filter fun l => decide (s.lstate (8 * e + l) = 2)
  let s := run.foldl (fun s l => s.setLoop (8 * e + l) { s.loop (8 * e + l) with init := true, base := some (s.loopU (8 * e + l)) }) s
  s.ev 0x0606 e (run.foldl (fun m l => m + 2 ^ l) 0) (0x100 + e)

end Sys2Proof.Machine
end

