-- ==== Sys2Proof/Machine/Stage.lean ====
section
/-! DEFINITION. The stage link controller: frames, actuation, exits, sharing, shedding and all-fire (chapter 9). -/

namespace Sys2Proof.Machine

open Sys2Proof.Bits

/-! ### Training and mapping (R193, R201, R346) -/

/-- A link is trained with a measured latency: beyond 32 cycles it is not used (R193). -/
def State.trainLink (s : State) (b lat found : Nat) : State :=
  if lat > 32 then
    let s := s.ev 0x0702 b lat stgOrigin
    if (s.board b).trained then (s.setBState b 0 4).setBoard b { s.board b with trained := false } else s
  else
    let was := (s.board b).trained
    let s := s.setBoard b { s.board b with trained := true, found := found }
    let s := s.setF (Reg.STG_BOARD_STATUS_LATENCY b) lat
    if was then s else (s.setF (Reg.STG_BOARD_STATUS_MISS b) 0).setBState b 1 2

/-- A link is taken down (R346). -/
def State.dropLink (s : State) (b : Nat) : State :=
  if (s.board b).trained then
    let s := s.setBState b 0 4
    let s := s.setF (Reg.STG_BOARD_STATUS_LATENCY b) 0
    s.setBoard b { s.board b with trained := false, rx := none, run := 0, force := false, sent := none }
  else s

/-- The internal set's handle of a board (R202). -/
def internalHandle (b : Nat) : Nat := 0x1F + 32 * b

/-- The boundary whose frame of a board is the next to be composed. -/
def State.nextFrame (s : State) (b : Nat) : Nat :=
  match (s.board b).sent with
  | some (k, _) => if k > s.beatN then k + 1 else s.beatN + 1
  | none => s.beatN + 1

/-- ACT_INIT goes to a board as an internal set (R202). -/
def State.sendInit (s : State) (b : Nat) (exit : Option Nat) : State :=
  s.startAct { h := internalHandle b, sets := [(b, actClean ((s.board b).map.drop 32))], c := s.nextFrame b, exit := exit }

/-- A STAGE_MAP board that is not yet trained is trained (R346); the latency measured is not stated: a free value. -/
def State.trainAtRelease (s : State) (b : Nat) : State :=
  if (s.board b).trained then s else ((s.trainLink b (s.freeWord.toNat % 64) b).useFree)

/-- The stage mapping of a swap release: entries of STAGE_MAP, with links not yet trained trained, and every board without one
is unused (R201, R346); ACT_INIT to every board in use (R202). -/
def State.stageMap (s : State) (ents : List Bytes) : State :=
  let s := (List.range 24).foldl (fun s b =>
    match ents.find? fun e => decide ((byteAt e 0).toNat = b ∧ byteAt e 1 ≠ 0) with
    | some e => (((s.setBoard b { s.board b with map := e }).trainAtRelease b).admin b)
    | none => (s.setBoard b { s.board b with map := [] }).dropLink b) s
  (List.range 24).foldl (fun s b => if (s.board b).trained then s.sendInit b none else s) s

/-! ### Actuation (R107 to R109) -/

/-- The sets of an actuator envelope: each addressed board's whole 32 bytes, the values last applied under the held
letters in order (R202). -/
def State.actSets (s : State) (held : List Letter) : List (Nat × Bytes) :=
  held.foldl (fun sets l => match target l.hdr.addr.toNat with
    | .actuator b off =>
      let old := match sets.find? fun e => decide (e.1 = b) with | some e => e.2 | none => fit (s.board b).applied 32
      (sets.filter fun e => decide (e.1 ≠ b)) ++ [(b, actClean (patch old off l.data))]
    | _ => sets) []

/-- The sets that frame k carries or decides for board b: those in progress, and those of envelopes in the commit
vector for boundary k. -/
def State.actsFor (s : State) (b k : Nat) : List Act :=
  (s.stg.acts.filter fun a => a.sets.any fun e => decide (e.1 = b)) ++
  (s.envs.filterMap fun e =>
    if e.2.st = .sealed ∧ e.2.vec = some k ∧ e.2.actuator = some true ∧ bit e.2.boardMask b then
      some { h := handleOf (e.1 / 64) (e.1 % 64) e.2.gen, sets := s.actSets e.2.held, c := k, env := true }
    else none)

/-- An exit fails after starting (Table 9-6). -/
def State.exitFail (s : State) (b cause : Nat) : State :=
  (((s.bump Reg.STG_EXIT_FAIL_CNT).ev 0x0706 b cause stgOrigin).setBState b 2 (if cause = 6 then 1 else 0))

/-- The decision of a set at cycle 1,000 of beat C (R107): CONFIRM if every addressed board acknowledged frame C. -/
def State.decide' (s : State) (a : Act) : Act × State :=
  let nack := a.sets.foldl (fun m e =>
    let got := match (s.board e.1).rx with
      | some rx => decide (rx.beat = a.c) && rx.ok.ack && decide (le rx.frame 192 2 = a.h) && bit (byteAt rx.frame 194).toNat 0
      | none => false
    if got then m else setBit m e.1 true) 0
  let a := { a with nack := nack, dec := if nack = 0 then 1 else 2, stage := 1 }
  match a.exit with
  | some b => if nack ≠ 0 ∧ s.bstate b = 3 then (a, s.exitFail b 6) else (a, s)
  | none => (a, s)

/-- ACTUATOR_DECISION (R107): at cycle 1,000 of beat C the decision is taken; frames C + 1 and C + 2 carry it. -/
def State.actDecide (s : State) : State :=
  s.stg.acts.foldl (fun s a =>
    if a.stage = 0 ∧ a.c ≤ s.beatN ∧ s.cycle ≥ 1000 then
      let r := s.decide' a
      { r.2 with stg := { r.2.stg with acts := r.2.stg.acts.map fun x => if x = a then r.1 else x } }
    else s) s

/-- What a board's upstream frame C + 3 says of a set (R108, R109): APPLIED 1, DROPPED 2, UNRESOLVED 3, or 0. Both its sample and its
status section must be valid (which section's check R109 means is left open: log entry 59). -/
def Rx.confState (rx : Rx) (a : Act) : Nat :=
  if rx.beat = a.c + 2 ∧ rx.valid ∧ le rx.frame 44 2 = a.h then (byteAt rx.frame 46).toNat % 4 else 0

/-- A board's report for the sets that concern it, in beat C + 2 (R202, Table 9-6). -/
def State.actReport (s : State) (b : Nat) (rx : Rx) : State :=
  s.stg.acts.foldl (fun s a => match a.sets.find? fun e => decide (e.1 = b) with
    | none => s
    | some (_, v) =>
      let st := rx.confState a
      let s := if st = 1 then (s.setBoard b { s.board b with applied := v }).admin b else s
      if a.exit = some b ∧ s.bstate b = 3 then
        if st = 1 then s.setBState b 4 3
        else if st = 2 then s.exitFail b 7
        else if st = 3 then s.exitFail b 8
        else s
      else s) s

/-- Boards of a set that upstream frame C + 3 leaves unresolved (R109). -/
def State.unresolved (s : State) (a : Act) : Nat :=
  a.sets.foldl (fun m e => match (s.board e.1).rx with
    | some rx => if rx.confState a = 1 ∨ rx.confState a = 2 then m else setBit m e.1 true
    | none => setBit m e.1 true) 0

/-- The outcome of an actuator envelope at C + 3 (R104, R109): its status, counters and events, and the slot FREE. -/
def State.actOutcome (s : State) (a : Act) : State :=
  if ¬ a.env then s
  else
    let p := hPart a.h
    let e := s.env p (hSlot a.h)
    let st := if a.dec = 1 then (if a.unres = 0 then 0 else 0x13) else 2
    let s := if st = 0 then s
      else if st = 0x13 then (s.bump Reg.ENV_PARTIAL_CNT).ev 0x0204 (a.h + 65536 * st) a.unres p
      else
        let s := (s.bump Reg.ENV_ACT_DISCARD_CNT).ev 0x0206 (a.h + 65536 * st) a.nack p
        if a.unres ≠ 0 then s.ev 0x0207 (a.h + 65536 * st) a.unres p else s
    let s := s.outcome e a.h st
    s.putEnv p (hSlot a.h) { gen := e.gen }

/-- ACTUATOR_RESOLVE (R109): at cycle 1,000 of beat C + 2 unresolved boards are commanded LOCAL; at boundary C + 3 the
outcome word is written. -/
def State.actResolve (s : State) : State :=
  s.stg.acts.foldl (fun s a =>
    let late := a.stage ≤ 1 ∧ (a.c + 3 ≤ s.beatN ∨ (a.c + 2 = s.beatN ∧ s.cycle ≥ 1000))
    let u := s.unresolved a
    let a' := if late then { a with unres := u, stage := 2 } else a
    let s := if late then
        let s := (boardsIn u).foldl State.commandLocal s
        match a.exit with
        | some b => if s.bstate b = 3 ∧ bit u b then s.exitFail b 8 else s
        | none => s
      else s
    if a.c + 3 ≤ s.beatN then
      ({ s with stg := { s.stg with acts := s.stg.acts.erase a } }).actOutcome a'
    else { s with stg := { s.stg with acts := s.stg.acts.map fun x => if x = a then a' else x } }) s

/-- ACTUATOR_DECISION (R107). -/
def execActuatorDecision (s : State) : Res := .next s.actDecide

/-- ACTUATOR_RESOLVE (R109). -/
def execActuatorResolve (s : State) : Res := .next s.actResolve

/-! ### Exit from local mode (R204) -/

/-- A loop whose DUTY output goes to the board is RUNNING. -/
def State.loopRunningOn (s : State) (b : Nat) : Bool :=
  s.loops.any fun e => decide (s.lstate e.1 = 2 ∧ lOutKind e.2.ent = 0 ∧ lOutBoard e.2.ent = b)

/-- A frame of the board has come in this beat. -/
def State.reportsNow (s : State) (b : Nat) : Bool := match (s.board b).rx with | some rx => decide (rx.beat = s.beatN) | none => false

/-- The first condition of R204 that fails, by the cause codes of event 0x0706. -/
def State.exitRefusal (s : State) (b : Nat) : Option Nat :=
  let x := s.nextFrame b
  if s.mstate ≠ 3 then some 0
  else if s.bstate b ≠ 2 then some 1
  else if (s.board b).run < 16 ∨ ¬ s.reportsNow b then some 2
  else if bit (s.board b).flags 6 then some 3
  else if s.loopRunningOn b then some 4
  else if (s.actsFor b x).any (fun a => decide (x ≤ a.c + 2)) then some 5
  else none

/-- An exit is requested for a board (R204): it is judged as the frame of its boundary X is composed (Table 9-7). -/
def State.askExit (s : State) (b : Nat) : State := { s with stg := { s.stg with exits := setBit s.stg.exits b true } }

/-- The request is judged for the frame that is next: it is refused by the first condition that fails, or the internal set goes
into frame X with MODE EXIT. -/
def State.judgeExit (s : State) (b : Nat) : State :=
  if bit s.stg.exits b then
    let s : State := { s with stg := { s.stg with exits := setBit s.stg.exits b false } }
    match s.exitRefusal b with
    | some c => s.ev 0x0706 b c stgOrigin
    | none => s.sendInit b (some b)
  else s

/-- The exit of a board starts with frame k. -/
def State.exitsWith (s : State) (b k : Nat) : Bool := s.stg.acts.any fun a => decide (a.exit = some b ∧ a.c = k)

/-- Boundary X of an exit: the board enters EXITING (Table 9-7). -/
def State.exitStarts (s : State) : State :=
  (List.range 24).foldl (fun s b => if s.exitsWith b s.beatN && decide (s.bstate b = 2) then s.setBState b 3 1 else s) s

/-! ### Phase duty and the downstream frame (R195, R206) -/

/-- The duty of phase n of a board from an output u and its limits (R206). -/
def State.duties (s : State) (b n : Nat) (u : Int) (lim : Int → Int) : Nat :=
  let ps := s.pstate n
  let d := lim (if ps ≤ 1 then u + rhe (u * sint 16 (s.f (Reg.STG_PHASE_TRIM n))) 15 else u)
  let ramp := max 1 (le (s.board b).map 18 2)
  let d := if ps = 1 then (d * ((ramp : Int) - (s.phase n).t)).tdiv ramp else d
  let d := if ps ≥ 2 then 0 else d
  (clamp 0 0x7FFF d).toNat

/-- The duty of a phase (R206): its loop's output, or a removed loop's SAFE_U (Table 8-5); 0xFFFF where no loop drives it. -/
def State.phaseDuty (s : State) (b j : Nat) (half : Bool) : Nat :=
  let n := 4 * b + j
  match s.phaseLoop b j with
  | none => (match (s.phase n).safeU with
    | some u => if half then 0xFFFF else s.duties b n u id
    | none => 0xFFFF)
  | some (k, L) =>
    if half && decide (lDiv L.ent ≠ 0) then 0xFFFF
    else s.duties b n (if !half && decide (L.halfAt = some s.beatN) then L.uFull else s.loopU k)
      fun d => min (max d (i16 L.win 2)) (i16 L.win 4)

/-- A SHEDDING phase becomes SHED (R208). -/
def State.shedEnd (s : State) (b j : Nat) : State :=
  s.setPstates b fun i => if i = j then 2 else s.pstate (4 * b + i)

/-- SHEDDING phases take one more t in frame k, once, and are SHED where it reaches SHED_RAMP (R208). -/
def State.shedTick (s : State) (b k : Nat) : State :=
  if (s.board b).ticked = k then s
  else
    let s := s.setBoard b { s.board b with ticked := k }
    (List.range 4).foldl (fun s j =>
      let n := 4 * b + j
      if s.pstate n = 1 then
        let t := (s.phase n).t + 1
        if t ≥ le (s.board b).map 18 2 then s.shedEnd b j else s.setPhase n { s.phase n with t := t }
      else s) s

/-- MODE of frame k (R203, Table 9-7): LOCAL, EXIT or NORMAL. -/
def State.frameMode (s : State) (b k : Nat) : Nat :=
  if (s.board b).force ∨ s.bstate b = 1 ∨ (s.bstate b = 2 ∧ ¬ s.exitsWith b k) ∨ (s.mstate ≠ 4 ∧ s.mstate ≠ 3) then 1
  else if s.bstate b = 3 ∨ s.bstate b = 2 then 2 else 0

/-- The EN field: the running phases, none while grid control has disabled the phases (Table 6-5). -/
def State.enField (s : State) (b : Nat) : Nat := if s.grd.disabled then 0 else (s.running b).foldl (fun m j => m + 2 ^ j) 0

/-- SRC.ACTIVE of frame k (R434): 1 in FEEDS_ONLY; in TWIN as the last change of control left it from its frame on. -/
def State.srcActive (s : State) (k : Nat) : Bool :=
  if s.f Reg.TWN_CFG_MODE = 0 then true
  else match s.twn.flip with
    | some (k0, v) => if k0 ≤ k then v else s.twn.act
    | none => s.twn.act

/-- ACTIVE in the single LOCAL frame of Table 1-7 (R385): a dying active keeps it 0 for a STANDBY peer that is SYNC. -/
def State.localActive (s : State) : Bool :=
  s.srcActive (s.beatN + 1) && !(s.b Reg.TWN_CFG_MODE && s.b Reg.TWN_STATUS_LINK && decide (s.f Reg.TWN_STATUS_PEER_MSTATE = 4)
    && bit (byteAt s.twn.peer 6).toNat 2)

/-- The parts of downstream frame k of a board that are taken at cycles 0, 875, 1,000 and 1,200 (Table 9-1): bytes 4 to 11, the
full-beat duty, bytes 1,008 to 1,063 and the half-beat duty. -/
def State.framePart (s : State) (b k part mode : Nat) (act : Bool) : Bytes :=
  let live := s.bstate b = 3 ∨ s.bstate b = 4
  let duty (half : Bool) : Bytes := (List.range 4).flatMap fun j => toLe 2 (if live then s.phaseDuty b j half else 0xFFFF)
  match part with
  | 0 => toLe 2 (if s.b Reg.TWN_CFG_MODE then s.f Reg.TWN_STATUS_EPOCH else 0)
      ++ [BitVec.ofNat 8 (s.f Reg.TWN_STATUS_MODULE + 2 * ofBool act), 0] ++ toLe 4 (s.f Reg.STG_VREF_VREF)
  | 1 => duty false
  | 2 =>
    let acts := s.actsFor b k
    let conf := acts.find? fun a => decide ((a.c + 1 = k ∨ a.c + 2 = k) ∧ a.dec ≠ 0)
    let pend := acts.find? fun a => decide (a.c = k)
    [BitVec.ofNat 8 mode, BitVec.ofNat 8 (s.enField b), BitVec.ofNat 8 (ofBool (bit s.stg.firing b)), BitVec.ofNat 8 (s.isoField b)]
    ++ (match conf with | some a => toLe 2 a.h ++ [BitVec.ofNat 8 a.dec, 0] | none => toLe 2 0xFFFF ++ [0, 0])
    ++ ((List.range 4).flatMap fun j => toLe 2 (s.phase (4 * b + j)).shift)
    ++ (match pend with
      | some a => toLe 2 a.h ++ toLe 4 (k + 2) ++ zeros 2 ++
          (match a.sets.find? fun e => decide (e.1 = b) with | some e => fit e.2 32 | none => zeros 32)
      | none => toLe 2 0xFFFF ++ zeros 6 ++ zeros 32)
  | _ => duty true

/-- A frame from its parts, with its check word (Table 9-1). -/
def frameOf (k : Nat) (p0 p1 p2 p3 : Bytes) : Bytes :=
  let body := toLe 4 k ++ p0 ++ zeros 868 ++ p1 ++ zeros 120 ++ p2 ++ zeros 140 ++ p3
  body ++ toLe 4 (crc32c body).toNat

/-- A part of frame k of a board is taken, once: before the duties a ramp moves on, before the mode an exit is judged. -/
def State.takePart (s : State) (b k part : Nat) : State :=
  if (s.stg.shots.get (4 * b + part) (0, [])).1 = k then s
  else
    let s := if part = 1 then s.shedTick b k else if part = 2 then s.judgeExit b else s
    let d := s.framePart b k part (s.frameMode b k) (s.srcActive k)
    { s with stg := { s.stg with shots := s.stg.shots.put (4 * b + part) (k, d) (0, []) } }

/-- The bytes of a part that was taken. -/
def State.partOfFrame (s : State) (b part : Nat) : Bytes := (s.stg.shots.get (4 * b + part) (0, [])).2

/-- At its cycle a part of every coming frame is taken (R195). -/
def State.takeParts (s : State) (part : Nat) : State :=
  (List.range 24).foldl (fun s b =>
    if (s.board b).trained ∧ ¬ s.stg.stopped ∧ s.nextFrame b = s.beatN + 1 then s.takePart b (s.beatN + 1) part else s) s

/-- Frame k of a board leaves. -/
def State.giveFrame (s : State) (b k : Nat) (act : Bool) (fr : Bytes) : State :=
  let s := s.setF Reg.TWN_STATUS_ACTIVE (ofBool act)
  let s := s.setF (Reg.STG_BOARD_STATUS_EN b) (byteAt fr 1009).toNat
  let s := s.setF (Reg.STG_BOARD_STATUS_FIRE b) ((byteAt fr 1010).toNat % 2)
  let s := s.setBoard b { s.board b with force := false, sent := some (k, fr) }
  let s := if bit (byteAt fr 1010).toNat 0 then { s with stg := { s.stg with fired := setBit s.stg.fired b true } } else s
  s.drive (.downstream b fr)

/-- A downstream frame is composed and sent (R194, R195): every field as it was at its cycle. -/
def State.sendFrame (s : State) (b : Nat) : State :=
  let k := s.beatN + 1
  let s := (List.range 4).foldl (fun s i => s.takePart b k i) s
  s.giveFrame b k (bit (byteAt (s.partOfFrame b 0) 2).toNat 1)
    (frameOf k (s.partOfFrame b 0) (s.partOfFrame b 1) (s.partOfFrame b 2) (s.partOfFrame b 3))

/-- The single LOCAL frame to every board on HOLDUP, a junction trip or a whole-chip reset (Table 1-7): the frame that is next,
from the state as it is. -/
def State.localFrames (s : State) : State :=
  let act := s.localActive
  (List.range 24).foldl (fun s b =>
    if (s.board b).trained ∧ ¬ s.stg.stopped then
      let k := s.nextFrame b
      let s := s.shedTick b k
      s.giveFrame b k act (frameOf k (s.framePart b k 0 1 act) (s.framePart b k 1 1 act) (s.framePart b k 2 1 act) (s.framePart b k 3 1 act))
    else s) s

/-! ### Sharing (R207) -/

/-- The groups of a board: the phase masks of the loops that drive it. -/
def State.groupsOf (s : State) (b : Nat) : List Nat :=
  (s.loops.filterMap fun e =>
    if s.lstate e.1 ≠ 0 ∧ lOutKind e.2.ent = 0 ∧ lOutBoard e.2.ent = b ∧ e.2.phases ≠ 0 then some e.2.phases else none)

/-- The trims of one group are adjusted from the sums of the window. -/
def State.shareGroup (s : State) (b g : Nat) : State :=
  let on := (List.range 4).filter fun j => bit g j && decide (s.pstate (4 * b + j) = 0)
  if on.length < 2 ∨ (s.board b).shared < 100 ∨ bit s.stg.fired b then s
  else
    let m := ((on.map fun j => (s.phase (4 * b + j)).sum).sum).tdiv on.length
    if m ≤ 0 then s
    else on.foldl (fun s j =>
      let n := 4 * b + j
      let dev := ((m - (s.phase n).sum) * 32768).tdiv m
      let t := clamp (-1310) 1310 (sint 16 (s.f (Reg.STG_PHASE_TRIM n)) + rhe (s.lf Reg.STG_SHARE_KS * dev) 15)
      s.setF (Reg.STG_PHASE_TRIM n) (uint 16 t)) s

/-- A new window of R207 begins: sums and counts are 0, and FIRE counts anew. -/
def State.shareReset (s : State) (win : Nat) : State :=
  { s with stg := { s.stg with
      shareWin := win
      fired := s.stg.firing
      boards := s.stg.boards.map fun e => (e.1, { e.2 with shared := 0 })
      phases := (s.stg.phases.map fun e => (e.1, { e.2 with sum := 0 })).filter fun e => decide (e.2 ≠ {}) } }

/-- SHARE_UPDATE (R207): at a boundary divisible by 100, once. -/
def execShareUpdate (s : State) : Res :=
  .next (if s.beatN % 100 = 0 ∧ s.stg.shareAt ≠ some s.beatN then
    let s := if s.lf Reg.STG_CFG_SHARE_EN = 1 ∧ s.stg.shareWin + 1 = s.beatN / 100 then
        (s.stg.boards.within 0 24).foldl (fun s e => (s.groupsOf e.1).foldl (fun s g => s.shareGroup e.1 g) s) s
      else s
    let s := s.shareReset (s.beatN / 100)
    { s with stg := { s.stg with shareAt := some s.beatN } }
  else s)

/-! ### Shedding (R208, R209) -/

/-- A group of a board. -/
def State.grp (s : State) (b g : Nat) : Grp := s.stg.groups.get (16 * b + g) {}
def State.setGrp (s : State) (b g : Nat) (v : Grp) : State :=
  { s with stg := { s.stg with groups := s.stg.groups.put (16 * b + g) v {} } }

/-- The phases of a group in a state. -/
def State.inState (s : State) (b g st : Nat) : List Nat :=
  (List.range 4).filter fun j => bit g j && decide (s.pstate (4 * b + j) = st)

/-- Shedding acts for a board. -/
def State.sheds (s : State) (b : Nat) : Bool :=
  (s.board b).shedEn && decide (s.lf Reg.STG_CFG_SHED_EN = 1 ∧ s.bstate b = 4)

/-- The total current of a group's ON and SHEDDING phases on this beat's sample. -/
def State.groupCurrent (s : State) (b g : Nat) : Int :=
  ((List.range 4).map fun j =>
    if bit g j && decide (s.pstate (4 * b + j) ≤ 1) then (s.field b j false).getD 0 else 0).sum

/-- The cause of an abort of a pending shed (R209): 0 step, 1 add, 2 undershoot, 3 FIRE. -/
def State.abortCause (s : State) (b g : Nat) (itot : Int) : Option Nat :=
  let m := (s.board b).map
  let n := (s.inState b g 0).length
  let prev := match (s.grp b g).itot with | some (at_, v) => if at_ + 1 = s.beatN then some v else none | none => none
  if (match prev with | some v => decide ((itot - v).natAbs > le m 14 2) | none => false) then some 0
  else if itot > n * le m 12 2 then some 1
  else if (s.field b 4 false).getD 0 * (s.board b).scaleV < (s.f Reg.STG_VREF_VREF : Int) - 100 * s.lf Reg.STG_ALLFIRE_UNDER_DV then some 2
  else if bit s.stg.firing b then some 3
  else none

/-- One group on a valid full-beat sample (R208, R209). -/
def State.shedGroup (s : State) (b g : Nat) : State :=
  let m := (s.board b).map
  let itot := s.groupCurrent b g
  let on := s.inState b g 0
  let dn := s.inState b g 1
  let shed := s.inState b g 2
  let n := on.length
  let G := s.grp b g
  let hold := if dn = [] ∧ n ≥ 2 ∧ itot < n * le m 10 2 then G.hold + 1 else 0
  let keep (s : State) (h : Nat) : State := s.setGrp b g { hold := h, itot := some (s.beatN, itot) }
  match (if dn = [] then none else s.abortCause b g itot) with
  | some cause =>
    let j := dn.getD 0 0
    let s := s.setPstates b fun i => if dn.contains i then 0 else s.pstate (4 * b + i)
    keep ((s.bump Reg.STG_SHED_ABORT_CNT).ev 0x0704 (b + 256 * j) cause stgOrigin) 0
  | none =>
    if shed ≠ [] ∧ n ≥ 1 ∧ itot > n * le m 12 2 then
      let j := shed.getD 0 0
      keep ((s.setPstates b fun i => if i = j then 0 else s.pstate (4 * b + i)).bump Reg.STG_ADD_CNT) 0
    else keep s hold

/-- SHED_START (R208): HOLD consecutive samples below SHED_A per phase. -/
def execShedStart (b : Fin 24) (grp : BitVec 4) (s : State) : Res :=
  let g := grp.toNat
  let on := s.inState b.val g 0
  .next (if s.sheds b.val ∧ (s.groupsOf b.val).contains g ∧ s.inState b.val g 1 = [] ∧ on.length ≥ 2 ∧
      (s.grp b.val g).hold ≥ max 1 (le (s.board b.val).map 16 2) then
    let j := on.getLast?.getD 0
    let s := s.setPstates b.val fun i => if i = j then 1 else s.pstate (4 * b.val + i)
    (s.bump Reg.STG_SHED_CNT).setGrp b.val g { s.grp b.val g with hold := 0 }
  else s)

/-- SHED_RAMP_END (R208): the coming frame's t reaches SHED_RAMP. -/
def execShedRampEnd (b : Fin 24) (j : Fin 4) (s : State) : Res :=
  let n := 4 * b.val + j.val
  .next (if s.pstate n = 1 ∧ (s.phase n).t + 1 ≥ le (s.board b.val).map 18 2 then s.shedEnd b.val j.val else s)

/-! ### All-fire (R211) -/

/-- The median of samples (R211, R253). -/
def median (l : List Int) : Option Int :=
  let a := l.mergeSort
  let h := a.length / 2
  if a = [] then none
  else if a.length % 2 = 1 then some (a.getD h 0) else some ((a.getD (h - 1) 0 + a.getD h 0).fdiv 2)

/-- The median of a field of the valid BANK samples of this beat, in mV. -/
def State.bankMedian (s : State) (i : Nat) : Option Int :=
  median ((List.range 24).filterMap fun b =>
    let B := s.board b
    if B.trained ∧ B.role = 2 then (s.field b i false).map (· * (B.scaleV : Int)) else none)

/-- NORMAL group S boards. -/
def State.fireBoards (s : State) : Nat :=
  (List.range 24).foldl (fun m b => if b ≥ 12 ∧ (s.board b).trained ∧ (s.board b).map ≠ [] ∧ s.bstate b = 4 then setBit m b true else m) 0

/-- ALLFIRE_LIM of an episode: the largest ALLFIRE_MAX_US applied, 1 to 1,000. -/
def State.fireLimit (s : State) (m : Nat) : Nat :=
  (boardsIn m).foldl (fun x b => max x (min 1000 (max 1 (le (s.board b).applied 18 2)))) 0

/-- An all-fire episode ends (R211). -/
def State.fireEnd (s : State) (byRelease : Bool) (first : Nat) : State :=
  let dur := s.beatN + 1 - first
  let s := ((s.bump Reg.STG_FIRE_CNT).bumpBy Reg.STG_FIRE_US dur).ev 0x0705 (ofBool byRelease) dur stgOrigin
  { s with stg := { s.stg with episode := none, firing := 0, above := 0, rearmed := false } }

/-- The all-fire evaluation on the samples of this beat. -/
def State.allFire (s : State) : State :=
  let v := s.bankMedian 4
  let vref : Int := s.f Reg.STG_VREF_VREF
  let ge := match v with | some x => decide (x ≥ vref) | none => false
  let above := if ge then s.stg.above + 1 else 0
  let prev := match s.stg.vPrev with | some (b, x) => if b + 1 = s.beatN then some x else none | none => none
  let s := { s with stg := { s.stg with above := above, rearmed := s.stg.rearmed || decide (above ≥ 100)
                                        vPrev := v.map fun x => (s.beatN, x) } }
  match s.stg.episode with
  | some (first, _) =>
    if (match v with | some x => decide (x ≥ vref - 100 * s.lf Reg.STG_ALLFIRE_RELEASE_DV) | none => false) then s.fireEnd true first
    else { s with stg := { s.stg with firing := s.fireBoards } }
  | none =>
    match v, prev with
    | some x, some y =>
      let m := s.fireBoards
      if s.lf Reg.STG_CFG_ALLFIRE_EN = 1 ∧ x - y < -(s.lf Reg.STG_ALLFIRE_SLOPE_MV : Int) ∧ x < vref ∧ s.stg.rearmed ∧ m ≠ 0 then
        { s with stg := { s.stg with episode := some (s.beatN + 1, s.fireLimit m), firing := m } }
      else s
    | _, _ => s

/-- ALLFIRE_LIMIT (R211): ALLFIRE_LIM beats after its first frame the episode ends. -/
def execAllfireLimit (s : State) : Res :=
  .next (match s.stg.episode with
    | some (first, lim) => if first + lim ≤ s.beatN + 1 then s.fireEnd false first else s
    | none => s)

/-! ### Upstream frames (R197 to R200, R203, R217) -/

/-- The sections that failed, a bit per section (R219). -/
def failedOf (v : Sections) : Nat :=
  ofBool (!v.sample) + 2 * ofBool (!v.status) + 4 * ofBool (!v.ack) + 8 * ofBool (!v.fault) + 16 * ofBool (!v.half)

/-- An invalid or missing frame is counted (R198, Table 9-10). -/
def State.frameMissed (s : State) (b failed : Nat) (mismatch : Option Nat := none) : State :=
  let miss := satAdd 8 (s.f (Reg.STG_BOARD_STATUS_MISS b)) 1
  let s := (s.setF (Reg.STG_BOARD_STATUS_MISS b) miss).bump (Reg.STG_RX_MISS_CNT b)
  let s := s.setBoard b { s.board b with run := 0 }
  let gs := s.stg.groups.map fun (e : Nat × Grp) => if e.1 / 16 = b then (e.1, { e.2 with hold := 0 }) else e
  let s := if bit failed 0 then { s with stg := { s.stg with groups := gs } } else s
  let s := s.ev 0x0703 (b + 256 * failed) miss stgOrigin
  match mismatch with
  | some x => s.ev 0x0708 b x stgOrigin
  | none => s

/-- Limit trips of a section are added to the phases' counts (R200). -/
def State.addTrips (s : State) (b : Nat) (fr : Bytes) (off : Nat) : State :=
  (List.range 4).foldl (fun s j =>
    let c := le fr (off + 24 + 2 * j) 2 % 32768
    let n := 4 * b + j
    (s.bumpBy (Reg.STG_CLT_CNT n) c).setPhase n { s.phase n with trips := (s.phase n).trips + c }) s

/-- A new fault record goes to the next of the board's MRAM slots (R217). -/
def State.faultRecord (s : State) (b : Nat) (fr : Bytes) : State :=
  let rec_ := (fr.drop 256).take 60
  let fseq := le rec_ 0 2
  let B := s.board b
  if fseq = B.fseq then s
  else
    let s := s.wrBytes (0x801000 + 256 * b + 64 * B.slot) (fit rec_ 60 ++ [0, 0, 0, 0xA5]) 16
    let s := s.setBoard b { B with fseq := fseq, slot := (B.slot + 1) % 4 }
    s.ev 0x0707 (b + 65536 * fseq) (le rec_ 2 2) stgOrigin

/-- The sample letters of a valid section (R198). -/
def State.sampleLetter (s : State) (b : Nat) (fr : Bytes) (half : Bool) : State :=
  let dest := le (s.board b).map 20 6
  if dest = 0 then s
  else
    let data := ((fr.drop (if half then 640 else 0)).take 32) ++ (fr.drop 36).take 4 ++ (fr.drop 42).take 2
      ++ [byteAt fr 41, 1] ++ (fr.drop 48).take 8
    s.send
      { op := .put, hdr := { sender := .unit 0x0200, addr := BitVec.ofNat 48 (dest + if half then 64 else 0), tag := 0, reply := .none },
        len := 48, data := fit data 48, det := true, issued := s.now }

/-- The status section: flags, phase faults and comparator episodes (R199, R205, R212). -/
def State.statusIn (s : State) (b : Nat) (fr : Bytes) : State :=
  let B := s.board b
  let flags := le fr 42 2
  let ph := (byteAt fr 47).toNat % 16
  let s := if bit flags 5 ∧ ¬ bit B.flags 5 then s.bump Reg.STG_COMP_FIRE_CNT else s
  let s := s.setF (Reg.STG_BOARD_STATUS_INPUT_LOSS b) (ofBool (bit flags 0))
  let s := s.setF (Reg.STG_BOARD_STATUS_CONT b) (flags / 8 % 4)
  (s.setBoard b { B with flags := flags, phFault := ph }).admin b

/-- The board's report moves its state (Table 9-6). -/
def State.reported (s : State) (b : Nat) (rx : Rx) : State :=
  let bs := (byteAt rx.frame 41).toNat % 4
  let st := s.bstate b
  let s := s.actReport b rx
  if st = 1 ∧ (bs = 1 ∨ bs = 2) then s.setBState b 2 0
  else if st = 4 ∧ bs = 1 then (s.bump Reg.STG_LOCAL_CNT).setBState b 2 0
  else if s.bstate b = 3 ∧ st = 3 ∧ bs = 1 then s.exitFail b 9
  else s

/-- The sections of an upstream frame that are in time and pass their own CRC-32C (R197, Table 9-2). -/
def sectionsOf (fr : Bytes) (v : Sections) : Sections :=
  ⟨v.sample && crcOk fr 0 32, v.status && crcOk fr 36 24, v.ack && crcOk fr 192 4, v.fault && crcOk fr 256 60, v.half && crcOk fr 640 32⟩

/-- All-fire is evaluated once a beat (R211). -/
def State.fireOnce (s : State) : State :=
  if s.stg.fireDone = s.beatN + 1 then s
  else State.allFire { s with stg := { s.stg with fireDone := s.beatN + 1 } }

/-- What passes with a fabric cycle in the stage controller (R183, R195), all-fire by cycle 535 (R211). -/
def State.stageCycle (s : State) : State :=
  if s.cycle = 0 then s.takeParts 0
  else if s.cycle = 535 then s.fireOnce
  else if s.cycle = 875 then s.takeExt.takeParts 1
  else if s.cycle = 1000 then s.takeParts 2
  else if s.cycle = 1200 then s.takeParts 3
  else s

/-- An upstream frame of this beat reaches the controller (R198): every section that passes is taken. -/
def State.stageFrame (s : State) (b : Nat) (fr : Bytes) (inTime : Sections) : State :=
  let v0 := sectionsOf fr inTime
  let other := v0.status && decide ((byteAt fr 40).toNat ≠ b)
  let v : Sections := if other then ⟨false, false, false, false, false⟩ else v0
  let rx : Rx := { beat := s.beatN, frame := fr, ok := v, valid := v.sample && v.status }
  let s := s.setBoard b { s.board b with rx := some rx }
  let s := if rx.valid then
      (s.setF (Reg.STG_BOARD_STATUS_MISS b) 0).setBoard b { s.board b with run := min 16 ((s.board b).run + 1) }
    else s.frameMissed b (failedOf v) (if other then some (byteAt fr 40).toNat else none)
  let s := if v.status then s.statusIn b fr else s
  let s := if v.fault then s.faultRecord b fr else s
  let s := if v.sample then (s.addTrips b fr 0).sampleLetter b fr false else s
  let s := if v.half then (s.addTrips b fr 640).sampleLetter b fr true else s
  let s := if rx.valid then s.reported b rx else s
  let s := if v.sample then
      let s := if s.beatN / 100 = s.stg.shareWin then s else s.shareReset (s.beatN / 100)
      let s := (List.range 4).foldl (fun s j =>
        s.setPhase (4 * b + j) { s.phase (4 * b + j) with sum := (s.phase (4 * b + j)).sum + i16 fr (2 * j) }) s
      s.setBoard b { s.board b with shared := (s.board b).shared + 1 }
    else s
  if v.sample ∧ s.sheds b then (s.groupsOf b).foldl (fun s g => s.shedGroup b g) s else s

/-- Every trained board has reported in this beat. -/
def State.allReported (s : State) : Bool :=
  s.stg.boards.all fun e => !e.2.trained || (match e.2.rx with | some rx => decide (rx.beat = s.beatN) | none => false)

/-- The samples of this beat are taken as a whole, once: boards that sent nothing are missing (R20, R30; a board is in use while a
STAGE_MAP that maps it is loaded), and all-fire is evaluated, where it has not been at its cycle (R211). -/
def State.stageTake (s : State) : State :=
  let s := (s.stg.boards.within 0 24).foldl (fun s e =>
    let got := match (s.board e.1).rx with | some rx => decide (rx.beat = s.beatN) | none => false
    if e.2.trained && !got then s.frameMissed e.1 31 else s) s
  let inUse := s.stg.boards.filter fun e => decide (e.2.map ≠ []) && s.b Reg.MAN_SHELF_VALID
  let good := inUse.any fun e => match e.2.rx with | some rx => decide (rx.beat = s.beatN) && rx.valid | none => false
  let s := { s with stg := { s.stg with taken := s.beatN + 1, nolink := if inUse = [] ∨ good then 0 else s.stg.nolink + 1 } }
  s.fireOnce

/-- BOARD_LOST (R203): 4 consecutive upstream frames missing or invalid. -/
def execBoardLost (b : Fin 24) (s : State) : Res :=
  .next (if s.f (Reg.STG_BOARD_STATUS_MISS b.val) ≥ 4 ∧ (s.bstate b.val = 2 ∨ s.bstate b.val = 3 ∨ s.bstate b.val = 4) then
    s.setBState b.val 1 2 else s)

/-- CLT_WINDOW (R200): at a multiple of 1,000 beats, once, phases whose trips exceed CLT_WARN raise event 0x070A. -/
def execCltWindow (s : State) : Res :=
  .next (if s.beatN % 1000 = 0 ∧ s.stg.cltAt ≠ some s.beatN then
    let s := s.stg.phases.foldl (fun s e =>
      if e.2.trips > s.lf Reg.STG_CFG_CLT_WARN then s.ev 0x070A e.1 e.2.trips stgOrigin else s) s
    { s with stg := { s.stg with
        cltAt := some s.beatN
        phases := (s.stg.phases.map fun e => (e.1, { e.2 with trips := 0 })).filter fun e => decide (e.2 ≠ {}) } }
  else s)

/-! ### The bus voltage reference (R214, R215) -/

/-- STG's staged fields come into force and VREF moves at a boundary (R214). -/
def State.vrefStep (s : State) : State :=
  let old := s.lf Reg.STG_VCMD_TARGET * 100
  let s := s.stage 0x800000 0x801000
  let vref := s.f Reg.STG_VREF_VREF
  let s := if s.stg.vcmd ∧ vref ≠ old then s.bump Reg.STG_RETARGET_CNT else s
  let s : State := { s with stg := { s.stg with vcmd := false } }
  let tgt := s.lf Reg.STG_VCMD_TARGET * 100
  let slew := s.lf Reg.STG_VCMD_SLEW
  s.setF Reg.STG_VREF_VREF (if tgt > vref then min tgt (vref + slew) else max tgt (vref - slew))

/-- The voltage loops' SP by an ordinary PUT at cycle 100 (R215). -/
def State.voltageSp (s : State) : State :=
  (s.loops.within 0 512).foldl (fun s e =>
    let b := e.2.ent
    if s.lstate e.1 ≠ 0 ∧ (byteAt b 15).toNat % 16 = 0 ∧ byteAt b 6 = 0 ∧ byteAt b 8 = 4 ∧ lOutKind b = 0 ∧
        (s.board (lOutBoard b)).role = 2 then
      s.send
        { op := .put, hdr := { sender := .unit 0x0200, addr := BitVec.ofNat 48 (setpointAddr e.1), tag := 0, reply := .none },
          len := 2, data := toLe 2 (min 0x7FFF (s.f Reg.STG_VREF_VREF / (s.board (lFbBoard b)).scaleV)), issued := s.now + 100 }
    else s) s

end Sys2Proof.Machine
end

