-- ==== Sys2Proof/Machine/Monitor.lean ====
section
/-! DEFINITION. The monitor controller: sessions, sweeps, comparators, reference checks and diagnoses (chapter 10). -/

namespace Sys2Proof.Machine

open Sys2Proof.Bits

/-- The origin of the monitor block's events. -/
def monOrigin : Nat := 0x151

/-- A unit, and the state with one set. -/
def State.cmu (s : State) (c : Nat) : Cmu := s.mon.cmus.get c {}
def State.setCmu (s : State) (c : Nat) (v : Cmu) : State := { s with mon := { s.mon with cmus := s.mon.cmus.put c v {} } }

/-- RADIO (Table 10-1). -/
def State.radio (s : State) : Bool := decide (byteAt s.mon.cfg 1 = 1)

/-- The unit mapped to a port or chain position. -/
def State.cmuAt (s : State) (port : Nat) : Option Nat :=
  ((s.mon.cmus.within 0 96).find? fun e => e.2.mapped && decide (e.2.port = port)).map (·.1)

/-- CSTATE (Table 10-11): 0 UNUSED, 1 DOWN, 2 OPEN, 3 MISSING, 4 LOST. -/
def State.cmuState (s : State) (c : Nat) : Nat := s.f (Reg.MON_CMU_STATUS_CSTATE c)

/-! ### String flags (R234) -/

/-- A flag of a string changes: bit i of CAUSE (Table 10-11), ISO and DERATED, and event 0x0804. -/
def State.strFlag (s : State) (st i : Nat) (v : Bool) : State :=
  let old := s.f (Reg.MON_STRING_CAUSE st)
  let new := setBit old i v
  if old = new then s
  else
    let wasIso := s.b (Reg.MON_STRING_ISO st)
    let s := s.setF (Reg.MON_STRING_CAUSE st) new
    let s := s.setF (Reg.MON_STRING_ISO st) (ofBool (bit new 0 || bit new 1))
    let s := s.setF (Reg.MON_STRING_DERATED st) (ofBool (decide (new / 4 ≠ 0)))
    let late := s.mon.late.filter fun e => decide (e.2 = s.beatN)
    let s := if !wasIso && s.b (Reg.MON_STRING_ISO st) && decide (s.cycle > 900) then
        { s with mon := { s.mon with late := late ++ [(st, s.beatN)] } } else s
    s.ev 0x0804 (st + 256 * old) new monOrigin

/-- DER_REF and DER_SENSE follow the units of a string. -/
def State.strDerived (s : State) (st : Nat) : State :=
  let cs := (List.range 12).map (12 * st + ·)
  let s := s.strFlag st 3 (cs.any fun c => s.b (Reg.MON_CMU_STATUS_REF_FAIL c))
  s.strFlag st 4 (cs.any fun c => decide (s.f (Reg.MON_SENSE_OPEN c) ≠ 0))

/-- DER_LOST is set on a string (R234): its run of complete sweeps begins again. -/
def State.derLost (s : State) (st : Nat) : State :=
  ({ s with mon := { s.mon with lostRun := s.mon.lostRun.put st 0 0 } }).strFlag st 2 true

/-- A change of a unit's state, with event 0x0801 (R227). A diagnosis in progress is abandoned when the unit leaves OPEN (R241);
requests that wait for it go on waiting (R239). -/
def State.cmuTo (s : State) (c new cause : Nat) : State :=
  let old := s.cmuState c
  if old = new then s
  else
    let s := s.setF (Reg.MON_CMU_STATUS_CSTATE c) new
    let s := if old = 2 then
        let q := s.mon.queued.filter fun m => !(decide (m.c = c) && (decide (m.type = 3) || decide (m.type = 4)))
        let s : State := { s with mon := { s.mon with queued := q } }
        (s.setCmu c { s.cmu c with diag := none, refAsked := none, refDue := none }).setF (Reg.MON_CMU_STATUS_DIAG c) 0
      else s
    s.ev 0x0801 (c + 256 * old + 4096 * new) cause monOrigin

/-! ### Frames (R223, R224) -/

/-- Two active modules overlap (R381, R426): both sent ACTIVE in their last frames. With the link lost the peer's last frame says no more; the
overlap is then settled within the two frames that follow this module's change (R381). -/
def State.overlap (s : State) : Bool :=
  s.b Reg.TWN_CFG_MODE && s.b Reg.TWN_STATUS_ACTIVE && s.b Reg.TWN_STATUS_PEER_ACTIVE &&
    (s.b Reg.TWN_STATUS_LINK || decide ((s.beatLo + 4294967296 - s.f Reg.TWN_LAST_BEAT_BEAT) % 4294967296 ≤ 2))

/-- The module transmits on the monitor ports: not a STANDBY, and of a pair only the active (R375, R376). -/
def State.monSends (s : State) : Bool := decide (s.mstate ≠ 4) && (!s.b Reg.TWN_CFG_MODE || s.srcActive s.beatN)

/-- A frame formed for a monitor port: the active sends it, its peer forms it alone (R375). -/
def State.monOut (s : State) (channel port : Nat) (fr : Bytes) : State :=
  let s : State := { s with twn := { s.twn with formed := s.twn.formed ++ [(port, fr)] } }
  if ¬ s.monSends then s else s.drive (.monitor channel port fr)

/-- What a port receives is an input of this beat (R377). -/
def State.hear (s : State) (port : Nat) (fr : Bytes) : State :=
  { s with twn := { s.twn with heard := s.twn.heard ++ [(port, fr)] } }

/-- The first 8 bytes of the SHAKE256 output over CHAIN_KEY and the bytes of a PSDU before its tag (R223). -/
def psduTag (key psdu : Bytes) : Bytes := fit (Config.shake256 (key ++ psdu) 8) 8
def State.chainTag (s : State) (psdu : Bytes) : Bytes := psduTag ((s.mon.cfg.drop 24).take 16) psdu

/-- A command frame leaves on a unit's port, or along the chain to a position, an ACK on the fault channel (Table 10-2, R223,
R235). -/
def State.monLeave (s : State) (c type port : Nat) (body : Bytes) : State :=
  let v := s.cmu c
  let seq := if s.radio then s.mon.chainSeq else v.seq
  let fr := [BitVec.ofNat 8 type, BitVec.ofNat 8 seq] ++ toLe 4 s.beatLo ++ fit body 16
  let fr := fr ++ toLe 4 (crc32c fr).toNat
  if s.radio then
    let psdu := toLe 2 (port + 256 * 15) ++ fr
    let s : State := { s with mon := { s.mon with chainSeq := (s.mon.chainSeq + 1) % 256 } }
    s.monOut (byteAt s.mon.cfg (if type = 5 then 3 else 2)).toNat port (psdu ++ s.chainTag psdu)
  else (s.setCmu c { v with seq := (v.seq + 1) % 256 }).monOut 0 port fr

/-! ### The ports (R226, R237, R238) -/

/-- The beats by which a SWEEP command leads its pause beat (R229, R230). -/
def State.sweepLead (s : State) : Nat := if s.radio then 5000 * s.mon.chain else 50

/-- The beat at which the next SWEEP command must leave. -/
def State.nextSweep (s : State) : Nat :=
  let p := max 1 (s.lf Reg.MON_CFG_SWEEP_MS) * 1000
  let L := ceilDiv (s.beatN + s.sweepLead) p * p
  (if L = s.mon.lastL then L + p else L) - s.sweepLead

/-- Beats from a command's departure to its reply: at a port 21 for the command, the command's own window for DIAG, 5 for the
answer and 14 for the reply; on the chain a slot for each hop, and one for a DIAG step's window (R222 to R226, R238). An ACK has no reply. -/
def State.exchange (s : State) (c type : Nat) : Nat :=
  let p := (s.cmu c).port
  if s.radio then 5000 * (2 * p + if type = 3 then 3 else 2)
  else if type = 3 then s.lf Reg.MON_TIMING_SETTLE_US + (s.lf Reg.MON_CFG_WIN + 1) * 10 + 100
  else 40

/-- The rank of a command's TYPE (R226): ACK, SWEEP, CONFIG, DIAG, REF, PASS. -/
def monRank (type : Nat) : Nat := if type = 5 then 0 else type

/-- The time is right for a command (R223, R226, R237, R238). On a port CONFIG may leave during a sweep, and PASS where its reply does not
delay a record, which may come from 64 beats before K; DIAG and REF leave in a gap between K and the next SWEEP. On the chain all leave
in a gap, at the start of a slot of 5,000 beats, counted from the pause beat of the last sweep. -/
def State.inGap (s : State) (m : MonCmd) : Bool :=
  let gap := decide (s.mon.sweeps = [])
  if s.radio then gap && decide ((s.beatN + 5000 - s.mon.lastL % 5000) % 5000 = 0)
  else gap || decide (m.type = 2) ||
    (decide (m.type = 6) && s.mon.sweeps.all fun w => decide (s.beatN + s.exchange m.c m.type + 64 ≤ w.K))

/-- A command may leave now: ACK when the port carries no other command's bytes, on the fault channel at once; any other where no exchange
is open, its time is right, and its reply arrives before the next SWEEP leaves. Those that wait are asked by rank (`monServe`), so none
delays one of a higher rank. -/
def State.mayLeave (s : State) (m : MonCmd) : Bool :=
  let line := s.radio || decide ((s.cmu m.c).lineAt ≤ s.beatN)
  let free := if s.radio then s.mon.chainFree else (s.cmu m.c).freeAt
  if m.type = 5 then line
  else line && decide (free ≤ s.beatN) && s.inGap m && decide (m.after ≤ s.mon.lastL) &&
    decide (s.beatN + s.exchange m.c m.type ≤ s.nextSweep)

/-- A unit's port carries a command's 26 bytes for 20.8 µs (R224). -/
def State.lineBusy (s : State) (c : Nat) : State := s.setCmu c { s.cmu c with lineAt := s.beatN + 21 }

/-- A waiting command leaves if it may; its port is taken until its reply is due. -/
def State.tryLeave (s : State) (m : MonCmd) : State :=
  if s.mon.queued.contains m ∧ s.mayLeave m then
    let s : State := { s with mon := { s.mon with queued := s.mon.queued.erase m } }
    let s := (s.monLeave m.c m.type (s.cmu m.c).port m.body).lineBusy m.c
    if m.type = 5 then s
    else
      let due := s.beatN + s.exchange m.c m.type
      let v := s.cmu m.c
      let s := s.setCmu m.c { v with freeAt := due, refDue := if m.type = 4 then some due else v.refDue }
      if s.radio then { s with mon := { s.mon with chainFree := due } } else s
  else s

/-- The ports serve what waits, by rank and then in the order of forming; in an overlap of two active modules none leaves
(R426). -/
def State.monServe (s : State) : State :=
  if s.mon.queued = [] ∨ s.overlap then s
  else
    let q := s.mon.queued
    ((List.range 7).flatMap fun r => q.filter fun m => decide (monRank m.type = r)).foldl State.tryLeave s

/-- A command is formed for a unit and waits for its port. -/
def State.monSend (s : State) (c type : Nat) (body : Bytes) (after : Nat := 0) : State :=
  (({ s with mon := { s.mon with queued := s.mon.queued ++ [MonCmd.mk c type body after] } } : State)).monServe

/-- A reply ends its exchange. -/
def State.portFree (s : State) (c : Nat) : State :=
  let s := s.setCmu c { s.cmu c with freeAt := s.beatN }
  if s.radio then { s with mon := { s.mon with chainFree := s.beatN } } else s

/-- A reference check whose reply is missing is sent again in the next gap (R237). -/
def State.refAgain (s : State) (c : Nat) : State :=
  match (s.cmu c).refDue with
  | some d =>
    if s.beatN < d then s else (s.setCmu c { s.cmu c with refDue := none }).monSend c 4 [] (s.mon.lastL + 1)
  | none => s

/-- The ports at a boundary. -/
def State.monBoundary (s : State) : State :=
  ((s.mon.cmus.within 0 96).foldl (fun s e => if e.2.refDue.isSome then s.refAgain e.1 else s) s).monServe

/-- CONFIG to a unit (Table 10-3), where none waits already. -/
def State.sendConfig (s : State) (c : Nat) : State :=
  if s.mon.queued.any fun m => decide (m.c = c ∧ m.type = 2) then s
  else s.monSend c 2 ([BitVec.ofNat 8 c, 0] ++ (s.mon.cfg.drop 4).take 4 ++ toLe 2 (s.f Reg.MON_TIMING_COMM_TO_MS))

/-- A DIAG step on a tap. -/
def State.sendDiag (s : State) (c tap sink : Nat) : State :=
  s.monSend c 3 ([BitVec.ofNat 8 tap, BitVec.ofNat 8 sink, BitVec.ofNat 8 (s.lf Reg.MON_CFG_WIN), 0] ++ toLe 2 (s.lf Reg.MON_TIMING_SETTLE_US))

/-- An invalid frame (R225): counted, with event 0x0809. -/
def State.badFrame (s : State) (port cause type : Nat) : State :=
  (s.bump Reg.MON_RX_BAD_CNT).ev 0x0809 (port + 256 * ofBool s.radio + 512 * cause) type monOrigin

/-- What a port carries: the frame itself, or under RADIO the frame within a PSDU from the position to the module (R223). -/
def State.inner (s : State) (data : Bytes) : Bytes := if s.radio then (data.take (data.length - 8)).drop 2 else data

/-- The header and the tag of a PSDU from a position. -/
def State.tagOk (s : State) (port : Nat) (data : Bytes) : Bool :=
  !s.radio || (decide (le data 0 2 = 15 + 256 * port) &&
    decide (data.drop (data.length - 8) = s.chainTag (data.take (data.length - 8))))

/-- What is received on a port (R223, R225): the unit and its frame of n bytes where it is valid, else none, with the state after
its count. -/
def State.monFrame (s : State) (port : Nat) (data : Bytes) (type n : Nat) : Option (Nat × Bytes) × State :=
  let fr := s.inner data
  match s.cmuAt port with
  | none => (none, s)
  | some c =>
    if !s.tagOk port data then (none, s.badFrame port 1 (byteAt fr 0).toNat)
    else if !(crcOk fr 0 (n - 4) && decide (fr.length = n ∧ (byteAt fr 0).toNat = type)) then (none, s.badFrame port 0 (byteAt fr 0).toNat)
    else if (byteAt fr 2).toNat ≠ c then (none, s.badFrame port 2 (byteAt fr 0).toNat)
    else (some (c, fr), if type = 0x81 ∨ type = 0x83 then s else s.portFree c)

/-! ### Mapping (R220, R221, R227, R231) -/

/-- The smallest SWEEP_MS that R231 allows for the values in force. -/
def State.sweepMin (s : State) (win settle : Nat) : Nat :=
  let w := (win + 1) * 10
  let n := s.mon.chain
  if s.radio then 5 * (n + 1 + n * (n + 1) / 2) else ceilDiv (settle + w + 200) 1000

/-- SWEEP_MS breaks R231 for the other values; the two bounds by MODE are judged where a map is loaded. -/
def State.sweepBad (s : State) (ms win settle comm : Nat) : Bool :=
  decide (comm < 3 * ms) || (decide (s.mon.cfg ≠ []) && decide (ms < s.sweepMin win settle))

/-- The mapped units enter DOWN at a swap release of the shelf partition (R221), DER_LOST is set on their strings, and
SWEEP_MS, and no other field, is adjusted under R231: to the smallest value that the values in force and those accepted for the first SWEEP
allow. The cause code of a change from UNUSED is not stated: a free value. -/
def State.monitorMap (s : State) (ents : List Bytes) : State :=
  let pos := ents.filter fun e => decide (byteAt e 0 = 1)
  match ents.find? fun e => decide (byteAt e 0 = 0) with
  | none => s
  | some cfg =>
    let s := { s with mon := { s.mon with cfg := cfg, chain := if byteAt cfg 1 = 1 then pos.length else 0, sweeps := [] } }
    let refs := s.mon.refs
    let s := { s with mon := { s.mon with refs := 0 } }
    let s := pos.foldl (fun s e =>
      let c := (byteAt e 2).toNat
      if c = 255 then s
      else
        let s := s.setCmu c { s.cmu c with mapped := true, port := (byteAt e 1).toNat, seq := ((s.cmu c).seq + refs) % 256 }
        let s := s.derLost (c / 12)
        (s.cmuTo c 1 (s.freeWord.toNat % 4)).useFree) s
    let need := max (s.sweepMin (s.lf Reg.MON_CFG_WIN) (s.lf Reg.MON_TIMING_SETTLE_US))
      (s.sweepMin (s.f Reg.MON_CFG_WIN) (s.f Reg.MON_TIMING_SETTLE_US))
    let comm := s.f Reg.MON_TIMING_COMM_TO_MS
    if s.sweepBad (s.lf Reg.MON_CFG_SWEEP_MS) (s.lf Reg.MON_CFG_WIN) (s.lf Reg.MON_TIMING_SETTLE_US) comm ||
        s.sweepBad (s.f Reg.MON_CFG_SWEEP_MS) (s.f Reg.MON_CFG_WIN) (s.f Reg.MON_TIMING_SETTLE_US) comm then
      ((s.setF Reg.MON_CFG_SWEEP_MS need).setLive Reg.MON_CFG_SWEEP_MS need).ev 0x0808 0x900000 need monOrigin
    else s

/-- The shelf partition is removed at S (Table 10-6). Verdicts stand (R236, R241), and requests wait. -/
def State.monitorUnmap (s : State) : State :=
  let s := (s.mon.cmus.within 0 96).foldl (fun s e =>
    if e.2.mapped then
      (s.cmuTo e.1 0 3).setCmu e.1 { seq := e.2.seq, bal := e.2.bal, asks := e.2.asks, verdicts := e.2.verdicts } else s) s
  { s with mon := { s.mon with cfg := [], sweeps := [], queued := [] } }

/-! ### Sweeps (R228 to R233) -/

/-- Cells adjacent to a tap. -/
def tapCells (t : Nat) : List Nat := (if t > 0 then [t - 1] else []) ++ (if t < 18 then [t] else [])

/-- A cell is adjacent to a marked tap of its unit. -/
def State.marked (s : State) (c j : Nat) : Bool := bit (s.f (Reg.MON_SENSE_OPEN c)) j || bit (s.f (Reg.MON_SENSE_OPEN c)) (j + 1)

/-- BAL of a SWEEP command (R233): cells adjacent to a tap under diagnosis or marked open are cleared. -/
def State.balMask (s : State) (c : Nat) : Nat :=
  (List.range 18).foldl (fun m j =>
    let under := match (s.cmu c).diag with | some d => (tapCells d.tap).contains j | none => false
    if bit (s.cmu c).bal j && !(s.marked c j) && !under then m + 2 ^ j else m) 0

/-- Cells that no unit of the chain may balance: BAL of a chain's one command is stated per unit alone, so its other bits are a free
value (log entry 18). -/
def State.chainBal (s : State) : Nat :=
  let cs := (s.mon.cmus.within 0 96).filter fun e => e.2.mapped
  s.freeWord.toNat % 262144 &&& cs.foldl (fun m e => m &&& s.balMask e.1) (2 ^ 18 - 1)

/-- The SWEEP command of a sweep leaves: on every port, or as one broadcast along the chain to its last position (R228). -/
def State.sweepOut (s : State) (L settle : Nat) : State :=
  let body (bal : Nat) : Bytes := toLe 4 L ++ [BitVec.ofNat 8 (s.lf Reg.MON_CFG_WIN), 0] ++ toLe 2 settle ++ toLe 3 bal
  if s.radio then (s.monLeave 96 1 (s.mon.chain - 1) (body s.chainBal)).useFree
  else (s.mon.cmus.within 0 96).foldl (fun s e =>
    if e.2.mapped then (s.monLeave e.1 1 e.2.port (body (s.balMask e.1))).lineBusy e.1 else s) s

/-- SWEEP_COMMAND (R228 to R230): at L − 50 on the ports, or L − 5,000 n along the chain, MON's staged fields come into
force and the command leaves, unless two active modules overlap (R426); a CONFIG waits behind it for each unit DOWN or LOST. -/
def State.sweepCommand (s : State) : State :=
  let L := s.beatN + s.sweepLead
  if s.overlap ∨ s.mon.cfg = [] ∨ L % (max 1 (s.lf Reg.MON_CFG_SWEEP_MS) * 1000) ≠ 0 ∨ s.mon.lastL = L then s
  else
    let s := s.stage 0x900000 0x900010
    let n := s.mon.chain
    let w := (s.lf Reg.MON_CFG_WIN + 1) * 10
    let settle := s.lf Reg.MON_TIMING_SETTLE_US
    let K := if s.radio then L + 5000 * (1 + n * (n + 1) / 2) else L + settle + w + 64
    let s := { s with mon := { s.mon with lastL := L, sweeps := s.mon.sweeps ++ [Sweep.mk L K] } }
    (s.mon.cmus.within 0 96).foldl (fun s e =>
      if e.2.mapped ∧ (s.cmuState e.1 = 1 ∨ s.cmuState e.1 = 4) then s.sendConfig e.1 else s) (s.sweepOut L settle)

/-- SWEEP_COMMAND (R228). -/
def execSweepCommand (s : State) : Res := .next s.sweepCommand

/-- SWEEP_RECORD (R225): a valid record of a sweep in progress is held until K. -/
def execSweepRecord (port : Fin 96) (data : Bytes) (s : State) : Res :=
  .next (match (s.hear port.val data).monFrame port.val data 0x81 64 with
    | (some (c, rec), s) =>
      if s.mon.sweeps.any fun w => decide (w.L % 4294967296 = le rec 4 4) then
        s.setCmu c { s.cmu c with got := some (le rec 4 4, fit rec 64) } else s
    | (none, s) => s)

/-- The STATUS byte of a record (Table 10-5). -/
def State.recStatus (s : State) (c : Nat) (fresh : Bool) : Nat :=
  ofBool fresh + 2 * ofBool (!fresh) + 4 * s.f (Reg.MON_CMU_STATUS_COMP c) + 8 * s.f (Reg.MON_CMU_STATUS_SENSE c)
    + 16 * s.f (Reg.MON_CMU_STATUS_REF_FAIL c) + 32 * s.f (Reg.MON_CMU_STATUS_DIAG c)

/-- One unit at K (Table 10-6, R232). -/
def State.cmuAtK (s : State) (seq L : Nat) (c : Nat) : State :=
  let v := s.cmu c
  let st := s.cmuState c
  match (match v.got with | some (l, r) => if l = L % 4294967296 then some r else none | none => none) with
  | some r =>
    let s := s.setF (Reg.MON_CMU_STATUS_COMP c) (ofBool (decide (le r 48 6 ≠ 0)))
    let s := (s.setF (Reg.MON_CMU_STATUS_AGE c) 0)
    let r := patch (patch (patch r 3 [BitVec.ofNat 8 (s.recStatus c true)]) 57 [0]) 60 (toLe 4 seq)
    let s := s.setCmu c { v with last := r, fresh := true, got := none }
    if st = 3 then (s.setF (Reg.MON_CMU_STATUS_MISS c) 0).cmuTo c 2 1 else s
  | none =>
    let age := satAdd 8 (s.f (Reg.MON_CMU_STATUS_AGE c)) 1
    let s := s.setF (Reg.MON_CMU_STATUS_AGE c) age
    let r := patch (patch (patch (fit v.last 64) 3 [BitVec.ofNat 8 (s.recStatus c false)]) 57 [BitVec.ofNat 8 age]) 60 (toLe 4 seq)
    let s := s.setCmu c { v with last := r, fresh := false, got := none }
    if st = 2 then (s.setF (Reg.MON_CMU_STATUS_MISS c) 1).cmuTo c 3 1
    else if st = 3 then
      let miss := s.f (Reg.MON_CMU_STATUS_MISS c) + 1
      let s := s.setF (Reg.MON_CMU_STATUS_MISS c) miss
      if miss ≥ 3 then (s.derLost (c / 12)).cmuTo c 4 1 else s
    else s

/-- A string's run of complete sweeps (R234), and the mean cell voltage of a complete one (R247). -/
def State.strComplete (s : State) (L st : Nat) : State :=
  let cs := (List.range 12).map (12 * st + ·)
  if cs.any (fun c => !(s.cmu c).mapped) then s
  else if cs.all (fun c => (s.cmu c).fresh) then
    let n := satAdd 16 (s.f (Reg.MON_STRING_COMPLETE st)) 1
    let s := s.setF (Reg.MON_STRING_COMPLETE st) n
    let sum := (cs.map fun c => ((List.range 18).map fun j => le (s.cmu c).last (8 + 2 * j) 2).sum).sum
    let v := s.sst.strs.get st {}
    let s := { s with sst := { s.sst with strs := s.sst.strs.put st { v with full := some (L, sum / 216) } {} } }
    let run := s.mon.lostRun.get st 0 + 1
    let s : State := { s with mon := { s.mon with lostRun := s.mon.lostRun.put st run 0 } }
    if 10 ≤ run then s.strFlag st 2 false else s
  else
    ({ s with mon := { s.mon with lostRun := s.mon.lostRun.put st 0 0 } }).setF (Reg.MON_STRING_COMPLETE st) 0

/-- A 64-byte PUT of the monitor controller in the deterministic class (R232). -/
def State.monPut (s : State) (a : Nat) (d : Bytes) : State :=
  s.send { op := .put, hdr := { sender := .unit 0x0300, addr := BitVec.ofNat 48 a, tag := 0, reply := .none },
           len := d.length, data := d, det := true, issued := s.now }

/-! ### Diagnoses (R238 to R241) -/

/-- The cell voltages of a string's FRESH cells not adjacent to a marked tap, in 100 µV. -/
def State.refCells (s : State) (st : Nat) : List Int :=
  ((List.range 12).map (12 * st + ·)).flatMap fun c =>
    if (s.cmu c).fresh then
      ((List.range 18).filter fun j => !(s.marked c j)).map fun j => (le (s.cmu c).last (8 + 2 * j) 2 : Int)
    else []

/-- A cell's voltage in the last sweep, in 100 µV. -/
def State.cellV (s : State) (c j : Nat) : Int := le (s.cmu c).last (8 + 2 * j) 2

/-- A cell is a suspect (R239), one whose diagnosis was abandoned after INCONCLUSIVE among them (R241). -/
def State.suspect (s : State) (c j : Nat) (ref : Int) : Bool :=
  let v := s.cellV c j
  let r := (s.cmu c).last
  (s.cmu c).fresh && !(s.marked c j) &&
  (decide (v < 10 * le s.mon.cfg 10 2 ∨ v > 10 * le s.mon.cfg 8 2) || decide ((v - ref).natAbs > 10 * s.lf Reg.MON_DIAG_CFG_DEV_MV) ||
   bit (le r 48 3) j || bit (le r 51 3) j || bit (s.cmu c).named j || decide ((s.cmu c).verdicts.get j 0 = 3))

/-- The tested tap of a cell (R240). -/
def State.testedTap (s : State) (c i : Nat) (ref : Int) : Nat :=
  let dev : Int := 10 * s.lf Reg.MON_DIAG_CFG_DEV_MV
  let opp (t : Nat) : Bool := decide (1 ≤ t ∧ t ≤ 17) &&
    decide ((s.cellV c (t - 1) - ref > dev ∧ s.cellV c t - ref < -dev) ∨ (s.cellV c (t - 1) - ref < -dev ∧ s.cellV c t - ref > dev))
  if opp i then i else if opp (i + 1) then i + 1 else if i < 17 then i + 1 else 17

/-- An attempt of a diagnosis starts with the sink off. With no FRESH cell the median is not stated: a free value. -/
def State.diagStart (s : State) (c i attempt : Nat) (asked : Bool) : State :=
  let m := median (s.refCells (c / 12))
  let ref := m.getD s.freeWord.toNat
  let s := if m.isNone then s.useFree else s
  let t := s.testedTap c i ref
  let s := s.setCmu c { s.cmu c with diag := some { cell := i, tap := t, attempt := attempt, ref := ref, asked := asked } }
  (s.setF (Reg.MON_CMU_STATUS_DIAG c) 1).sendDiag c t 0

/-- The next requested diagnosis of a unit starts where it is OPEN and none runs (R239). -/
def State.diagNext (s : State) (c : Nat) : State :=
  match (s.cmu c).asks with
  | i :: r => if s.cmuState c = 2 ∧ (s.cmu c).diag.isNone then (s.setCmu c { s.cmu c with asks := r }).diagStart c i 1 true else s
  | [] => s

/-- A requested diagnosis starts now, or after the one that runs (R239). -/
def State.diagAsk (s : State) (c i : Nat) : State := (s.setCmu c { s.cmu c with asks := (s.cmu c).asks ++ [i] }).diagNext c

/-- After a sweep, the attempts that wait for a later gap go on, and requests whose unit is OPEN again start (R239, R240). -/
def State.diagResume (s : State) : State :=
  (s.mon.cmus.within 0 96).foldl (fun s e =>
    match (s.cmu e.1).diag with
    | some d => if d.again then s.diagStart e.1 d.cell (d.attempt + 1) d.asked else s
    | none => s.diagNext e.1) s

/-- AUTO_DIAG after a sweep (R239). -/
def State.autoDiag (s : State) : State :=
  if s.lf Reg.MON_CFG_AUTO_DIAG = 0 then s
  else (s.mon.cmus.within 0 96).foldl (fun s e =>
    if e.2.mapped ∧ s.cmuState e.1 = 2 ∧ (s.cmu e.1).diag.isNone then
      let ref := (median (s.refCells (e.1 / 12))).getD 0
      match (List.range 18).find? fun j => s.suspect e.1 j ref with
      | some j => s.diagStart e.1 j 1 false
      | none => s
    else s) s

/-- A tap is marked open or unmarked (R240, R241). -/
def State.markTap (s : State) (c t : Nat) (v : Bool) : State :=
  let m := setBit (s.f (Reg.MON_SENSE_OPEN c)) t v
  let s := (s.setF (Reg.MON_SENSE_OPEN c) m).setF (Reg.MON_CMU_STATUS_SENSE c) (ofBool (decide (m ≠ 0)))
  s.strDerived (c / 12)

/-- A verdict (R241): 0 NO_FAULT, 1 SENSE_OPEN, 2 CELL_FAULT, 3 INCONCLUSIVE. -/
def State.verdict (s : State) (c : Nat) (d : Diag) (pair : Int) (v : Nat) : State :=
  let s := s.wr 0x900600 (BitVec.ofNat 32 (c + 256 * d.tap + 8192 * v + 65536 * d.attempt))
  let s := s.ev 0x0805 (c + 256 * d.tap + 8192 * v + 65536 * d.attempt) (uint 16 pair + 65536 * uint 16 (d.ref.fdiv 10)) monOrigin
  let u := s.cmu c
  let vs := if u.verdicts.get d.cell 0 = 2 && !d.asked then u.verdicts else u.verdicts.put d.cell v 0
  let named := if v = 1 then (tapCells d.tap).foldl (fun m j => setBit m j false) u.named else u.named
  let s := s.setCmu c { u with verdicts := vs, named := if v = 0 then setBit named d.cell false else named }
  if v = 3 then s
  else
    let s := s.bump Reg.MON_DIAG_CNT
    let s := if v = 1 then (s.bump Reg.MON_SENSE_CNT).markTap c d.tap true
      else if v = 2 then (s.bump Reg.MON_CELL_FAULT_CNT).strFlag (c / 12) 1 true
      else s
    ((s.setCmu c { s.cmu c with diag := none }).setF (Reg.MON_CMU_STATUS_DIAG c) 0).diagNext c

/-- The measured cells of a step, in 100 µV: both of an interior tap, the one of an end tap. -/
def stepCells (t : Nat) (m : Int × Int × Int) : List Int := if t = 0 then [m.2.1] else if t = 18 then [m.1] else [m.1, m.2.1]

/-- A DIAG step's reply advances the diagnosis (R240). -/
def State.diagStep (s : State) (c : Nat) (d : Diag) (m : Int × Int × Int) : State :=
  let dev : Int := 10 * s.lf Reg.MON_DIAG_CFG_DEV_MV
  let lo : Int := 10 * le s.mon.cfg 10 2
  let hi : Int := 10 * le s.mon.cfg 8 2
  let inBand (m : Int × Int × Int) : Bool := (stepCells d.tap m).all fun v => decide ((v - d.ref).natAbs ≤ dev ∧ lo ≤ v ∧ v ≤ hi)
  let isMarked := bit (s.f (Reg.MON_SENSE_OPEN c)) d.tap
  match d.off with
  | none =>
    if inBand m && !isMarked then s.verdict c d m.2.2 0
    else (s.setCmu c { s.cmu c with diag := some { d with off := some m } }).sendDiag c d.tap 1
  | some m0 =>
    let fol : Int := 10 * s.lf Reg.MON_DIAG_CFG_FOLLOW_MV
    let mv := (stepCells d.tap m0).zipWith (fun x y => y - x) (stepCells d.tap m)
    let b := mv.all (fun x => decide (x.natAbs ≥ fol)) &&
      (match mv with | [x, y] => decide ((0 < x ∧ y < 0) ∨ (x < 0 ∧ 0 < y)) | _ => true)
    if d.tap = 0 ∨ d.tap = 18 then s.verdict c d m0.2.2 (if b then 1 else if inBand m0 then 0 else 2)
    else
      let a := decide ((m0.1 + m0.2.1 - m0.2.2).natAbs ≤ 10 * s.lf Reg.MON_DIAG_CFG_SUM_TOL_MV ∧ (m0.2.2 - 2 * d.ref).natAbs ≤ dev)
      if a && b then s.verdict c d m0.2.2 1
      else if !a then (if b then s.markTap c d.tap true else s).verdict c d m0.2.2 2
      else if inBand m0 then (s.markTap c d.tap false).verdict c d m0.2.2 0
      else if d.attempt = 3 then s.verdict c d m0.2.2 2
      else
        let s := s.verdict c d m0.2.2 3
        s.setCmu c { s.cmu c with diag := some { d with again := true } }

/-- DIAG_REPLY (R240). -/
def execDiagReply (port : Fin 96) (data : Bytes) (s : State) : Res :=
  .next (match (s.hear port.val data).monFrame port.val data 0x84 16 with
    | (some (c, frame), s) => match (s.cmu c).diag with
      | some d =>
        if ¬ d.again ∧ (byteAt frame 11).toNat = d.tap ∧ (byteAt frame 10).toNat = ofBool d.off.isSome then
          s.diagStep c d (le frame 4 2, le frame 6 2, le frame 8 2) else s
      | none => s
    | (none, s) => s)

/-- DIAG_REQUEST (R239): CMU and CELL outside their ranges are refused (R242). -/
def State.diagRequest (s : State) (path : Path) (c j : Nat) : State :=
  if c > 95 ∨ j > 17 then s.ev 0x0808 0x900010 (c + 256 * j + 65536) monOrigin (pathCode path)
  else
    let s := (s.setF Reg.MON_DIAG_CMD_CMU c).setF Reg.MON_DIAG_CMD_CELL j
    if (s.cmu c).mapped then s.diagAsk c j else s

/-- The sweep block's header (R232). -/
def sweepHeader (seq L missing : Nat) : Bytes :=
  toLe 4 seq ++ toLe 4 (ofBool (decide (missing ≠ 0))) ++ toLe 8 L ++ toLe 12 missing ++ zeros 36

/-- SWEEP_COMPLETE (R232): the oldest sweep whose K is reached completes. -/
def State.sweepComplete (s : State) : State :=
  match s.mon.sweeps with
  | [] => s
  | w :: r =>
    if s.beatN < w.K then s
    else
      let s := { s with mon := { s.mon with sweeps := r } }
      let seq := s.f Reg.MON_SWEEP_SEQ_SEQ + 2
      let cs := ((s.mon.cmus.within 0 96).filter fun e => e.2.mapped).map (·.1)
      let s := cs.foldl (fun s c => s.cmuAtK seq w.L c) s
      let miss : Nat := cs.foldl (fun m c => if (s.cmu c).fresh then m else m + 2 ^ c) 0
      let n : Nat := (cs.filter fun c => !(s.cmu c).fresh).length
      let s := (List.range 8).foldl (fun s st => s.strComplete w.L st) s
      let dest := le s.mon.cfg 12 6
      let s := s.monPut dest (sweepHeader (seq - 1) w.L miss)
      let s := (List.range 96).foldl (fun s c =>
        s.monPut (dest + 64 + 64 * c) (if (s.cmu c).mapped then fit (s.cmu c).last 64 else zeros 64)) s
      let s := s.monPut dest (sweepHeader seq w.L miss)
      let s := s.monPut (le s.mon.cfg 18 6) (toLe 4 seq ++ toLe 4 (ofBool (decide (n ≠ 0))))
      let s := (s.setF Reg.MON_SWEEP_SEQ_SEQ seq).bump Reg.MON_SWEEP_CNT
      let s := (s.setF Reg.MON_SWEEP_STATUS_PARTIAL (ofBool (decide (n ≠ 0)))).setF Reg.MON_SWEEP_STATUS_MISSING n
      let s : State := if n ≠ 0 then (s.bump Reg.MON_PARTIAL_CNT).ev 0x0803 seq n monOrigin else s
      s.diagResume.autoDiag

/-- SWEEP_COMPLETE (R232). -/
def execSweepComplete (s : State) : Res := .next s.sweepComplete

/-- CONFIG_REPLY (R227). -/
def execConfigReply (port : Fin 96) (data : Bytes) (s : State) : Res :=
  .next (match (s.hear port.val data).monFrame port.val data 0x82 16 with
    | (some (c, frame), s) =>
      let same := decide ((frame.drop 4).take 6 = (s.mon.cfg.drop 4).take 4 ++ toLe 2 (s.f Reg.MON_TIMING_COMM_TO_MS))
      let st := s.cmuState c
      if same && decide (st = 1 ∨ st = 4) then (s.setF (Reg.MON_CMU_STATUS_MISS c) 0).cmuTo c 2 0
      else if !same && decide (st = 2 ∨ st = 3) then (s.derLost (c / 12)).cmuTo c 1 2
      else s
    | (none, s) => s)

/-- FAULT_FRAME (R235): ISO_COMP at once, an ACK, the cells it names, MON_COMP_CNT and event 0x0802. -/
def execFaultFrame (port : Fin 96) (data : Bytes) (s : State) : Res :=
  .next (match (s.hear port.val data).monFrame port.val data 0x83 16 with
    | (some (c, frame), s) =>
      let ov := le frame 4 3 % 262144
      let uv := le frame 7 3 % 262144
      let s := s.strFlag (c / 12) 0 true
      let s := s.monSend c 5 [byteAt frame 1]
      let s := s.setCmu c { s.cmu c with named := (s.cmu c).named ||| ov ||| uv }
      (s.bump Reg.MON_COMP_CNT).ev 0x0802 (c + 256 * (byteAt frame 1).toNat + 65536 * (c / 12))
        ((ov ||| uv) + 262144 * ofBool (decide (ov ≠ 0)) + 524288 * ofBool (decide (uv ≠ 0))) monOrigin
    | (none, s) => s)

/-- REF_CHECK_DUE (R237): at a multiple of REFCHK_S seconds, once, REF goes to every OPEN unit. -/
def execRefCheckDue (s : State) : Res :=
  .next (if s.mon.cfg ≠ [] ∧ s.beatN % (max 1 (s.lf Reg.MON_REF_CFG_REFCHK_S) * 1000000) = 0 ∧ s.mon.refAt ≠ some s.beatN then
    let s := { s with mon := { s.mon with refAt := some s.beatN } }
    (s.mon.cmus.within 0 96).foldl (fun s e =>
      if e.2.mapped ∧ s.cmuState e.1 = 2 then
        let waits := s.mon.queued.any fun m => decide (m.c = e.1 ∧ m.type = 4)
        let s := s.setCmu e.1 { s.cmu e.1 with refAsked := some true, refDue := none }
        if waits then s else s.monSend e.1 4 []
      else s) s
  else s)

/-- REF_FAIL is set or cleared (R237). -/
def State.refFail (s : State) (c : Nat) (v : Bool) (diff : Int) : State :=
  let s := s.setF (Reg.MON_CMU_STATUS_REF_FAIL c) (ofBool v)
  let s := if v then s.bump Reg.MON_REF_FAIL_CNT else s
  (s.ev 0x0806 (c + 256 * ofBool v) (uint 32 diff) monOrigin).strDerived (c / 12)

/-- REF_REPLY (R237). -/
def execRefReply (port : Fin 96) (data : Bytes) (s : State) : Res :=
  .next (match (s.hear port.val data).monFrame port.val data 0x85 16 with
    | (some (c, frame), s) =>
      let v := { s.cmu c with refDue := none }
      let diff : Int := (le frame 4 4 : Int) - le frame 8 4
      match v.refAsked with
      | none => s
      | some regular =>
        if diff.natAbs * 10 ≤ s.lf Reg.MON_REF_CFG_REF_TOL_UV then
          let n := if regular then v.refPasses + 1 else v.refPasses
          let s := s.setCmu c { v with refAsked := none, refFails := 0, refPasses := n }
          if s.b (Reg.MON_CMU_STATUS_REF_FAIL c) ∧ n ≥ 3 then (s.setCmu c { s.cmu c with refPasses := 0 }).refFail c false diff else s
        else if v.refFails + 1 ≥ 2 then
          let s := s.setCmu c { v with refAsked := none, refFails := 0, refPasses := 0 }
          if s.b (Reg.MON_CMU_STATUS_REF_FAIL c) then s else s.refFail c true diff
        else (s.setCmu c { v with refAsked := some false, refFails := 1, refPasses := 0 }).monSend c 4 [] (s.mon.lastL + 1)
    | (none, s) => s)

/-- The first condition of R236 that fails, by the cause codes of event 0x0807; 0 where none does. -/
def State.isoRefusal (s : State) (st : Nat) : Nat :=
  let cs := (List.range 12).map (12 * st + ·)
  if cs.any fun c => s.b (Reg.MON_CMU_STATUS_COMP c) then 1
  else if cs.any fun c => (s.cmu c).diag.isSome then 2
  else if cs.any fun c => (s.cmu c).verdicts.any fun e => decide (e.2 = 2 ∨ e.2 = 3) then 3
  else 0

/-- ISO_RELEASE (R236). -/
def State.isoRelease (s : State) (path : Path) (st : Nat) : State :=
  let r := s.isoRefusal st
  let s := if r = 0 then (s.strFlag st 0 false).strFlag st 1 false else s
  s.ev 0x0807 (st + 256 * r) 0 monOrigin (pathCode path)

/-- MON_BAL of a unit is written (R233). -/
def State.setBal (s : State) (c mask : Nat) : State := s.setCmu c { s.cmu c with bal := mask % 262144 }

/-- BALANCE_WINDOW (R233). -/
def execBalanceWindow (c : Fin 96) (mask : BitVec 18) (s : State) : Res := .next (s.setBal c.val mask.toNat)

end Sys2Proof.Machine
end

