-- ==== Sys2Proof/Machine/Security.lean ====
section
/-! DEFINITION. Keys, certificates, security commands and attestation (chapter 15). -/

namespace Sys2Proof.Machine

open Sys2Proof.Bits

/-! ### Primitives (R319, R320) -/

/-- The digest of a byte string, and the identifier of a public key (R319). -/
def digest (b : Bytes) : Bytes := Config.shake256 b 64
def keyId (k : Bytes) : Bytes := Config.shake256 k 32

/-- A signature in a 1,536-byte field with its SIG_LEN over a digest (R319, R320). -/
def sigOk (key dig : Bytes) (len : Nat) (field : Bytes) : Bool :=
  decide (1 ≤ len ∧ len ≤ 1462) && (field.drop len).all (fun b => b = 0) && Config.falconVerify key dig (field.take len)

/-- Bytes of ASCII letters used as tags. -/
def tagWNID : Bytes := [0x57, 0x4E, 0x49, 0x44]
def tagWNEN : Bytes := [0x57, 0x4E, 0x45, 0x4E]
def tagWNPK : Bytes := [0x57, 0x4E, 0x50, 0x4B]

/-- The device identity public key (R322). -/
def identityKey : Bytes := Config.falconPublic (digest (tagWNID ++ Config.fusedSeed))

/-- A signature the device produces, in the padded encoding with SIG_LEN 1,280 (R319): key 0 is the identity key, k + 1 the ledger key of
epoch k. -/
def sign (key : Nat) (d : Bytes) : Bytes := fit (Config.falconSign key d) 1280

/-- A certificate (R323): its public key, and whether it is well formed for a kind, names its own key, and verifies under a
key. -/
def certKey (c : Bytes) : Bytes := (c.drop 96).take 1793
def certOk (c : Bytes) (kind : Nat) (issuer : Bytes) : Bool :=
  decide (le c 0 4 = 0x54434E57 ∧ le c 4 2 = 1 ∧ (byteAt c 6).toNat = kind ∧ (c.drop 24).take 32 = keyId (certKey c)
    ∧ (c.drop 56).take 32 = keyId issuer) &&
  sigOk issuer (digest (c.take 1904)) (le c 1904 2) ((c.drop 1920).take 1536)

/-- A fresh draw of entropy of n bytes with a context (R321). -/
def State.draw (s : State) (n : Nat) (ctx : Bytes) : Bytes × State :=
  (Config.shake256 (Config.entropy s.sec.draws ++ ctx) n, { s with sec := { s.sec with draws := s.sec.draws + 1 } })

/-- SEC_NONCE (R325, R411): the entropy of the draw that made it. -/
def State.nonce (s : State) : Bytes := fit (Config.shake256 (Config.entropy s.sec.nonce) 32) 32

/-- SEC_NONCE is renewed (R325). -/
def State.renewNonce (s : State) : State := { s with sec := { s.sec with nonce := s.sec.draws, draws := s.sec.draws + 1 } }

/-- Bytes the spec does not state: n words of free values (log entry 1). -/
def State.freeBytes (s : State) : Nat → Bytes
  | 0 => []
  | n + 1 => toLe 4 (Config.freeWord (s.free + n)).toNat ++ State.freeBytes s n

/-- A measurement (Table 15-6). -/
def State.setMeas (s : State) (m : Nat) (d : Bytes) : State := s.wrBytes (0xE03000 + 64 * m) (fit d 64) 16

/-- Measurement 4 follows the fuses. How its parts are laid out under the digest is not stated: a free value. -/
def State.fuseMeas (s : State) : State := { s.setMeas 4 (s.freeBytes 16) with free := s.free + 16 }

/-! ### Owner keys and commands (R325 to R327) -/

/-- Enrolled and unrevoked owner slots. -/
def State.ownerLive (s : State) (i : Nat) : Bool := bit (s.f Reg.SEC_STATUS_OWNER_EN) i && !bit (s.f Reg.SEC_STATUS_OWNER_REV) i

/-- SEC_KEY_BUF's bytes from an offset. -/
def State.keyBuf (s : State) (off n : Nat) : Bytes := ((s.rdBytes (0xE01000 + off / 4 * 4) (n / 4 + 2)).drop (off % 4)).take n

/-- The authorisation of a command (R325). -/
def State.authOk (s : State) (op slot v auth : Nat) : Bool :=
  let key := s.keyBuf 0 1793
  let msg := tagWNEN ++ [BitVec.ofNat 8 op, BitVec.ofNat 8 slot, BitVec.ofNat 8 v, 0]
    ++ (if op = 1 ∨ op = 4 then fit (keyId key) 32 else zeros 32) ++ fit (keyId identityKey) 32 ++ s.nonce
  s.ownerLive auth && sigOk (s.sec.owners.get auth []) (digest msg) (le (s.keyBuf 0x800 2) 0 2) (s.keyBuf 0x810 1536)

/-- SVN of the firmware banks in force. -/
def State.bankImage (s : State) (comp : Nat) : Bytes :=
  s.sec.banks.get (2 * comp + (if comp = 0 then s.f Reg.HIF_FW_STATUS_PM_BANK else s.f Reg.HIF_FW_STATUS_AO_BANK)) []

/-- The condition of R329 that an image fails, 1 to 5 in its order, or 0 for none (Table 15-5). -/
def fwFault (img : Bytes) (comp svnMin : Nat) : Nat :=
  let root := fit (img.drop 128) 1793
  if digest root ≠ Config.vendorRootDigest then 1
  else if ¬ sigOk root (digest (fit img 128)) (le img 1936 2) (fit (img.drop 1952) 1536) then 2
  else if (fit img 128).drop 64 ≠ digest ((img.drop 3488).take (le img 12 4)) then 3
  else if le img 6 2 ≠ comp then 4
  else if le img 8 4 < svnMin then 5 else 0

/-- A staging half of a partition (R113); OWNER_KEY_ID stands at byte 32 of an image (Table 5-1). -/
def stagingAddr (p : Nat) (half : Bool) : Nat := dramAddr p (if half then 0x1F8000000 else 0x1F0000000)

/-- A condition of Table 15-4 that does not hold. -/
def State.secLocked (s : State) (op slot v : Nat) : Bool :=
  let id := keyId (s.keyBuf 0 1793)
  let slots := List.range 4
  if op = 1 then
    bit (s.f Reg.SEC_STATUS_OWNER_EN) slot || slots.any (fun i => bit (s.f Reg.SEC_STATUS_OWNER_EN) i && decide (s.rdBytes (0xE02000 + 32 * i) 8 = id))
  else if op = 2 then
    let mine := s.rdBytes (0xE02000 + 32 * slot) 8
    !s.ownerLive slot || !slots.any (fun i => decide (i ≠ slot) && s.ownerLive i) ||
    (List.range 32).any (fun p => (match (s.part p).man with | some m => decide (m.owner = mine) | none => false) ||
      (decide (s.f (Reg.MAN_STATUS_STATE p) = 1) && decide (s.rdMem (stagingAddr p (s.part p).candHalf + 32) 32 = mine)))
  else if op = 3 then
    !decide (s.f Reg.SEC_STATUS_SVN_MIN < v) ||
    [0, 1].any (fun c => decide (le (s.bankImage c) 8 4 < v)) ||
    s.parts.any (fun e => match e.2.man with | some m => decide (m.svn < v) | none => false)
  else if op = 6 then !s.b Reg.LDG_STATUS_RUN
  else if op = 7 then decide (s.mstate ≠ 1)
  else false

/-- The status of a command (R326, R327). -/
def State.secStatus (s : State) (op slot v auth : Nat) : Nat :=
  let first := op = 1 ∧ s.f Reg.SEC_STATUS_OWNER_EN = 0
  if s.b Reg.SEC_STATUS_ENTROPY_FAIL then 0x30
  else if first then (if s.mstate ≠ 1 ∨ s.secLocked op slot v then 0x20 else 0)
  else if ¬ s.authOk op slot v auth then 0x21
  else if s.secLocked op slot v then 0x20
  else 0

/-- A command is accepted and runs: its fields, its outcome, BUSY until SEC_COMMAND_COMPLETE; whether its authorisation is verified. -/
def State.secRun (s : State) (op slot auth v status : Nat) (verifies : Bool) : State :=
  let s := s.wr 0xE00004 (BitVec.ofNat 32 (op + 16 * slot + 64 * v + 4096 * auth))
  let s := s.setF Reg.SEC_CMD_RESULT_BUSY 1
  { s with sec := { s.sec with result := status, verifies := verifies } }

/-- A refusal (R327). -/
def State.secRefuse (s : State) (op slot status : Nat) (path : Path) : State :=
  (s.bump Reg.SEC_CMD_REFUSE_CNT).raise 0x0D04 (op + 16 * slot) status s.beatLo s.beatHi 0xFFF (pathCode path)

/-- GO with a command: refused NOT_READY while one runs; else it runs, with its effect f where nothing refuses it. -/
def State.secGo (s : State) (path : Path) (op slot auth v : Nat) (f : State → State) : State :=
  if s.b Reg.SEC_CMD_RESULT_BUSY then ((s.setF Reg.SEC_CMD_RESULT_STATUS 0x30).secRefuse op slot 0x30 path).renewNonce
  else
    let st := s.secStatus op slot v auth
    let verifies := !s.b Reg.SEC_STATUS_ENTROPY_FAIL && !decide (op = 1 ∧ s.f Reg.SEC_STATUS_OWNER_EN = 0)
    let s := if st = 0x21 then s.bump Reg.SEC_VERIFY_FAIL_CNT else s
    if st = 0 then (f s).secRun op slot auth v 0 verifies else (s.secRefuse op slot st path).secRun op slot auth v st verifies

/-- ENROLL_OWNER (R326). -/
def State.enrollOwner (s : State) (path : Path) (slot auth v : Nat) : State :=
  (s.secGo path 1 slot auth v fun s =>
    let key := s.keyBuf 0 1793
    let s := { s with sec := { s.sec with owners := s.sec.owners.put slot key [] } }
    let s := s.setF Reg.SEC_STATUS_OWNER_EN (setBit (s.f Reg.SEC_STATUS_OWNER_EN) slot true)
    let s := s.wrBytes (0xE02000 + 32 * slot) (fit (keyId key) 32) 8
    s.fuseMeas.ev 0x0D02 slot (le (keyId key) 0 4))

/-- REVOKE_OWNER (R326). -/
def State.revokeOwner (s : State) (path : Path) (slot auth v : Nat) : State :=
  (s.secGo path 2 slot auth v fun s =>
    (s.setF Reg.SEC_STATUS_OWNER_REV (setBit (s.f Reg.SEC_STATUS_OWNER_REV) slot true)).fuseMeas.ev 0x0D03 slot auth)

/-- ADVANCE_SVN (R328). -/
def State.advanceSvn (s : State) (path : Path) (slot auth v : Nat) : State :=
  (s.secGo path 3 slot auth v fun s =>
    (s.setF Reg.SEC_STATUS_SVN_MIN v).fuseMeas.ev 0x0D05 v (s.f Reg.SEC_STATUS_SVN_MIN))

/-- A pack-issuer change: the pack keys held stay valid until their strings next leave AUTH (R327). -/
def State.issuerChange (s : State) : State :=
  { s with sst := { s.sst with stale := s.sst.keys.map fun (e : Bytes × Bytes) => e.1 } }

/-- SET_PACK_ISSUER (R326). -/
def State.setPackIssuer (s : State) (path : Path) (slot auth v : Nat) : State :=
  (s.secGo path 4 slot auth v fun s =>
    let key := s.keyBuf 0 1793
    let s := { s with sec := { s.sec with packs := s.sec.packs.put slot key [] } }.issuerChange
    let s := s.setF Reg.SEC_STATUS_PACK_EN (setBit (s.f Reg.SEC_STATUS_PACK_EN) slot true)
    let s := s.wrBytes (0xE02100 + 32 * slot) (fit (keyId key) 32) 8
    s.ev 0x0D06 (slot + 256) (le (keyId key) 0 4))

/-- CLEAR_PACK_ISSUER (R326). -/
def State.clearPackIssuer (s : State) (path : Path) (slot auth v : Nat) : State :=
  (s.secGo path 5 slot auth v fun s =>
    let s := { s with sec := { s.sec with packs := s.sec.packs.put slot [] [] } }.issuerChange
    let s := s.setF Reg.SEC_STATUS_PACK_EN (setBit (s.f Reg.SEC_STATUS_PACK_EN) slot false)
    (s.wrBytes (0xE02100 + 32 * slot) (zeros 32) 8).ev 0x0D06 slot 0)

/-- ROTATE_LEDGER (R324): a rotation is due at the next distribution. -/
def State.rotateLedger (s : State) (path : Path) (slot auth v : Nat) : State :=
  (s.secGo path 6 slot auth v fun s => { s with sec := { s.sec with rotate := true } })

/-- ENTER_RMA (R330): the event is written before the fuse is blown. -/
def State.enterRma (s : State) (path : Path) (slot auth v : Nat) : State :=
  (s.secGo path 7 slot auth v fun s =>
    (((s.ev 0x0D09 0 0).setF Reg.SEC_STATUS_DEBUG 2).setF Reg.SEC_STATUS_ID_OK 0).fuseMeas)

/-! ### The franker's order (R321) -/

/-- A partition is VERIFYING and its checks have not yet all passed. -/
def State.verifying (s : State) (p : Nat) : Bool :=
  decide (s.f (Reg.MAN_STATUS_STATE p) = 1) && !(s.part p).deciding && decide ((s.part p).swapAt = none)

/-- A request of a class of R321 is pending: 1 a root whose key exists, 2 a ledger key, 3 the authorisation of a security command, 5 a
manifest. A pack response, an attestation response and a firmware image are served within their own commands. -/
def State.franks (s : State) (k : Nat) : Bool :=
  if k = 1 then decide (s.mstate ≠ 4) && s.ldg.closed.any fun b => b.sig.isNone && !b.holdup && s.sec.keys.contains b.key
  else if k = 2 then s.b Reg.LDG_STATUS_RUN && !s.b Reg.SEC_STATUS_ENTROPY_FAIL && (s.sec.ready.isNone || s.sec.nextReady.isNone)
  else if k = 3 then s.b Reg.SEC_CMD_RESULT_BUSY && s.sec.verifies
  else decide (k = 5) && (List.range 32).any s.verifying

/-- The class the franker serves: the one it began, which is never abandoned, else the first of R321 that is pending; 0 for none. -/
def State.serving (s : State) : Nat :=
  if s.sec.serving ≠ 0 ∧ s.franks s.sec.serving then s.sec.serving else ([1, 2, 3, 5].find? s.franks).getD 0

/-- The franker's own rung runs (R360). -/
def State.frankerReset (s : State) : Bool := s.rcv.rungs.any fun r => decide (r.rung = 2 ∧ r.unit = 65)

/-- A request of a class can complete now. -/
def State.frankerFor (s : State) (k : Nat) : Bool := decide (s.serving = k) && !s.frankerReset

/-- The franker begins what it serves, at the end of a beat. -/
def State.frankerBegins (s : State) : State := { s with sec := { s.sec with serving := if s.frankerReset then 0 else s.serving } }

/-- The franker has completed a request. -/
def State.frankerDone (s : State) : State := { s with sec := { s.sec with serving := 0, done := s.sec.done + 1 } }

/-- SEC_COMMAND_COMPLETE (R327): the running command's outcome, BUSY 0, a new SEC_NONCE. -/
def execSecCommandComplete (s : State) : Res :=
  .next (if s.b Reg.SEC_CMD_RESULT_BUSY ∧ (s.sec.verifies = false ∨ s.frankerFor 3) then
    let t := if s.sec.verifies then s.frankerDone else s
    ((t.setF Reg.SEC_CMD_RESULT_STATUS s.sec.result).setF Reg.SEC_CMD_RESULT_BUSY 0).renewNonce
  else s)

/-- ENTROPY_HEALTH_CHANGE (R321). -/
def execEntropyHealthChange (fail : Bool) (s : State) : Res :=
  .next (if s.b Reg.SEC_STATUS_ENTROPY_FAIL = fail then s
    else (s.setF Reg.SEC_STATUS_ENTROPY_FAIL (ofBool fail)).ev 0x0D08 (ofBool fail) 0)

/-! ### Attestation (R331, R332). Message codes and framing are those of SPDM 1.2, which the spec names (PRESUMED; log
entry 22). -/

/-- A response: SPDM version 1.2, code, two parameters and its body; it joins the transcript. -/
def State.spdm (s : State) (code p1 p2 : Nat) (body : Bytes) : State :=
  let m := [0x12, BitVec.ofNat 8 code, BitVec.ofNat 8 p1, BitVec.ofNat 8 p2] ++ body
  { s with outs := s.outs ++ [.spdm m], sec := { s.sec with transcript := s.sec.transcript ++ m } }

/-- A request joins the transcript: its code, its two parameters and its body. -/
def State.heard (s : State) (code p1 p2 : Nat) (body : Bytes) (version : Byte := 0x12) : State :=
  let m := [version, BitVec.ofNat 8 code, BitVec.ofNat 8 p1, BitVec.ofNat 8 p2] ++ body
  { s with sec := { s.sec with transcript := s.sec.transcript ++ m } }

/-- A request whose body the command does not carry: n words of it are free values. -/
def State.heardFree (s : State) (code n : Nat) : State :=
  { s.heard code 0 0 (s.freeBytes n) with free := s.free + n }

/-- An ERROR response. -/
def State.spdmError (s : State) (code : Nat) : State := s.out (.spdm [0x12, 0x7F, BitVec.ofNat 8 code, 0])

/-- In RMA only GET_VERSION is answered (R330): anything else gets UnsupportedRequest. -/
def State.attest (s : State) (f : State → State) : State := if s.f Reg.SEC_STATUS_DEBUG = 2 then s.spdmError 7 else f s

/-- A signed response (R331): signed over the transcript's digest by the identity key, and counted. -/
def State.spdmSigned (s : State) (code p1 p2 : Nat) (body : Bytes) : State :=
  let hdr : Bytes := [0x12, BitVec.ofNat 8 code, BitVec.ofNat 8 p1, BitVec.ofNat 8 p2]
  let sig := sign 0 (digest (s.sec.transcript ++ hdr ++ body))
  { (s.spdm code p1 p2 (body ++ fit sig 1536)).bump Reg.SEC_SPDM_CNT with
    sec := { s.sec with transcript := [] } }

/-- GET_VERSION (R331): SPDM 1.2, and a new transcript. -/
def execGetVersion (s : State) : Res :=
  let t : State := { s with sec := { s.sec with transcript := [], negotiated := false } }
  .next ((t.heard 0x84 0 0 [] 0x10).spdm 0x04 0 0 [0, 1, 0, 0x12])

/-- GET_CAPABILITIES (R331): certificates, challenge and signed measurements; no key exchange. -/
def execGetCapabilities (s : State) : Res :=
  .next (s.attest fun s => (s.heardFree 0xE1 4).spdm 0x61 0 0 ([0, 0, 0, 0] ++ toLe 4 0x16 ++ zeros 8))

/-- NEGOTIATE_ALGORITHMS (R331): Falcon-1024 and SHAKE256 as extended algorithms and no standard one, or NegotiationFail. The response's
Length counts its 52 bytes; the measurement specification is DMTF's. -/
def execNegotiateAlgorithms (falcon shake : Bool) (s : State) : Res :=
  .next (s.attest fun s =>
    if falcon && shake then
      let ext (id : Nat) : Bytes := [4, 4] ++ toLe 2 id ++ toLe 4 (s.rd 0xD0001C).toNat
      let t : State := { s with sec := { s.sec with negotiated := true } }
      (t.heardFree 0xE3 11).spdm 0x63 0 0 (toLe 2 52 ++ [1, 0] ++ zeros 4 ++ zeros 8 ++ zeros 12 ++ [1, 1, 0, 0] ++ ext 1 ++ ext 2)
    else s.spdmError 0x0C)

/-- The certificate chains of slots 0 and 1 (R332). -/
def State.chain (s : State) (slot : Nat) : Bytes :=
  let base := Config.vendorRootDigest ++ Config.identityCert
  if slot = 0 then base else base ++ s.rdBytes (0xE08000 + 4096 * (s.f Reg.SEC_EPOCH_EPOCH % 8)) 864

/-- GET_DIGESTS (R332): the digests of the two populated slots. -/
def execGetDigests (s : State) : Res :=
  .next (s.attest fun s => (s.heard 0x81 0 0 []).spdm 0x01 0 3 (digest (s.chain 0) ++ digest (s.chain 1)))

/-- GET_CERTIFICATE (R332): a part of the chain of slot 0 or 1. -/
def execGetCertificate (slot : BitVec 4) (off len : BitVec 16) (s : State) : Res :=
  .next (s.attest fun s =>
    if slot.toNat ≤ 1 then
      let c := s.chain slot.toNat
      let part := (c.drop off.toNat).take len.toNat
      (s.heard 0x82 slot.toNat 0 (toLe 2 off.toNat ++ toLe 2 len.toNat)).spdm 0x02 slot.toNat 0 (toLe 2 part.length ++ toLe 2 (c.length - off.toNat - part.length) ++ part)
    else s.spdmError 1)

/-- CHALLENGE (R331): signed by the identity key. The nonce is fresh entropy: NOT_READY while it fails (R321). -/
def execChallenge (slot : BitVec 4) (nonce : Bytes) (s : State) : Res :=
  .next (s.attest fun s =>
    if s.b Reg.SEC_STATUS_ENTROPY_FAIL then s.spdmError 0x42
    else if slot.toNat ≤ 1 then
      let r := (s.heard 0x83 slot.toNat 0 nonce).draw 32 nonce
      r.2.spdmSigned 0x03 slot.toNat 3 (digest (s.chain slot.toNat) ++ r.1 ++ [0, 0])
    else s.spdmError 1)

/-- Every measurement index of Table 15-6. -/
def measIndices : List Nat := [1, 2, 3, 4, 5] ++ (List.range 32).map (16 + ·)

/-- A measurement response's body: the blocks' number, the record's length and the record, a nonce, no opaque data. -/
def measBody (n : Nat) (record nonce : Bytes) : Bytes := BitVec.ofNat 8 n :: toLe 3 record.length ++ record ++ nonce ++ [0, 0]

/-- GET_MEASUREMENTS (R332): the number of indices, one index, or all of them, signed. -/
def execGetMeasurements (idx : Byte) (nonce : Bytes) (s : State) : Res :=
  .next (s.attest fun s =>
    if s.b Reg.SEC_STATUS_ENTROPY_FAIL then s.spdmError 0x42
    else
      let i := idx.toNat
      let block (m : Nat) : Bytes := [BitVec.ofNat 8 m, 1] ++ toLe 2 67 ++ [0] ++ toLe 2 64 ++ s.rdBytes (0xE03000 + 64 * m) 16
      let r := (s.heard 0xE0 1 i (nonce ++ [0])).draw 32 nonce
      if i = 0 then r.2.spdmSigned 0x60 measIndices.length 0 (measBody 0 [] r.1)
      else if i = 255 then r.2.spdmSigned 0x60 0 0 (measBody measIndices.length (measIndices.flatMap block) r.1)
      else if measIndices.contains i then r.2.spdmSigned 0x60 0 0 (measBody 1 (block i) r.1)
      else s.spdmError 1)

end Sys2Proof.Machine
end

