-- ==== Sys2Proof/Machine/Storage.lean ====
section
/-! DEFINITION. Storage state: charge, capacity records and pack authentication (chapter 11). -/

namespace Sys2Proof.Machine

open Sys2Proof.Bits

/-- A string, and the state with one set. -/
def State.string (s : State) (st : Nat) : Str := s.sst.strs.get st {}
def State.setString (s : State) (st : Nat) (v : Str) : State :=
  { s with sst := { s.sst with strs := s.sst.strs.put st v {} } }

/-- SSTATE (Table 11-6): 0 UNUSED, 1 ABSENT, 2 AUTH, 3 RESTING, 4 ONLINE, 5 FAILED. -/
def State.sstate (s : State) (st : Nat) : Nat := s.f (Reg.SST_STRING_STATUS_SSTATE st)

/-- The cycle count. -/
def State.cycles (s : State) (st : Nat) : Nat := s.f (Reg.SST_SOC_CYCLES st)

/-- A string is online (R245): ONLINE, and no other source holds ISO. -/
def State.online (s : State) (st : Nat) : Bool := decide (s.sstate st = 4) && !s.isoHeld st

/-! ### Capacity (R248) -/

/-- Fields of a pack record (Table 11-4). -/
def recMah (r : Bytes) : Nat := le r 16 4
def recCyc (r : Bytes) (i : Nat) : Nat := le r (32 + 4 * i) 2
def recF (r : Bytes) (i : Nat) : Nat := le r (34 + 4 * i) 2

/-- The fade table's segment of a cycle count: 16 beyond the last point. -/
def fadeSeg (r : Bytes) (c : Nat) : Nat :=
  if c ≤ 10 * recCyc r 0 then 0
  else match (List.range 15).find? fun i => decide (c ≤ 10 * recCyc r (i + 1)) with
    | some i => i
    | none => 16

/-- fade_q15 (R248). -/
def fadeQ15 (r : Bytes) (c : Nat) : Int :=
  if c ≤ 10 * recCyc r 0 then recF r 0
  else match (List.range 15).find? fun i => decide (c ≤ 10 * recCyc r (i + 1)) with
    | some i => (recF r i : Int) +
        (((recF r (i + 1) : Int) - recF r i) * ((c : Int) - 10 * recCyc r i)).tdiv (10 * ((recCyc r (i + 1) : Int) - recCyc r i))
    | none => recF r 15

/-- The fade table's two conditions. -/
def recOk (r : Bytes) : Bool :=
  (List.range 15).all fun i => decide (recCyc r i < recCyc r (i + 1) ∧ recF r (i + 1) ≤ recF r i)

/-- C_present in mAh, and in pC. -/
def State.cPresent (s : State) (st : Nat) : Nat :=
  ((recMah (s.string st).record : Int) * fadeQ15 (s.string st).record (s.cycles st)).toNat / 32768
def State.cPc (s : State) (st : Nat) : Nat := s.cPresent st * 3600000000000

/-! ### Capacity records (R250) -/

/-- A slot's 64 bytes, and whether it is valid. -/
def State.slotBytes (s : State) (base : Nat) (r : Nat) : Bytes := s.rdBytes (base + 64 * r) 16
def slotValid (b : Bytes) : Bool := decide (byteAt b 63 = 0xA5 ∧ le b 56 4 = (crc32c (b.take 56)).toNat)

/-- SEQ a is later than b (R250). -/
def seqLater (a b : Nat) : Bool := decide (1 ≤ (a + 4294967296 - b) % 4294967296 ∧ (a + 4294967296 - b) % 4294967296 < 2147483648)

/-- The slot in force of a pair of slots: its number and bytes. -/
def pickSlot (a b : Bytes) : Option (Nat × Bytes) :=
  if slotValid a then (if slotValid b && seqLater (le b 0 4) (le a 0 4) then some (1, b) else some (0, a))
  else if slotValid b then some (1, b) else none
def State.inForce (s : State) (base : Nat) : Option (Nat × Bytes) := pickSlot (s.slotBytes base 0) (s.slotBytes base 1)

/-- The slots of a string. -/
def recBase (st : Nat) : Nat := 0xA01000 + 128 * st

/-- A string leaves AUTH: the key of its pack is dropped where a pack-issuer change found it held (R327). -/
def State.leaveAuth (s : State) (st : Nat) : State :=
  match s.inForce (recBase st) with
  | some (_, b) =>
    let id := (b.drop 8).take 16
    if s.sst.stale.contains id then
      { s with sst := { s.sst with keys := s.sst.keys.filter fun (e : Bytes × Bytes) => decide (e.1 ≠ id) } }
    else s
  | none => s

/-- A change of string state, with event 0x0901 (R244); the record period runs from the entry to ONLINE (R250). -/
def State.toSst (s : State) (st new : Nat) : State :=
  let old := s.sstate st
  if old = new then s
  else
    let s := if old = 2 then s.leaveAuth st else s
    let s := if new = 4 then s.setString st { s.string st with recAt := s.beatN } else s
    (s.setF (Reg.SST_STRING_STATUS_SSTATE st) new).ev 0x0901 (st + 16 * old + 256 * new) (s.cycles st)

/-- A 64-byte record goes to the slot not in force with the next SEQ; its MARK is written last (R250). Where neither slot is
valid the slot and the SEQ are not stated: free values. The answer is the state and the slot. -/
def State.writeSlot (s : State) (base : Nat) (body : Bytes) : State × Nat :=
  let w := s.freeWord.toNat
  let (k, seq, s') := match s.inForce base with
    | some (r, b) => (1 - r, (le b 0 4 + 1) % 4294967296, s)
    | none => (w % 2, w, s.useFree)
  let b := fit (toLe 4 seq ++ body) 56
  (s'.wrBytes (base + 64 * k) (b ++ toLe 4 (crc32c b).toNat ++ [0, 0, 0, 0xA5]) 16, k)

/-- SLOT shows the slot in force (Table 11-6). -/
def State.showSlot (s : State) (st : Nat) : State :=
  match s.inForce (recBase st) with
  | some (k, _) => s.setF (Reg.SST_STRING_STATUS_SLOT st) k
  | none => s

/-- The record of a string whose pack has not been verified since E: what the slot in force holds is written again, with D_VALID
cleared where the string's charge is lost; with no slot in force there is nothing to write (log entry 53). -/
def State.carryRecord (s : State) (st : Nat) (clear : Bool) : State :=
  match s.inForce (recBase st) with
  | none => s
  | some (_, b) =>
    let flags := setBit (byteAt b 5).toNat 0 (bit (byteAt b 5).toNat 0 && !clear)
    let r := s.writeSlot (recBase st) (patch ((b.drop 4).take 44) 1 [BitVec.ofNat 8 flags] ++ toLe 4 (s.rd Reg.EVL_OPS_OP_SECONDS.off).toNat ++ zeros 4)
    let s := (r.1.setF (Reg.SST_STRING_STATUS_SLOT st) r.2).bump Reg.SST_REC_WRITE_CNT
    s.setString st { s.string st with recAt := s.beatN }

/-- The capacity record of a verified string is written (Table 11-2). -/
def State.fullRecord (s : State) (st : Nat) : State :=
  let v := s.string st
  let flags := s.f (Reg.SST_STRING_STATUS_D_VALID st) + 2 * s.f (Reg.SST_STRING_STATUS_INC_PENDING st)
  let (s, k) := s.writeSlot (recBase st) ([BitVec.ofNat 8 st, BitVec.ofNat 8 flags, 0, 0] ++ fit (v.record.take 16) 16
    ++ toLe 4 (s.cycles st) ++ toLe 8 v.thru.toNat ++ toLe 8 v.d.toNat ++ toLe 4 (recMah v.record)
    ++ toLe 4 (s.rd Reg.EVL_OPS_OP_SECONDS.off).toNat ++ zeros 4)
  let s := (s.setF (Reg.SST_STRING_STATUS_SLOT st) k).bump Reg.SST_REC_WRITE_CNT
  s.setString st { s.string st with recAt := s.beatN }

/-- The capacity record is written. -/
def State.writeRecord (s : State) (st : Nat) : State :=
  if (s.string st).record = [] then s.carryRecord st false else s.fullRecord st

/-- D_VALID or INC_PENDING takes a value; a change writes the record. -/
def State.setDValid (s : State) (st : Nat) (v : Bool) : State :=
  if s.b (Reg.SST_STRING_STATUS_D_VALID st) = v then s
  else (s.setF (Reg.SST_STRING_STATUS_D_VALID st) (ofBool v)).writeRecord st
def State.setInc (s : State) (st : Nat) (v : Bool) : State :=
  if s.b (Reg.SST_STRING_STATUS_INC_PENDING st) = v then s
  else (s.setF (Reg.SST_STRING_STATUS_INC_PENDING st) (ofBool v)).writeRecord st

/-- C_PRESENT follows the record and the cycle count. -/
def State.showCapacity (s : State) (st : Nat) : State := s.setF (Reg.SST_SOC_C_PRESENT st) (s.cPresent st)

/-! ### Messages to the pack (R254, R255) -/

/-- PASS fragments of a message of up to 12 bytes each, from offset off. -/
def State.passSend (s : State) (st kind : Nat) (msg : Bytes) (off : Nat) : Nat → State
  | 0 => s
  | n + 1 =>
    let part := (msg.drop off).take 12
    let last := decide (msg.length ≤ off + 12)
    let s := s.monSend (12 * st) 6
      (toLe 2 off ++ [BitVec.ofNat 8 kind, BitVec.ofNat 8 (part.length + 16 * ofBool last)] ++ fit part 12)
    if last then s else State.passSend s st kind msg (off + 12) n

/-- A pull fetches the next fragment of the reply. -/
def State.passPull (s : State) (st : Nat) : State := s.monSend (12 * st) 6 (zeros 16)

/-- A message goes out and its reply is awaited. -/
def State.passMsg (s : State) (st kind : Nat) (msg : Bytes) : State :=
  let s := (s.passSend st kind msg 0 5).passPull st
  s.setString st { s.string st with msg := [], complete := false, bad := false }

/-- A challenge leaves with its nonce (R255). -/
def State.sendChallenge (s : State) (st : Nat) (nonce : Bytes) : State :=
  let known := match s.inForce (recBase st) with
    | some (_, b) => s.sst.keys.any fun e => decide (e.1 = (b.drop 8).take 16)
    | none => false
  let ch := fit nonce 32 ++ toLe 8 s.beatN ++ [BitVec.ofNat 8 st, BitVec.ofNat 8 (ofBool (!known))] ++ zeros 6
  let s := s.setString st { s.string st with challenge := ch, authAt := s.beatN, waitDraw := none }
  s.passMsg st 1 ch

/-- 32 bytes of entropy for in-step work are drawn by the active of a twin pair, once a beat, for its frame's ENTROPY (R375). -/
def State.stepDraw (s : State) : State :=
  if s.twn.draws.any fun (e : Nat × Bytes) => decide (e.1 = s.beatN) then s
  else
    let r := s.draw 32 (toLe 8 s.beatN)
    { r.2 with twn := { r.2.twn with draws := r.2.twn.draws ++ [(r.2.beatN, fit r.1 32)] } }

/-- A challenge with its attempt (R255); without fresh entropy none is sent (R321). In a twin pair both modules send it 3 beats
later with the active's mirrored entropy (R375). -/
def State.challenge (s : State) (st attempt : Nat) : State :=
  let s := s.setF (Reg.SST_STRING_STATUS_ATTEMPT st) attempt
  let s := s.setString st { s.string st with authAt := s.beatN, challenge := [], msg := [], complete := false, bad := false
                                             waitDraw := none }
  if s.b Reg.TWN_CFG_MODE ∧ s.mstate = 4 then s.setString st { s.string st with waitDraw := some s.beatN }
  else if s.b Reg.SEC_STATUS_ENTROPY_FAIL then s
  else if s.twinActive then s.stepDraw.setString st { s.string st with waitDraw := some s.beatN }
  else
    let r := s.draw 32 (toLe 8 s.beatN)
    r.2.sendChallenge st r.1

/-- INCREMENT to the pack, with the count it is believed to hold (R255). -/
def State.sendIncrement (s : State) (st : Nat) : State :=
  let old := (s.string st).packCount
  let s := s.setString st { s.string st with incOld := some old }
  s.passMsg st 2 (toLe 4 old ++ toLe 4 (old + 1))

/-! ### States (Table 11-1) -/

/-- The strings that the STAGE_MAP in force serves. -/
def State.served (s : State) : List Nat := (List.range 8).filter fun st => (s.boardOf st).isSome

/-- The shelf partition is released at E: served strings become ABSENT; and removed at S: strings are UNUSED. -/
def State.sstMap (s : State) : State :=
  s.served.foldl (fun s st => if s.sstate st = 0 then ((s.setString st {}).showSlot st).toSst st 1 else s) s
def State.sstUnmap (s : State) : State := (List.range 8).foldl (fun s st => s.toSst st 0) s

/-- Presence of each string of a board on a valid frame (R244). -/
def State.sstFrame (s : State) (b : Nat) : State :=
  [0, 1].foldl (fun s i => match (s.board b).str i with
    | none => s
    | some st =>
      let v := s.string st
      if bit (s.board b).flags (1 + i) then s.setString st { v with present := true, presRun := v.presRun + 1, absRun := 0, gone := false }
      else s.setString st { v with present := false, presRun := 0, absRun := v.absRun + 1 }) s

/-- PRESENCE_DETECTED (R244). -/
def execPresenceDetected (st : Fin 8) (s : State) : Res :=
  .next (if s.sstate st.val = 1 ∧ (s.string st.val).presRun ≥ 1000 then (s.toSst st.val 2).challenge st.val 1 else s)

/-- PRESENCE_LOST (R244), in ABSENT too; once per run of frames without presence. -/
def execPresenceLost (st : Fin 8) (s : State) : Res :=
  .next (if s.sstate st.val ≠ 0 ∧ (s.string st.val).absRun ≥ 10 ∧ ¬ (s.string st.val).gone then
    let s := s.toSst st.val 1
    let s := s.setString st.val { s.string st.val with restAt := none, challenge := [], incOld := none, waitDraw := none, gone := true, lastI := 0 }
    let s := s.setF (Reg.SST_STRING_STATUS_D_VALID st.val) 0
    if (s.string st.val).record = [] then s.carryRecord st.val true else s.fullRecord st.val
  else s)

/-- A failed authentication (Table 11-1), counted as a failed verification too unless it timed out (Table 15-8): the next attempt, or FAILED with event 0x0902. -/
def State.authFail (s : State) (st cause : Nat) : State :=
  let id := le (s.string st).msg 0 4
  let s := s.bump Reg.SST_AUTH_FAIL_CNT
  let s := if cause ≤ 2 then s.bump Reg.SEC_VERIFY_FAIL_CNT else s
  let n := s.f (Reg.SST_STRING_STATUS_ATTEMPT st)
  if n < 3 then s.challenge st (n + 1)
  else
    let s := s.setString st { s.string st with challenge := [] }
    ((s.setF (Reg.SST_STRING_STATUS_AUTH_FAILED st) 1).ev 0x0902 (st + 16 * cause) id).toSst st 5

/-- What the response fails (event 0x0902's cause), or the pack's verified key. -/
def State.responseKey (s : State) (st : Nat) : Nat ⊕ Bytes :=
  let v := s.string st
  let m := v.msg
  let r := m.take 96
  let certLen := le m 1634 2
  let cert := fit (m.drop 1636) 3456
  let asked := bit (byteAt v.challenge 41).toNat 0
  let key := if certLen = 0 then (match s.sst.keys.find? fun (e : Bytes × Bytes) => decide (e.1 = r.take 16) with | some e => e.2 | none => [])
    else certKey cert
  let issued := (List.range 4).any fun i => bit (s.f Reg.SEC_STATUS_PACK_EN) i && certOk cert 3 (s.sec.packs.get i [])
  if v.bad || key = [] || !sigOk key (digest (tagWNPK ++ v.challenge.take 41 ++ r)) (le m 96 2) (fit (m.drop 98) 1536) then .inl 0
  else if r.take 16 ≠ Config.shake256 key 16 then .inl 2
  else if certLen ≠ (if asked then 3456 else 0) ∨ (asked && !issued) then .inl 1
  else if !recOk r then .inl 2
  else .inr key

/-- RESPONSE (R255, R249): the complete message is verified. -/
def State.response (s : State) (st : Nat) : State :=
  let v := s.string st
  if s.sstate st ≠ 2 ∨ v.challenge = [] ∨ (!v.complete && !v.bad) then s
  else match s.responseKey st with
    | .inl cause => s.authFail st cause
    | .inr key =>
      let r := v.msg.take 96
      let packCycles := le r 20 4
      let keys := (s.sst.keys.filter fun (e : Bytes × Bytes) => decide (e.1 ≠ r.take 16)) ++ [(r.take 16, key)]
      let stale := if le v.msg 1634 2 = 0 then s.sst.stale else s.sst.stale.erase (r.take 16)
      let s : State := { s with sst := { s.sst with keys := keys, stale := stale } }
      let rif := s.inForce (recBase st)
      let mine := match rif with | some (_, b) => if (b.drop 8).take 16 = r.take 16 then some b else none | none => none
      let s := if rif.isNone then s.ev 0x0903 st 0 else s
      let s := (s.setF (Reg.SST_STRING_STATUS_AUTH_FAILED st) 0).setString st { v with record := r, packCount := packCycles, challenge := [], msg := [] }
      match mine with
      | some b =>
        let old := le b 24 4
        let s := (s.setString st { s.string st with d := BitVec.ofNat 64 (le b 36 8), thru := BitVec.ofNat 64 (le b 28 8) }).setF (Reg.SST_SOC_CYCLES st) (max old packCycles)
        let s := if old = packCycles then s else s.ev 0x0905 (st + 256 * old) packCycles
        let inc := bit (byteAt b 5).toNat 1 && decide (packCycles < old)
        let valid := bit (byteAt b 5).toNat 0
        let s := (s.setF (Reg.SST_STRING_STATUS_INC_PENDING st) (ofBool inc)).setF (Reg.SST_STRING_STATUS_D_VALID st) (ofBool valid)
        let s := (s.showCapacity st).showSlot st
        let s := if old < packCycles ∨ inc ≠ bit (byteAt b 5).toNat 1 then s.writeRecord st else s
        if valid then s.toSst st 4
        else (s.setString st { s.string st with restAt := some s.beatN }).toSst st 3
      | none =>
        let s := (s.setString st { s.string st with thru := 0 }).setF (Reg.SST_SOC_CYCLES st) packCycles
        let s := (s.setF (Reg.SST_STRING_STATUS_INC_PENDING st) 0).setF (Reg.SST_STRING_STATUS_D_VALID st) 0
        let s := (s.showCapacity st).writeRecord st
        (s.setString st { s.string st with restAt := some s.beatN }).toSst st 3

/-- RESPONSE (R255). -/
def execResponse (st : Fin 8) (s : State) : Res := .next (s.response st.val)

/-- AUTH_TIMEOUT (R244). -/
def execAuthTimeout (st : Fin 8) (s : State) : Res :=
  .next (if s.sstate st.val = 2 ∧ (s.string st.val).authAt + s.lf Reg.SST_TIMING_AUTH_TO_S * 1000000 ≤ s.beatN then
    s.authFail st.val 3 else s)

/-- REAUTH (R244). -/
def State.reauth (s : State) (st : Nat) : State := if s.sstate st = 5 then (s.toSst st 2).challenge st 1 else s

/-- PASS_REPLY (R254): a fragment of the pack's reply; a pull follows until the message is complete. -/
def State.passReply (s : State) (st : Nat) (fr : Bytes) : State :=
  let v := s.string st
  if v.challenge = [] ∧ v.incOld = none ∨ v.complete ∨ v.bad then s
  else
    let ctl := (byteAt fr 6).toNat
    if bit ctl 5 then s.passPull st
    else if le fr 4 2 ≠ v.msg.length ∨ ctl % 16 > 5 then s.setString st { v with bad := true }
    else
      let s := s.setString st { v with msg := v.msg ++ (fr.drop 7).take (ctl % 16), complete := bit ctl 4 }
      if bit ctl 4 then s else s.passPull st

/-- PASS_REPLY (R254). -/
def execPassReply (port : Fin 96) (data : Bytes) (s : State) : Res :=
  .next (match (s.hear port.val data).monFrame port.val data 0x86 16 with
    | (some (c, frame), s) => if c % 12 = 0 then s.passReply (c / 12) frame else s
    | (none, s) => s)

/-- INCREMENT_REPLY (R255): the pack's count confirms the increment. -/
def execIncrementReply (st : Fin 8) (s : State) : Res :=
  let v := s.string st.val
  .next (match v.incOld with
    | none => s
    | some old =>
      if v.challenge ≠ [] ∨ (!v.complete && !v.bad) then s
      else
        let count := if v.complete then le v.msg 0 4 else v.packCount
        let s' := s.setString st.val { v with incOld := none, msg := [], complete := false, bad := false, packCount := count }
        if v.complete ∧ le v.msg 0 4 = old + 1 then s'.setInc st.val false else s')

/-! ### Charge (R246, R247, R249, R252) -/

/-- The string current of this beat's sample in µA (R246). -/
def State.stringCurrent (s : State) (st : Nat) : Option Int :=
  match s.boardOf st with
  | none => none
  | some (b, side) =>
    match s.field b (2 * side) false, s.field b (2 * side + 1) false with
    | some x, some y => some ((x + y) * (s.board b).scaleI)
    | _, _ => none

/-- The lowest and highest cell of a string's last sweep, in 100 µV; none where a unit has no record. -/
def State.cellRange (s : State) (st : Nat) : Option (Nat × Nat) :=
  let vs := ((List.range 12).map (12 * st + ·)).flatMap fun c => (List.range 18).map fun j => le (s.cmu c).last (8 + 2 * j) 2
  if ((List.range 12).any fun i => decide ((s.cmu (12 * st + i)).last = [])) then none
  else some (vs.foldl min (vs.headD 0), vs.foldl max 0)

/-- EMPTY_DISAGREE is entered (R252). -/
def State.disagree (s : State) (st : Nat) : State :=
  match s.cellRange st with
  | none => s
  | some (lo, _) =>
    if ¬ s.b (Reg.SST_STRING_STATUS_EMPTY_DISAGREE st) ∧ s.sstate st = 4 ∧ s.cPc st ≤ (s.string st).d.toNat ∧
        lo > 10 * s.f Reg.SST_LIMITS_V_FLOOR_MV then
      ((s.setF (Reg.SST_STRING_STATUS_EMPTY_DISAGREE st) 1).bump Reg.SST_DISAGREE_CNT).ev 0x0906
        (st + 256 * (lo / 10)) (s.cPresent st)
    else s

/-- Throughput reaches C_design: one cycle more, the record, and INCREMENT (R249). -/
def State.countCycle (s : State) (st : Nat) : State :=
  let v := s.string st
  let design := recMah v.record * 3600000000000
  if design ≠ 0 ∧ design ≤ v.thru.toNat then
    let s := (s.setString st { v with thru := v.thru - BitVec.ofNat 64 design }).setF (Reg.SST_SOC_CYCLES st) (s.cycles st + 1)
    ((((s.showCapacity st).writeRecord st).sendIncrement st).setInc st true)
  else s

/-- One beat of a string's charge and rest condition (R246). In any other state its last valid current alone is kept. -/
def State.chargeBeat (s : State) (st : Nat) : State :=
  if s.sstate st ≠ 3 ∧ s.sstate st ≠ 4 then
    match s.stringCurrent st with
    | some i => s.setString st { s.string st with lastI := i }
    | none => s
  else
    let v := s.string st
    let (i, v, s) := match s.stringCurrent st with
      | some i =>
        let calm := decide (i.natAbs ≤ s.lf Reg.SST_CFG_REST_MA * 1000)
        (i, { v with lastI := i, miss := 0, restAt := if calm then (match v.restAt with | some b => some b | none => some s.beatN) else none }, s)
      | none => (v.lastI, { v with miss := v.miss + 1, restAt := none }, s.bump Reg.SST_SAMPLE_MISS_CNT)
    let d' := min ((v.d.toNat : Int) + i).toNat (2 ^ 64 - 1)
    let thru := min (v.thru.toNat + (d' - v.d.toNat)) (2 ^ 64 - 1)
    let s := s.setString st { v with d := BitVec.ofNat 64 d', thru := BitVec.ofNat 64 thru }
    (s.countCycle st).disagree st

/-- The string voltage in mV of this beat's sample, where its section is valid, is kept (R198, R251). -/
def State.keepMv (s : State) (st : Nat) : State :=
  match s.boardOf st with
  | none => s
  | some (b, side) => match s.field b (6 + side) false with
    | some x => s.setString st { s.string st with mv := (x * (s.board b).scaleV).toNat }
    | none => s

/-- Every string takes this beat's samples: its voltage, and its charge. -/
def State.sstTake (s : State) : State := s.served.foldl (fun s st => (s.keepMv st).chargeBeat st) s

/-- CHARGE_LOST (R244). -/
def execChargeLost (st : Fin 8) (s : State) : Res :=
  .next (if s.sstate st.val = 4 ∧ (s.string st.val).miss ≥ 1000 then
    let s := s.setString st.val { s.string st.val with restAt := none }
    (s.setDValid st.val false).toSst st.val 3
  else s)

/-- soc_ocv by the OCV table, in 0.01 % (R247): linear between points, clamped at the ends; v in 100 µV. -/
def State.socOcv (s : State) (v : Nat) : Nat :=
  let pt (i : Nat) : Nat × Int := (10 * s.f (Reg.SST_OCV_V_MV i), s.f (Reg.SST_OCV_SOC i))
  if v ≤ (pt 0).1 then (pt 0).2.toNat
  else match (List.range 15).find? fun i => decide (v ≤ (pt (i + 1)).1) with
    | some i =>
      let dv := ((pt (i + 1)).1 : Int) - (pt i).1
      ((pt i).2 + (((pt (i + 1)).2 - (pt i).2) * ((v : Int) - (pt i).1)).tdiv dv).toNat
    | none => (pt 15).2.toNat

/-- REST_ANCHOR (R247): the rest condition has held for REST_S and a full sweep lies within it. -/
def State.restAnchor (s : State) (st : Nat) : State :=
  let v := s.string st
  match v.restAt, v.full with
  | some b, some (l, mean) =>
    if (s.sstate st = 3 ∨ s.sstate st = 4) ∧ b + s.lf Reg.SST_CFG_REST_S * 1000000 ≤ s.beatN ∧ b ≤ l then
      let c := s.cPc st
      let d := c * (10000 - s.socOcv mean) / 10000
      let moved := decide (s.sstate st = 4 ∧ ((d : Int) - v.d.toNat).natAbs * 50 > c)
      let was := s.b (Reg.SST_STRING_STATUS_EMPTY_DISAGREE st)
      let s := if moved then s.bump Reg.SST_ANCHOR_CNT else s
      let s := if moved || was then s.ev 0x0904 (st + 256 * (v.d.toNat / 3600000000000)) (d / 3600000000000) else s
      let s := (s.setF (Reg.SST_STRING_STATUS_EMPTY_DISAGREE st) 0).setF (Reg.SST_STRING_STATUS_D_VALID st) 1
      let s := (s.setString st { s.string st with d := BitVec.ofNat 64 d, restAt := some s.beatN }).writeRecord st
      s.toSst st 4
    else s
  | _, _ => s

/-- REST_ANCHOR (R247). -/
def execRestAnchor (st : Fin 8) (s : State) : Res := .next (s.restAnchor st.val)

/-- RECORD_PERIOD (R250). -/
def execRecordPeriod (st : Fin 8) (s : State) : Res :=
  .next (if s.sstate st.val = 4 ∧ (s.string st.val).recAt + s.lf Reg.SST_TIMING_REC_PERIOD_S * 1000000 ≤ s.beatN then
    s.writeRecord st.val else s)

/-- The records are written on entry to HOLDUP (R250). -/
def State.sstHoldup (s : State) : State := (List.range 8).foldl (fun s st => if s.sstate st = 0 then s else s.writeRecord st) s

/-! ### Limits, availability (R251 to R253) -/

/-- Temperatures of the string's records all lie within the limits. -/
def State.tempsOk (s : State) (st : Nat) : Bool :=
  (List.range 12).all fun i => [0, 1].all fun j =>
    let t := i16 (s.cmu (12 * st + i)).last (44 + 2 * j)
    decide (sint 16 (s.f Reg.SST_TEMP_T_MIN) ≤ t ∧ t ≤ sint 16 (s.f Reg.SST_TEMP_T_MAX))

/-- What SST publishes of a string at a dispatch boundary (R251, R252). -/
def State.publishString (s : State) (st : Nat) : State :=
  let v := s.string st
  let mv := v.mv
  let empty := s.b (Reg.SST_STRING_STATUS_EMPTY_DISAGREE st)
  let c := s.cPc st
  let e := if empty then 0 else (c - v.d.toNat) * mv / 1000000000000000000
  let live := decide (s.sstate st = 4) && !s.b (Reg.MON_STRING_DERATED st) && s.tempsOk st
  let (lo, hi) := match s.cellRange st with | some x => x | none => (0, 65535)
  let dis := if live && decide (lo > 10 * s.f Reg.SST_LIMITS_V_FLOOR_MV) then s.f Reg.SST_CURR_I_DIS_MAX * mv else 0
  let chg := if live && decide (hi < 10 * s.f Reg.SST_LIMITS_V_FULL_MV) then s.f Reg.SST_CURR_I_CHG_MAX * mv else 0
  let e' := if s.sstate st = 4 then e else 0
  let s := (s.setString st { v with dis := dis, chg := chg }).setF (Reg.SST_SOC_E_KJ st) e'
  s.setF (Reg.SST_SOC_SOC st) (if empty ∨ c = 0 then 0 else (c - v.d.toNat) * 10000 / c)

/-- Bank usable energy in kJ from the median bank voltage (R253). -/
def State.bankKj (s : State) (mv : Nat) : Nat :=
  let vmin := 1000 * s.f Reg.SST_BANK_V_BANK_MIN
  s.f Reg.SST_BANK_C_BANK * (mv * mv - vmin * vmin) / 2000000000

end Sys2Proof.Machine
end

