-- ==== Sys2Proof/Machine/Budget.lean ====
section
/-! DEFINITION. Rack budgets, publications, throttle lines and the rack start and stop sequence (chapter 7). -/

namespace Sys2Proof.Machine

open Sys2Proof.Bits

/-! ### Targets, the shelf manifest's tables and budgets in force (R158, R159) -/

/-- The manifest of the shelf partition. -/
def State.shelfMan (s : State) : Option Man := if s.b Reg.MAN_SHELF_VALID then s.manOf (s.f Reg.MAN_SHELF_PART) else none

/-- The targets mapped to a throttle line (R167). -/
def State.lineTargets (s : State) (l : Nat) : Nat :=
  match s.shelfMan with
  | none => 0
  | some m => match m.throttle.find? fun b => decide ((byteAt b 0).toNat = l) with
    | some b => le b 16 32
    | none => 0

/-- A target exists. -/
def State.tgtOn (s : State) (t : Nat) : Bool := decide (t < s.f Reg.BUD_CFG_TARGETS) && s.b (Reg.BUD_TGT_EN t)

/-- MIN_W and MAX_W in W. -/
def State.minW (s : State) (t : Nat) : Nat := 10 * s.lf (Reg.BUD_TGT_MIN_W t)
def State.maxW (s : State) (t : Nat) : Nat := 10 * s.lf (Reg.BUD_TGT_MAX_W t)

/-- The measured draw of a target in W: its energy over the last distributed slot, divided by 1 ms. -/
def State.drawW (s : State) (t : Nat) : Int := (s.ldg.draw.get t 0).fdiv 1000

/-- GSTATE. -/
def State.gstate (s : State) : Nat := s.f Reg.GRD_STATE_GSTATE

/-- SSTATE and STAGE of the sequence (Table 7-5): 0 STOPPED, 1 STARTING, 2 RUNNING, 3 STOPPING, 4 FAILED. -/
def State.seqState (s : State) : Nat := s.f Reg.BUD_SEQ_STATE_SSTATE
def State.seqStage (s : State) : Nat := s.f Reg.BUD_SEQ_STATE_STAGE

/-- The budget in force of a target, in W (R159): the lowest that applies. In ORPHAN the published budgets are held until the orphan
table is in force (R154). -/
def State.budgetW (s : State) (t : Nat) : Nat :=
  if ¬ s.tgtOn t then 0
  else
    let rec_ := if s.gstate = 5 ∧ ¬ s.grd.orphanOn then s.bud.orphanRec else s.bud.inForce
    let pub := min (max (le rec_ (64 + 16 * t) 4) (s.minW t)) (s.maxW t)
    let st := s.f (Reg.BUD_TGT_STAGE t)
    let gate := if s.bud.enabled ≤ st ∨ (s.seqState = 3 ∧ st = s.seqStage) then 0
      else if s.bud.released ≤ st then min pub (s.minW t) else pub
    let cool := if s.b Reg.GRD_STATE_COOLANT then min gate (10 * s.lf (Reg.BUD_TGT_SURVIVAL_W t)) else gate
    if s.grd.orphanOn then
      let tab := match s.shelfMan with
        | none => none
        | some m => m.orphan.find? fun b => decide (le b 0 2 = t)
      min cool (match tab with | some b => le b 4 4 | none => s.minW t)
    else cool

/-! ### Throttle lines (R146, R154, R168, R169) -/

/-- Targets held by a grid source, and the lines they and R154 assert. -/
def Bud.held (b : Bud) : Nat := b.selected ||| b.backstop ||| b.coolant ||| b.stop
def State.gridLines (s : State) : Nat :=
  (List.range 16).foldl (fun m l => if s.lineTargets l &&& s.bud.held ≠ 0 ∨ bit s.bud.orphanLines l then m + 2 ^ l else m) 0

/-- The lines that the safe source asserts. -/
def State.safeLines (s : State) : Nat :=
  if s.mstate = 5 ∧ s.b Reg.BUD_CFG_SAFE_THROTTLE then
    (List.range 16).foldl (fun m l => if s.lineTargets l ≠ 0 then m + 2 ^ l else m) 0
  else 0

/-- A line changes: a response falls due for each of its targets when it is asserted, and stays due when the line is released before
(R169). -/
def State.lineResp (s : State) (l : Nat) (up : Bool) : State :=
  let new := if up then
      ((List.range 256).filter fun t => bit (s.lineTargets l) t && s.tgtOn t).map fun t =>
        (t, l, s.beatN + s.lf (Reg.BUD_TGT_RESP_US t))
    else []
  { s with bud := { s.bud with resp := s.bud.resp ++ new } }

/-- The lines follow their sources; old is the state before the sources changed. A line that no grid source asserts any
more writes event 0x0403. In STANDBY the lines are decided, and the drivers released (R169, R376). -/
def State.relines (s old : State) : State :=
  let s := if s.gstate = 5 then { s with bud := { s.bud with orphanLines := s.gridLines } } else s
  let was := s.f Reg.BUD_THR_SRC_GRID
  let grid := s.gridLines
  let s := (s.setF Reg.BUD_THR_SRC_GRID grid).setF Reg.BUD_THR_SRC_SAFE s.safeLines
  let s := s.setF Reg.GRD_STATE_THROTTLING (ofBool (decide (grid ≠ 0)))
  let s := (List.range 16).foldl (fun s l =>
    if bit grid l && !bit was l then { s with bud := { s.bud with since := s.bud.since.put l (s.beatN + 1) 0 } }
    else if bit was l && !bit grid l then
      let back := decide (s.lineTargets l &&& (old.bud.backstop ||| old.bud.coolant) ≠ 0)
      let s := s.ev 0x0403 (l + 256 * ofBool back) (s.beatN + 1 - s.bud.since.get l 0)
      { s with bud := { s.bud with since := s.bud.since.drop l } }
    else s) s
  let lines := if s.mstate = 1 ∨ s.mstate = 2 ∨ s.mstate = 6 then 0 else grid ||| s.safeLines ||| s.f Reg.BUD_THR_FORCE_FORCE
  let before := s.f Reg.BUD_THR_STATE_LINES
  let s := (List.range 16).foldl (fun s l => if bit lines l = bit before l then s else s.lineResp l (bit lines l)) s
  ({ s with bud := { s.bud with driven := if s.mstate = 4 then 0 else lines } }).setF Reg.BUD_THR_STATE_LINES lines

/-- THR_FORCE (R168). -/
def State.thrForce (s : State) (v : Nat) : State := (s.setF Reg.BUD_THR_FORCE_FORCE v).relines s

/-- A target is throttled: a line that maps it is asserted. -/
def State.throttled (s : State) (t : Nat) : Bool :=
  (List.range 16).any fun l => bit (s.f Reg.BUD_THR_STATE_LINES) l && bit (s.lineTargets l) t

/-- Throttle responses at the distribution of slot n (R169): targets still above THROTTLED_W at the first slot that closes
after their response time. -/
def State.respCheck (s : State) (n : Nat) : State :=
  let due := s.bud.resp.filter fun e => decide (e.2.2 < 1000 * (n + 1))
  let s := { s with bud := { s.bud with resp := s.bud.resp.filter fun e => decide (1000 * (n + 1) ≤ e.2.2) } }
  due.foldl (fun s e =>
    if s.drawW e.1 > (10 * s.lf (Reg.BUD_TGT_THROTTLED_W e.1) : Nat) then
      (s.bump Reg.BUD_RESP_FAIL_CNT).ev 0x0505 (e.1 + 256 * e.2.1) (s.drawW e.1).toNat
    else s) s

/-! ### The publication record (R160 to R163, R166) -/

/-- The BUD block runs (R173). -/
def State.budRuns (s : State) : Bool := decide (s.mstate = 3 ∨ s.mstate = 4)

/-- The host can be written: the data link is up and Bus Master Enable is 1 (R300). -/
def State.hostUp (s : State) : Bool := s.b Reg.HIF_LINK_DL_UP && s.b Reg.HIF_LINK_BME

/-- The cause for which a floor hint is dropped (R166). Its length and start are checked once, when its record comes into force; a
hint is dropped while COOLANT is 1 or FLOOR_EN is 0 at a redelivery too, and a hint once dropped stays so. Of several causes event
0x0509 shows the lowest code (the spec does not say which: DESIGN CHOICE, log entry 67). -/
def State.floorDrop (s : State) (r : Bytes) (isNew : Bool) : Option Nat :=
  if isNew ∧ le r 24 4 > s.lf Reg.BUD_CFG_FLOOR_MAX_MS * 1000 then some 0
  else if isNew ∧ le r 16 8 < s.beatN + 1000 then some 1
  else if s.b Reg.GRD_STATE_COOLANT then some 2
  else if s.lf Reg.BUD_CFG_FLOOR_EN = 0 then some 3
  else none

/-- The start stage of a target carries ENABLE. -/
def State.tgtEnabled (s : State) (t : Nat) : Bool := decide (s.f (Reg.BUD_TGT_STAGE t) < s.bud.enabled)

/-- The completed entry of a target (Table 7-2), and whether CLAMPED is set. A floor is clamped to the budget in force, is 0 where the
hint has been dropped, and where the record asks for none its bytes are left as dispatch wrote them (R162, R166). -/
def State.pubEntry (s : State) (r : Bytes) (floor : Bool) (t : Nat) : Bytes × Bool :=
  let e := (r.drop (64 + 16 * t)).take 16
  let on := s.tgtOn t
  let b := s.budgetW t
  let asked := decide (le r 24 4 ≠ 0)
  let f := if floor then min (le e 4 4) b else if asked then 0 else le e 4 4
  let clamped := floor && decide (b < le e 4 4)
  let old := (byteAt e 8).toNat
  let flags := ofBool (on && bit old 0) + 2 * ofBool (bit old 1) + 4 * ofBool (on && s.tgtEnabled t)
    + 8 * ofBool (s.throttled t) + 16 * ofBool (bit (s.rd (0x500070 + 4 * (t / 32))).toNat (t % 32)) + 32 * ofBool clamped
  (toLe 4 b ++ toLe 4 f ++ [BitVec.ofNat 8 flags, BitVec.ofNat 8 (s.f (Reg.BUD_TGT_STAGE t))] ++ zeros 6, clamped)

/-- The completed record of SEQ n, and how many entries are CLAMPED. -/
def State.pubRecord (s : State) (n : Nat) (floor : Bool) : Bytes × Nat :=
  let r := s.bud.inForce
  let flags := ofBool floor + 2 * ofBool (s.b Reg.GRD_STATE_COOLANT) + 4 * ofBool s.grd.orphanOn
    + 8 * ofBool (decide (s.gstate = 4)) + 16 * ofBool (s.b Reg.GRD_STATE_STOPPING) + 32 * s.seqState + 256 * s.seqStage
  let es := (List.range 256).map (s.pubEntry r floor)
  (toLe 4 n ++ toLe 4 flags ++ toLe 8 s.beatN ++ (r.drop 16).take 16 ++ toLe 4 (s.lf Reg.GRD_CAP_CAP_W) ++ zeros 28
    ++ es.flatMap (·.1), (es.filter (·.2)).length)

/-- The record in force is completed and delivered under a new SEQ (R162). -/
def State.deliver (s : State) (isNew : Bool) : State :=
  let n := (s.f Reg.BUD_PUB_SEQ_SEQ + 1) % 4294967296
  let r := s.bud.inForce
  let asked := decide (le r 24 4 ≠ 0)
  let drop := if asked && (isNew || s.bud.floorOk) then s.floorDrop r isNew else none
  let ok := asked && (isNew || s.bud.floorOk) && drop.isNone
  let s := match drop with | some c => s.ev 0x0509 c n | none => s
  let (rec_, clamps) := s.pubRecord n ok
  let covers := (List.range 256).foldl (fun m t => if bit (byteAt rec_ (72 + 16 * t)).toNat 0 then m + 2 ^ t else m) 0
  let pub : Pub := { seq := n, beat := s.beatN, covers := covers, survival := s.b Reg.GRD_STATE_COOLANT }
  let s := { s with bud := { s.bud with lastPub := (s.beatN, rec_), pubs := s.bud.pubs ++ [pub], floorOk := ok, forceSeq := if isNew then n else s.bud.forceSeq } }
  let s := (s.setF Reg.BUD_PUB_SEQ_SEQ n).bumpBy Reg.BUD_CLAMP_CNT clamps
  if s.mstate ≠ 3 then s
  else if s.hostUp then
    (s.out (.hostWrite (s.rd64 0x600010 + 8192 * (n % 2)) rec_)).vector (s.f Reg.BUD_CFG_VECTOR)
  else (s.bump Reg.BUD_HOST_DROP_CNT).ev 0x0508 n 0

/-- The records committed in the interval (B − 1,000, B − 1] that ends at this boundary (R161), and the state without any up to it. -/
def State.takePend (s : State) : List (Nat × Bytes) × State :=
  (s.bud.pend.filter fun e => decide (s.beatN < e.1 + 1000 ∧ e.1 < s.beatN),
    { s with bud := { s.bud with pend := s.bud.pend.filter fun e => decide (s.beatN ≤ e.1) } })

/-- A publication boundary's record (R161). -/
def State.publish (s : State) : State :=
  let due := s.takePend.1
  let s := s.takePend.2
  match due.getLast? with
  | some e =>
    let s := { s with bud := { s.bud with inForce := e.2 } }
    let s := s.bumpBy Reg.BUD_SUPERSEDE_CNT (due.length - 1)
    (s.bump Reg.BUD_PUB_CNT).deliver true
  | none =>
    let s := s.bump Reg.BUD_PUB_MISS_CNT
    let s := if s.bud.inForce = [] then s else s.deliver false
    s.ev 0x0502 (s.f Reg.BUD_PUB_SEQ_SEQ) s.bud.forceSeq

/-- Cleared selection bits act at the first publication boundary after their commit (Table 7-1). -/
def State.maskClear (s : State) : State :=
  let m := le s.bud.mask 0 32
  let sel := if s.bud.maskAt < s.beatN then m else le s.bud.maskOld 0 32 ||| m
  { s with bud := { s.bud with selected := s.bud.selected &&& sel } }

/-- A selection mask commits: set bits act at once. -/
def State.maskCommit (s : State) (m : Bytes) : State :=
  let b := s.bud
  let s' := { s with bud := { b with maskOld := if b.maskAt = s.beatN then b.maskOld else b.mask
                                     mask := m, maskAt := s.beatN, selected := b.selected ||| le m 0 32 } }
  s'.relines s

/-! ### The start and stop sequence (R170, R171) -/

/-- The enabled targets of a stage. -/
def State.stageTargets (s : State) (k : Nat) : List Nat :=
  (List.range 256).filter fun t => s.tgtOn t && decide (s.f (Reg.BUD_TGT_STAGE t) = k)

/-- A change of SSTATE or STAGE, with event 0x0501. -/
def State.toSeq (s : State) (st stage : Nat) : State :=
  let old := s.seqState
  let s := (s.setF Reg.BUD_SEQ_STATE_SSTATE st).setF Reg.BUD_SEQ_STATE_STAGE stage
  s.ev 0x0501 (old + 16 * st + 256 * stage) ((s.rd 0x600030).toNat / 65536)

/-- GSTATE is TRACK or CAPPED. -/
def State.gridUp (s : State) : Bool := decide (s.gstate = 2 ∨ s.gstate = 3)

/-- The gate of stage k (R170). -/
def State.gate (s : State) (k : Nat) : Bool :=
  s.gridUp && decide (s.bud.stageAt + s.lf Reg.BUD_SEQ_CTL_DWELL_MS * 1000 ≤ s.beatN) &&
  decide (s.bud.stageAt ≤ s.bud.ackBeat ∧ s.bud.ackBeat ≠ 0) &&
  (s.stageTargets k).all (fun t => decide (s.drawW t ≤ (s.minW t : Int))) && decide (s.rd Reg.GRD_STORE_AVAIL ≠ 0)

/-- A stage begins stopping (R171): the time its targets need at their follow rates is taken from their draws. -/
def State.beginStop (s : State) (k : Nat) : State :=
  let need := (s.stageTargets k).foldl (fun m t =>
    max m (ceilDiv ((s.drawW t).toNat * 1000000) (100 * max 1 (s.lf (Reg.BUD_TGT_FOLLOW t))))) 0
  let s := { s with bud := { s.bud with stopAt := s.beatN, stopNeed := need, assertAt := none } }
  s.toSeq 3 k

/-- A stage is enabled. -/
def State.enableStage (s : State) (k : Nat) : State :=
  { s with bud := { s.bud with enabled := k + 1, released := k, stageAt := s.beatN, ran := 0 } }

/-- The sequence at a publication boundary: starts, gates and stops (Table 7-4). -/
def State.seqStep (s : State) : State :=
  let st := s.seqState
  let k := s.seqStage
  let stop := s.bud.stopReq || s.b Reg.GRD_STATE_STOPPING
  let go := s.bud.start
  let s := { s with bud := { s.bud with start := false, stopReq := false } }
  if (st = 1 ∨ st = 2 ∨ st = 4) ∧ stop then s.beginStop (s.bud.enabled - 1)
  else if st = 0 then (if go && s.gridUp then (s.enableStage 0).toSeq 1 0 else s)
  else if st = 4 then
    (if go then ({ s with bud := { s.bud with ran := 0 } }.setF Reg.BUD_SEQ_STATE_FAIL 0).toSeq 1 k else s)
  else if st = 1 then
    if s.gate k then
      if k < 4 then (s.enableStage (k + 1)).toSeq 1 (k + 1)
      else ({ s with bud := { s.bud with released := 5 } }).toSeq 2 k
    else if s.gridUp then { s with bud := { s.bud with ran := s.bud.ran + 1000 } } else s
  else s

/-- PUBLICATION_BOUNDARY (R161, R162, R170): at a multiple of 1,000 beats, once. Every such boundary brings the staged fields into
force (R7, R173) and ends the interval of R161; the rest is done where the block runs. -/
def execPublicationBoundary (s : State) : Res :=
  .next (if s.beatN % 1000 = 0 ∧ s.bud.at_ ≠ some s.beatN then
    let s0 := s
    let s := { s with bud := { s.bud with at_ := some s.beatN } }
    let s := s.stage 0x600000 0x603000
    if s.budRuns then ((s.maskClear).relines s0).seqStep.publish else s.takePend.2
  else s)

/-- SEQ_START (R170): ignored with event 0x0506 in a state without a row for it. -/
def State.seqStart (s : State) (path : Path) (v : Nat) : State :=
  if s.seqState = 0 ∨ s.seqState = 4 then { s with bud := { s.bud with start := true } }
  else s.ev 0x0506 0x600030 v 0xFFF (pathCode path)

/-- SEQ_STOP (R170). -/
def State.seqStop (s : State) (path : Path) (v : Nat) : State :=
  if s.seqState = 1 ∨ s.seqState = 2 ∨ s.seqState = 4 then { s with bud := { s.bud with stopReq := true } }
  else s.ev 0x0506 0x600030 v 0xFFF (pathCode path)

/-- STAGE_TIMEOUT (R170): the stage stays enabled, not released. -/
def execStageTimeout (s : State) : Res :=
  let k := s.seqStage
  .next (if s.budRuns ∧ s.beatN % 1000 = 0 ∧ s.seqState = 1 ∧ s.gridUp ∧ ¬ s.gate k ∧ s.lf Reg.BUD_SEQ_CTL_SEQ_TIMEOUT_S * 1000000 ≤ s.bud.ran then
    let beyond := ((s.stageTargets k).filter fun t => decide ((s.minW t : Int) < s.drawW t)).length
    ((s.setF Reg.BUD_SEQ_STATE_FAIL 1).ev 0x0507 k beyond).toSeq 4 k
  else s)

/-- STOP_ASSERT (R171): step 2, while the block runs (R173). -/
def execStopAssert (s : State) : Res :=
  .next (if s.budRuns ∧ s.beatN % 1000 = 0 ∧ s.seqState = 3 ∧ s.bud.assertAt = none ∧ s.bud.stopAt + s.bud.stopNeed ≤ s.beatN then
    let m := (s.stageTargets s.seqStage).foldl (fun m t => if (s.minW t : Int) < s.drawW t then setBit m t true else m) 0
    ({ s with bud := { s.bud with stop := m, assertAt := some s.beatN } }).relines s
  else s)

/-- A stopping stage is stopped (R171): every target at MIN_W, or DWELL_MS after the assertion. -/
def State.stageStops (s : State) : Bool :=
  (s.stageTargets s.seqStage).all (fun t => decide (s.drawW t ≤ (s.minW t : Int))) ||
  (match s.bud.assertAt with | some a => decide (a + s.lf Reg.BUD_SEQ_CTL_DWELL_MS * 1000 ≤ s.beatN) | none => false)

end Sys2Proof.Machine
end

