-- ==== Sys2Proof/Machine/Grid.lean ====
section
/-! DEFINITION. Grid control: the limiter, reserve, states, faults and forecasts (chapter 6). -/

namespace Sys2Proof.Machine

open Sys2Proof.Bits

/-! ### Power measured from the samples of a beat (R259, R141, R148) -/

/-- A board's power term of this beat in nW, where its sample section is valid. -/
def State.boardNw (s : State) (b : Nat) : Option Int :=
  match s.field b 4 false, s.field b 8 false with
  | some v, some i => some (v * (s.board b).scaleV * (i * 8 * (s.board b).scaleI))
  | _, _ => none

/-- The boards in use. -/
def State.boardsUsed (s : State) : List Nat := (s.stg.boards.filter fun e => decide (e.2.map ≠ [])).map (·.1)

/-- Group G boards with a valid upstream frame of this beat, and those that flag input loss. -/
def State.groupG (s : State) : List (Nat × Bool) :=
  (List.range 12).filterMap fun b => match (s.board b).rx with
    | some rx => if rx.beat = s.beatN ∧ rx.valid then some (b, bit (le rx.frame 42 2) 0) else none
    | none => none

/-- The run of beats with the bus within d mV of a voltage. -/
def within (v : Option Int) (x d : Int) : Bool := match v with | some y => decide ((y - x).natAbs ≤ d) | none => false

/-- The grid draw over the beat in nW, as the group G boards report it (R156; log entry 25): the spec names it and gives no formula. -/
def State.gridNw (s : State) : Int :=
  ((List.range 12).filterMap fun b => if (s.board b).role = 1 then s.boardNw b else none).sum

/-- What grid control takes from the samples of a beat: the shelf output p in nW, input loss, bus and bank voltage, the grid draw. A beat
without a valid BANK sample of the bus voltage starts the runs of R145 and of precharge again, and GRD_GRID_MEAS and GRD_GRID_REF keep
their last values in OFF (the spec says neither: DESIGN CHOICE, log entry 67). -/
def State.gridTake (s : State) (p : Int) : State :=
  let g := s.groupG
  let n := (g.filter (·.2)).length
  let lost := decide (g.length < 2 * n)
  let pres := decide (g.length < 2 * (g.length - n))
  let bus := s.bankMedian 4
  let vref : Int := s.f Reg.STG_VREF_VREF
  let run (b : Bool) (k : Nat) : Nat := if b then k + 1 else 0
  let G := s.grd
  let s : State := { s with grd := { G with
      loadUw := p.fdiv 1000
      out10 := G.out10 + p.fdiv 1000
      out100 := G.out100 + p.fdiv 1000
      lostRun := run lost G.lostRun
      presRun := run pres G.presRun
      lostMask := g.foldl (fun m e => if e.2 then setBit m e.1 true else m) 0
      highRun := run (match bus with | some y => decide (y > vref + 16000) | none => false) G.highRun
      calmRun := run (within bus vref 8000) G.calmRun
      preRun := run (within bus 800000 8000) G.preRun
      busMv := bus.getD G.busMv } }
  let s : State := match s.bankMedian 5 with
    | some v => s.wr Reg.GRD_SC_ENERGY (BitVec.ofNat 32 (s.bankKj v.toNat))
    | none => s
  if s.gstate = 0 then s else s.wr Reg.GRD_GRID_MEAS (BitVec.ofNat 32 (s.gridNw.toNat / 1000000000))

/-! ### State changes (R149, R150) -/

/-- A change of grid control state, with event 0x0401. ORPHAN holds the budgets of the record in force (R154). -/
def State.toGrd (s : State) (new rank : Nat) : State :=
  let old := s.gstate
  if old = new then s
  else
    let s := s.setF Reg.GRD_STATE_GSTATE new
    let s := if new = 3 ∨ new = 0 then { s with grd := { s.grd with under99 := 0 } } else s
    let s := if new = 5 then s.bump Reg.GRD_ORPHAN_CNT else if new = 4 then s.bump Reg.GRD_RIDE_CNT else s
    let s := if new = 0 then { s with grd := { s.grd with plan := none, lp := 0, ref100 := 0, astray := 0 } } else s
    let s := if new = 5 then { s with bud := { s.bud with orphanRec := s.bud.inForce } } else s
    s.ev 0x0401 (old + 16 * new + 256 * rank) ((s.rd 0x500000).toNat / 256 % 1024)

/-- Precharge starts or restarts: flags cleared, timer restarted, phases enabled. -/
def State.startPrecharge (s : State) : State :=
  let s := (s.setF Reg.GRD_STATE_WAIT_GRID 0).setF Reg.GRD_STATE_PRE_FAIL 0
  { s with grd := { s.grd with preAt := s.beatN, preRun := 0, disabled := false } }

/-- Bus enable withdrawn and phases disabled. -/
def State.withdraw (s : State) : State := { s with grd := { s.grd with disabled := true } }

/-- Grid control acts on its own triggers: it is on, and the module is not STANDBY. -/
def State.gridActs (s : State) : Bool := decide (s.gstate ≠ 0 ∧ s.mstate = 3)

/-- GRD_STORE_AVAIL and beats of RETURN_MS. -/
def State.avail (s : State) : Nat := (s.rd Reg.GRD_STORE_AVAIL).toNat
def State.returned (s : State) : Bool := decide (s.lf Reg.GRD_THRESH_RETURN_MS * 1000 ≤ s.grd.presRun)
def State.capUw (s : State) : Nat := s.lf Reg.GRD_CAP_CAP_W * 1000000

/-- The triggers of R150 by rank that hold with a row in the present state. -/
def State.trigger (s : State) (rank : Nat) : Bool :=
  let g := s.gstate
  let waiting := s.b Reg.GRD_STATE_WAIT_GRID
  let failed := s.b Reg.GRD_STATE_PRE_FAIL
  match rank with
  | 1 => decide (3 ≤ s.grd.lostRun ∧ (g = 2 ∨ g = 3 ∨ g = 5 ∨ (g = 1 ∧ ¬ waiting)))
  | 2 => decide (g = 4 ∧ s.avail = 0) && !s.b Reg.GRD_STATE_STOPPING
  | 4 => s.returned && (decide (g = 4) && !s.b Reg.GRD_STATE_STOPPING || decide (g = 1) && waiting)
  | 5 => decide (g = 2 ∨ g = 3) && s.b Reg.GRD_STATE_HOST_LOST
  | 6 => decide (g = 5) && s.b Reg.GRD_STATE_HOST_LOST && s.grd.regained && s.grd.reack
  | 7 => (decide (g = 2 ∧ s.capUw < s.grd.tgtUw ∧ s.beatN % 100 = 0) || decide (g = 3 ∧ 10 ≤ s.grd.under99))
  | 8 => decide (g = 1) && (decide (1000 ≤ s.grd.preRun ∧ 0 < s.avail) ||
      (!waiting && !failed && decide (s.grd.preAt + s.f Reg.GRD_CFG_PRE_TIMEOUT_S * 1000000 ≤ s.beatN)))
  | _ => false

/-- A trigger of a rank acts: grid control acts and no higher-ranked trigger holds. -/
def State.ranked (s : State) (rank : Nat) : Bool := s.gridActs && (List.range rank).all fun r => !s.trigger r

/-! ### The reserve (R147) -/

/-- The online strings as a mask. -/
def State.onlineMask (s : State) : Nat := (List.range 8).foldl (fun m st => if s.online st then m + 2 ^ st else m) 0

/-- One more than the fade segment of each string whose record is held; 0 for the others. -/
def State.segments (s : State) : List Nat :=
  (List.range 8).map fun st => if (s.string st).record = [] then 0 else fadeSeg (s.string st).record (s.cycles st) + 1

/-- A string's fade segment has changed since the plan. -/
def stepped (old new : List Nat) : Bool := (old.zip new).any fun (e : Nat × Nat) => decide (e.1 ≠ 0 ∧ e.2 ≠ 0 ∧ e.1 ≠ e.2)

/-- The reserve is re-planned, with event 0x040C. -/
def State.replan (s : State) (dispatch : Bool) : State :=
  let m := s.onlineMask
  let on := (List.range 8).filter (bit m)
  let design := (on.map fun st => recMah (s.string st).record).sum
  let present := (on.map s.cPresent).sum
  let kj := s.lf Reg.GRD_RESERVE_RESERVE_KJ
  let eff := if present = 0 then kj else kj * design / present
  let s := (List.range 8).foldl (fun s st =>
    let fl := if bit m st && decide (present ≠ 0) then eff * s.cPresent st / present else 0
    s.setString st { s.string st with floorKj := fl }) s
  let s := { s with grd := { s.grd with plan := some (m, s.segments), replan := s.grd.replan && !dispatch } }
  (s.wr Reg.GRD_RESERVE_EFF (BitVec.ofNat 32 eff)).ev 0x040C eff m

/-- A re-plan where a string joined or left, the fade segment of any string changed (R248), or RESERVE_KJ was written: the last at the
dispatch boundary at which the value written comes into force (R156). -/
def State.replanDue (s : State) (dispatch : Bool) : State :=
  let due : Bool := match s.grd.plan with
    | none => true
    | some (m, old) => decide (m ≠ s.onlineMask) || stepped old s.segments
  if s.gstate = 0 then s
  else if due ∨ (dispatch ∧ s.grd.replan) then s.replan dispatch
  else { s with grd := { s.grd with plan := some (s.onlineMask, s.segments) } }

/-- GRD_STORE_AVAIL (R147). -/
def State.setAvail (s : State) : State :=
  let e := (s.rd Reg.GRD_SC_ENERGY).toNat + ((List.range 8).map fun st => if s.online st then s.f (Reg.SST_SOC_E_KJ st) else 0).sum
  s.wr Reg.GRD_STORE_AVAIL (BitVec.ofNat 32 (min 4294967295 (e - (s.rd Reg.GRD_RESERVE_EFF).toNat)))

/-- Targets whose measured draw exceeds a limit. -/
def State.above (s : State) (lim : Nat → Nat) : Nat :=
  (List.range 256).foldl (fun m t => if s.tgtOn t && decide ((lim t : Int) < s.drawW t) then m + 2 ^ t else m) 0

/-- The backstop (R144), which a STANDBY decides too, and the rack stop (Table 6-5) when GRD_STORE_AVAIL reaches 0. -/
def State.availActs (s : State) (before : Nat) : State :=
  let s : State := { s with grd := { s.grd with availRun := if s.avail = 0 then 0 else s.grd.availRun + 1 } }
  let s := if before ≠ 0 ∧ s.avail = 0 ∧ (s.gstate = 2 ∨ s.gstate = 3 ∨ s.gstate = 5) ∧ (s.gridActs ∨ s.mstate = 4) then
      { s with bud := { s.bud with backstop := s.bud.backstop ||| s.above s.budgetW } }.relines s
    else s
  if s.gridActs && s.trigger 2 && !s.trigger 1 then s.setF Reg.GRD_STATE_STOPPING 1 else s

/-- BACKSTOP_RELEASE (R144). -/
def execBackstopRelease (s : State) : Res :=
  .next (if s.bud.backstop ≠ 0 ∧ 1000 ≤ s.grd.availRun then { s with bud := { s.bud with backstop := 0 } }.relines s else s)

/-! ### The limiter (R141, R142) -/

/-- grd_limit at boundary b (R141). -/
def State.limit (s : State) : State :=
  let cap := s.capUw
  let step := s.lf Reg.GRD_RAMP_RAMP_WPS
  let t := min s.grd.tgtUw cap
  let t := if s.gstate = 1 then min t (s.f Reg.GRD_CFG_PRE_KW * 1000000000) else t
  let old := s.grd.refUw
  let ref :=
    if s.gstate = 4 ∨ s.b Reg.GRD_STATE_WAIT_GRID then 0
    else
      let r := if s.lf Reg.GRD_CAP_CAP_MODE = 1 ∧ cap < old then cap else old
      let r := if s.b Reg.GRD_STATE_RAMP_YIELD ∧ t < r then max t (min r s.grd.loadUw.toNat) else r
      if t > r then min t (r + step) else max t (r - step)
  let fall := (old - ref) / 1000000
  let s : State := { s with grd := { s.grd with
      refUw := ref
      steepest := if s.b Reg.GRD_STATE_RAMP_YIELD then max s.grd.steepest fall else s.grd.steepest } }
  s.wr Reg.GRD_GRID_REF (BitVec.ofNat 32 (ref / 1000000))

/-! ### Forecasts (R135 to R138) -/

/-- Point i of the forecast block's NEAR, in units of 50 W. -/
def State.nearPoint (s : State) (at_ : Nat) : Option Nat :=
  let a := s.grd.fcstAddr
  if a = 0 then none
  else
    let base := le (s.rdMem (a + 8) 8) 0 8
    let i := (at_ - base) / 10
    if base ≤ at_ ∧ i < 5000 ∧ le (s.rdMem a 4) 0 4 % 2 = 0 then some (le (s.rdMem (a + 64 + 2 * i) 2) 0 2) else none

/-- The shelf share of a forecast point in W. -/
def State.shareW (s : State) (pt : Nat) : Nat := s.f Reg.GRD_CFG_SHARE_PCT * pt * 50 / 100

/-- An update every 10 beats (R138): the point made 100 updates earlier is held against the interval that has ended, and the
present block's point 100 updates ahead is kept. -/
def State.update (s : State) : State :=
  let meas := s.grd.out10.tdiv 10000000
  let G := s.grd
  let lim := s.lf Reg.GRD_THRESH_FCST_ERR_KW * 10 * s.f Reg.GRD_CFG_SHARE_PCT
  let G := match G.fcst.getD 99 none with
    | none => G
    | some pt =>
      let err := ((s.shareW pt : Int) - meas).natAbs
      if err > lim then { G with errRun := G.errRun + 1, okRun := 0, errW := err }
      else { G with errRun := 0, okRun := G.okRun + 1, errW := err }
  { s with grd := { G with fcst := (s.nearPoint (s.beatN + 990) :: G.fcst).take 100, out10 := 0 } }

/-- FLAGS.DEGRADED of the forecast block. -/
def State.flagForecast (s : State) (v : Bool) : State :=
  let s := s.setF Reg.GRD_STATE_FCST_DEGRADED (ofBool v)
  let s := s.ev 0x0409 (ofBool v) s.grd.errW
  if s.grd.fcstAddr = 0 then s
  else
    let a := s.grd.fcstAddr + 4
    s.wrMem a [BitVec.ofNat 8 (setBit (s.rdByte a).toNat 0 v)]

/-- FORECAST_DEGRADED (R138). -/
def execForecastDegraded (s : State) : Res :=
  .next (if s.gstate ≠ 0 ∧ 100 ≤ s.grd.errRun ∧ ¬ s.b Reg.GRD_STATE_FCST_DEGRADED then
    (s.bump Reg.GRD_FCST_DEG_CNT).flagForecast true else s)

/-- FORECAST_RESTORED (R138). -/
def execForecastRestored (s : State) : Res :=
  .next (if 1000 ≤ s.grd.okRun ∧ s.b Reg.GRD_STATE_FCST_DEGRADED then s.flagForecast false else s)

/-! ### Step telemetry (R134, R135) -/

/-- The stale bit of a target. -/
def State.staleBit (s : State) (t : Nat) : Bool := bit (s.rd (0x500070 + 4 * (t / 32))).toNat (t % 32)
def State.setStale (s : State) (t : Nat) (v : Bool) (hb : Nat) : State :=
  let a := 0x500070 + 4 * (t / 32)
  (s.wr a (BitVec.ofNat 32 (setBit (s.rd a).toNat (t % 32) v))).ev 0x040E (t + 256 * ofBool v) hb

/-- A record's HOST_BEAT is more than 20,000 beats old. -/
def State.oldRecord (s : State) (r : Bytes) : Bool := decide (20000 < (s.beatLo + 4294967296 - le r 20 4) % 4294967296)

/-- A record that is ignored (R134). -/
def telemBad (t : Nat) (rec : Bytes) : Bool :=
  decide (byteAt rec 3 ≠ 0 ∨ le rec 28 4 ≠ 0 ∨ 4 < (byteAt rec 2).toNat ∨ le rec 0 2 ≠ t)

/-- A record is taken: it becomes the target's last, and a target that was stale is so no longer (R135). -/
def State.telemNote (s : State) (t : Nat) (rec : Bytes) : State :=
  let s := { s with grd := { s.grd with telem := s.grd.telem.put t rec [] } }
  if s.staleBit t && !s.oldRecord rec then s.setStale t false (le rec 20 4) else s

/-- TELEMETRY_RECORD (R134): one PUT of 32 bytes, ignored and counted where it is malformed. -/
def execTelemetryRecord (t : Fin 256) (rec : Bytes) (s : State) : Res :=
  .next (if s.grd.telemAddr = 0 ∨ rec.length ≠ 32 then s
    else if telemBad t.val rec then s.bump Reg.GRD_TELEM_STALE_CNT
    else (s.wrMem (s.grd.telemAddr + 32 * t.val) rec).telemNote t.val rec)

/-- TARGET_STALE (R135). -/
def execTargetStale (t : Fin 256) (s : State) : Res :=
  let r := s.grd.telem.get t.val []
  .next (if r ≠ [] ∧ s.oldRecord r ∧ ¬ s.staleBit t.val then
    (s.bump Reg.GRD_TELEM_STALE_CNT).setStale t.val true (le r 20 4) else s)

/-! ### Triggers of Table 6-5 -/

/-- The GRID_LOST trigger acts (R148, R149, R153). -/
def State.gridLoss (s : State) : State :=
  let s := ({ s with grd := { s.grd with lossLogged := true } }).ev 0x0406 1 s.grd.lostMask
  if s.gstate = 1 then
    let s := (s.setF Reg.GRD_STATE_WAIT_GRID 1).setF Reg.GRD_STATE_PRE_FAIL 0
    (s.ev 0x040B (s.grd.busMv / 100).toNat s.avail).withdraw
  else
    let s := s.toGrd 4 1
    ({ s with grd := { s.grd with refUw := 0 } }).wr Reg.GRD_GRID_REF 0

/-- GRID_LOST (R148). -/
def execGridLost (s : State) : Res := .next (if s.ranked 1 ∧ s.trigger 1 then s.gridLoss else s)

/-- The return of the grid is logged, once per loss logged (R153). -/
def State.gridBack (s : State) : State :=
  if s.grd.lossLogged then ({ s with grd := { s.grd with lossLogged := false } }).ev 0x0406 0 s.grd.lostMask else s

/-- GRID_PRESENT (R149): where no row waits for it (STOPPING 1), the return is logged alone. -/
def execGridPresent (s : State) : Res :=
  .next (if s.ranked 4 ∧ s.trigger 4 then
    let s := s.gridBack
    if s.gstate = 1 then s.startPrecharge
    else s.toGrd (if s.b Reg.GRD_STATE_HOST_LOST then 5 else 2) 4
  else if s.gridActs ∧ s.returned then s.gridBack
  else s)

/-- PRECHARGE_COMPLETE (R149). -/
def execPrechargeComplete (s : State) : Res :=
  .next (if s.ranked 8 ∧ s.gstate = 1 ∧ 1000 ≤ s.grd.preRun ∧ 0 < s.avail then s.toGrd 2 8 else s)

/-- PRECHARGE_TIMEOUT (R149). -/
def execPrechargeTimeout (s : State) : Res :=
  .next (if s.ranked 8 ∧ s.gstate = 1 ∧ ¬ s.b Reg.GRD_STATE_PRE_FAIL ∧ ¬ s.b Reg.GRD_STATE_WAIT_GRID ∧
      ¬ (1000 ≤ s.grd.preRun ∧ 0 < s.avail) ∧ s.grd.preAt + s.f Reg.GRD_CFG_PRE_TIMEOUT_S * 1000000 ≤ s.beatN then
    let s := s.setF Reg.GRD_STATE_PRE_FAIL 1
    (s.ev 0x040B (s.grd.busMv / 100).toNat s.avail).withdraw
  else s)

/-- PRE_RETRY (R149). -/
def State.preRetry (s : State) : State :=
  if s.ranked 8 ∧ s.gstate = 1 ∧ s.b Reg.GRD_STATE_PRE_FAIL then s.startPrecharge else s

/-- CAP_RELEASES (R149). -/
def execCapReleases (s : State) : Res :=
  .next (if s.ranked 7 ∧ s.gstate = 3 ∧ 10 ≤ s.grd.under99 then s.toGrd 2 7 else s)

/-- RAMP_YIELD_SET (R145). -/
def execRampYieldSet (s : State) : Res :=
  .next (if s.gridActs ∧ s.gstate ≠ 6 ∧ 10 ≤ s.grd.highRun ∧ ¬ s.b Reg.GRD_STATE_RAMP_YIELD then
    { s.setF Reg.GRD_STATE_RAMP_YIELD 1 with grd := { s.grd with yieldAt := s.beatN, steepest := 0 } } else s)

/-- RAMP_YIELD_CLEAR (R145). -/
def execRampYieldClear (s : State) : Res :=
  .next (if s.b Reg.GRD_STATE_RAMP_YIELD ∧ 1000 ≤ s.grd.calmRun ∧ s.mstate ≠ 4 then
    (s.setF Reg.GRD_STATE_RAMP_YIELD 0).ev 0x0402 (s.beatN - s.grd.yieldAt) s.grd.steepest else s)

/-! ### Coolant and neighbour faults (R151, R152) -/

/-- COOLANT is set. -/
def State.coolantSet (s : State) (host : Bool) : State :=
  if s.b Reg.GRD_STATE_COOLANT ∨ ¬ s.gridActs then s
  else
    let s := s.setF Reg.GRD_STATE_COOLANT 1
    ({ s with grd := { s.grd with coolAt := s.beatN, coolHost := host, coolDone := false } }).ev 0x0404 (1 + 2 * ofBool host) 0

/-- COOLANT_FAULT (R151). -/
def execCoolantFault (s : State) : Res :=
  .next (if 10 ≤ s.grd.coolLow then s.coolantSet false else if s.b Reg.GRD_CTL_COOLANT_REQ then s.coolantSet true else s)

/-- GRD_CTL.COOLANT_REQ is written (R151). -/
def State.coolantReq (s : State) (v : Bool) : State :=
  let s := s.setF Reg.GRD_CTL_COOLANT_REQ (ofBool v)
  if v then s.coolantSet true else s

/-- COOLANT_THROTTLE (R151): 10,000 beats after detection, once. -/
def execCoolantThrottle (s : State) : Res :=
  .next (if s.b Reg.GRD_STATE_COOLANT ∧ ¬ s.grd.coolDone ∧ s.grd.coolAt + 10000 ≤ s.beatN ∧ s.gridActs then
    let acked := decide (s.grd.coolAt ≤ s.bud.ackSurvival ∧ s.bud.ackSurvival ≠ 0)
    let m := if acked then s.above fun t => 10 * s.lf (Reg.BUD_TGT_SURVIVAL_W t) else 2 ^ 256 - 1
    { s with grd := { s.grd with coolDone := true }, bud := { s.bud with coolant := m } }.relines s
  else s)

/-- COOLANT_CLEAR (R151). -/
def execCoolantClear (s : State) : Res :=
  .next (if s.b Reg.GRD_STATE_COOLANT ∧ 1000000 ≤ s.grd.coolHigh ∧ ¬ s.b Reg.GRD_CTL_COOLANT_REQ ∧ s.mstate ≠ 4 then
    let s0 := s
    let s := (s.setF Reg.GRD_STATE_COOLANT 0).ev 0x0404 (2 * ofBool s.grd.coolHost) 0
    { s with bud := { s.bud with coolant := 0 } }.relines s0
  else s)

/-- The shortfall that dispatch last published. -/
def State.shortfall (s : State) : Nat := le s.bud.inForce 28 4

/-- NEIGHBOUR is set. -/
def State.neighbourSet (s : State) (src : Nat) : State :=
  if s.b Reg.GRD_STATE_NEIGHBOUR ∨ ¬ s.gridActs then s
  else
    let s := s.setF Reg.GRD_STATE_NEIGHBOUR 1
    ({ s with grd := { s.grd with nbrSrc := src, quiet := 0 } }).ev 0x0405 (1 + 2 * src) s.shortfall

/-- NEIGHBOUR_FAULT (R152). -/
def execNeighbourFault (s : State) : Res :=
  .next (if 10 ≤ s.grd.shelfLow then s.neighbourSet 0
    else if s.b Reg.GRD_CTL_NEIGHBOUR_REQ then s.neighbourSet 1
    else if 10 ≤ s.grd.shareRun then s.neighbourSet 2 else s)

/-- GRD_CTL.NEIGHBOUR_REQ is written (R152). -/
def State.neighbourReq (s : State) (v : Bool) : State :=
  let s := s.setF Reg.GRD_CTL_NEIGHBOUR_REQ (ofBool v)
  if v then s.neighbourSet 1 else s

/-- NEIGHBOUR_CLEAR (R152). -/
def execNeighbourClear (s : State) : Res :=
  .next (if s.b Reg.GRD_STATE_NEIGHBOUR ∧ 1000000 ≤ s.grd.quiet ∧ s.mstate ≠ 4 then
    (s.setF Reg.GRD_STATE_NEIGHBOUR 0).ev 0x0405 (2 * s.grd.nbrSrc) s.shortfall else s)

/-! ### Host loss and dispatch (R154, R155, R163) -/

/-- Trigger 5 acts where it holds: host lost, at once or at a later boundary of TRACK or CAPPED (R150). -/
def State.orphan (s : State) : State := if s.ranked 5 ∧ s.trigger 5 then s.toGrd 5 5 else s

/-- Host lost in grid control (R154). A STANDBY notes the beat alone: its flags follow the active's (R149). A loss after a regain that no
acknowledgement has followed is logged again, and the 5,000,000 beats run on from the first (log entry 70). -/
def State.gridHostLost (s : State) : State :=
  let again := s.grd.regained
  let s : State := { s with grd := { s.grd with regained := false, reack := false } }
  if s.b Reg.GRD_STATE_HOST_LOST ∧ s.mstate ≠ 4 then (if again ∧ s.gridActs then s.ev 0x0407 1 0 else s)
  else
    let t : State := { s with grd := { s.grd with orphanAt := s.beatN, orphanOn := false } }
    if s.mstate = 4 then t
    else if ¬ s.gridActs then s
    else ((t.setF Reg.GRD_STATE_HOST_LOST 1).ev 0x0407 1 0).orphan

/-- The host's fate at a boundary: a loss that grid control has not taken yet, or ORPHAN that an earlier boundary outranked. -/
def State.hostFate (s : State) : State :=
  if s.gridActs ∧ s.b Reg.HIF_STATUS_HOST_LOST ∧ ¬ s.b Reg.GRD_STATE_HOST_LOST then s.gridHostLost else s.orphan

/-- ORPHAN_TABLE (R154). -/
def execOrphanTable (s : State) : Res :=
  .next (if s.gstate = 5 ∧ ¬ s.grd.orphanOn ∧ s.grd.orphanAt + 5000000 ≤ s.beatN then
    ({ s with grd := { s.grd with orphanOn := true } }).ev 0x0408 0 0 else s)

/-- DISPATCH_STALE (R155). -/
def execDispatchStale (s : State) : Res :=
  .next (if s.gridActs ∧ 10 ≤ s.grd.missed ∧ ¬ s.b Reg.GRD_STATE_DISPATCH_STALE then
    (s.setF Reg.GRD_STATE_DISPATCH_STALE 1).ev 0x040A s.grd.missed 0 else s)

/-- The host regained has acknowledged a publication: HOST_LOST clears, and ORPHAN returns to TRACK unless a higher-ranked trigger
holds (Table 6-5, R150), when it stays pending. -/
def State.gridRegained (s : State) : State :=
  if s.b Reg.GRD_STATE_HOST_LOST ∧ s.grd.regained ∧ s.grd.reack ∧ s.mstate ≠ 4 ∧ (s.gstate ≠ 5 ∨ s.ranked 6) then
    let s := s.setF Reg.GRD_STATE_HOST_LOST 0
    let s := { s with grd := { s.grd with orphanOn := false, regained := false, reack := false } }
    if s.gstate = 5 then s.toGrd 2 6 else s
  else s

/-- Lines held by R154 are released once every target they map is covered by an acknowledged publication that came into force
at or after the loss of the host. -/
def State.releaseOrphan (s : State) : State :=
  let keep := (List.range 16).foldl (fun m l =>
    let ok := (List.range 256).all fun t => !bit (s.lineTargets l) t ||
      (s.bud.ackCover.get t 0 ≠ 0 && decide (s.grd.orphanAt ≤ s.bud.ackCover.get t 0))
    if bit s.bud.orphanLines l && !ok then m + 2 ^ l else m) 0
  if keep = s.bud.orphanLines then s
  else
    let s1 := { s with bud := { s.bud with orphanLines := keep } }
    s1.relines s

/-- BUDGET_ACK (R163). -/
def State.budgetAck (s : State) (d : Bytes) : State :=
  let n := le d 0 4
  if n > s.f Reg.BUD_PUB_SEQ_SEQ ∨ n < s.f Reg.BUD_ACK_SEQ_SEQ ∨ le d 4 4 ≠ 0 then
    (s.bump Reg.BUD_ACK_BAD_CNT).ev 0x0503 n (s.f Reg.BUD_PUB_SEQ_SEQ)
  else
    let s := s.setF Reg.BUD_ACK_SEQ_SEQ n
    let got := s.bud.pubs.filter fun p => decide (p.seq ≤ n)
    let cover := got.foldl (fun (c : Tab Nat) p => (List.range 256).foldl (fun (c : Tab Nat) t =>
      if bit p.covers t then c.put t p.beat 0 else c) c) s.bud.ackCover
    let surv := got.foldl (fun m p => if p.survival then p.beat else m) s.bud.ackSurvival
    let last := got.foldl (fun _ p => p.beat) s.bud.ackBeat
    let s := { s with bud := { s.bud with pubs := s.bud.pubs.filter fun p => decide (n < p.seq)
                                          ackCover := cover, ackSurvival := surv, ackBeat := last } }
    let s := if s.grd.regained then { s with grd := { s.grd with reack := true } } else s
    s.gridRegained.releaseOrphan

/-- BUDGET_ACK (R163): one PUT of 8 bytes. -/
def execBudgetAck (data : Bytes) (s : State) : Res := .next (if data.length = 8 then s.budgetAck data else s)

/-! ### The rack stop (R171, R149) -/

/-- The stop sequence is complete in RIDE-THROUGH (R149): bus enable is withdrawn, phases are
disabled, and precharge waits for the grid unless it is present: then the timer runs, and a retry follows its end. The grid is present
where the majority of this beat shows it (the spec gives no run of beats for it here: DESIGN CHOICE, log entry 67). -/
def State.stopComplete (s : State) : State :=
  let s := s.withdraw.setF Reg.GRD_STATE_STOPPING 0
  let s := s.setF Reg.GRD_STATE_WAIT_GRID (ofBool (decide (s.grd.presRun = 0)))
  let s := if s.grd.presRun = 0 then s else s.gridBack
  let s := s.toGrd 1 3
  { s with grd := { s.grd with preAt := s.beatN, preRun := 0 } }

/-- STAGE_STOPPED (R171): the next lower stage begins stopping, or the stop sequence is complete. -/
def State.stageStopped (s : State) : State :=
  let k := s.seqStage
  let s0 := s
  let s := { s with bud := { s.bud with stop := 0, enabled := k, released := min s.bud.released k, assertAt := none } }.relines s0
  if 0 < k then s.beginStop (k - 1)
  else
    let s := s.toSeq 0 0
    if s.gstate = 4 ∧ s.gridActs then s.stopComplete
    else s

/-- STAGE_STOPPED (R171). -/
def execStageStopped (s : State) : Res :=
  .next (if s.budRuns ∧ s.beatN % 1000 = 0 ∧ s.seqState = 3 ∧ s.stageStops then s.stageStopped else s)

/-! ### Commits (R133, R140) -/

/-- A setpoint envelope to a grid-draw loop commits (R155): DISPATCH_STALE clears. -/
def State.dispatched (s : State) : State :=
  ({ s with grd := { s.grd with committed := true, missed := 0 } }).setF Reg.GRD_STATE_DISPATCH_STALE 0

/-- A grid target commits, in µW (R133): that of an envelope of this boundary was in force for its limiter already. -/
def State.gridTarget (s : State) (uw : Int) : State := { s with grd := { s.grd with tgtUw := uw.toNat } }

/-- A string carries power: ONLINE, not isolated and not derated (R139). -/
def State.carries (s : State) (st : Nat) : Bool := s.online st && !s.b (Reg.MON_STRING_DERATED st)

/-- The low pass of R139 over the dispatch period that ends: the mean shelf output less the mean reference, dt 100 µs, tau TAU_MS. -/
def State.lowPass (s : State) : State :=
  let p := (s.grd.out100 - s.grd.ref100) / 100
  let tau := max 1 (s.lf Reg.GRD_SPLIT_TAU_MS)
  { s with grd := { s.grd with lp := s.grd.lp + (p - s.grd.lp) / (10 * tau : Nat), ref100 := 0 } }

/-- The share of a string in µW by R139. -/
def State.share (s : State) (st : Nat) : Int :=
  let target := s.lf Reg.GRD_SPLIT_SC_TARGET_PCT * Config.bankCapacityKj / 100
  let total := s.grd.lp - ((s.rd Reg.GRD_SC_ENERGY).toNat - (target : Int)) * 100000000000 / max 1 (s.lf Reg.GRD_SPLIT_TAU_MS)
  let sum := (((List.range 8).filter s.carries).map s.cPresent).sum
  if s.carries st ∧ sum ≠ 0 then total * s.cPresent st / sum else 0

/-- A string target commits, in µW. It is checked against its share (R139; the spec gives a target that is not its share no consequence:
log entry 57), is 0 for a string that carries none, and is clamped under R140: to the limits, and to 0 at or below the floor (R252). -/
def State.stringTarget (s : State) (st : Nat) (uw : Int) : State :=
  let s : State := { s with grd := { s.grd with astray := setBit s.grd.astray st (decide (uw ≠ s.share st)) } }
  let v := s.string st
  let low := !s.b Reg.GRD_STATE_STOPPING && decide (s.f (Reg.SST_SOC_E_KJ st) ≤ v.floorKj)
  let c := if low ∨ ¬ s.carries st then 0 else clamp (-((v.chg : Int) * 1000)) ((v.dis : Int) * 1000) uw
  let s := if c = uw then s else s.bump Reg.GRD_STRING_CLAMP_CNT
  { s with grd := { s.grd with strUw := s.grd.strUw.put st c 0 } }

/-! ### Boundaries -/

/-- A dispatch period boundary (R29, R142, R251): staged fields, what SST publishes, R155, the cap and the share rise. A period for which
no NEAR point can be read starts the run of R152 again (the spec does not say: DESIGN CHOICE, log entry 67). -/
def State.dispatchBoundary (s : State) : State :=
  let s := (s.stage 0x500000 0x501000).stage 0xA00000 0xA00100
  let s := s.served.foldl (fun s st => s.publishString st) s
  let s := s.replanDue true
  if s.gstate = 0 then { s with grd := { s.grd with out100 := 0, ref100 := 0, replan := false } }
  else
    let s := s.lowPass
    let G := s.grd
    let near := s.nearPoint s.beatN
    let rise := match near with
      | some pt => decide (G.out100.tdiv 100000000 - (s.shareW pt : Int) > (1000 * s.lf Reg.GRD_THRESH_SHARE_RISE_KW : Nat))
      | none => false
    let miss := if G.committed then 0 else G.missed + 1
    let under := if G.tgtUw * 100 ≤ s.capUw * 99 then G.under99 + 1 else 0
    let s := if s.b Reg.GRD_STATE_DISPATCH_STALE ∧ ¬ G.committed then s.bump Reg.GRD_DISPATCH_MISS_CNT else s
    let s : State := { s with grd := { G with
        out100 := 0, shareRun := if rise then G.shareRun + 1 else 0, missed := miss, committed := false
        under99 := if s.gstate = 3 then under else 0 } }
    if s.gstate = 2 ∧ s.ranked 7 ∧ s.capUw < s.grd.tgtUw then s.toGrd 3 7 else s

/-- Whether an envelope's bytes for a loop make a set that comes into force (R180). -/
def State.takesSet (s : State) (k : Nat) (parts : List (Nat × Bytes)) : Bool :=
  let L := s.loop k
  decide (s.lstate k ≠ 0) && (windowFault L.ent (L.candidate parts)).isNone

/-- The bytes that letters write to a loop's setpoint window. -/
def setpointParts (k : Nat) (ls : List Letter) : List (Nat × Bytes) :=
  ls.filterMap fun l => match target l.hdr.addr.toNat with
    | .setpoint k' off => if k' = k then some (off, l.data) else none
    | _ => none

/-- The bytes touch SP. -/
def touchesSp (parts : List (Nat × Bytes)) : Bool := parts.any fun (e : Nat × Bytes) => decide (e.1 < 2 ∧ 0 < e.2.length)

/-- The unit of a loop's setpoint in µW. -/
def lUnit (ent : Bytes) : Nat := max 1 (le ent 56 4)

/-- The grid targets of the envelopes that commit at this boundary are in force for its limiter and its triggers (R98, R133, R141). -/
def State.dueTargets (s : State) : State :=
  ((s.envs.within 0 2048).filter fun (e : Nat × Env) => decide (e.2.st = .sealed ∧ e.2.actuator ≠ some true) &&
      (match e.2.vec with | some c => decide (c ≤ s.beatN) | none => false)).foldl (fun s (e : Nat × Env) =>
    (List.range 512).foldl (fun s k =>
      let L := s.loop k
      let parts := setpointParts k e.2.held
      if L.ent ≠ [] ∧ (byteAt L.ent 15).toNat % 16 = 1 ∧ touchesSp parts ∧ s.takesSet k parts then
        s.gridTarget (i16 (L.candidate parts) 0 * (lUnit L.ent : Nat))
      else s) s) s

/-- Grid control at a boundary: pins, dispatch and update boundaries, GRD_STORE_AVAIL, the limiter and its times. -/
def State.gridBoundary (s : State) (coolantN shelfN : Bool) : State :=
  let G := s.grd
  let low := if shelfN then 0 else G.shelfLow + 1
  let near := decide (low < 10) && !s.b Reg.GRD_CTL_NEIGHBOUR_REQ && decide (G.shareRun < 10)
  let s : State := { s with grd := { G with
      coolLow := if coolantN then 0 else G.coolLow + 1
      coolHigh := if coolantN then G.coolHigh + 1 else 0
      shelfLow := low
      quiet := if near then G.quiet + 1 else 0 } }
  let s := if s.beatN % 10 = 0 then (if s.gstate = 0 then { s with grd := { s.grd with out10 := 0 } } else s.update) else s
  let s := if s.beatN % 100 = 0 then s.dispatchBoundary else s.replanDue false
  if s.gstate = 0 then s
  else
    let before := s.avail
    let s := s.setAvail.availActs before
    let s := s.hostFate.gridRegained.limit
    let s : State := { s with grd := { s.grd with ref100 := s.grd.ref100 + s.grd.refUw } }
    let s := if s.b Reg.GRD_STATE_RAMP_YIELD then s.bump Reg.GRD_RAMP_YIELD_US else s
    let s := if s.b Reg.GRD_STATE_THROTTLING then s.bump Reg.GRD_THROTTLE_US else s
    if s.gstate = 3 then
      if s.grd.cappedUs + 1 ≥ 1000 then { s.bump Reg.GRD_CAPPED_MS with grd := { s.grd with cappedUs := 0 } }
      else { s with grd := { s.grd with cappedUs := s.grd.cappedUs + 1 } }
    else s

/-- The time each asserted line has been asserted (Table 7-7). -/
def State.lineTimes (s : State) : State :=
  (List.range 16).foldl (fun s l => if bit (s.f Reg.BUD_THR_STATE_LINES) l then s.bump (Reg.BUD_THR_US l) else s) s

end Sys2Proof.Machine
end

