-- ==== Sys2Proof/Machine/Ledger.lean ====
section
/-! DEFINITION. The energy ledger: metering, requests, distribution, receipts and batches (chapter 12, R324). -/

namespace Sys2Proof.Machine

open Sys2Proof.Bits

/-! ### Registers and entries -/

/-- The ledger's totals (Table 12-12), signed. -/
def State.total (s : State) (off : Nat) : Int := sint 64 (s.rd64 off)
def State.setTotal (s : State) (off : Nat) (v : Int) : State := s.wr64 off (uint 64 v)
def State.addTotal (s : State) (off : Nat) (v : Int) : State := s.setTotal off (s.total off + v)

/-- The block runs, is halted; COPY state of a copy: 0 GOOD, 1 STALE, 2 RESILVER. -/
def State.ldgRuns (s : State) : Bool := s.b Reg.LDG_STATUS_RUN
def State.ldgHalted (s : State) : Bool := s.b Reg.LDG_STATUS_HALTED
def copyFld (p : Nat) : Fld := if p = 0 then Reg.LDG_STATUS_COPY0 else Reg.LDG_STATUS_COPY1
def State.copyState (s : State) (p : Nat) : Nat := s.f (copyFld p)
def State.setCopy (s : State) (p v : Nat) : State := (s.setF (copyFld p) v).ev 0x0A04 (p + 2 * v) 0 0x140

/-- The ledger's origin in events. -/
def ldgOrigin : Nat := 0x140

/-- Entry e of copy p (Table 12-4). -/
def entryAddr (p e : Nat) : Nat := dramAddr p (0x100000000 + 64 * e)

/-- STATE of an entry (Table 12-5). -/
def entState (b : Bytes) : Nat := (byteAt b 56).toNat

/-- An entry's bytes are readable: never written since the ledger started, or with a CHECK that matches. -/
def entryOk (b : Bytes) : Bool := b.all (fun x => x = 0xFF) || decide (le b 60 4 = (crc32c (b.take 60)).toNat)

/-- An entry is written to every copy that is not STALE, in the same order (R268). -/
def State.putEntry (s : State) (e : Nat) (b : Bytes) : State :=
  let b := fit b 60
  let b := b ++ toLe 4 (crc32c b).toNat
  [0, 1].foldl (fun s p => if s.copyState p = 1 ∨ s.held p then s else s.wrMem (entryAddr p e) b) s

/-- An entry is read (R268): from copy 0 while it is GOOD, else copy 1; an unreadable one (bad says of which copies the read is
uncorrectable, R35) is repaired from the other copy, or becomes LOST. One that is FREE stays so whatever its read gives, as does one that is LOST
(Table 12-3). -/
def State.readEntry (s : State) (e : Nat) (bad : Nat → Bool) : State × Bytes :=
  if s.ldg.busy.get e 0 = 0 then (s, zeros 64) else
  let p := if s.copyState 0 = 0 then 0 else 1
  let q := 1 - p
  let b := s.rdMem (entryAddr p e) 64
  let norm (b : Bytes) : Bytes := if b.all (fun x => x = 0xFF) then zeros 64 else b
  if entryOk b ∧ ¬ bad p then (s, norm b)
  else
    let o := s.rdMem (entryAddr q e) 64
    if s.copyState q = 0 ∧ entryOk o ∧ ¬ bad q then
      (((s.wrMem (entryAddr p e) o).bump Reg.LDG_COPY_FIX_CNT).ev 0x0A04 (p + 2 * s.copyState p + 8) e ldgOrigin, norm o)
    else if entState b = 3 then (s, b)
    else
      let l := patch b 56 [3]
      ((((s.putEntry e l).setF Reg.LDG_STATUS_UNBALANCED 1).bump Reg.LDG_LOST_CNT).ev 0x0A05 e 0 ldgOrigin, l)

/-- QUEUE and WEIGHT of an entry (Table 12-5). -/
def entQueue (b : Bytes) : Nat := le b 52 2
def entWeight (b : Bytes) : Nat := le b 54 2

/-- A queue's state, enable and overhead bits in force. -/
def State.lq (s : State) (q : Nat) : LQ := s.ldg.queues.get q {}
def State.setLq (s : State) (q : Nat) (v : LQ) : State := { s with ldg := { s.ldg with queues := s.ldg.queues.put q v {} } }
def State.qEn (s : State) (q : Nat) : Bool := decide (s.lf (Reg.LDG_QUEUE_EN q) = 1)
def State.qOver (s : State) (q : Nat) : Bool := decide (s.lf (Reg.LDG_QUEUE_OVERHEAD q) = 1)

/-! ### Metering (R259) -/

/-- The sample of a board is metered in a slot; the answer is its term in nW, the last valid one of a board that sent none. -/
def State.meterBoard (s : State) (slot : Nat) (run : Bool) (b : Nat) : State × Int :=
  match s.boardNw b with
  | some t =>
    ({ s with ldg := { s.ldg with terms := s.ldg.terms.put b t 0
                                  acc := if run then s.ldg.acc.put slot (s.ldg.acc.get slot 0 + t) 0 else s.ldg.acc } }, t)
  | none =>
    let t := s.ldg.terms.get b 0
    let s' : State := if run then
        { s.bump Reg.LDG_SAMPLE_MISS_CNT with
          ldg := { s.ldg with acc := s.ldg.acc.put slot (s.ldg.acc.get slot 0 + t) 0
                              miss := s.ldg.miss.put slot (s.ldg.miss.get slot 0 + t.natAbs) 0 } }
      else s
    (s', t)

/-- The samples of a beat are metered: the shelf output in nW. -/
def State.meter (s : State) : State × Int :=
  let slot := s.beatN / 1000
  let run := s.ldgRuns && decide (s.ldg.first ≤ slot)
  s.boardsUsed.foldl (fun (r : State × Int) b =>
    ((r.1.meterBoard slot run b).1, r.2 + (r.1.meterBoard slot run b).2)) (s, 0)

/-! ### Requests (R263 to R265) -/

/-- A REFUSAL record waits for the receipt ring, or is dropped at a full queue (R276). -/
def State.refusal (s : State) (status : Nat) (req : Bytes) : State :=
  if s.ldg.refusals.length ≥ 4096 then s.bump Reg.LDG_REFUSE_DROP_CNT
  else { s with ldg := { s.ldg with refusals := s.ldg.refusals ++
        [fit ([2, 0] ++ toLe 2 status ++ zeros 12 ++ fit req 32) 672] } }

/-- Closes are refused for store space. -/
def State.storeFull (s : State) : Bool :=
  decide (s.f Reg.LDG_STORE_USED_USED + s.ldg.closes.length ≥ 16777216) ||
  (s.ldg.deferred && decide (63488 ≤ s.ldg.leaves.length))

/-- The refusal status of a request, 0 for none (Table 12-2); b is the entry's bytes. -/
def State.reqStatus (s : State) (r b : Bytes) : Nat :=
  let op := (byteAt r 0).toNat
  let q := le r 2 2
  let st := entState b
  let slot := s.beatN / 1000
  let same := decide (b.take 8 = (r.drop 8).take 8 ∧ entQueue b = q ∧ entWeight b = le r 16 2)
  if s.ldgHalted then 0x02
  else if (op ≠ 1 ∧ op ≠ 2) ∨ byteAt r 1 ≠ 0 ∨ (r.drop 18).any (· != 0) ∨ le r 16 2 = 0 ∨ q > 4095 ∨ le r 4 4 > 16777215 then 0x30
  else if !s.qEn q || s.qOver q || (decide (op = 2) && (decide (st ≠ 1 ∧ st ≠ 3) || (decide (st = 1) && !same))) then 0x30
  else if op = 1 then
    (if st ≠ 0 ∨ 2048 ≤ (s.ldg.opens.filter fun e => decide (e.1 = slot)).length then 0x22 else 0)
  else if 2048 ≤ (s.ldg.closes.filter fun e => decide (e.1 = slot)).length ∨ s.storeFull then 0x22
  else 0

/-- The copies that a mask names. -/
def badOf (mask p : Nat) : Bool := bit mask p

/-- A request record of 32 bytes is applied or refused (R263, R264); bad names the copies whose read is uncorrectable. -/
def State.request (s : State) (r : Bytes) (bad : Nat) : State :=
  let e := le r 4 4
  let op := (byteAt r 0).toNat
  let slot := s.beatN / 1000
  let (s, b) := if e ≤ 16777215 ∧ ¬ s.ldgHalted then s.readEntry e (badOf bad) else (s, zeros 64)
  let status := s.reqStatus r b
  if status ≠ 0 then
    ((s.bump Reg.LDG_REQ_REFUSE_CNT).ev 0x0A01 e (status + 65536 * op) ldgOrigin).refusal status r
  else if op = 1 then
    let q := le r 2 2
    let b := patch (patch (patch (patch b 0 ((r.drop 8).take 8)) 32 (toLe 8 slot)) 52 (toLe 2 q ++ (r.drop 16).take 2)) 56 [1]
    let s := s.putEntry e b
    let s := { s with ldg := { s.ldg with opens := s.ldg.opens ++ [(slot, e)], busy := s.ldg.busy.put e (q + 1) 0 } }
    s.bump Reg.LDG_OPEN_CNT
  else
    let lost := decide (entState b = 3)
    let b := patch (patch b 48 (toLe 4 slot)) 56 [2]
    let b := if lost then patch b 52 ((r.drop 2).take 2 ++ (r.drop 16).take 2) else b
    let s := s.putEntry e b
    let s := { s with ldg := { s.ldg with closes := s.ldg.closes ++ [(slot, e)]
                                          lost := if lost then s.ldg.lost ++ [e] else s.ldg.lost
                                          busy := if lost then s.ldg.busy.put e (le r 2 2 + 1) 0 else s.ldg.busy } }
    (s.bump Reg.LDG_CLOSE_CNT).setF Reg.LDG_STATUS_STORE_FULL (ofBool s.storeFull)

/-- A letter to the request window while the block runs: a PUT of 32 bytes is a request, anything else is counted. -/
def State.requestLetter (s : State) (r : Bytes) (bad : Nat) : State :=
  if r.length = 32 then s.request r bad else s.bump Reg.LDG_REQ_BAD_CNT

/-- What comes to the windows waits at the engine's attachment: while its rung runs, and behind what waits there (R360). -/
def State.ldgWaits (s : State) : Bool := s.engineReset 64 || decide (s.ldg.waiting ≠ [])

/-- A record at the request window: while the engine's rung runs it waits at its attachment (R360). -/
def State.requestIn (s : State) (r : Bytes) (bad : Nat) : State :=
  if ¬ s.ldgRuns then s
  else if s.ldgWaits then { s with ldg := { s.ldg with waiting := s.ldg.waiting ++ [.request r bad] } }
  else s.requestLetter r bad

/-- OPEN (R265): an OPEN record, and whether the entry's read is uncorrectable in copies 0 and 1 (R35); while the block does not run the
window names nothing (R258). -/
def execOpenReq (rec : Bytes) (bad0 bad1 : Bool) (s : State) : Res := .next (s.requestIn rec (ofBool bad0 + 2 * ofBool bad1))

/-- CLOSE (R265). -/
def execClose (rec : Bytes) (bad0 bad1 : Bool) (s : State) : Res := .next (s.requestIn rec (ofBool bad0 + 2 * ofBool bad1))

/-- Bytes written to the estimate window (R262). -/
def State.estWrite (s : State) (off : Nat) (d : Bytes) : State :=
  { s with ldg := { s.ldg with ests := keptWrite s.ldg.ests off (d.take (65536 - off)) } }

/-- Bytes at the estimate window: while the engine's rung runs they wait at its attachment (R360). -/
def State.estimateIn (s : State) (off : Nat) (d : Bytes) : State :=
  if ¬ s.ldgRuns then s
  else if s.ldgWaits then { s with ldg := { s.ldg with waiting := s.ldg.waiting ++ [.estimate off d] } }
  else s.estWrite off d

/-- ESTIMATE (R262). -/
def execEstimate (off : BitVec 16) (data : Bytes) (s : State) : Res := .next (s.estimateIn off.toNat data)

/-- n bytes of the estimate window. -/
def estRead (t : Tab Byte) (off : Nat) : Nat → Bytes
  | 0 => []
  | n + 1 => t.get off 0 :: estRead t (off + 1) n

/-- A letter to the request or the estimate window is applied and answered (R262, R263). -/
def State.ledgerLetter (s : State) (l : Letter) : State :=
  match target l.hdr.addr.toNat with
  | .request off =>
    if ¬ s.ldgRuns then s.notReady l
    else if l.op = .put ∧ l.len = 32 ∧ off % 32 = 0 then (s.requestLetter l.data 0).reply l 0
    else (s.bump Reg.LDG_REQ_BAD_CNT).notReady l
  | .estimate off =>
    if ¬ s.ldgRuns then s.notReady l
    else if l.op = .put then (s.estWrite off l.data).reply l 0
    else if l.op = .get then s.reply l 0 (estRead s.ldg.ests off l.len)
    else s.notReady l
  | _ => s

/-- A letter at one of the ledger's windows: it is applied, or waits (R360). -/
def State.ledgerArrive (s : State) (l : Letter) : State :=
  if s.ldgRuns && s.ldgWaits then { s with ldg := { s.ldg with waiting := s.ldg.waiting ++ [.letter l] } }
  else s.ledgerLetter l

/-- What waited is applied, in order of arrival (R360). -/
def State.ledgerApply (s : State) : State :=
  let w := s.ldg.waiting
  let s : State := { s with ldg := { s.ldg with waiting := [] } }
  w.foldl (fun s e => match e with
    | .request r bad => s.requestLetter r bad
    | .estimate off d => s.estWrite off d
    | .letter l => s.ledgerLetter l) s

/-- The engine's rung, started at D, is over (R360). A distribution in progress at D is run again first, from the state at its boundary:
what waited is applied after it. -/
def State.ledgerBack (s : State) (D : Nat) : State := if 1000 * (s.ldg.next + 2) ≤ D then s else s.ledgerApply

/-- The estimate of queue q for slot n is taken, or the last one stands (R262). -/
def State.takeEst (s : State) (q n : Nat) : State :=
  let r := estRead s.ldg.ests (32768 * (n % 2) + 8 * q) 8
  let sl := le r 4 4
  if sl = n % 4294967296 then s.setLq q { s.lq q with est := le r 0 4 }
  else
    let s := if seqLater sl (n % 4294967296) then s.bump Reg.LDG_EST_BAD_CNT else s
    (s.bump Reg.LDG_EST_STALE_CNT).ev 0x0A03 q (n % 4294967296) ldgOrigin

/-! ### Receipts, leaves and trees (R272, R273) -/

/-- Leaf and node hashes, and the root of a batch. -/
def leafHash (r : Bytes) : Bytes := Config.shake256 ([0] ++ r) 32
def nodeHash (a b : Bytes) : Bytes := Config.shake256 ([1] ++ a ++ b) 32
def levelUp : List Bytes → List Bytes
  | a :: b :: r => nodeHash a b :: levelUp r
  | l => l
def treeRoot : Nat → List Bytes → Bytes
  | _, [] => Config.shake256 [2] 32
  | _, [x] => x
  | 0, x :: _ => x
  | n + 1, l => treeRoot n (levelUp l)

/-- The siblings from leaf i upwards. -/
def treePath : Nat → List Bytes → Nat → List Bytes
  | 0, _, _ => []
  | n + 1, l, i =>
    if l.length ≤ 1 then []
    else
      let j := if i % 2 = 0 then i + 1 else i - 1
      (match l[j]? with | some x => [x] | none => []) ++ treePath n (levelUp l) (i / 2)

/-- DEVICE and KEY_EPOCH of receipts and batches: this module's, or in STANDBY those of the active's last frame (R375). -/
def State.receiptDevice (s : State) : Bytes :=
  if s.mstate = 4 then fit ((s.twn.peer.drop 24).take 32) 32 else fit (keyId identityKey) 32
def State.receiptEpoch (s : State) : Nat := if s.mstate = 4 then le s.twn.peer 12 4 else s.f Reg.LDG_KEY_EPOCH_EPOCH

/-- Where receipt number n and its leaf lie (Table 12-4; log entry 21): the half's partition and the offsets. -/
def receiptAt (n : Nat) : Nat := dramAddr (n / 8388608 % 2) (0x140000000 + 128 * (n % 8388608))
def leafAt (n : Nat) : Nat := dramAddr (n / 8388608 % 2) (0x180000000 + 32 * (n % 8388608))

/-- A receipt is formed from a closing entry (R272), and its leaf joins the open batch. -/
def State.formReceipt (s : State) (e : Nat) (b : Bytes) (lost : Bool) (m uj ub : Nat) : State :=
  let q := entQueue b
  let n := s.ldg.formed
  let r := toLe 4 0x43524E57 ++ [1, 0, BitVec.ofNat 8 (ofBool lost), BitVec.ofNat 8 (s.lf (Reg.LDG_QUEUE_TARGET q))]
    ++ b.take 8 ++ toLe 2 q ++ toLe 2 (entWeight b) ++ toLe 4 e ++ (b.drop 32).take 8 ++ toLe 8 m ++ toLe 8 uj ++ toLe 8 ub
    ++ toLe 4 (s.f Reg.LDG_CAL_EPOCH_EPOCH) ++ toLe 4 s.receiptEpoch ++ toLe 8 s.ldg.batch
    ++ toLe 4 s.ldg.leaves.length ++ zeros 4 ++ s.receiptDevice ++ zeros 16
  let h := leafHash r
  let s := (s.wrMem (receiptAt n) r).wrMem (leafAt n) (fit h 32)
  { s.setF Reg.LDG_STORE_USED_USED (s.f Reg.LDG_STORE_USED_USED + 1) with
    ldg := { s.ldg with formed := n + 1, leaves := s.ldg.leaves ++ [fit h 32] } }

/-! ### Checkpoints and batches (R274, R275, R278) -/

/-- The checkpoint is written (Table 12-10). -/
def State.checkpoint (s : State) (holdup : Bool) : State :=
  let w := s.freeWord.toNat
  let last := pickSlot s.ldg.ckptA s.ldg.ckptB
  let k := match last with | some (r, _) => 1 - r | none => w % 2
  let seq := match last with | some (_, b) => (le b 0 4 + 1) % 4294967296 | none => w
  let s := if last.isSome then s else s.useFree
  let busy := s.ldg.busy.length
  let b := fit (toLe 4 seq ++ toLe 4 (s.f Reg.LDG_KEY_EPOCH_EPOCH) ++ toLe 8 (s.rd64 0xB00020) ++ toLe 8 (s.rd64 0xB00018)
    ++ toLe 8 (s.rd64 Reg.LDG_TOT_METERED) ++ toLe 8 (s.rd64 Reg.LDG_TOT_ISSUED) ++ toLe 4 busy
    ++ toLe 4 (s.f Reg.LDG_STORE_USED_USED) ++ [BitVec.ofNat 8 (ofBool holdup)]) 56
  let b := b ++ toLe 4 (crc32c b).toNat ++ [0, 0, 0, 0xA5]
  { s with ldg := if k = 0 then { s.ldg with ckptA := b } else { s.ldg with ckptB := b } }

/-- The header of the open batch at its close (Table 12-8). -/
def State.batchHeader (s : State) (holdup : Bool) : Bytes :=
  let tots := [Reg.LDG_TOT_METERED, Reg.LDG_TOT_LOSS, Reg.LDG_TOT_OVERHEAD, Reg.LDG_TOT_IDLE, Reg.LDG_TOT_ISSUED,
    Reg.LDG_TOT_ACCRUED, Reg.LDG_TOT_CARRY]
  let slot := s.rd64 0xB00018
  toLe 4 0x424C4E57 ++ [1, 0, BitVec.ofNat 8 (s.f Reg.LDG_STATUS_UNBALANCED + 2 * ofBool holdup), 0] ++ toLe 8 s.ldg.batch
    ++ toLe 4 s.receiptEpoch ++ toLe 4 (s.f Reg.LDG_CAL_EPOCH_EPOCH)
    ++ toLe 8 (match s.ldg.bFirst with | some f => f | none => slot) ++ toLe 8 slot ++ toLe 4 s.ldg.leaves.length ++ zeros 4
    ++ tots.flatMap (fun t => toLe 8 (s.rd64 t)) ++ zeros 24 ++ fit (treeRoot 17 s.ldg.leaves) 32

/-- A batch record (R275): SIG_LEN and the signature once it is franked. -/
def Batch.bytes (b : Batch) : Bytes :=
  let sig := b.sig.getD []
  fit (b.hdr ++ toLe 2 sig.length ++ zeros 14 ++ fit sig 1536) 2048

/-- Where batch record n lies in the batch store (Table 12-4; log entry 21). -/
def batchAt (n : Nat) : Nat := dramAddr (n / 32768 % 2) (0x190000000 + 2048 * (n % 32768))

/-- A batch record is written to the batch store. -/
def State.storeBatch (s : State) (b : Batch) : State := s.wrMem (batchAt b.place) b.bytes

/-- The open batch closes (R274). -/
def State.closeBatch (s : State) (holdup : Bool) : State :=
  let b : Batch := { hdr := s.batchHeader holdup, place := s.ldg.stored, first := s.ldg.bStart, leaves := s.ldg.leaves, beat := s.beatN
                     key := s.f Reg.LDG_KEY_EPOCH_EPOCH, holdup := holdup
                     early := decide (s.mstate ≠ 4) && !s.sec.keys.contains (s.f Reg.LDG_KEY_EPOCH_EPOCH) }
  let s := (s.wr64 0xB00020 s.ldg.batch).bump Reg.LDG_BATCH_CNT
  let s := (s.storeBatch b)
  let s := { s with ldg := { s.ldg with closed := s.ldg.closed ++ [b], stored := s.ldg.stored + 1, batch := s.ldg.batch + 1, bFirst := none
                                        bStart := s.ldg.formed, leaves := [], deferred := false } }
  s.checkpoint holdup

/-- A batch due to close closes, or stays open while the store is full. -/
def State.batchDue (s : State) : State :=
  if s.ldg.closed.length ≥ 65536 then
    let s := { s with ldg := { s.ldg with deferred := true } }
    (s.bump Reg.LDG_BATCH_DEFER_CNT).ev 0x0A06 (s.ldg.batch % 4294967296) s.ldg.leaves.length ldgOrigin
  else s.closeBatch false

/-! ### Key epochs (R324) -/

/-- The KIND 2 certificate of a ledger key (Table 15-2), signed by the identity key; its SERIAL is a free value. -/
def ledgerCert (serial : Bytes) (epoch beat : Nat) (pub : Bytes) : Bytes :=
  let body := toLe 4 0x54434E57 ++ [1, 0, 2, 0] ++ fit serial 8 ++ toLe 4 epoch ++ zeros 4 ++ fit (keyId pub) 32
    ++ fit (keyId identityKey) 32 ++ toLe 8 beat ++ fit pub 1793 ++ zeros 15
  let sig := sign 0 (digest body)
  body ++ toLe 2 sig.length ++ zeros 14 ++ fit sig 1536

/-- The certificate of a key of an epoch, generated at a beat (VALID_FROM), goes into its window; measurement 5 is the current key's
identifier (Table 15-6). -/
def State.placeCert (s : State) (epoch beat : Nat) (pub : Bytes) : State :=
  let serial := s.freeBytes 2
  let s := { s with free := s.free + 2 }
  let s := s.wrBytes (0xE08000 + 4096 * (epoch % 8)) (ledgerCert serial epoch beat pub) 864
  if epoch = s.f Reg.SEC_EPOCH_EPOCH then s.setMeas 5 (fit (keyId pub) 32) else s

/-- The key of an earlier epoch is destroyed once its last root is signed (R324). -/
def State.dropKeys (s : State) : State :=
  let e := s.f Reg.SEC_EPOCH_EPOCH
  let due (k : Nat) : Bool := s.ldg.closed.any fun b => decide (b.key = k) && b.sig.isNone && !b.holdup
  let keep := s.sec.keys.filter fun k => decide (k = e ∨ k = (e + 1) % 4294967296) || due k
  { s with sec := { s.sec with keys := keep } }

/-- The number of the last batch closed, low 32 bits: the checkpoint keeps it through resets (Table 12-10). -/
def State.lastBatch (s : State) : Nat :=
  match pickSlot s.ldg.ckptA s.ldg.ckptB with | some (_, b) => le b 8 4 | none => s.rd64 0xB00020 % 4294967296

/-- A key epoch begins (R275, R324): KEY_EPOCH, event 0x0A0C, BATCH 0; with the key generated ahead, where there is one. -/
def State.newEpoch (s : State) (ready : Option Bytes) : State :=
  let e := (s.f Reg.SEC_EPOCH_EPOCH + 1) % 4294967296
  let s := (s.setF Reg.SEC_EPOCH_EPOCH e).setF Reg.LDG_KEY_EPOCH_EPOCH e
  let s := s.ev 0x0A0C e s.lastBatch ldgOrigin
  let s := { s with ldg := { s.ldg with batch := 0 }
                    sec := { s.sec with ready := ready, nextReady := none, rotate := false, began := s.beatN } }
  let s : State := match ready with
    | some pub => s.placeCert e s.sec.nextAt pub
    | none => s.setMeas 5 []
  s.dropKeys

/-- A ledger key pair is generated from fresh entropy for an epoch, whose private key the franker then holds; its public key. -/
def State.genKey (s : State) (epoch : Nat) : Bytes × State :=
  let r := s.draw 64 []
  let s := r.2.bump Reg.SEC_LKEY_CNT
  (Config.falconPublic r.1, { s with sec := { s.sec with keys := s.sec.keys ++ [epoch] } })

/-- LEDGER_KEY_READY (R321, R324): the key of an earlier epoch that has batches and no key, else of the epoch in force, else of the next, is
generated. -/
def execLedgerKeyReady (s : State) : Res :=
  .next (if ¬ s.ldgRuns ∨ s.b Reg.SEC_STATUS_ENTROPY_FAIL ∨ ¬ s.frankerFor 2 then s
    else
      let e := s.f Reg.SEC_EPOCH_EPOCH
      let s := s.frankerDone
      match s.ldg.closed.find? (fun b => b.sig.isNone && !b.holdup && decide (b.key ≠ e) && !s.sec.keys.contains b.key), s.sec.ready with
      | some b, _ =>
        let r := s.genKey b.key
        r.2.placeCert b.key s.beatN r.1
      | none, none =>
        let r := s.genKey e
        { r.2 with sec := { r.2.sec with ready := some r.1 } }.placeCert e s.beatN r.1
      | none, some _ =>
        let r := s.genKey ((e + 1) % 4294967296)
        { r.2 with sec := { r.2.sec with nextReady := some r.1, nextAt := s.beatN } })

/-! ### Distribution (R269 to R271) -/

/-- Entries opened in slots up to n begin to take part: their indices are written and their weight joins (R265). One
that is LOST by then takes no part. -/
def State.joinOpens (s : State) (n : Nat) (bad : Nat → Nat → Bool) : State :=
  let due := s.ldg.opens.filter fun e => decide (e.1 ≤ n)
  let s := { s with ldg := { s.ldg with opens := s.ldg.opens.filter fun e => decide (n < e.1) } }
  due.foldl (fun s d =>
    let (s, b) := s.readEntry d.2 (bad d.2)
    let q := entQueue b
    let Q := s.lq q
    if entState b = 3 then { s with ldg := { s.ldg with unjoined := s.ldg.unjoined ++ [d.2] } }
    else
      let s := s.putEntry d.2 (patch b 8 (toLe 16 Q.x ++ toLe 8 Q.ux))
      s.setLq q { Q with r := Q.r + entWeight b, wx := Q.wx + entWeight b * Q.x }) s

/-- One enabled queue's share (R270): given is the energy divided so far; the answer is the state and the sum. -/
def State.shareQueue (s : State) (t : Int) (sum u q : Nat) (given : Int) : State × Int :=
  let Q := s.lq q
  let e : Int := if 0 < t ∧ 0 < sum then (t * Q.est).tdiv sum else 0
  let tg := s.lf (Reg.LDG_QUEUE_TARGET q)
  let s := { s with ldg := { s.ldg with draw := s.ldg.draw.put tg (s.ldg.draw.get tg 0 + e) 0 } }
  let given := given + e
  if s.qOver q then (s.addTotal Reg.LDG_TOT_OVERHEAD e, given)
  else
    let uq := if 0 < e then ceilDiv (u * e.toNat) t.toNat else 0
    let e := e.toNat + Q.frac / 4294967296
    let Q := { Q with frac := Q.frac % 4294967296 }
    if e = 0 then (s.setLq q Q, given)
    else if Q.r = 0 then ((s.setLq q Q).addTotal Reg.LDG_TOT_IDLE e, given)
    else
      let num := e * 4294967296 + Q.rem_
      (s.setLq q { Q with x := (Q.x + num / Q.r) % 2 ^ 128, rem_ := num % Q.r
                          ux := (Q.ux + ceilDiv (uq * 65536) Q.r) % 2 ^ 64 }, given)

/-- A closed entry is settled (R270): its energy and bound, its receipt, and its weight leaves the queue. One that cannot be read in
either copy is LOST and stays so, with no receipt (Table 12-3). -/
def State.settleEntry (s : State) (m e : Nat) (bad : Nat → Nat → Bool) : State :=
  let (s, b) := s.readEntry e (bad e)
  if entState b = 3 then { s with ldg := { s.ldg with lost := s.ldg.lost.erase e } }
  else
  let lost := s.ldg.lost.contains e
  let in_ := !s.ldg.unjoined.contains e
  let q := entQueue b
  let Q := s.lq q
  let w := entWeight b
  let xo := le b 8 16
  let a := w * ((Q.x + 2 ^ 128 - xo) % 2 ^ 128) % 2 ^ 128
  let uj : Nat := if lost then 0 else a / 4294967296 % 2 ^ 64
  let ub : Nat := if lost then 0 else ceilDiv (w * ((Q.ux + 2 ^ 64 - le b 24 8) % 2 ^ 64)) 65536
  let Q := { Q with frac := if lost then Q.frac else Q.frac + a % 4294967296, r := if in_ then Q.r - w else Q.r, wx := if in_ then Q.wx - w * xo else Q.wx }
  let s := (s.setLq q Q).addTotal Reg.LDG_TOT_ISSUED uj
  let s := s.formReceipt e b lost m uj ub
  let s := s.putEntry e (patch (patch b 40 (toLe 8 uj)) 56 [0])
  { s with ldg := { s.ldg with lost := s.ldg.lost.erase e, unjoined := s.ldg.unjoined.erase e, busy := s.ldg.busy.drop e } }

/-- ACCRUED (R271). -/
def State.accrued (s : State) : Int :=
  (s.ldg.queues.map fun e => (((e.2.r * e.2.x : Int) - e.2.wx) % (2 : Int) ^ 128) / 4294967296).sum

/-- The energy of slot n with the remainder carried, in nWs, and the loss of m µJ (R270). -/
def State.slotNws (s : State) (n : Nat) : Int := s.ldg.acc.get n 0 + s.ldg.rem_
def State.slotLoss (s : State) (m : Int) : Int :=
  if 0 < m then min m (s.lf Reg.LDG_LOSS_LOSS_W * 1000 + (m * s.lf Reg.LDG_LOSS_LOSS_PPM).tdiv 1000000) else 0

/-- Slot n is taken into the totals (R260, R270): staged fields come into force, METERED and LOSS count, the remainder is kept. -/
def State.slotTotals (s : State) (n : Nat) : State :=
  let s := s.stage 0xB00000 0xB05000
  let cal := ((s.live.get 0xB00004 (resetWord 0xB00004)).toNat, s.lf Reg.LDG_METER_RATING_W)
  let s := if cal = s.ldg.cal then s
    else s.setF Reg.LDG_CAL_EPOCH_EPOCH (s.f Reg.LDG_CAL_EPOCH_EPOCH + 1)
  let acc := s.slotNws n
  let m := acc.fdiv 1000000000
  let loss := s.slotLoss m
  let s := { s with ldg := { s.ldg with rem_ := (acc.fmod 1000000000).toNat, acc := s.ldg.acc.drop n, miss := s.ldg.miss.drop n
                                        cal := cal, next := n + 1, bFirst := match s.ldg.bFirst with | some f => some f | none => some n } }
  ((s.addTotal Reg.LDG_TOT_METERED m).addTotal Reg.LDG_TOT_LOSS loss).wr64 0xB00018 n

/-- The net energy t of slot n, with bound u, is shared over the enabled queues in their order, each by its estimate; what is not given goes
to IDLE or is carried. -/
def State.slotShares (s : State) (n : Nat) (t : Int) (u : Nat) : State :=
  let qs := (List.range 4096).filter s.qEn
  let s := qs.foldl (fun s q => s.takeEst q n) s
  let sum := (qs.map fun q => (s.lq q).est).sum
  let k := t.toNat * 1000 / max 1 sum
  let s := if 0 < t ∧ 0 < sum ∧ (k < s.lf Reg.LDG_CAL_K_MIN_PM ∨ s.lf Reg.LDG_CAL_K_MAX_PM < k) then
      (s.bump Reg.LDG_CAL_OUT_CNT).ev 0x0A02 (n % 4294967296) k ldgOrigin else s
  let s := { s with ldg := { s.ldg with draw := [] } }
  let r := qs.foldl (fun (r : State × Int) q => r.1.shareQueue t sum u q r.2) (s, (0 : Int))
  if 0 < t ∧ sum = 0 then (r.1.addTotal Reg.LDG_TOT_IDLE t).setTotal Reg.LDG_TOT_CARRY 0
  else r.1.setTotal Reg.LDG_TOT_CARRY (t - r.2)

/-- The entries that close by slot n are settled (R270). -/
def State.slotCloses (s : State) (n : Nat) (bad : Nat → Nat → Bool) : State :=
  let due := s.ldg.closes.filter fun e => decide (e.1 ≤ n)
  let s := { s with ldg := { s.ldg with closes := s.ldg.closes.filter fun e => decide (n < e.1) } }
  due.foldl (fun s d => s.settleEntry d.1 d.2 bad) s

/-- The slot n is distributed (R270). Entries opened in it whose joining fell to a distribution that the start or a halt left out join first
(R265, R266); bad says which reads of an entry are uncorrectable, by copy. -/
def State.distributeSlot (s : State) (n : Nat) (bad : Nat → Nat → Bool) : State :=
  let missUj := ceilDiv (s.ldg.miss.get n 0) 1000000000
  let s0 := s.stage 0xB00000 0xB05000
  let m := (s.slotNws n).fdiv 1000000000
  let u := max (ceilDiv m.natAbs 200) (s0.lf Reg.LDG_METER_RATING_W / 4) + missUj
  let t := m - s0.slotLoss m + s.total Reg.LDG_TOT_CARRY
  let s := s.slotTotals n
  if s.ldgHalted then s.setTotal Reg.LDG_TOT_CARRY t
  else
    let s := s.joinOpens n bad
    let s := ((s.slotShares n t u).slotCloses n bad).joinOpens (n + 1) bad
    s.setTotal Reg.LDG_TOT_ACCRUED s.accrued

/-- After the distribution at boundary B = 1,000(n + 2) (R274, R324, R169): the epoch may end, the batch may close, throttle responses are
checked. An epoch whose last batch cannot be stored goes on until it can (log entry 58). -/
def State.afterSlot (s : State) (n : Nat) : State :=
  let h := s.f Reg.SEC_LKEY_CFG_ROTATE_H
  let rot := decide (s.mstate ≠ 4) && (s.sec.rotate || decide (h ≠ 0) && decide (s.sec.began + h * 3600000000 ≤ s.beatN))
  let s := if rot ∧ s.ldg.closed.length < 65536 then (s.closeBatch false).newEpoch s.sec.nextReady
    else if rot then { s with sec := { s.sec with rotate := true } }.batchDue
    else if 1000 * (n + 2) % (max 1 (s.lf Reg.LDG_CFG_BATCH_MS) * 1000) = 0 ∨ 63488 ≤ s.ldg.leaves.length ∨ s.ldg.deferred then s.batchDue
    else s
  (s.setF Reg.LDG_STATUS_STORE_FULL (ofBool s.storeFull)).respCheck n

/-- DISTRIBUTE (R270): the next slot s, from boundary 1,000(s + 2), and the entries whose reads are uncorrectable in copy 0 and copy 1. -/
def execDistribute (bad0 bad1 : List (BitVec 24)) (s : State) : Res :=
  let n := s.ldg.next
  let bad (e p : Nat) : Bool := (if p = 0 then bad0 else bad1).any fun x => decide (x.toNat = e)
  .next (if s.ldgRuns ∧ 1000 * (n + 2) ≤ s.beatN ∧ ¬ s.engineReset 64 then ((s.distributeSlot n bad).afterSlot n).ledgerApply else s)

/-! ### Franking and delivery (R274 to R276) -/

/-- ROOT_FRANKED (R274, R321, R324): the oldest closed batch without a signature is signed. A signature later than 1,000 beats, and that of a batch
closed before its key existed, writes event 0x0A0A. A STANDBY module franks nothing (R278). -/
def execRootFranked (s : State) : Res :=
  .next (if s.mstate = 4 ∨ ¬ s.frankerFor 1 then s
    else match s.ldg.closed.find? fun b => b.sig.isNone && !b.holdup with
      | none => s
      | some b =>
        if ¬ s.sec.keys.contains b.key then s
        else
          let s := s.frankerDone
          let late := s.beatN - b.beat
          let sig := sign (b.key + 1) (digest b.hdr)
          let s := s.storeBatch { b with sig := some sig }
          let s : State := { s with ldg := { s.ldg with closed := s.ldg.closed.map fun x =>
                      if x.key = b.key ∧ x.hdr = b.hdr then { x with sig := some sig } else x } }
          let s := s.dropKeys
          if late > 1000 ∨ b.early then s.ev 0x0A0A (le b.hdr 8 4) late 0x141 else s)

/-- Records in a ring not yet consumed. -/
def ringUsed (tail head : Nat) : Nat := (tail + 4294967296 - head) % 4294967296

/-- A record goes to the receipt ring, if it has room. -/
def State.rxPut (s : State) (r : Bytes) (receipt : Bool) : Option State :=
  let size := 2 ^ s.f Reg.LDG_RX_SIZE_LOG2
  let tail := s.f Reg.LDG_RX_TAIL_TAIL
  if ringUsed tail (s.f Reg.LDG_RX_HEAD_HEAD) < size then
    let s := s.out (.hostWrite (s.rd64 0xB00040 + 672 * (tail % size)) r)
    some { s.setF Reg.LDG_RX_TAIL_TAIL ((tail + 1) % 4294967296) with ldg := { s.ldg with ring := s.ldg.ring ++ [receipt] } }
  else none

/-- The ring record of receipt i of a batch (Table 12-9). -/
def State.receiptRecord (s : State) (b : Batch) (i : Nat) : Bytes :=
  let path := treePath 16 b.leaves i
  [1, 0, 0, 0] ++ zeros 12 ++ s.rdMem (receiptAt (b.first + i)) 128 ++ toLe 4 b.leaves.length ++ [BitVec.ofNat 8 path.length]
    ++ zeros 11 ++ fit (path.flatMap id) 512

/-- Receipt i of a batch is sent, if its half is served and the ring has room. -/
def State.sendReceipt (s : State) (b : Batch) (i : Nat) : Option State :=
  if s.held ((b.first + i) / 8388608 % 2) then none else s.rxPut (s.receiptRecord b i) true

/-- Receipts from the one numbered sent on, up to n of them. -/
def State.sendReceipts (s : State) (b : Batch) (i : Nat) : Nat → State × Nat
  | 0 => (s, i)
  | n + 1 => match s.sendReceipt b i with
    | none => (s, i)
    | some s' => State.sendReceipts s' b (i + 1) n

/-- The module delivers to the host: not STANDBY, and the host can be written. -/
def State.delivers (s : State) : Bool := decide (s.mstate ≠ 4) && s.hostUp

/-- BATCH_DELIVERY (R276): the oldest franked batch's record, then its receipts, then the vector. -/
def execBatchDelivery (s : State) : Res :=
  .next (match s.ldg.closed with
    | [] => s
    | b :: rest =>
      if ¬ s.delivers ∨ b.sig.isNone then s
      else
        let size := 2 ^ s.f Reg.LDG_BX_SIZE_LOG2
        let tail := s.f Reg.LDG_BX_TAIL_TAIL
        let room := decide (ringUsed tail (s.f Reg.LDG_BX_HEAD_HEAD) < size)
        if !b.given && !room then s
        else
          let s := if b.given then s
            else (s.out (.hostWrite (s.rd64 0xB00058 + 2048 * (tail % size)) b.bytes)).setF Reg.LDG_BX_TAIL_TAIL ((tail + 1) % 4294967296)
          let (s, i) := s.sendReceipts b b.sent (b.leaves.length - b.sent)
          if i = b.leaves.length then
            { s with ldg := { s.ldg with closed := rest, delivered := some (le b.hdr 8 8) } }.vector (s.f Reg.LDG_CFG_VECTOR)
          else { s with ldg := { s.ldg with closed := { b with given := true, sent := i } :: rest } })

/-- REFUSAL_DELIVERY (R276). -/
def execRefusalDelivery (s : State) : Res :=
  .next (match s.ldg.refusals with
    | [] => s
    | r :: rest =>
      if s.delivers then
        match s.rxPut r false with
        | some s' => { s' with ldg := { s'.ldg with refusals := rest } }
        | none => s
      else s)

/-- A write of the receipt ring HEAD (R276, R279): receipts it passes leave the store; past TAIL it is ignored. -/
def State.rxHead (s : State) (path : Path) (v : Nat) : State :=
  let head := s.f Reg.LDG_RX_HEAD_HEAD
  let k := ringUsed v head
  if ringUsed (s.f Reg.LDG_RX_TAIL_TAIL) head < k then s.ev 0x0A09 0xB00050 v ldgOrigin (pathCode path)
  else
    let n := ((s.ldg.ring.take k).filter id).length
    let s := (s.setF Reg.LDG_RX_HEAD_HEAD v).setF Reg.LDG_STORE_USED_USED (s.f Reg.LDG_STORE_USED_USED - n)
    let s := { s with ldg := { s.ldg with ring := s.ldg.ring.drop k } }
    s.setF Reg.LDG_STATUS_STORE_FULL (ofBool s.storeFull)

/-- A write of the batch ring HEAD. -/
def State.bxHead (s : State) (path : Path) (v : Nat) : State :=
  let head := s.f Reg.LDG_BX_HEAD_HEAD
  if ringUsed (s.f Reg.LDG_BX_TAIL_TAIL) head < ringUsed v head then s.ev 0x0A09 0xB00068 v ldgOrigin (pathCode path)
  else s.setF Reg.LDG_BX_HEAD_HEAD v

/-! ### Copies, start and stop (R258, R268, R278) -/

/-- Partition p enters a reset: its copy is STALE, or the ledger halts where it was the only GOOD one. -/
def State.ldgPartDown (s : State) (p : Nat) : State :=
  if p > 1 ∨ ¬ s.ldgRuns ∨ s.copyState p = 1 then s
  else if s.copyState p = 0 ∧ s.copyState (1 - p) ≠ 0 then
    (s.setF Reg.LDG_STATUS_HALTED 1).ev 0x0A07 1 (s.rd64 0xB00018 % 4294967296) ldgOrigin
  else s.setCopy p 1

/-- Partition p is released. -/
def State.ldgPartUp (s : State) (p : Nat) : State :=
  if p > 1 ∨ ¬ s.ldgRuns then s
  else if s.ldgHalted ∧ s.copyState p = 0 then
    (s.setF Reg.LDG_STATUS_HALTED 0).ev 0x0A07 0 (s.rd64 0xB00018 % 4294967296) ldgOrigin
  else if s.copyState p = 1 then s.setCopy p 2 else s

/-- The ledger region of a partition copied from the other one (Table 12-4, the copies alone). -/
def copyLedger (m : List Host.Cell) (src dst : Nat) : List Host.Cell :=
  let a := entryAddr src 0
  let b := entryAddr dst 0
  (m.filter fun e => decide (e.1 < b)) ++ ((Tab.within m a (a + 0x40000000)).map fun e => (e.1 - a + b, e.2))
    ++ (m.filter fun e => decide (b + 0x40000000 ≤ e.1))

/-- Copy p is made again from the other copy, and is GOOD. -/
def State.resilver (s : State) (p : Nat) : State := { s with mem := copyLedger s.mem (1 - p) p }.setCopy p 0

/-- COPY_RESILVERED (R268). -/
def execCopyResilvered (copy : Bool) (s : State) : Res :=
  let p := ofBool copy
  .next (if s.ldgRuns ∧ s.copyState p = 2 ∧ s.copyState (1 - p) = 0 ∧ ¬ s.ldgHalted then s.resilver p else s)

/-- Both ledger regions are cleared to what DRAM reads as. -/
def State.clearLedger (s : State) : State :=
  { s with mem := Tab.outside (Tab.outside s.mem (entryAddr 0 0) (entryAddr 0 0 + 0xA0000000)) (entryAddr 1 0) (entryAddr 1 0 + 0xA0000000) }

/-- The copies at a start (R268): that of a partition in reset is STALE, but copy 0 where both are: it is the only one, and the ledger is
halted until its partition's release. Each change of a copy writes event 0x0A04. -/
def State.ldgCopies (s : State) : State :=
  let both := s.held 0 && s.held 1
  let one (s : State) (p v : Nat) : State := if s.copyState p = v then s else s.setCopy p v
  let s := one (one s 0 (ofBool (s.held 0 && !both))) 1 (ofBool (s.held 1))
  if both then (s.setF Reg.LDG_STATUS_HALTED 1).ev 0x0A07 1 (s.rd64 0xB00018 % 4294967296) ldgOrigin else s

/-- The LDG block starts (R258, R275, R278): empty, in a new key epoch, with event 0x0A0B from the checkpoint. Staged fields come into force at
its first distribution (R279). The number of the batch that the active has open is not carried to a STANDBY that starts within an epoch:
a free value (R375; log entry 71). -/
def State.ldgStart (s : State) : State :=
  let s : State := match pickSlot s.ldg.ckptA s.ldg.ckptB with
    | some (_, b) => s.ev 0x0A0B (le b 40 4) (le b 44 4) ldgOrigin
    | none => s
  let first := (s.beatN + 999) / 1000
  let s := s.clearLedger
  let s := { s with ldg := { first := first, next := first, terms := s.ldg.terms, ckptA := s.ldg.ckptA, ckptB := s.ldg.ckptB
                             ring := s.ldg.ring.map fun _ => false, cal := s.ldg.cal } }
  let s := (s.wr 0xB00010 (BitVec.ofNat 32 (1 + (s.rd 0xB00010).toNat / 8 % 16 * 8))).ldgCopies
  let s := [Reg.LDG_TOT_METERED, Reg.LDG_TOT_LOSS, Reg.LDG_TOT_OVERHEAD, Reg.LDG_TOT_IDLE, Reg.LDG_TOT_ISSUED,
    Reg.LDG_TOT_ACCRUED, Reg.LDG_TOT_CARRY].foldl (fun s t => s.setTotal t 0) s
  let s : State := (s.setF Reg.LDG_STORE_USED_USED 0).newEpoch none
  if s.mstate = 4 then { s with ldg := { s.ldg with batch := s.freeWord.toNat } }.useFree else s

/-- The block runs while a shelf manifest is loaded in IN_SERVICE, STANDBY or SAFE_STOP. -/
def State.ldgFollow (s : State) : State :=
  let run := s.b Reg.MAN_SHELF_VALID && decide (s.mstate = 3 ∨ s.mstate = 4 ∨ s.mstate = 5)
  if run && !s.ldgRuns then s.ldgStart
  else if !run && s.ldgRuns then s.setF Reg.LDG_STATUS_RUN 0 else s

/-- The ledger closes its records on entry to HOLDUP; a full store keeps the batch open (R274). -/
def State.ldgHoldup (s : State) : State :=
  if ¬ s.ldgRuns then s
  else if s.ldg.closed.length ≥ 65536 then s.batchDue.checkpoint true
  else s.closeBatch true

/-! ### A new active (R386) -/

/-- The receipts numbered from n, k of them, are re-formed with this module's DEVICE and KEY_EPOCH and a batch number; the
answer is their leaf hashes. -/
def State.reformReceipts (s : State) (batch n : Nat) : Nat → State × List Bytes
  | 0 => (s, [])
  | k + 1 =>
    let r := patch (patch (s.rdMem (receiptAt n) 128) 60 (toLe 4 (s.f Reg.LDG_KEY_EPOCH_EPOCH) ++ toLe 8 batch)) 80
      (fit (keyId identityKey) 32)
    let h := fit (leafHash r) 32
    let rest := State.reformReceipts ((s.wrMem (receiptAt n) r).wrMem (leafAt n) h) batch (n + 1) k
    (rest.1, h :: rest.2)

/-- A closed batch is re-formed under a new number. -/
def State.reformBatch (s : State) (batch : Nat) (b : Batch) : State × Batch :=
  let r := s.reformReceipts batch b.first b.leaves.length
  let hdr := patch (patch (patch b.hdr 8 (toLe 8 batch)) 16 (toLe 4 (s.f Reg.LDG_KEY_EPOCH_EPOCH))) 128 (fit (treeRoot 17 r.2) 32)
  let b := { b with hdr := hdr, leaves := r.2, key := s.f Reg.LDG_KEY_EPOCH_EPOCH, sig := none, given := false, sent := 0 }
  (r.1.storeBatch b, b)

/-- The new active begins a key epoch and re-forms every batch after DELIVERED, the open one too. -/
def State.ldgTakeover (s : State) : State :=
  if ¬ s.ldgRuns then s
  else
    let s := s.newEpoch s.sec.nextReady
    let keep := s.ldg.closed
    let r := keep.foldl (fun (r : State × List Batch) b =>
      let x := r.1.reformBatch r.2.length b
      (x.1, r.2 ++ [x.2])) (s, ([] : List Batch))
    let o := r.1.reformReceipts keep.length s.ldg.bStart s.ldg.leaves.length
    { o.1 with ldg := { o.1.ldg with closed := r.2, batch := keep.length, leaves := o.2, delivered := none } }

/-- Batches are delivered in order: those up to the first of a number have been. -/
def dropDelivered (n : Nat) (l : List Batch) : List Batch :=
  if l.any (fun b => decide (le b.hdr 8 8 = n)) then (l.dropWhile fun b => !decide (le b.hdr 8 8 = n)).drop 1 else l

/-- The standby drops the batches that the active has delivered (R386). -/
def State.ldgPeer (s : State) (delivered : Nat) : State :=
  { s with ldg := { s.ldg with closed := dropDelivered delivered s.ldg.closed } }

/-- A new key epoch of the active is seen in its frame: the standby's open batch ended with the last distribution, under the old epoch, and its
batch numbers restart (R324, R375). -/
def State.ldgPeerEpoch (s : State) (epoch : Nat) : State :=
  if s.twn.peer = [] ∨ ¬ s.ldgRuns ∨ s.receiptEpoch = epoch then s
  else
    let s := if s.ldg.bFirst.isSome then s.closeBatch false else s
    { s with ldg := { s.ldg with batch := 0 } }

end Sys2Proof.Machine
end

