-- ==== Sys2Proof/Machine/Power.lean ====
section
/-! DEFINITION. The module's own power, heat and ageing (chapter 13). -/

namespace Sys2Proof.Machine

open Sys2Proof.Bits

/-- K in units of 1/10,000 (R282), and a calibrated estimate in mW. -/
def State.calK (s : State) : Nat := s.f Reg.MPW_CALK_K
def State.cal (s : State) (mw : Nat) : Nat := mw * s.calK / 10000

/-- FEED_CAP_W bounds the cap while FEED_LOW is 1 (R288). -/
def State.feedCap (s : State) : Option Nat :=
  if s.b Reg.MPW_STATUS_FEED_LOW then some (s.f Reg.MPW_FEED_FEED_CAP_W) else none

/-- The effective cap in W (R283). -/
def State.capEff (s : State) : Nat :=
  let c := min (s.lf Reg.MPW_CAP_CAP_W) s.mpw.thermal
  match s.feedCap with
  | some f => min c f
  | none => c

/-- The compute allowance (R283): the domains in the order of their ranks, before and after COMPUTE. -/
def allowOf (order : List Nat) (est rsv : Nat → Int) (a : Int) (after : Bool) : Int :=
  match order with
  | [] => a
  | d :: r =>
    if d = 2 then allowOf r est rsv a true
    else allowOf r est rsv (a - if after then est d else max (est d) (rsv d)) after

/-- One class's grant (R283): the new duty, what it wants, and the allowance left. -/
def grantOf (allow est prev : Int) : Int × Int × Int :=
  let demand := (est * 16).tdiv prev
  let grant := min demand (max allow 0)
  let want := if 0 < demand then (16 * grant).tdiv demand else 16
  let want := min (max want 1) 16
  let duty := if want < prev then want else min want (prev + 2)
  (duty, want, allow - (demand * duty).tdiv 16)

/-- DUTY of a class in force, 1 to 16 (Table 13-2). -/
def State.dutyOf (s : State) (F : Fld) : Nat := if s.f F = 0 then 16 else s.f F

/-- BIND (R289) for a limiter state and an effective cap. -/
def State.bindOf (s : State) (st cap : Nat) : Nat :=
  if st = 0 then 0
  else ofBool (decide (s.lf Reg.MPW_CAP_CAP_W = cap)) + 2 * ofBool (decide (s.mpw.thermal = cap))
    + 4 * ofBool (decide (s.feedCap = some cap)) + 8 * ofBool (decide (st = 2))

/-- The limiter's next state (Table 13-1); full is the run of steps at full issue, wants whether some class wants less. -/
def limiterNext (st : Nat) (wants : Bool) (full : Nat) (floor beyond : Bool) : Nat :=
  if st = 0 then (if wants then 1 else 0)
  else if st = 1 then (if floor && beyond then 2 else if full ≥ 10 then 0 else 1)
  else if beyond then 2 else 1

/-! ### Estimates and energy (R281, R290) -/

/-- Energy in pJ of the MAC issues that a cluster counts for a class, weighted by format. -/
def Cluster.macPj (v : Cluster) (cls : Nat) : Nat :=
  ((List.range 3).map fun f => v.issues.get (4 * f + cls) 0 * Config.macPj f).sum

/-- A partition's estimate of a class in mW over a step of 10 µs: its MAC issues, and the class's share of its static power. -/
def State.classMw (s : State) (p cls : Nat) : Nat :=
  ((List.range 20).map fun k => (s.cl (20 * p + k)).macPj cls).sum / 10000 + Config.staticMw p cls

/-- The uncalibrated estimate of a class. -/
def State.estClass (s : State) (cls : Nat) : Nat := ((List.range 32).map fun p => s.classMw p cls).sum

/-- The uncalibrated COMPUTE estimate of a partition. -/
def State.estPart (s : State) (p : Nat) : Nat := ((List.range 4).map fun c => s.classMw p c).sum

/-- A counter in µJ takes the energy of a step of mw milliwatts, in units of 10 nJ, with a remainder carried. -/
def State.energy (s : State) (off mw rem_ : Nat) : State × Nat :=
  (s.bump64 off ((rem_ + mw) / 100), (rem_ + mw) % 100)

/-- MPW_E_PART takes a partition's calibrated COMPUTE estimate and its share of MEM. -/
def State.partEnergy (s : State) (e : PowerEst) (p : Nat) : State :=
  let r := s.energy (Reg.MPW_E_PART p) (s.cal (s.estPart p) + s.cal (e.memParts.getD p 0)) (s.mpw.ePart.get p 0)
  { r.1 with mpw := { r.1.mpw with ePart := r.1.mpw.ePart.put p r.2 0 } }

/-- MPW_E_QUEUE takes a queue's part of the host interface's energy, by the bytes moved for it since the last step. -/
def State.queueEnergy (s : State) (e : PowerEst) (all q : Nat) : State :=
  let r := s.energy (Reg.MPW_E_QUEUE q) (s.cal e.host * s.hif.moved.get q 0 / max 1 all) (s.mpw.eQueue.get q 0)
  { r.1 with mpw := { r.1.mpw with eQueue := r.1.mpw.eQueue.put q r.2 0 } }

/-- The energy counters of a step (R290), and the activity counters start again. -/
def State.stepEnergy (s : State) (e : PowerEst) : State :=
  let r := s.energy Reg.MPW_E_IN s.mpw.pin s.mpw.eRem
  let s : State := { r.1 with mpw := { r.1.mpw with eRem := r.2 } }
  let s := (List.range 32).foldl (fun s p => s.partEnergy e p) s
  let all := (s.hif.moved.map fun (x : Nat × Nat) => x.2).sum
  let s := (List.range 64).foldl (fun s q => s.queueEnergy e all q) s
  let s := (List.range 640).foldl (fun s c => if (s.cl c).issues = [] then s else s.setCl c { s.cl c with issues := [] }) s
  { s with hif := { s.hif with moved := [] } }

/-- The thermal reason starts or stops binding (R286): event 0x0B02. -/
def State.thermalBind (s : State) : State :=
  let binds := decide (s.mpw.thermal < s.lf Reg.MPW_CAP_CAP_W)
  let sensor := 65536 * s.f Reg.MPW_TJ_SENSOR
  match s.mpw.thermAt, binds with
  | none, true => ({ s with mpw := { s.mpw with thermAt := some s.beatN } }).ev 0x0B02 (1 + sensor) (s.f Reg.MPW_TJ_TJ_MAX)
  | some b, false => ({ s with mpw := { s.mpw with thermAt := none } }).ev 0x0B02 sensor (s.beatN - b)
  | _, _ => s

/-- The live periods of programs of a class whose DUTY is below 16 at a control step do not count towards the watch of R353. -/
def State.exemptLow (s : State) (c1 c2 c3 : Bool) : State :=
  (s.parts.within 0 32).foldl (fun s e => match e.2.man with
    | none => s
    | some m => m.progs.foldl (fun s d =>
        let pr := s.prog e.1 d.prog
        if pr.start.isSome ∧ ((d.cls = 1 ∧ c1) ∨ (d.cls = 2 ∧ c2) ∨ (d.cls = 3 ∧ c3)) then s.setProg e.1 d.prog { pr with exempt := true }
        else s) s) s

/-- CONTROL_STEP (R283, R285, R290): at a boundary divisible by 10, once. -/
def State.controlStep (s : State) (e : PowerEst) : State :=
  let s := (s.stage 0xC00000 0xC00100).thermalBind
  let cls0 := s.estClass 0
  let cls1 := s.estClass 1
  let cls2 := s.estClass 2
  let cls3 := s.estClass 3
  let cap := s.capEff
  let c (x : Nat) : Int := s.cal x
  let est (d : Nat) : Int := if d = 0 then c e.link else c e.mem
  let rsv (d : Nat) : Int := 1000 * (if d = 0 then s.f Reg.MPW_RSV_LINK_RSV_W else s.f Reg.MPW_RSV_MEM_RSV_W)
  let o := s.f Reg.MPW_ORDER_ORDER
  let allow := allowOf [o % 4, o / 4 % 4, o / 16] est rsv ((cap : Int) * 1000 - c e.fixed) false - c cls0
  let p1 := s.dutyOf Reg.MPW_ALLOW_DUTY1
  let p2 := s.dutyOf Reg.MPW_ALLOW_DUTY2
  let p3 := s.dutyOf Reg.MPW_ALLOW_DUTY3
  let g1 := grantOf allow (c cls1) p1
  let g2 := grantOf g1.2.2 (c cls2) p2
  let g3 := grantOf g2.2.2 (c cls3) p3
  let raw := e.link + e.mem + e.fixed + cls0 + cls1 + cls2 + cls3
  let total := s.cal e.link + s.cal e.mem + s.cal e.fixed + s.cal cls0 + s.cal cls1 + s.cal cls2 + s.cal cls3
  let beyond := decide (cap * 1000 < total)
  let wants := decide (g1.2.1 < 16 ∨ g2.2.1 < 16 ∨ g3.2.1 < 16)
  let full := if !wants && decide (g1.1 = 16 ∧ g2.1 = 16 ∧ g3.1 = 16) then s.mpw.fullRun + 1 else 0
  let st := s.f Reg.MPW_STATUS_LSTATE
  let st' := limiterNext st wants full (decide (p1 = 1 ∧ p2 = 1 ∧ p3 = 1)) beyond
  let bind := s.bindOf st' cap
  let s := (s.setF Reg.MPW_STATUS_LSTATE st').setF Reg.MPW_STATUS_BIND bind
  let s := if st = st' then s
    else
      let s := s.ev 0x0B01 (st + 4 * st' + 16 * bind) cap
      if st' = 2 ∨ st = 2 then s.ev 0x0B03 (ofBool (decide (st' = 2))) (uint 32 (((total : Int) - cap * 1000).tdiv 1000)) else s
  let s := (s.setF Reg.MPW_PWR_P_EST_W (min 1023 (total / 1000))).setF Reg.MPW_PWR_P_IN_W (min 1023 (s.mpw.pin / 1000))
  let low (duty : Int) (granted : Int) : Bool := decide (duty < 16 ∨ granted < 16)
  let s := s.exemptLow (low p1 g1.1) (low p2 g2.1) (low p3 g3.1)
  let s := s.stepEnergy e
  let m := s.mpw
  { s with mpw := { m with next := some (cap, g1.1.toNat, g2.1.toNat, g3.1.toNat), fullRun := full
                           stepAt := some s.beatN, sumIn := m.sumIn + m.pin, sumEst := m.sumEst + raw } }

/-- CONTROL_STEP (R283). -/
def execControlStep (est : PowerEst) (s : State) : Res :=
  .next (if s.beatN % 10 = 0 ∧ s.mpw.stepAt ≠ some s.beatN then s.controlStep est else s)

/-- CALIBRATION_UPDATE (R282): at a multiple of 1,000 beats, once. -/
def State.calibrate (s : State) : State :=
  let m := s.mpw
  let k := m.sumIn * 10000 / max 1 m.sumEst
  let outside := decide (k < 8500 ∨ 11500 < k)
  let outRun := if outside then m.outRun + 1 else 0
  let inRun := if outside then 0 else m.inRun + 1
  let hold := s.b Reg.MPW_STATUS_CAL_HOLD
  let s := { s with mpw := { m with sumIn := 0, sumEst := 0, outRun := outRun, inRun := inRun, calAt := some s.beatN } }
  if m.sumEst = 0 then s
  else if hold then
    if inRun ≥ 10 then (s.setF Reg.MPW_STATUS_CAL_HOLD 0).ev 0x0B04 0 k else s
  else if outRun ≥ 10 then ((s.setF Reg.MPW_STATUS_CAL_HOLD 1).setF Reg.MPW_CALK_K 11500).ev 0x0B04 1 k
  else s.setF Reg.MPW_CALK_K (((s.calK : Int) + ((k : Int) - s.calK).tdiv 16).toNat)

/-- CALIBRATION_UPDATE (R282). -/
def execCalibrationUpdate (s : State) : Res :=
  .next (if s.beatN % 1000 = 0 ∧ s.mpw.calAt ≠ some s.beatN then s.calibrate else s)

/-- THERMAL_STEP (R286): at a multiple of 1,000 beats, once. -/
def State.thermalStep (s : State) : State :=
  let tj := s.f Reg.MPW_TJ_TJ_MAX
  let cap := s.lf Reg.MPW_CAP_CAP_W
  let step := s.lf Reg.MPW_THERM_STEP_W
  let thr := 10 * s.f Reg.MPW_THERM_T_THR
  let old := s.mpw.thermal
  let new := if thr ≤ tj then old - step
    else if tj + 10 * s.f Reg.MPW_THERM_HYST < thr then max old (min cap (old + step)) else old
  ({ s with mpw := { s.mpw with thermal := new, heatAt := some s.beatN } }).thermalBind

/-- THERMAL_STEP (R286). -/
def execThermalStep (s : State) : Res :=
  .next (if s.beatN % 1000 = 0 ∧ s.mpw.heatAt ≠ some s.beatN then s.thermalStep else s)

/-- FEED_LOW_SET (R288). -/
def execFeedLowSet (s : State) : Res :=
  .next (if ¬ s.b Reg.MPW_STATUS_FEED_LOW ∧ 10 ≤ s.mpw.lowRun then
    (s.setF Reg.MPW_STATUS_FEED_LOW 1).ev 0x0B07 1 s.mpw.feedDv else s)

/-- FEED_LOW_CLEAR (R288). -/
def execFeedLowClear (s : State) : Res :=
  .next (if s.b Reg.MPW_STATUS_FEED_LOW ∧ 1000 ≤ s.mpw.highRun then
    (s.setF Reg.MPW_STATUS_FEED_LOW 0).ev 0x0B07 0 s.mpw.feedDv else s)

/-- The slots of the voltage offsets take what the registers hold, in the one not in force (R292, R250). -/
def State.saveOffsets (s : State) : State :=
  let offs := (List.range 34).foldl (fun (t : Tab Nat) d => t.put d (s.f (Reg.MPW_VOLT_OFFSET_MV d)) 0) []
  let a := s.mpw.slotA
  let b := s.mpw.slotB
  if b.1 < a.1 then { s with mpw := { s.mpw with slotB := (a.1 + 1, offs) } }
  else { s with mpw := { s.mpw with slotA := (b.1 + 1, offs) } }

/-- AGEING_CHECK (R292): every 60 s, a domain whose least slack is below its fused floor rises by 5 mV, up to the ceiling and to
what OFFSET_MV holds (DESIGN CHOICE, log entry 52). -/
def execAgeingCheck (d : Fin 34) (slack : Int) (s : State) : Res :=
  let k := d.val
  .next (if s.mpw.aged.get k 0 + 60000000 ≤ s.beatN then
    let s := { s with mpw := { s.mpw with aged := s.mpw.aged.put k s.beatN 0 } }
    let v := s.f (Reg.MPW_VOLT_FUSE_MV k) + s.f (Reg.MPW_VOLT_OFFSET_MV k)
    if Config.marginFloor k ≤ slack then s
    else if v + 5 ≤ 500 + s.f (Reg.MPW_VOLT_CEIL_MV k) ∧ s.f (Reg.MPW_VOLT_OFFSET_MV k) ≤ 250 then
      let o := s.f (Reg.MPW_VOLT_OFFSET_MV k) + 5
      (s.setF (Reg.MPW_VOLT_OFFSET_MV k) o).saveOffsets.ev 0x0B05 k o
    else (s.setF Reg.MPW_STATUS_AGE_LIMIT 1).ev 0x0B06 k v
  else s)

/-- The sensors at 115 °C or more, by bit (R287). -/
def hotMask (tj : List Nat) : Nat := (tj.zipIdx.map fun (e : Nat × Nat) => if 1150 ≤ e.1 then 2 ^ e.2 else 0).sum

/-- The highest of the readings and its sensor, the lowest of those that tie, among the sensors of a mask (R286). -/
def highest (tj : List Nat) (mask : Nat) : Nat × Nat :=
  tj.zipIdx.foldl (fun (m : Nat × Nat) (e : Nat × Nat) => if bit mask e.2 ∧ m.2 < e.1 then (e.2, e.1) else m) (0, 0)

/-- The junction is sampled (R286, R287): TJ_MAX, and a trip where one sensor is hot on two beats in a row. -/
def State.junction (s : State) (tj : List Nat) : State :=
  let hot := hotMask tj
  let both := hot &&& s.mpw.hot
  let m := highest tj (2 ^ 40 - 1)
  let s : State := { s with mpw := { s.mpw with hot := hot, trip := if both = 0 then none else some (highest tj both) } }
  (s.setF Reg.MPW_TJ_TJ_MAX m.2).setF Reg.MPW_TJ_SENSOR m.1

/-- The MPW block at a boundary: the last control step's results come into force (R283), the binding reasons count (R289),
and the junction is sampled (R286, R287). -/
def State.powerBoundary (s : State) (tj : List Nat) : State :=
  let s : State := match s.mpw.next with
    | some (cap, a, b, c) =>
      let s := { s with mpw := { s.mpw with next := none } }
      (((s.setF Reg.MPW_ALLOW_CAP_EFF_W cap).setF Reg.MPW_ALLOW_DUTY1 a).setF Reg.MPW_ALLOW_DUTY2 b).setF Reg.MPW_ALLOW_DUTY3 c
    | none => s
  let s := (List.range 4).foldl (fun s r => if bit (s.f Reg.MPW_STATUS_BIND) r then s.bump64 (Reg.MPW_THR_US r) 1 else s) s
  s.junction tj

end Sys2Proof.Machine
end

