-- ==== Sys2Proof/Machine/Log.lean ====
section
/-! DEFINITION. Collections and the event log (chapter 19). -/

namespace Sys2Proof.Machine

open Sys2Proof.Bits

/-! ### Event records (R397 to R402) -/

/-- Severities (Table 19-7). -/
def critical : List Nat := [0x0102, 0x0204, 0x0601, 0x0802, 0x0A05, 0x0A0B, 0x0B09, 0x0D01, 0x0D09, 0x0F07]
def errors : List Nat := [0x0103, 0x0104, 0x0107, 0x0207, 0x0302, 0x0406, 0x040A, 0x040B, 0x0507, 0x0702, 0x0706, 0x0902, 0x0903,
  0x0906, 0x0A07, 0x0B06, 0x0C06, 0x0E05, 0x0F02, 0x0F03, 0x0F06, 0x1002, 0x1004, 0x1101, 0x1103]
def warnings : List Nat := [0x0101, 0x0106, 0x0201, 0x0202, 0x0203, 0x0205, 0x0206, 0x0303, 0x0306, 0x0307, 0x0402, 0x0403, 0x0404,
  0x0405, 0x0407, 0x0409, 0x040E, 0x0502, 0x0505, 0x0508, 0x0603, 0x0604, 0x0605, 0x0703, 0x0708, 0x070A, 0x0803, 0x0805, 0x0806,
  0x0809, 0x0904, 0x0A02, 0x0A03, 0x0A04, 0x0A06, 0x0A0A, 0x0B02, 0x0B03, 0x0B04, 0x0B07, 0x0C02, 0x0C03, 0x0C04, 0x0D04, 0x0D08,
  0x0E02, 0x0E06, 0x0E07, 0x1005, 0x1006]
def notices : List Nat := [0x0208, 0x0305, 0x040D, 0x0506, 0x0709, 0x0808, 0x0907, 0x0A09, 0x0B08, 0x0C05, 0x0C09, 0x0C0A, 0x0D0A,
  0x0E08, 0x0F01, 0x0F08, 0x1009, 0x1102, 0x1104]

/-- The severity of a code (R398). -/
def severity (code : Nat) : Nat :=
  if critical.contains code then 5 else if errors.contains code then 4 else if warnings.contains code then 3
  else if notices.contains code then 2 else 1

/-- SEV of an event written now: bit 3 in HOLDUP, and for an event that the record closing of HOLDUP takes in (R432). -/
def State.sevOf (s : State) (e : Ev) : Nat := severity e.code + 8 * ofBool (e.hold || decide (s.mstate = 6))

/-- An event is identical to a record (R400). -/
def EvRec.same (r : EvRec) (sev : Nat) (e : Ev) : Bool :=
  decide (r.mark = 0xA5 ∧ r.code = e.code ∧ r.sev = sev ∧ r.src = e.src ∧ r.p0 = e.p0 ∧ r.rep < 65535)

/-- TAIL (R399). -/
def State.tail (s : State) : Nat := s.f Reg.EVL_TAIL_TAIL

/-- The log's last record. -/
def State.lastRec (s : State) : EvRec := if s.tail = 0 then {} else s.evl.recs.get (s.tail - 1) {}

/-- An event is written (R399, R400, R402): as a repeat of the last record, as a new record, or counted at a full log. -/
def State.logWrite (s : State) (e : Ev) : State :=
  let t := s.tail
  let sev := s.sevOf e
  let last := s.lastRec
  if last.same sev e then
    ({ s with evl := { s.evl with recs := s.evl.recs.put (t - 1) { last with rep := last.rep + 1 } {} } }).bump Reg.EVL_REPEAT_CNT
  else if t ≥ 131072 then s.bump Reg.EVL_DROP_CNT
  else
    let r : EvRec := { code := e.code, sev := sev, mark := 0xA5, rep := 0, src := e.src
                       ops := s.f Reg.EVL_OPS_OP_SECONDS, pons := s.f Reg.EVL_PWR_POWER_ONS
                       p0 := e.p0, p1 := e.p1, p2 := e.p2, p3 := e.p3 }
    let s : State := { s with evl := { s.evl with recs := s.evl.recs.put t r {} } }
    let s := (s.setF Reg.EVL_TAIL_TAIL (t + 1)).bump Reg.EVL_APPEND_CNT
    let s := if t + 1 = 131072 then s.setF Reg.EVL_STATUS_FULL 1 else s
    if s.b Reg.HIF_EVT_CTL_EN && decide (s.f Reg.HIF_EVT_CTL_MIN_SEV ≤ severity e.code) then s.vector (s.f Reg.HIF_EVT_CTL_VECTOR)
    else s

/-- Event 0x1103 for a run of events that were dropped or went unrecorded. -/
def State.dropEv (s : State) (run : Nat × Nat) : Ev :=
  { code := 0x1103, src := 0xFFF, p0 := BitVec.ofNat 32 run.1, p1 := BitVec.ofNat 32 run.2
    p2 := BitVec.ofNat 32 s.beatLo, p3 := BitVec.ofNat 32 s.beatHi }

/-- The event that is accepted first (R401): of those raised on the cycle of the queue's front, one behind the other, the first of the
block with the lowest codes. -/
def firstEv : List Ev → Option (Ev × List Ev)
  | [] => none
  | e :: r =>
    match e.cycle, firstEv r with
    | some c, some (f, r') => if f.cycle = some c ∧ f.code / 256 < e.code / 256 then some (f, e :: r') else some (e, r)
    | _, _ => some (e, r)

/-- The first event of the queue is written; a run of drops is then queued as one event 0x1103 (R401). -/
def State.logNext (s : State) : State :=
  match firstEv s.evl.queue with
  | none => s
  | some (e, r) =>
    let s := ({ s with evl := { s.evl with queue := r } }).logWrite e
    if s.evl.dropped.1 = 0 then s
    else { s with evl := { s.evl with queue := s.evl.queue ++ [s.dropEv s.evl.dropped], dropped := (0, 0) } }

/-- EVENT_RECORD_WRITE (R399): queued events wait while the log is being cleared (R403). -/
def execEventRecordWrite (s : State) : Res := .next (if s.b Reg.EVL_STATUS_CLEARING then s else s.logNext)

/-- n events of the queue are written. -/
def State.logFlush (s : State) : Nat → State
  | 0 => s
  | n + 1 => State.logFlush s.logNext n

/-- The record closing ends (R432): what is queued is written, and the log is closed. -/
def State.logClose (s : State) : State :=
  let s := s.logFlush 258
  { s with evl := { s.evl with closed := true, queue := [] } }

/-- The log reopens (R432), with event 0x1103 for what went unrecorded. -/
def State.logOpen (s : State) : State :=
  if ¬ s.evl.closed then s
  else
    let q := if s.evl.missed.1 = 0 then s.evl.queue else s.evl.queue ++ [s.dropEv s.evl.missed]
    { s with evl := { s.evl with closed := false, queue := q, missed := (0, 0) } }

/-! ### Clearing (R403) -/

/-- The key that clears the log. -/
def clearKey : Nat := 0xE71C0350

/-- A write of EVL_CTL. -/
def State.logClear (s : State) (path : Path) (v : Nat) : State :=
  if v = clearKey ∧ ¬ s.b Reg.EVL_STATUS_CLEARING then
    let s : State := { s with evl := { s.evl with before := (s.tail, (s.rd Reg.EVL_DROP_CNT).toNat) } }
    s.setF Reg.EVL_STATUS_CLEARING 1
  else s.ev 0x1104 0x1300008 v 0xFFF (pathCode path)

/-- LOG_CLEAR_DONE (R403): the log is empty and event 0x1102 is record 0; a log that HOLDUP has closed takes no record (R432). -/
def execLogClearDone (s : State) : Res :=
  .next (if s.b Reg.EVL_STATUS_CLEARING then
    let b := s.evl.before
    let s := ((s.setF Reg.EVL_TAIL_TAIL 0).setF Reg.EVL_STATUS_FULL 0).setF Reg.EVL_STATUS_CLEARING 0
    let s := s.setF Reg.EVL_STATUS_CLEARS ((s.f Reg.EVL_STATUS_CLEARS + 1) % 65536)
    let s : State := { s with evl := { s.evl with recs := [] } }
    if s.evl.closed then s.ev 0x1102 b.1 b.2
    else s.logWrite
      { code := 0x1102, src := 0xFFF, p0 := BitVec.ofNat 32 b.1, p1 := BitVec.ofNat 32 b.2
        p2 := BitVec.ofNat 32 s.beatLo, p3 := BitVec.ofNat 32 s.beatHi }
  else s)

/-! ### Reading records (R404) -/

/-- The bytes of a record (Table 19-6). -/
def EvRec.bytes (r : EvRec) : Bytes :=
  toLe 2 r.code ++ [BitVec.ofNat 8 r.sev, BitVec.ofNat 8 r.mark] ++ toLe 2 r.rep ++ toLe 2 r.src ++ toLe 4 r.ops ++ toLe 3 r.pons ++ [0]
    ++ toLe 4 r.p0.toNat ++ toLe 4 r.p1.toNat ++ toLe 4 r.p2.toNat ++ toLe 4 r.p3.toNat

/-- A word of the record window at BAR0 0x138_0000. While the log is being cleared the marks are erased downwards at a rate that the
spec does not give: each reads as it was or 0x00, by a free value (R403). -/
def State.recWord (s : State) (off : Nat) : Word :=
  let i := 16384 * s.f Reg.EVL_PAGE_PAGE + (off - 0x1380000) / 32
  let w := BitVec.ofNat 32 (le (s.evl.recs.get i {}).bytes (off % 32) 4)
  if s.tail ≤ i then 0
  else if s.b Reg.EVL_STATUS_CLEARING ∧ off % 32 = 0 ∧ s.freeWord.toNat % 2 = 1 then w &&& 0x00FFFFFF#32
  else w

/-! ### Collections (R390 to R396) -/

/-- A circular takes its place in the order of effect beats, after those of its own (R57). -/
def insertCirc (c : Circ) : List Circ → List Circ
  | [] => [c]
  | d :: r => if c.effect < d.effect then c :: d :: r else d :: insertCirc c r

/-- A circular is issued (R57): a GATED cluster whose landing overlaps an armed slot starts its wake. -/
def State.issueCirc (s : State) (c : Circ) : State :=
  let hit (e : Nat × Cell) : Bool :=
    decide (fld e.2.circLand 15 1 = 1) && e.2.watches (fld e.2.circLand 0 11) 16
  let s := (s.cells.within 0 327680).foldl (fun s e => if hit e then s.startWake (clusterOf e.1) else s) s
  { s with circs := insertCirc c s.circs }

/-- A collection is issued with effect beat e (R390). -/
def State.issueColl (s : State) (e : Nat) : State :=
  let n := s.cnt.next
  let s : State := { s with cnt := { s.cnt with next := (n + 1) % 4294967296, cur := some (n, e, false) } }
  (s.setF Reg.CNT_STATUS_BUSY 1).issueCirc { type := 1, src := 0x8000, effect := e, param := n }

/-- A collection falls due (R394): issued, or left pending while one is in progress. -/
def State.collDue (s : State) (e : Nat) : State :=
  if s.cnt.cur.isSome then s.setF Reg.CNT_STATUS_PENDING 1 else s.issueColl e

/-- COLLECTION_DUE (R394): 2 beats before each multiple of PERIOD_MS, once. -/
def execCollectionDue (s : State) : Res :=
  let e := s.beatN + 2
  .next (if s.released ∧ s.lf Reg.CNT_CFG_PERIOD_MS ≠ 0 ∧ e % (s.lf Reg.CNT_CFG_PERIOD_MS * 1000) = 0 ∧ s.cnt.dueAt ≠ some e then
    ({ s with cnt := { s.cnt with dueAt := some e } }).collDue e
  else s)

/-- A request for a collection, with the word written (R394): ignored before the clocks step completes and in HOLDUP. -/
def State.collRequest (s : State) (path : Path) (v : Nat) : State :=
  if ¬ s.released ∨ s.mstate = 6 then s.ev 0x1104 0x1200000 v 0xFFF (pathCode path) else s.collDue (s.beatN + 2)

/-- The counters included in collections: block window, CBASE, and (block offset, words) (Table 19-2). -/
def sections : List (Nat × Nat × List (Nat × Nat)) := [
  (0x02, 0x20, [(0x20, 4)]), (0x03, 0x400, [(0x400, 8)]), (0x04, 0x800, [(0x800, 66)]), (0x05, 0x100, [(0x100, 9)]),
  (0x06, 0x100, [(0x100, 7), (0x200, 16)]), (0x07, 0x2000, [(0x2000, 6)]), (0x08, 0x400, [(0x400, 96), (0x600, 24), (0x700, 9)]),
  (0x09, 0x800, [(0x800, 8)]), (0x0A, 0x400, [(0x400, 5)]), (0x0B, 0x200, [(0x200, 14), (0x400, 14)]),
  (0x0C, 0x400, [(0x400, 8), (0x480, 2), (0x800, 64), (0xA00, 128)]), (0x0D, 0x6000, [(0x6000, 5)]), (0x0E, 0x100, [(0x100, 4)]),
  (0x0F, 0x100, [(0x100, 3)]), (0x10, 0x800, [(0x800, 6)]), (0x11, 0x100, [(0x100, 8)]), (0x12, 0x100, [(0x100, 2)]),
  (0x13, 0x100, [(0x100, 4)])]

/-- Registers that are not 0, of a list of registers. -/
def nonzero (l : List (Nat × Word)) : List (Nat × Word) := l.filter fun (e : Nat × Word) => decide (e.2 ≠ 0)

/-- The base of a bank. -/
def bankBase (n : Nat) : Nat := 0x1240000 + 0x40000 * (n % 2)

/-- A section's place in the bank of collection n. -/
def sectionAt (n w : Nat) : Nat := bankBase n + 0x1000 + 0x1000 * w

/-- A section's counters, and its stamp. -/
def State.sectionWords (s : State) (n : Nat) (c : Nat × Nat × List (Nat × Nat)) : List (Nat × Word) :=
  (c.2.2.flatMap fun (r : Nat × Nat) => (List.range r.2).map fun i =>
    (sectionAt n c.1 + (r.1 + 4 * i - c.2.1), s.rd (0x100000 * c.1 + r.1 + 4 * i))) ++ [(sectionAt n c.1 + 0xFFC, BitVec.ofNat 32 n)]

/-- A cluster's record (Table 19-3). -/
def State.clusterRecord (s : State) (n k : Nat) : List (Nat × Word) :=
  let v := s.cl k
  let w (i x : Nat) : Nat × Word := (bankBase n + 0x20000 + 64 * k + 4 * i, BitVec.ofNat 32 x)
  let d (i x : Nat) : List (Nat × Word) := [w i x, w (i + 1) (x / 4294967296)]
  [w 0 n, w 1 (s.cstate k + 4 * s.f (Reg.FAB_CLUSTER_STATE_PINNED k))] ++ d 2 v.instr ++ d 4 v.mac ++ d 6 v.hold
    ++ [w 8 v.sent, w 9 v.applied, w 10 (min (s.gatedUs k) 4294967295), w 11 v.wakes, w 12 v.ecc]

/-- The counters as they stand at the end of the beat before a collection's effect beat are latched for it (R391). -/
def State.snapshot (s : State) : State :=
  match s.cnt.cur with
  | some (n, e, false) =>
    if e = s.beatN + 1 then
      let words := nonzero (sections.flatMap (s.sectionWords n)) ++ nonzero ((List.range 640).flatMap (s.clusterRecord n))
      { s with cnt := { s.cnt with snap := words } }
    else s
  | _ => s

/-- The section of a bank, of collection n, in which an offset lies. -/
def sectionOf (n off : Nat) : Option (Nat × Nat × List (Nat × Nat)) :=
  sections.find? fun (c : Nat × Nat × List (Nat × Nat)) =>
    decide (off = sectionAt n c.1 + 0xFFC) || c.2.2.any fun (r : Nat × Nat) =>
      decide (sectionAt n c.1 + (r.1 - c.2.1) ≤ off ∧ off < sectionAt n c.1 + (r.1 - c.2.1) + 4 * r.2)

/-- A word of the bank that is being written (R392): a stamp reads n, n − 1 or what it was, a counter anything between old and new, by
a free value; the header is written at the completion. -/
def State.bankWord (s : State) (off : Nat) : Option Word :=
  match s.cnt.cur with
  | some (n, _, true) =>
    let b := bankBase n
    let o := off - b
    if off < b ∨ b + 0x40000 ≤ off then none
    else if (sectionOf n off).isSome ∨ 0x20000 ≤ o ∧ o < 0x2A000 then
      if (o < 0x20000 ∧ o % 0x1000 = 0xFFC) ∨ (0x20000 ≤ o ∧ o % 64 = 0) then
        (match s.freeWord.toNat % 3 with
         | 0 => some (BitVec.ofNat 32 n)
         | 1 => some (BitVec.ofNat 32 (n + 4294967295))
         | _ => none)
      else if 0x20000 ≤ o ∧ 52 ≤ o % 64 then none
      else some s.freeWord
    else none
  | _ => none

/-- What was latched is in the bank at the completion (R392), each section and record stamped n. -/
def State.fillBank (s : State) (n : Nat) : State :=
  let b := bankBase n
  let t : State := { s with regs := Tab.outside s.regs b (b + 0x40000), cnt := { s.cnt with snap := [] } }
  s.cnt.snap.foldl (fun (s : State) (e : Nat × Word) => s.wr e.1 e.2) t

/-- What a late section holds (R393): its stamp stays n − 1, and how far it had copied is not stated: free values. -/
def State.lateSection (s : State) (n : Nat) (c : Nat × Nat × List (Nat × Nat)) : State :=
  let s := c.2.2.foldl (fun s (r : Nat × Nat) => (List.range r.2).foldl (fun s i =>
    (s.wr (sectionAt n c.1 + (r.1 + 4 * i - c.2.1)) s.freeWord).useFree) s) s
  s.wr (sectionAt n c.1 + 0xFFC) (BitVec.ofNat 32 (n + 4294967295))

/-- A late cluster record (R393): its stamp stays n − 1, and how far it had copied is free. -/
def State.lateCluster (s : State) (n k : Nat) : State :=
  let at_ := bankBase n + 0x20000 + 64 * k
  let s := (List.range 12).foldl (fun s i => (s.wr (at_ + 4 + 4 * i) s.freeWord).useFree) s
  s.wr at_ (BitVec.ofNat 32 (n + 4294967295))

/-- Which clusters are late is not stated by LATE: one at least, and of the others each by a free value. -/
def State.lateClusters (s : State) (n : Nat) : State :=
  let sure := s.freeWord.toNat % 640
  (List.range 640).foldl (fun s k =>
    let late := decide (k = sure) || decide (s.freeWord.toNat % 2 = 1)
    if late then s.useFree.lateCluster n k else s.useFree) s.useFree

/-- The bits of LATE: the block windows of Table 19-2, and bit 31. -/
def lateMask : Nat := 0x800FFFFC

/-- COLLECTION_COMPLETE (R393): with no late unit from E to E + 4, or with late units from E + 4 on. -/
def State.collComplete (s : State) (late : Nat) : State :=
  match s.cnt.cur with
  | some (n, e, true) =>
    if (late ≠ 0 ∧ s.beatN < e + 4) ∨ (late = 0 ∧ e + 4 < s.beatN) then s
    else
      let s := s.fillBank n
      let s := sections.foldl (fun s (c : Nat × Nat × List (Nat × Nat)) => if bit late c.1 then s.lateSection n c else s) s
      let s := if bit late 31 then s.lateClusters n else s
      let b := bankBase n
      let s := ((s.wr b (BitVec.ofNat 32 n)).wr64 (b + 8) e).wr (b + 16) (BitVec.ofNat 32 late)
      let s := ((s.setF Reg.CNT_DONE_NUM n).wr64 0x1200010 e).setF Reg.CNT_LATE_LATE late
      let s := ((s.setF Reg.CNT_STATUS_VALID 1).setF Reg.CNT_STATUS_BUSY 0).setF Reg.CNT_STATUS_LATE (ofBool (decide (late ≠ 0)))
      let s := s.bump 0x1200100
      let s := if late = 0 then s else (s.bump 0x1200104).ev 0x1101 n late
      let s : State := { s with cnt := { s.cnt with cur := none } }
      if s.b Reg.CNT_STATUS_PENDING then (s.setF Reg.CNT_STATUS_PENDING 0).issueColl (s.beatN + 2) else s
  | _ => s

/-- COLLECTION_COMPLETE (R393). -/
def execCollectionComplete (late : Word) (s : State) : Res := .next (s.collComplete (late.toNat &&& lateMask))

end Sys2Proof.Machine
end

