-- ==== Sys2Proof/Machine/Module.lean ====
section
/-! DEFINITION. Module states, whole-chip reset, hold-up and power (chapter 1, R387, R411, R421). -/

namespace Sys2Proof.Machine

open Sys2Proof.Bits

/-! ### Changes of the module state (R30) -/

/-- The heartbeat monitor runs in IN_SERVICE, STANDBY and SAFE_STOP; its timer starts at entry to the first of them (R308). -/
def watched (m : Nat) : Bool := decide (3 ≤ m ∧ m ≤ 5)

/-- ACTIVE is 0 in the frames composed from now on (R434). -/
def State.notActive (s : State) : State := { s with twn := { s.twn with act := false, flip := none } }

/-- The state changes, with what follows it: grid control (Table 6-5), board modes and AUTO_EXIT (R203, R204), throttle lines
(R168), the ledger (R258) and the heartbeat monitor (R308). -/
def State.enter (s : State) (m cause : Nat) : State :=
  let s0 := s
  let old := s.mstate
  let s := s.toMstate m cause
  let s := if m = 5 then (if s.gstate = 0 then s else s.toGrd 6 0)
    else if m = 3 then (if old = 2 ∨ s.gstate = 0 then (s.toGrd 1 0).startPrecharge else s)
    else if m = 4 then s else s.toGrd 0 0
  let s := if m = 3 then
      (if s.lf Reg.STG_CFG_AUTO_EXIT = 1 then (List.range 24).foldl (fun s b => if (s.board b).trained then s.askExit b else s) s
      else s)
    else if m = 4 then s else (List.range 24).foldl State.commandLocal s
  let s := if watched m then (if watched old then s else { s with hif := { s.hif with watch := some s.beatN, hbAt := none, hbPrev := none } })
    else { s with hif := { s.hif with watch := none } }
  let s := if m = 2 then s.notActive else s
  (s.relines s0).ldgFollow

/-! ### The ranking of triggers (R31) -/

/-- Both feeds are lost and the module has not acted on it. -/
def State.feedsLost (s : State) : Bool :=
  s.twn.fed && decide (s.mstate ≠ 6 ∧ s.f Reg.TWN_FEED_A_STATE = 1 ∧ s.f Reg.TWN_FEED_B_STATE = 1)

/-- A chip rung is due at this boundary (R356). -/
def State.chipDue (s : State) : Bool := s.rcv.faults.any fun f => decide (4 ≤ f.rung ∧ f.beat < s.beatN)

/-- A trigger of a higher rank than this one holds on this beat: 1 both feeds lost, 2 junction trip, 3 whole-chip reset, 4 loss of
all upstream frames, 5 SAFE_REQ, 6 any other. -/
def State.outranks (s : State) (rank : Nat) : Bool :=
  (decide (1 < rank) && s.feedsLost) || (decide (2 < rank) && s.mpw.trip.isSome) || (decide (3 < rank) && s.chipDue) ||
  (decide (4 < rank) && decide (4 ≤ s.stg.nolink ∧ s.mstate = 3)) ||
  (decide (5 < rank) && (s.b Reg.GLB_SAFE_CMD_SAFE_REQ && decide (s.mstate = 3 ∨ s.mstate = 4)))

/-- A trigger of the lowest rank acts by f, or is outranked. -/
def State.lowest (s : State) (f : State → State) : State := if s.outranks 6 then s.outranked 0 else f s

/-- SAFE_STOP is entered: the frames of an active keep ACTIVE (R434). -/
def State.safeStop (s : State) (cause : Nat) : State := s.enter 5 cause

/-! ### Whole-chip reset (R11, R411) -/

/-- The running security command has begun writing fuses (R327, R411): an accepted ENROLL_OWNER, REVOKE_OWNER, ADVANCE_SVN or
ENTER_RMA. -/
def State.fusing (s : State) : Bool :=
  s.b Reg.SEC_CMD_RESULT_BUSY && decide (s.sec.result = 0) && [1, 2, 3, 7].contains (s.f Reg.SEC_CMD_OP)

/-- The voltage offsets are restored from the slot in force (R292, R250): the later of the two. -/
def State.restoreOffsets (s : State) : State :=
  let offs := if s.mpw.slotB.1 < s.mpw.slotA.1 then s.mpw.slotA.2 else s.mpw.slotB.2
  (List.range 34).foldl (fun s d =>
    if s.f (Reg.MPW_VOLT_OFFSET_MV d) = offs.get d 0 then s else s.setF (Reg.MPW_VOLT_OFFSET_MV d) (offs.get d 0)) s

/-- Registers whose source or Notes column keeps them through a whole-chip reset (Table 20-6). -/
def survives (fusing : Bool) (off : Nat) : Bool :=
  decide (off = 0xC00054) || inRow off 0xC00100 4 34 || decide (0x801000 ≤ off ∧ off < 0x802800) ||
  decide (0xA01000 ≤ off ∧ off < 0xA01400) || decide (off = 0xE00000 ∨ off = 0xE00010) ||
  decide (0xE02000 ≤ off ∧ off < 0xE02180) ||
  (fusing && (decide (off = 0xE00004 ∨ off = 0xE00008) || decide (0xE01000 ≤ off ∧ off < 0xE02000))) ||
  decide (off = 0xF00010 ∨ off = 0xF00014 ∨ off = 0xF00030) || inRow off 0xF01000 4 40 || decide (off = 0x1000300) ||
  decide (0x1300000 ≤ off ∧ off < 0x1300008) || decide (off = 0x1300010 ∨ off = 0x1300014) || inRow off 0x1300100 4 4 ||
  decide (off = 0xD00018 ∨ off = 0xD00020)

/-- What a whole-chip reset leaves: what always-on, MRAM, fuses and the firmware store hold; all else as after reset. The
side-band's session and an update over it go on (R311, R316); a pending Postmaster component is activated (Table 14-7, event
0x0C08). -/
def State.resetAll (s : State) : State :=
  let s := if s.b Reg.HIF_FW_STATUS_PM_PENDING then
    s.ev 0x0C08 (1 + 196608 + 524288 * s.f Reg.HIF_FW_STATUS_AGENT) 0 0x153 else s
  let fusing := s.fusing
  let cause := s.f Reg.GLB_STATE_LAST_CAUSE
  let module := s.f Reg.TWN_STATUS_MODULE
  let live : Tab Word := s.live.filter fun (e : Nat × Word) => decide (e.1 = 0xF00030)
  let kept : Tab Word := s.regs.filter fun (e : Nat × Word) => survives fusing e.1
  let boards : Tab Board := s.stg.boards.map fun (e : Nat × Board) => (e.1, ({ fseq := e.2.fseq, slot := e.2.slot } : Board))
  let boards : Tab Board := boards.filter fun (e : Nat × Board) => decide (e.2 ≠ {})
  let t : State := { State.reset with
    pending := s.pending, outs := s.outs, free := s.free, power := s.power
    regs := (kept.put 0x100000 1 0).put 0x1400000 1 0
    live := live
    deadCells := s.deadCells, deadClusters := s.deadClusters
    rcv := { chipA := s.rcv.chipA, chipB := s.rcv.chipB }
    sec := { s.sec with ready := none, nextReady := none, rotate := false, keys := [], serving := 0 }
    bup := { stuck := if s.b Reg.HIF_FW_STATUS_PM_PENDING then [] else s.bup.stuck }
    ldg := { ckptA := s.ldg.ckptA, ckptB := s.ldg.ckptB }
    stg := { boards := boards }
    mpw := { tripNew := s.mpw.tripNew, slotA := s.mpw.slotA, slotB := s.mpw.slotB }
    hif := { dynAddr := s.hif.dynAddr, eid := s.hif.eid, fwDone := s.hif.fwDone, fwPart := s.hif.fwPart, pmBank := s.hif.pmBank, formed := s.hif.formed }
    twn := { fed := false }
    evl := s.evl }
  let t := ((t.setF Reg.GLB_STATE_LAST_CAUSE cause).setF Reg.TWN_STATUS_MODULE module).renewNonce
  let t := (t.setF Reg.SEC_STATUS_ID_OK 0).setF Reg.SEC_STATUS_ENTROPY_FAIL 0
  let t := (t.setF Reg.HIF_FW_STATUS_PM_PENDING 0).setF Reg.EVL_STATUS_CLEARING 0
  let t := (t.setF Reg.HIF_SB_STATUS_LAST_STATUS 0).restoreOffsets
  let t := if t.f Reg.HIF_FW_STATUS_AGENT = 2 then
      { t.setF Reg.HIF_FW_STATUS_AGENT 0 with hif := { t.hif with fwDone := [], fwPart := none } } else t
  t.deadClusters.foldl (fun t c => t.setF (Reg.FAB_CLUSTER_STATE_CSTATE c) 3) t

/-- A VERIFYING load is abandoned (Table 5-7): DISCARDED, event 0x0307, the state before VERIFYING. -/
def State.abandonLoad (s : State) (p : Nat) : State :=
  if s.f (Reg.MAN_STATUS_STATE p) = 1 then
    let v := s.part p
    let s := (s.wr (0x400200 + 8 * p) 2#32).wr (0x400204 + 8 * p) 0#32
    let s := s.setF (Reg.MAN_STATUS_STATE p) (if v.fromLoaded then 3 else 0)
    let s := s.setPart p { v with cand := none, deciding := false, swapAt := none }
    s.ev 0x0307 (p + 32 * ofBool v.candHalf) 0 p
  else s

/-- A whole-chip reset with its cause (Table 1-7): the event, loads abandoned, every board commanded LOCAL, one LOCAL frame to each, then
the reset. A log that HOLDUP has closed stays closed: no feed has returned (R432). -/
def State.wholeReset (s : State) (cause : Nat) : State :=
  let held := decide (s.mstate = 6)
  let s := (List.range 32).foldl State.abandonLoad ((s.toMstate 1 cause).toGrd 0 0)
  let s := ((List.range 24).foldl State.commandLocal s).localFrames.resetAll
  if held then s else s.logOpen

/-- A whole-chip reset by the host (R30, R31): in any state but HOLDUP, where nothing outranks it. -/
def State.hostReset (s : State) : State := if s.mstate = 6 ∨ s.outranks 3 then s.logTrigger 6 (s.outranks 3) else s.wholeReset 6

/-- WHOLE_CHIP_RESET (R30). -/
def execWholeChipReset (s : State) : Res := .next s.hostReset

/-- A junction trip latches the sensor and its reading, for event 0x0B09 at the next start (R287). -/
def State.tripLatch (s : State) (sensor tj : Nat) : State :=
  let s := ((s.setF Reg.MPW_TRIP_TJ tj).setF Reg.MPW_TRIP_SENSOR sensor).setF Reg.MPW_TRIP_VALID 1
  { s with mpw := { s.mpw with tripNew := true } }

/-- JUNCTION_TRIP (R287): a sensor at 115 °C or more on two beats in a row. In HOLDUP it takes effect only once the record closing
ends (R31). -/
def execJunctionTrip (s : State) : Res :=
  .next (match s.mpw.trip with
    | none => s
    | some (sensor, tj) =>
      if s.outranks 2 then s.outranked 3
      else
        let t := s.tripLatch sensor tj
        if s.mstate = 6 ∧ ¬ s.evl.closed then { t.logTrigger 3 false with mpw := { t.mpw with tripHeld := true, trip := none } }
        else t.wholeReset 3)

/-! ### SAFE_STOP (R30 to R32) -/

/-- The cause in LAST_CAUSE of a SAFE_STOP is no longer present. -/
def State.causeGone (s : State) : Bool :=
  s.f Reg.GLB_SAFE_CMD_SAFE_REQ = 0 && (s.f Reg.GLB_STATE_LAST_CAUSE ≠ 2 || decide (s.stg.nolink < 4))

/-- SAFE_REQ as a condition, evaluated once a beat (R31): it acts where the state has a row for it and nothing outranks it, and is
logged once per run where it does not act. -/
def State.safeEval (s : State) : State :=
  if s.b Reg.GLB_SAFE_CMD_SAFE_REQ then
    let seen := s.runs.safe
    let s : State := { s with runs := { s.runs with safe := true } }
    if (s.mstate = 3 ∨ s.mstate = 4) ∧ ¬ s.outranks 5 then s.safeStop 1
    else if seen then s else s.logTrigger 1 (s.outranks 5)
  else
    let s : State := { s with runs := { s.runs with safe := false } }
    if s.mstate = 5 ∧ s.causeGone then s.lowest fun s => s.enter 2 0 else s

/-- A write of SAFE_REQ: the condition is evaluated with the beat's samples (R31). -/
def State.safeReq (s : State) (v : Bool) : State := s.setF Reg.GLB_SAFE_CMD_SAFE_REQ (ofBool v)

/-- The loss of all upstream frames as a condition (R30, R31): 4 boundaries in a row with no valid frame from any board in use. -/
def State.linksEval (s : State) : State :=
  if s.stg.nolink < 4 then { s with runs := { s.runs with links := false } }
  else
    let seen := s.runs.links
    let s : State := { s with runs := { s.runs with links := true } }
    if s.mstate = 3 ∧ ¬ s.outranks 4 then s.safeStop 2
    else if seen then s else s.logTrigger 2 (s.outranks 4)

/-- UPSTREAM_FRAMES_LOST (R30). -/
def execUpstreamFramesLost (s : State) : Res := .next s.linksEval

/-! ### Feeds, hold-up and power (R387, R421) -/

/-- A feed's next state (R387): 0 OK, 1 LOST, 2 UNDER, 3 OVER; low and high are its runs with this sample. -/
def feedNext (old v low high : Nat) : Nat :=
  if 2 ≤ low then 1
  else if v < 360 then old
  else if v < 400 then 2
  else if 600 < v then 3
  else if 10 ≤ high then 0 else old

/-- One feed's sample: its register fields, its runs, event 0x1006 and TWN_FEED_LOSS_CNT. -/
def State.feed (s : State) (i v : Nat) : State :=
  let F := if i = 0 then Reg.TWN_FEED_A_STATE else Reg.TWN_FEED_B_STATE
  let V := if i = 0 then Reg.TWN_FEED_VA_DV else Reg.TWN_FEED_VB_DV
  let low := if v < 360 then (if i = 0 then s.twn.low.1 else s.twn.low.2) + 1 else 0
  let high := if 400 ≤ v ∧ v ≤ 600 then (if i = 0 then s.twn.high.1 else s.twn.high.2) + 1 else 0
  let t := s.twn
  let s : State := { s with twn := { t with low := if i = 0 then (low, t.low.2) else (t.low.1, low)
                                            high := if i = 0 then (high, t.high.2) else (t.high.1, high) } }
  let old := s.f F
  let new := feedNext old v low high
  let s := s.setF V v
  let other := s.f (if i = 0 then Reg.TWN_FEED_B_STATE else Reg.TWN_FEED_A_STATE)
  if old = new then s
  else
    let s := (s.setF F new).ev 0x1006 (i + 2 * old + 8 * new) v 0x152
    if new = 1 ∧ other ≠ 1 then s.bump Reg.TWN_FEED_LOSS_CNT else s

/-- The samples of both feeds are taken: voltages in 0.1 V, currents in mA, and P_IN from them (R282, R288, R387). -/
def State.feedSample (s : State) (va vb : BitVec 10) (ia ib : Nat) : State :=
  let s := (s.feed 0 va.toNat).feed 1 vb.toNat
  let hi := max va.toNat vb.toNat
  let low := s.f Reg.MPW_FEED_V_LOW_DV
  let fed := s.twn.fed || decide (s.f Reg.TWN_FEED_A_STATE ≠ 1 ∨ s.f Reg.TWN_FEED_B_STATE ≠ 1)
  { s with
    mpw := { s.mpw with pin := (va.toNat * ia + vb.toNat * ib) / 10, feedDv := hi, feedAt := some s.beatN
                        lowRun := if hi < low then s.mpw.lowRun + 1 else 0
                        highRun := if low + 20 ≤ hi then s.mpw.highRun + 1 else 0 }
    twn := { s.twn with fed := fed } }

/-- FEED_SAMPLE (R387, R282): every 10 beats, once; before the beat counter runs each sample is taken. -/
def execFeedSample (va vb : BitVec 10) (ia ib : Nat) (s : State) : Res :=
  .next (if s.released ∧ (s.beatN % 10 ≠ 0 ∨ s.mpw.feedAt = some s.beatN) then s else s.feedSample va vb ia ib)

/-- HOLDUP is entered (Table 1-7): the event first, one LOCAL frame to every board, the records closed, the fabric gated (R33). -/
def State.holdup (s : State) : State :=
  let runs := s.ldgRuns
  let s := s.enter 6 5
  let s := s.localFrames
  let s := if runs then s.ldgHoldup else s
  let s : State := { s with stg := { s.stg with stopped := true }, twn := { s.twn with fed := false } }
  let s := s.sstHoldup
  (List.range 640).foldl (fun s c => if s.cstate c = 3 then s else s.setF (Reg.FAB_CLUSTER_STATE_CSTATE c) 0) s

/-- BOTH_FEEDS_LOST (R30, R387). -/
def execBothFeedsLost (s : State) : Res :=
  .next (if s.feedsLost then s.holdup else s)

/-- HOLDUP_CLOSED (R432): the record closing ends; a junction trip that came meanwhile takes effect (R31). -/
def execHoldupClosed (s : State) : Res :=
  .next (if s.mstate = 6 ∧ ¬ s.evl.closed then
    let t := s.logClose
    if s.mpw.tripHeld then t.wholeReset 3 else t
  else s)

/-- FEED_RETURN (R30, R421): a feed is OK again before hold-up ends; the log reopens at the reset's release (R432). Where a junction trip
has reset the chip in HOLDUP meanwhile, the log alone reopens (DESIGN CHOICE, log entry 68). -/
def execFeedReturn (s : State) : Res :=
  .next (if s.mstate = 6 ∧ s.power ∧ (s.f Reg.TWN_FEED_A_STATE = 0 ∨ s.f Reg.TWN_FEED_B_STATE = 0) then
    let s := (List.range 32).foldl State.abandonLoad (s.ev 0x0F01 (6 + 16) 0)
    (s.setF Reg.GLB_STATE_MSTATE 1).resetAll.logOpen
  else if s.mstate = 1 ∧ s.power ∧ s.evl.closed ∧ (s.f Reg.TWN_FEED_A_STATE = 0 ∨ s.f Reg.TWN_FEED_B_STATE = 0) then s.logOpen
  else s)

/-- POWER_LOSS (R421): the hold-up store is exhausted. -/
def execPowerLoss (s : State) : Res := .next (if s.mstate = 6 ∨ (s.mstate = 1 ∧ s.evl.closed) then { s with power := false } else s)

/-- Registers that keep their value without power: MRAM, fuses and the firmware store (Table 20-6). -/
def nonVolatile (off : Nat) : Bool :=
  inRow off 0xC00100 4 34 || decide (0x801000 ≤ off ∧ off < 0x802800) || decide (0xA01000 ≤ off ∧ off < 0xA01400) ||
  decide (off = 0xE00000 ∨ off = 0xE00010) || decide (0xE02000 ≤ off ∧ off < 0xE02180) || decide (off = 0x1000300) ||
  decide (off = 0x1300010 ∨ off = 0x1300014 ∨ off = 0x1300004)

/-- The lowest index whose record carries no valid mark (R399). -/
def firstFree (recs : Tab EvRec) (i : Nat) : Nat → Nat
  | 0 => i
  | n + 1 => if (recs.get i {}).mark = 0xA5 then firstFree recs (i + 1) n else i

/-- The always-on ROM's check of the always-on image (R329): event 0x0D01 with the condition that fails. -/
def State.alwaysOnCheck (s : State) : State :=
  let fault := fwFault (s.bankImage 1) 2 (s.f Reg.SEC_STATUS_SVN_MIN)
  if fault = 0 then s else (s.bump Reg.SEC_VERIFY_FAIL_CNT).ev 0x0D01 (2 + 65536 * fault) (s.f Reg.HIF_FW_STATUS_AO_BANK)

/-- POWER_ON (R421): what needs power is gone; the MRAM state, EVL_TAIL and the firmware banks are recovered (R399, R367);
POWER_ONS counts; a removal of at least 1 s clears PWR_REQ and the chip count. The start in NOT_READY writes no event 0x0F01: the
spec gives its cause code and not whether it is a change (DESIGN CHOICE, log entry 54). Of a clear of the log that the loss of power cut
short, the records 0 to k are left, k free (R403). A firmware bank left incomplete is invalid
(R316). -/
def State.powerOn (s : State) (removed : Nat) (roleB : Bool) : State :=
  let t := s.resetAll
  let regs : Tab Word := t.regs.filter fun (e : Nat × Word) => nonVolatile e.1
  let ao := s.f Reg.HIF_FW_STATUS_AO_BANK
  let left := if s.b Reg.EVL_STATUS_CLEARING then s.freeWord.toNat % (s.tail + 1) else s.tail
  let recs : Tab EvRec := s.evl.recs.filter fun (e : Nat × EvRec) => decide (e.1 < left)
  let t : State := { t with
    free := if s.b Reg.EVL_STATUS_CLEARING then s.free + 1 else s.free
    power := true
    regs := (regs.put 0x100000 1 0).put 0x1400000 1 0
    live := []
    sec := { owners := s.sec.owners, packs := s.sec.packs, banks := s.sec.banks, draws := t.sec.draws, nonce := t.sec.nonce }
    bup := {}
    hif := { pmBank := s.hif.pmBank }
    mpw := { slotA := s.mpw.slotA, slotB := s.mpw.slotB }
    evl := { recs := recs, closed := s.evl.closed, missed := s.evl.missed, opUs := s.evl.opUs } }
  let n := firstFree t.evl.recs 0 t.evl.recs.length
  let t := ((t.setF Reg.EVL_TAIL_TAIL n).setF Reg.EVL_STATUS_FULL (ofBool (decide (n ≥ 131072)))).setF Reg.EVL_STATUS_CLEARING 0
  let t := t.setF Reg.EVL_PWR_POWER_ONS (satAdd 24 (s.f Reg.EVL_PWR_POWER_ONS) 1)
  let t := (t.setF Reg.TWN_STATUS_MODULE (ofBool roleB)).setF Reg.HIF_FW_STATUS_AO_BANK ao
  let t := t.deadClusters.foldl (fun t c => t.setF (Reg.FAB_CLUSTER_STATE_CSTATE c) 3) t
  let t := t.logOpen.alwaysOnCheck
  if 1 ≤ removed then
    let t : State := { t with rcv := t.rcv.putChip [] }
    ((t.setF Reg.RCV_CHIP_HIST_PWR_REQ 0).setF Reg.RCV_CHIP_HIST_CHIP_CNT 0).ev 0x0F07 0 0
  else t

/-- POWER_ON (R421): a module without power starts. -/
def execPowerOn (removedSeconds : Nat) (roleB : Bool) (s : State) : Res :=
  .next (if s.power then s else s.powerOn removedSeconds roleB)

/-- A vendor-defined message of the side-band acts, where its enterprise number is HIF_SB_IANA; one with another number is answered
NOT_READY (R312). -/
def State.vendor (s : State) (iana : Word) (f : State → State) : State :=
  if iana = s.rd 0xD0001C then f s else s.out (.sideband 0x30 [])

/-! ### The side-band's heartbeat to the host's fate (R308, R309) -/

/-- HB_TIMEOUT_MS in force, in beats. -/
def State.hbTimeout (s : State) : Nat := s.lf Reg.HIF_HB_CFG_HB_TIMEOUT_MS * 1000

/-- The beat from which the age of the last heartbeat is reckoned. -/
def State.hbFrom (s : State) : Option Nat := match s.hif.hbAt with | some b => some b | none => s.hif.watch

/-- HB_AGE_MS: ms since the last heartbeat, saturating; before any, since the monitor's start. -/
def State.hbAge (s : State) : Nat :=
  match (match s.hif.hbLast with | some b => some b | none => s.hif.watch) with
  | some b => min 65535 ((s.beatN - b) / 1000)
  | none => 0

/-- The causes that hold: 1 no heartbeat for HB_TIMEOUT_MS, 2 the data link down for it. -/
def State.hostCause (s : State) : Nat :=
  match s.hif.watch with
  | none => 0
  | some w =>
    let hb := match s.hbFrom with | some b => decide (max w b + s.hbTimeout ≤ s.beatN) | none => false
    let dl := !s.b Reg.HIF_LINK_DL_UP && decide (max w s.hif.downAt + s.hbTimeout ≤ s.beatN)
    ofBool hb + 2 * ofBool dl

/-- HOST_LOST (R308): no heartbeat, or no data link, for HB_TIMEOUT_MS. -/
def execHostLost (s : State) : Res :=
  let c := s.hostCause
  .next (if c = 0 ∨ s.b Reg.HIF_STATUS_HOST_LOST then s
    else
      let s := (s.setF Reg.HIF_STATUS_HOST_LOST 1).setF Reg.HIF_STATUS_CAUSE c
      let s := { s with hif := { s.hif with hbPrev := none } }
      ((s.bump 0xD0600C).ev 0x0C02 (1 + 2 * c) s.hbAge 0x153).gridHostLost)

/-- The host is regained at the boundary at which two heartbeats within one HB_TIMEOUT_MS have arrived and the link is up
(R309). -/
def State.hostRegained (s : State) : State :=
  let two : Bool := match s.hif.hbPrev, s.hif.hbAt with
    | some a, some b => decide (b ≤ a + s.hbTimeout)
    | _, _ => false
  if s.b Reg.HIF_STATUS_HOST_LOST ∧ two ∧ s.b Reg.HIF_LINK_DL_UP then
    let c := s.f Reg.HIF_STATUS_CAUSE
    let s := (s.setF Reg.HIF_STATUS_HOST_LOST 0).ev 0x0C02 (2 * c) s.hbAge 0x153
    let s := if s.b Reg.GRD_STATE_HOST_LOST ∧ s.gridActs then s.ev 0x0407 0 0 else s
    { s with grd := { s.grd with regained := true } }
  else s

end Sys2Proof.Machine
end

