-- ==== Sys2Proof/Machine/Host.lean ====
section
/-! DEFINITION. The PCIe endpoint, letters through BAR2, completion rings, BAR4, the side-band and firmware update
(chapter 14). -/

namespace Sys2Proof.Machine

open Sys2Proof.Bits

/-! ### Completion rings (R305 to R307) -/

/-- A completion entry (Table 14-3). -/
def entryBytes (status op seq addr len : Nat) (old : Bytes) (beat : Nat) : Bytes :=
  toLe 2 status ++ [BitVec.ofNat 8 op, 0] ++ toLe 4 seq ++ toLe 6 addr ++ toLe 2 len ++ fit old 8 ++ toLe 8 beat

/-- Entries of a ring (R305). -/
def State.ringSize (s : State) (q : Nat) : Nat := 2 ^ s.f (Reg.HIF_CQ_CFG_LOG2 q)

/-- Entries written and not consumed. -/
def State.ringHeld (s : State) (q : Nat) : Nat :=
  (s.f (Reg.HIF_CQ_TAIL_TAIL q) + 4294967296 - s.f (Reg.HIF_CQ_HEAD_HEAD q)) % 4294967296

/-- Vector VECTOR of ring q is raised; its entries are signalled (R307). -/
def State.ringVector (s : State) (q : Nat) : State :=
  let s : State := { s with hif := { s.hif with unsig := s.hif.unsig.drop q } }
  s.vector (s.f (Reg.HIF_CQ_CFG_VECTOR q))

/-- An entry of ring q is written (R305 to R307), or dropped at a full ring or with Bus Master Enable 0. -/
def State.ringWrite (s : State) (l : HLetter) (status : Nat) (old : Bytes) : State :=
  let q := l.q
  let size := s.ringSize q
  if size ≤ s.ringHeld q ∨ ¬ s.b Reg.HIF_LINK_BME then
    ((s.setF (Reg.HIF_CQ_STATUS_OVF q) 1).bump 0xD06000).ev 0x0C04 q l.seq 0x153
  else
    let t := s.f (Reg.HIF_CQ_TAIL_TAIL q)
    let phase := 1 - t / size % 2
    let e := entryBytes status (LOp.code l.op + 16 * l.src + 128 * phase) l.seq l.addr l.len old s.beatN
    let s := s.out (.hostWrite (s.rd64 (0xD04000 + 32 * q) + 32 * (t % size)) e)
    let s := s.setF (Reg.HIF_CQ_TAIL_TAIL q) ((t + 1) % 4294967296)
    let u := s.hif.unsig.get q (0, 0)
    let n := u.1 + 1
    let s : State := { s with hif := { s.hif with unsig := s.hif.unsig.put q (n, if u.1 = 0 then s.now + 1 else u.2) (0, 0) } }
    if status = 2 ∨ status = 3 ∨ max 1 (s.f (Reg.HIF_CQ_CFG_MOD_CNT q)) ≤ n then s.ringVector q else s

/-- The completion of a host letter (R306): a standby writes nothing (R376); an OK completion is reported with REPORT 1. -/
def State.hostComplete (s : State) (l : HLetter) (status : Nat) (old : Bytes) : State :=
  if s.mstate = 4 ∨ (status = 0 ∧ s.f (Reg.HIF_SQ_CFG_REPORT l.q) = 0) then s else s.ringWrite l status old

/-- CQ_VECTOR_TIMER (R307): MOD_US µs after the first entry not yet signalled. -/
def execCqVectorTimer (q : Fin 64) (s : State) : Res :=
  let u := s.hif.unsig.get q.val (0, 0)
  .next (if 0 < u.1 ∧ u.2 + 1250 * s.f (Reg.HIF_CQ_CFG_MOD_US q.val) ≤ s.now + 1 then s.ringVector q.val else s)

/-! ### BAR2 (R301 to R303) -/

/-- The queue and aperture of a BAR2 offset. -/
def queueOf (off : Nat) : Nat := off / 16777216 % 64
def apertureOf (off : Nat) : Nat := off / 2097152 % 8

/-- The queue and the aperture of a BAR2 offset are enabled. -/
def State.apEnabled (s : State) (off : Nat) : Bool :=
  s.b (Reg.HIF_SQ_CFG_EN (queueOf off)) && s.b (Reg.HIF_AP_EN (queueOf off) (apertureOf off))

/-- The fabric address of a BAR2 offset (R301). -/
def State.translate (s : State) (off : Nat) : Nat :=
  let q := queueOf off
  let a := apertureOf off
  let base := s.f (Reg.HIF_AP_BASE_LO q a) + 4294967296 * s.f (Reg.HIF_AP_BASE_HI q a)
  let w := off % 2097152
  if s.f (Reg.HIF_AP_MODE q a) = 0 then (base + w) % 281474976710656
  else base / 68719476736 * 68719476736 + w / 4096 * 134217728 + base % 134217728 / 4096 * 4096 + w % 4096

/-- Bytes from an offset cut at 64-byte boundaries, as (offset, bytes); n bounds the number of pieces. -/
def pieces (off : Nat) (d : Bytes) : Nat → List (Nat × Bytes)
  | 0 => []
  | n + 1 => if d = [] then []
    else
      let k := 64 - off % 64
      (off, d.take k) :: pieces (off + k) (d.drop k) n

/-- A BAR2 access that forms no letter (last row of Table 14-2); in STANDBY with event 0x1008 (R376). -/
def State.bar2Refuse (s : State) (off : Nat) : State :=
  let s := (s.ev 0x0C03 (2 * queueOf off + 128 * apertureOf off) off 0x153).bump 0xD06004
  if s.mstate = 4 then (s.bump Reg.TWN_BAR2_REFUSE_CNT).ev 0x1008 (queueOf off) off 0x152 else s

/-- A BAR2 access is served. -/
def State.bar2Ok (s : State) (off : Nat) : Bool := s.power && decide (s.mstate ≠ 4) && s.apEnabled off

/-- Bytes moved for a queue (R290). -/
def State.moveBytes (s : State) (q n : Nat) : State :=
  { s with hif := { s.hif with moved := s.hif.moved.put q (s.hif.moved.get q 0 + n) 0 } }

/-- A queue forms a letter (R301): it enters the network, or in the active of a twin pair it is mirrored (R375). -/
def State.formLetter (s : State) (off src : Nat) (op : LOp) (len : Nat) (d : Bytes) (access : Nat) : State :=
  let q := queueOf off
  let a := s.translate off
  let n := (s.f (Reg.HIF_SQ_SEQ_SEQ q) + 1) % 4294967296
  let s := s.setF (Reg.HIF_SQ_SEQ_SEQ q) n
  let id := s.hif.formed + 1
  let dest : ReplyTo := .host (Fin.ofNat 64 q) id
  let l : Letter :=
    { op := op, hdr := { sender := .unit (BitVec.ofNat 16 (0x500 + q)), addr := BitVec.ofNat 48 a, tag := BitVec.ofNat 12 n, reply := dest }
      len := len, data := d, issued := s.now }
  let s : State := { s with hif := { s.hif with
    formed := id
    sent := s.hif.sent ++ [{ id := id, q := q, seq := n, src := src, op := op, addr := a, len := len, access := access }] } }
  let s := s.moveBytes q d.length
  if s.twinActive then s.mirror (.letter l s.cycle) else s.send l

/-- BAR2_WRITE (R301). -/
def execBar2Write (off : BitVec 30) (data : Bytes) (s : State) : Res :=
  .next (if data = [] then s
    else if s.bar2Ok off.toNat then
      (pieces off.toNat data data.length).foldl (fun s (e : Nat × Bytes) => s.formLetter e.1 0 .put e.2.length e.2 0) s
    else s.bar2Refuse off.toNat)

/-- An access that waits for the letters formed since SEQ was n (R302). -/
def State.waitFor (s : State) (read : Bool) (n count len : Nat) : State :=
  let id := s.hif.next + 1
  let a : Access := { id := id, read := read, len := len, beat := s.beatN
                      got := (List.range count).map fun i => ((n + 1 + i) % 4294967296, none) }
  { s with hif := { s.hif with next := id, accs := s.hif.accs ++ [a] } }

/-- BAR2_READ (R301, R302): 1 to 512 bytes. -/
def execBar2Read (off : BitVec 30) (len : Nat) (s : State) : Res :=
  let o := off.toNat
  .next (if len = 0 ∨ 512 < len then s
    else if s.bar2Ok o then
      let ps := pieces o (zeros len) len
      let s := s.waitFor true (s.f (Reg.HIF_SQ_SEQ_SEQ (queueOf o))) ps.length len
      let id := s.hif.next
      ps.foldl (fun s (e : Nat × Bytes) => s.formLetter e.1 1 .get e.2.length [] id) s
    else (s.bar2Refuse o).out .unsupported)

/-- BAR2_ATOMIC (R301): 32-bit and 64-bit AtomicOps; a 128-bit CAS and a disabled queue or aperture are unsupported. -/
def execBar2Atomic (off : BitVec 30) (op : AtomicOp) (width : Nat) (operand cmp : BitVec 64) (s : State) : Res :=
  let o := off.toNat
  .next (if s.bar2Ok o ∧ (width = 4 ∨ width = 8) ∧ o % width = 0 then
    let s := s.waitFor false (s.f (Reg.HIF_SQ_SEQ_SEQ (queueOf o))) 1 width
    let v := toLe width operand.toNat
    match op with
    | .fetchAdd => s.formLetter o 2 .add width v s.hif.next
    | .swap => s.formLetter o 2 .swap width v s.hif.next
    | .cas => s.formLetter o 2 .cas width (toLe width cmp.toNat ++ v) s.hif.next
  else (s.bar2Refuse o).out .unsupported)

/-- All ones. -/
def ones (n : Nat) : Bytes := List.replicate n 0xFF

/-- A letter of an access has completed; with its last one the access returns its data, or all ones (R302). -/
def State.accessTake (s : State) (id seq status : Nat) (d : Bytes) : State :=
  match s.hif.accs.find? fun (a : Access) => decide (a.id = id) with
  | none => s
  | some a =>
    let got := a.got.map fun (e : Nat × Option (Nat × Bytes)) => if e.1 = seq then (e.1, some (status, d)) else e
    if got.any fun (e : Nat × Option (Nat × Bytes)) => e.2.isNone then
      let accs := s.hif.accs.map fun (b : Access) => if b.id = id then { b with got := got } else b
      { s with hif := { s.hif with accs := accs } }
    else
      let accs := s.hif.accs.filter fun (b : Access) => decide (b.id ≠ id)
      let s : State := { s with hif := { s.hif with accs := accs } }
      let rs := got.map fun (e : Nat × Option (Nat × Bytes)) => e.2.getD (2, [])
      if rs.any fun (r : Nat × Bytes) => decide (r.1 ≠ 0) then s.out (.completion (ones a.len))
      else s.out (.completion (fit (rs.flatMap fun (r : Nat × Bytes) => r.2) a.len))

/-- A reply reaches the host interface (R305): that of a letter not outstanding is discarded (R302). -/
def State.hostReply (s : State) (id status : Nat) (d : Bytes) : State :=
  match s.hif.sent.find? fun (l : HLetter) => decide (l.id = id) with
  | none => s
  | some l =>
    let s : State := { s with hif := { s.hif with sent := s.hif.sent.erase l } }
    let s := (s.moveBytes l.q d.length).hostComplete l status (if l.src = 2 then d else [])
    if l.access = 0 then s else s.accessTake l.access l.seq status d

/-- BAR2_READ_TIMEOUT (R302): a read with a GET unanswered for 50 ms. An AtomicOp waits for its letter. Before the clocks step the beat
counter shows no time, and the command tells it. -/
def execBar2ReadTimeout (n : Nat) (s : State) : Res :=
  .next (match s.hif.accs.find? fun (a : Access) => decide (a.id = n) && a.read with
    | none => s
    | some a =>
      if s.released ∧ s.beatN < a.beat + 50000 then s
      else
        let late := s.hif.sent.filter fun (l : HLetter) => decide (l.access = n)
        let s : State := { s with hif := { s.hif with
          sent := s.hif.sent.filter fun (l : HLetter) => decide (l.access ≠ n)
          accs := s.hif.accs.filter fun (b : Access) => decide (b.id ≠ n) } }
        late.foldl (fun s l => s.hostComplete l 2 []) (s.out (.completion (ones a.len))))

/-! ### BAR4 (R297, R304, R341) -/

/-- A BAR4 access that fails, with event 0x0C03 unless another event stands for it. -/
def State.bar4Fail (s : State) (off : Nat) (event : Bool) : State :=
  let s := s.bump 0xD06008
  if event then s.ev 0x0C03 1 off 0x153 else s

/-- BAR4 reaches a partition: step 5 has ended since the reset, and the partition is not in reset. -/
def State.bar4Open (s : State) (p : Nat) : Bool := s.bup.dram && !s.held p

/-- The n bytes at a meet a region. -/
def rangeMeets (a n lo hi : Nat) : Bool := decide (a < hi ∧ lo < a + n)

/-- The channel of partition p that retrains meets the n bytes at offset o of its DRAM (R350); bit 8 of the offset selects the
channel (R34). -/
def State.retrains (s : State) (p o n : Nat) : Bool :=
  match s.bup.channel with
  | some c => decide (c / 2 = p) && (List.range 2).any fun i =>
      decide ((o / 256 + i) % 2 = c % 2 ∧ (i = 0 ∨ (o / 256 + 1) * 256 < o + n))
  | none => false

/-- An access waits at its edge router (R350). -/
def State.chanWait (s : State) (w : ChanWait) : State := { s with bup := { s.bup with waits := s.bup.waits ++ [w] } }

/-- A BAR4 write at its partition (R304, R113, R267): a write any byte of which lies in the ledger region, or in a half in force, is discarded whole (log
entry 58). -/
def State.bar4Write (s : State) (off : Nat) (data : Bytes) : State :=
  let p := off / 8589934592
  let o := off % 8589934592
  let k := s.f (Reg.MAN_STATUS_INFORCE_HALF p)
  let lo := 0x1F0000000 + 0x8000000 * k
  if ¬ s.bar4Open p then s.bar4Fail off true
  else if p ≤ 1 ∧ rangeMeets o data.length 0x100000000 0x1A0000000 then
    ((s.bar4Fail off false).bump Reg.LDG_HOST_DROP_CNT).ev 0x0A08 o p 0x140
  else if (s.manOf p).isSome ∧ rangeMeets o data.length lo (lo + 0x8000000) then
    ((s.bar4Fail off false).bump Reg.MAN_STAGE_DROP_CNT).ev 0x0306 (p + 32 * k) o p
  else s.wrMem (dramAddr p o) (data.take (8589934592 - o))

/-- BAR4_WRITE (R304, R350): it waits while a channel of its addresses retrains. -/
def execBar4Write (off : BitVec 38) (data : Bytes) (s : State) : Res :=
  let o := off.toNat
  .next (if ¬ s.power ∨ data = [] then s
    else if s.retrains (o / 8589934592) (o % 8589934592) data.length then s.chanWait (.write o data)
    else s.bar4Write o data)

/-- A BAR4 read at its partition (R304). -/
def State.bar4Read (s : State) (off len : Nat) : State :=
  let p := off / 8589934592
  let o := off % 8589934592
  if s.bar4Open p then s.out (.completion (s.rdMem (dramAddr p o) (min len (8589934592 - o))))
  else (s.bar4Fail off true).out (.completion (ones len))

/-- BAR4_READ (R304, R350). -/
def execBar4Read (off : BitVec 38) (len : Nat) (s : State) : Res :=
  let o := off.toNat
  .next (if ¬ s.power ∨ len = 0 ∨ 4096 < len then s
    else if s.retrains (o / 8589934592) (o % 8589934592) len then s.chanWait (.read o len)
    else s.bar4Read o len)

/-! ### The endpoint (R298 to R300, R308) -/

/-- Update mode ends (R316): a bank left incomplete stays invalid. -/
def State.endUpdate (s : State) : State :=
  { s.setF Reg.HIF_FW_STATUS_AGENT 0 with hif := { s.hif with fwDone := [], fwPart := none } }

/-- An update over PCIe ends (R316). -/
def State.endPcieUpdate (s : State) : State := if s.f Reg.HIF_FW_STATUS_AGENT = 2 then s.endUpdate else s

/-- PCIE_RESET (R298): the HIF block and the configuration space return to reset but for what always-on and the firmware store
hold; the age of the heartbeat and the host monitor start again. -/
def execPcieReset (s : State) : Res :=
  let keep (off : Nat) : Bool := decide (off < 0xD00000 ∨ 0xE00000 ≤ off ∨ off = 0xD00018 ∨ off = 0xD00020)
  let s' : State := { s with
    regs := s.regs.filter fun (e : Nat × Word) => keep e.1
    hif := { s.hif with sent := [], accs := [], unsig := [], hbAt := none, hbLast := none, hbPrev := none, dState := 0, aer := (0, 0)
                        watch := s.hif.watch.map fun _ => s.beatN
                        downAt := if s.b Reg.HIF_LINK_DL_UP then s.beatN else s.hif.downAt } }
  .next ((s'.stage 0xD00000 0xE00000).setF Reg.HIF_SB_STATUS_LAST_STATUS 0).endPcieUpdate

/-- The constant words of configuration space (R296), by offset: Vendor and Device ID; class code and Revision ID, the die's
stepping; Subsystem Vendor and Subsystem ID. -/
def pciConfig : List (Nat × Word) := [
  (0x00, BitVec.ofNat 32 (Config.vendorId.toNat + 65536 * 0x0350)),
  (0x08, BitVec.ofNat 32 (Config.stepping.toNat + 256 * 0x118000)),
  (0x2C, BitVec.ofNat 32 (Config.vendorId.toNat + 65536 * 0x0350))]

/-- BUS_MASTER_ENABLE (R300), by a write of the bit or by a change of the D-state, which clears it (R296). -/
def execBusMasterEnable (v : Bool) (dState : Option (Fin 4)) (s : State) : Res :=
  .next (match dState with
    | none => s.setF Reg.HIF_LINK_BME (ofBool v)
    | some d =>
      if d.val = s.hif.dState then s
      else { s.setF Reg.HIF_LINK_BME 0 with hif := { s.hif with dState := d.val } })

/-- An uncorrectable error that AER logs (R318): its status and the first header word, event 0x0C06. -/
def State.aerError (s : State) (e : Word × Word) : State :=
  ({ s with hif := { s.hif with aer := (e.1.toNat, e.2.toNat) } }).ev 0x0C06 e.1.toNat e.2.toNat 0x153

/-- DATA_LINK_CHANGE (R308, R318), with the uncorrectable error that AER logs at it, if any. -/
def execDataLinkChange (up : Bool) (speed : BitVec 4) (width : BitVec 5) (aer : Option (Word × Word)) (s : State) : Res :=
  let s := match aer with | some e => s.aerError e | none => s
  let sp := if up then speed.toNat else 0
  let w := if up then width.toNat else 0
  let t := (s.setF Reg.HIF_LINK_SPEED sp).setF Reg.HIF_LINK_WIDTH w
  .next (if s.b Reg.HIF_LINK_DL_UP = up then t
    else
      let t := t.setF Reg.HIF_LINK_DL_UP (ofBool up)
      let t := if up then t
        else ({ t.bump 0xD06010 with hif := { t.hif with downAt := t.beatN } }).endPcieUpdate
      t.ev 0x0C01 (ofBool up + 2 * sp + 32 * w) (t.rd 0xD06010).toNat 0x153)

/-- A write of HIF_CHIP_RESET (R299). -/
def State.chipReset (s : State) (v : Nat) : State :=
  if v = 0x1C7A0350 then
    (s.ev 0x0C09 0 0 0x153).hostReset
  else s.ev 0x0C05 0xD00010 v 0xFFF 1

/-- HIF_CHIP_RESET (R299). -/
def execHifChipReset (v : Word) (s : State) : Res := .next (s.chipReset v.toNat)

/-- A write of HIF_HB (R308): a heartbeat where the value differs. -/
def State.heartbeat (s : State) (v : Nat) : State :=
  if s.f Reg.HIF_HB_VALUE = v then s
  else
    let s := s.setF Reg.HIF_HB_VALUE v
    { s with hif := { s.hif with hbPrev := s.hif.hbAt, hbAt := some s.beatN, hbLast := some s.beatN } }

/-- HEARTBEAT (R308). -/
def execHeartbeat (v : Word) (s : State) : Res := .next (s.heartbeat v.toNat)

/-! ### Reading registers (R408, R409) -/

/-- BUP_PROGRESS (Table 16-4): the seconds since the step started; how far its work has come, and a time that the stopped beat
counter does not show, are free values. -/
def State.progress (s : State) : Word :=
  if s.f Reg.BUP_RESULT_STEP = 0 then 0
  else
    let w := s.freeWord.toNat
    let t := if s.released then (s.beatN - s.bup.began) / 1000000 else w / 1024
    BitVec.ofNat 32 (w % 1001 + 65536 * min 65535 t)

/-- The RWS bits of a register's row, and the last accepted write that waits for its mirrored beat (R8, R375). -/
def State.waitingWrite (s : State) (off : Nat) : Option Word :=
  s.twn.mirror.foldl (fun (w : Option Word) (e : Nat × Mirrored) => match e.2 with
    | .write o v _ => if o = off then some v else w
    | .letter .. => w) none

/-- A register with its staged fields as last accepted (R8). -/
def State.accepted (s : State) (off : Nat) : Word :=
  match s.waitingWrite off, writableRows.find? (fun r => inRow off r.base r.stride r.count) with
  | some v, some r => (s.rd off &&& ~~~(BitVec.ofNat 32 r.rws)) ||| (v &&& BitVec.ofNat 32 r.rws)
  | _, _ => s.rd off

/-- Bits of in-step registers that command and hold no value: PRE_RETRY, START and STOP, a loop's CLEAR, exits, diagnoses, releases. -/
def commandBits (off : Nat) : Nat :=
  if off = 0x500004 then 4
  else if off = 0x600030 then 3
  else if off = 0x900010 then 0x10000
  else if inRow off 0x700000 4 512 ∨ off = 0x800014 ∨ off = 0x900014 ∨ off = 0xA00018 then 0xFFFFFFFF
  else 0

/-- A register as it will be once the write accepted before has come into force, its command bits 0 (R8, R375). -/
def State.latest (s : State) (off : Nat) : Word :=
  match s.waitingWrite off, writableRows.find? (fun r => inRow off r.base r.stride r.count) with
  | some v, some r =>
    let m := BitVec.ofNat 32 (r.rw + r.rws + r.rwl) &&& ~~~(BitVec.ofNat 32 (commandBits off))
    (s.rd off &&& ~~~m) ||| (v &&& m)
  | _, _ => s.rd off

/-- The value of a register as it is read: the beat counter, the age of the heartbeat, the record window and the progress of a
step are computed, and the beats since the Postmaster's heartbeat (R413) counted; a bank in progress reads as it is being written. -/
def State.peek (s : State) (off : Nat) : Word :=
  if off = 0x200000 then BitVec.ofNat 32 s.beatLo
  else if off = 0x200004 then BitVec.ofNat 32 s.beatHi
  else if off = 0xD0000C then setFld (s.rd off) 16 16 s.hbAge
  else if 0x1380000 ≤ off ∧ off < 0x1400000 then s.recWord off
  else if off = 0xF00008 then s.progress
  else if 0xE00020 ≤ off ∧ off < 0xE00040 then BitVec.ofNat 32 (le s.nonce (off - 0xE00020) 4)
  else if off = 0x100010 then BitVec.ofNat 32 (min 65535 (s.still 84))
  else if 0x1240000 ≤ off ∧ off < 0x12C0000 then (s.bankWord off).getD (s.rd off)
  else if s.twn.mirror = [] then s.rd off else s.accepted off

/-- Low words of the values of R409: (offset, stride, count). The high word follows the low one. -/
def pairs : List (Nat × Nat × Nat) := [
  (0x10, 8, 1), (0x100008, 8, 1), (0x200000, 8, 1), (0x400400, 8, 32), (0x500060, 8, 2), (0x600008, 8, 2), (0x800020, 8, 1),
  (0xB00018, 8, 2), (0xB00030, 8, 3), (0xB00058, 8, 1), (0xB00200, 8, 7), (0xC00400, 8, 17), (0xC00800, 8, 32), (0xC00A00, 8, 64),
  (0xD04000, 32, 64), (0x1200010, 8, 1)]

/-- An offset is the low word of a value of R409. -/
def isLow (off : Nat) : Bool := pairs.any fun (r : Nat × Nat × Nat) => inRow off r.1 r.2.1 r.2.2

/-- A read of the offset may give a free value: BUP_PROGRESS, the record window, the banks of collections. -/
def readsFree (off : Nat) : Bool :=
  decide (off = 0xF00008 ∨ 0x1380000 ≤ off ∧ off < 0x1400000 ∨ 0x1240000 ≤ off ∧ off < 0x12C0000)

/-- The latch of a path. -/
def State.latchOf (s : State) : Path → Tab Word
  | .host => s.latchHost
  | .sideband => s.latchSide

/-- A read of a register on a path: its value, and the state with the high word latched (R409). -/
def State.regReadOf (s : State) (path : Path) (off : Nat) : Word × State :=
  if isLow off then
    let t := (s.latchOf path).insert (off + 4) (s.peek (off + 4))
    (s.peek off, match path with
      | .host => { s with latchHost := t }
      | .sideband => { s with latchSide := t })
  else if 4 ≤ off ∧ isLow (off - 4) then ((s.latchOf path).get off 0, s)
  else (s.peek off, if readsFree off then s.useFree else s)

/-- A host read of bytes of one word. -/
def State.readWord (s : State) (off n : Nat) : Bytes × State :=
  let r := s.regReadOf .host (off / 4 * 4)
  (((toLe 4 r.1.toNat).drop (off % 4)).take n, r.2)

/-- BAR0_READ (R297, R409): 1 to 4 bytes within a word, or 8 bytes as two words, the lower first. -/
def execBar0Read (off : BitVec 25) (len : Nat) (s : State) : Res :=
  let o := off.toNat
  let a := s.readWord o (min len (4 - o % 4))
  let b := if o % 4 = 0 ∧ len = 8 then a.2.readWord (o + 4) 4 else ([], a.2)
  .next (if s.power then b.2.out (.completion (a.1 ++ b.1)) else s)

/-! ### The side-band (R310 to R314) -/

/-- The block of an offset is served by the always-on domain (R311). -/
def alwaysOn (off : Nat) : Bool := [0x00, 0x0E, 0x0F, 0x13, 0x14].contains (off / 1048576)

/-- Blocks outside the always-on domain answer the side-band (R311). -/
def State.mainServes (s : State) : Bool := s.released && decide (s.mstate ≠ 6)

/-- The HIF block and the MSI-X table and pending bits (R313). -/
def inHif (off : Nat) : Bool := decide (0xD00000 ≤ off ∧ off < 0xE00000)

/-- REG_READ (R313). -/
def execRegRead (iana : Word) (off : BitVec 25) (s : State) : Res :=
  let o := off.toNat / 4 * 4
  .next (s.vendor iana fun s => if inHif o ∨ ¬ (alwaysOn o ∨ s.mainServes) then s.out (.sideband 0x30 (zeros 4))
    else
      let r := s.regReadOf .sideband o
      r.2.out (.sideband 0 (toLe 4 r.1.toNat)))

/-- LOG_READ (R404). -/
def execLogRead (iana idx : Word) (s : State) : Res :=
  let i := idx.toNat
  .next (s.vendor iana fun s => if s.tail ≤ i ∨ s.b Reg.EVL_STATUS_CLEARING then s.out (.sideband 0x30 (zeros 32))
    else s.out (.sideband (if i + 1 = s.tail then 1 else 0) (s.evl.recs.get i {}).bytes))

/-- LAST_STATUS (R312): the vendor message of command 0x04; one whose command is none of Table 14-5 is answered NOT_READY. -/
def execLastStatus (iana : Word) (cmd : Byte) (s : State) : Res :=
  .next (s.vendor iana fun s =>
    if cmd = 4 then s.out (.sideband 0 (toLe 2 (s.f Reg.HIF_SB_STATUS_LAST_STATUS))) else s.out (.sideband 0x30 []))

/-- ENTDAA (R310). -/
def execEntdaa (addr : BitVec 7) (s : State) : Res :=
  let t : State := { s with hif := { s.hif with dynAddr := some addr } }
  .next ((t.setF Reg.HIF_SB_STATUS_DYN_ADDR addr.toNat).setF Reg.HIF_SB_STATUS_ADDR_VALID 1)

/-- SET_ENDPOINT_ID (R310). -/
def execSetEndpointId (onPcie : Bool) (eid : Byte) (s : State) : Res :=
  .next (if onPcie then { s with hif := { s.hif with eidPcie := eid } }
    else ({ s with hif := { s.hif with eid := eid } }).setF Reg.HIF_SB_STATUS_EID eid.toNat)

/-- A PLDM completion code other than SUCCESS with its underlying status (R312). -/
def State.pldmFail (s : State) (code status : Nat) : State := (s.setF Reg.HIF_SB_STATUS_LAST_STATUS status).out (.pldmCode code)

/-- A PLDM code whose underlying status is not stated: one of Table 0-4, free. -/
def State.pldmFree (s : State) (code : Nat) : State := (s.pldmFail code s.freeStatus).useFree

/-- PLDM_SENSOR_READ (R314, Table 14-6). -/
def execPldmSensorRead (sensor : BitVec 16) (s : State) : Res :=
  let say (main : Bool) (v : Nat) : State := s.out (.pldm sensor.toNat (if main then some v else none))
  let side := s.mainServes
  let up := side && s.b Reg.HIF_LINK_DL_UP
  .next (match sensor.toNat with
    | 0x01 => say side (s.f Reg.MPW_TJ_TJ_MAX)
    | 0x02 => say side (s.f Reg.MPW_PWR_P_IN_W)
    | 0x03 => say side (s.f Reg.TWN_FEED_VA_DV)
    | 0x04 => say side (s.f Reg.TWN_FEED_VB_DV)
    | 0x10 => say true s.mstate
    | 0x11 => say up s.gstate
    | 0x12 => say up (s.f Reg.HIF_STATUS_HOST_LOST)
    | 0x13 => say true s.tail
    | _ => s.pldmFree 0x80)

/-! ### Firmware update (R315, R316) -/

/-- Event 0x0C08: 0 written, 1 verified, 2 failed, 3 activated, 4 cancelled. -/
def State.fwEvent (s : State) (comp kind status : Nat) : State :=
  s.ev 0x0C08 (comp + 65536 * kind + 524288 * s.f Reg.HIF_FW_STATUS_AGENT) status 0x153

/-- The update agent has sent a message. -/
def State.agentHere (s : State) : State := { s with hif := { s.hif with fwAt := s.beatN } }

/-- REQUEST_UPDATE (R316). -/
def execRequestUpdate (onPcie : Bool) (s : State) : Res :=
  .next (if s.f Reg.HIF_FW_STATUS_AGENT ≠ 0 then s.pldmFree 0x81
    else ({ s.setF Reg.HIF_FW_STATUS_AGENT (if onPcie then 2 else 1) with hif := { s.hif with fwDone := [] } }).agentHere)

/-- The bank in force of component 1 (Postmaster) or 2 (always-on). -/
def State.bankInForce (s : State) (comp : Nat) : Nat :=
  if comp = 1 then s.f Reg.HIF_FW_STATUS_PM_BANK else s.f Reg.HIF_FW_STATUS_AO_BANK

/-- A firmware bank is written. -/
def State.putBank (s : State) (comp bank : Nat) (img : Bytes) : State :=
  { s with sec := { s.sec with banks := s.sec.banks.put (2 * (comp - 1) + bank) img [] } }

/-- A part of a component's image goes to the bank not in force, which is invalid while it is incomplete (R316). -/
def State.fwPartial (s : State) (comp : Nat) (data : Bytes) : State :=
  let before := match s.hif.fwPart with | some (c, b) => if c = comp then b else [] | none => []
  let s := s.agentHere.putBank comp (1 - s.bankInForce comp) []
  { s with hif := { s.hif with fwPart := some (comp, before ++ data), fwDone := s.hif.fwDone.filter fun c => decide (c ≠ comp) } }

/-- FIRMWARE_COMPONENT_WRITE (R315, R329): the image goes to the bank not in force and is verified; a failed one leaves the
bank invalid. -/
def State.fwWrite (s : State) (comp : Nat) (img : Bytes) : State :=
  let bank := 1 - s.bankInForce comp
  let s := (s.agentHere.putBank comp bank img).fwEvent comp 0 0
  let done := s.hif.fwDone.filter fun c => decide (c ≠ comp)
  let fault := fwFault img comp (s.f Reg.SEC_STATUS_SVN_MIN)
  if fault = 0 then { s with hif := { s.hif with fwDone := done ++ [comp] } }.fwEvent comp 1 0
  else
    let s := ({ s with hif := { s.hif with fwDone := done } }).putBank comp bank []
    let s := (s.bump Reg.SEC_VERIFY_FAIL_CNT).ev 0x0D01 (comp + 65536 * fault) bank
    (s.fwEvent comp 2 0x21).setF Reg.HIF_SB_STATUS_LAST_STATUS 0x21

/-- FIRMWARE_COMPONENT_WRITE (R315, R316): a part of an image, or the last part, with which the component is whole. -/
def execFirmwareComponentWrite (comp : BitVec 16) (data : Bytes) (last : Bool) (s : State) : Res :=
  .next (if s.f Reg.HIF_FW_STATUS_AGENT = 0 then s.pldmFree 0x80
    else if comp ≠ 1 ∧ comp ≠ 2 then s
    else
      let t := s.fwPartial comp.toNat data
      if last then
        match t.hif.fwPart with
        | some (_, img) => ({ t with hif := { t.hif with fwPart := none } }).fwWrite comp.toNat img
        | none => t
      else t)

/-- A verified component is activated (Table 14-7). -/
def State.fwActivate (s : State) (comp : Nat) : State :=
  if comp = 1 then
    ({ s with hif := { s.hif with pmBank := 1 - s.f Reg.HIF_FW_STATUS_PM_BANK } }).setF Reg.HIF_FW_STATUS_PM_PENDING 1
  else
    let s := s.fwEvent 2 3 0
    let s := s.setF Reg.HIF_FW_STATUS_AO_BANK (1 - s.f Reg.HIF_FW_STATUS_AO_BANK)
    let s := { s.setMeas 2 ((s.bankImage 1).drop 64) with bup := { s.bup with stuck := [] } }
    let s := ((s.setF Reg.HIF_SB_STATUS_DYN_ADDR 0).setF Reg.HIF_SB_STATUS_ADDR_VALID 0).setF Reg.HIF_SB_STATUS_EID 0
    { s with hif := { s.hif with dynAddr := none, eid := 0, eidPcie := 0 } }

/-- ACTIVATE_FIRMWARE (R315): every component verified in the session; its answer says whether an activation is pending; update mode
ends. -/
def execActivateFirmware (s : State) : Res :=
  .next (if s.f Reg.HIF_FW_STATUS_AGENT = 0 then s.pldmFree 0x80
    else ((s.hif.fwDone.foldl State.fwActivate s).endUpdate).out (.activated (s.hif.fwDone.contains 1)))

/-- CANCEL_UPDATE (R316). -/
def execCancelUpdate (s : State) : Res :=
  .next (if s.f Reg.HIF_FW_STATUS_AGENT = 0 then s.pldmFree 0x80
    else (s.hif.fwDone.foldl (fun s c => s.fwEvent c 4 0) s).endUpdate)

/-- UPDATE_AGENT_TIMEOUT (R316): the agent has sent nothing for 120 s. -/
def execUpdateAgentTimeout (s : State) : Res :=
  .next (if s.f Reg.HIF_FW_STATUS_AGENT ≠ 0 ∧ (¬ s.released ∨ s.hif.fwAt + 120000000 ≤ s.beatN) then s.endUpdate else s)

end Sys2Proof.Machine
end

