-- ==== Sys2Proof/Machine/Letters.lean ====
section
/-! DEFINITION. Letters on arrival, replies, the gate enable, circulars at their effect beat, and envelope commits
(chapters 2 and 4). -/

namespace Sys2Proof.Machine

open Sys2Proof.Bits

/-! ### Engine windows (R431) -/

/-- The publication record last written by a commit (Table 7-1), in force or not. -/
def State.pubRecordLast (s : State) : Bytes := s.bud.last

/-- A byte of the publication window (Table 7-1). -/
def State.pubByte (s : State) (i : Nat) : Byte :=
  let ack := toLe 4 (s.f Reg.BUD_ACK_SEQ_SEQ)
  if i < 0x1040 then byteAt s.pubRecordLast i
  else if 0x2000 ≤ i ∧ i < 0x2020 then byteAt s.bud.mask (i - 0x2000)
  else if 0x3000 ≤ i ∧ i < 0x3008 then byteAt ack (i - 0x3000)
  else if 0x3008 ≤ i ∧ i < 0x3010 then byteAt (toLe 4 (s.f Reg.BUD_PUB_SEQ_SEQ) ++ ack) (i - 0x3008)
  else 0

/-- What a GET of n bytes at an engine window returns (R176, R191, R202, R233, R262, Table 7-1). -/
def State.windowBytes (s : State) (t : Target) (n : Nat) : Bytes :=
  match t with
  | .setpoint k off => ((fit (s.loop k).app 64).drop off).take n
  | .loopStatus k off =>
    (((List.range 4).flatMap fun i => s.rdBytes (0x700800 + 4 * (k + i)) 1 ++ s.rdBytes (0x701000 + 4 * (k + i)) 1 ++
      s.rdBytes (0x701800 + 4 * (k + i)) 1 ++ zeros 4).drop off).take n
  | .actuator b off => ((fit (actClean (s.board b).applied) 64).drop off).take n
  | .balance c off => (((List.range (n / 4 + 2)).flatMap fun i => toLe 4 (s.cmu (c + i)).bal).drop off).take n
  | .estimate off => estRead s.ldg.ests off n
  | .publication off => (List.range n).map fun i => s.pubByte (off + i)
  | _ => zeros n

/-- A host submission queue's number (R301). -/
def isQueue : Sender → Bool
  | .unit n => decide (0x500 ≤ n.toNat ∧ n.toNat < 0x540)
  | .cell _ => false

/-- A PUT at an engine window (R53, R176, R202, R233, R262, R263, Table 7-1). -/
def State.windowPut (s : State) (t : Target) (l : Letter) : State :=
  match t with
  | .setpoint k off => (s.windowIn k (s.now + 1) [(off, l.data)]).reply l 0
  | .actuator _ _ => s.reply l (if l.hdr.sender = postmaster then 0 else 0x0020)
  | .balance c off => (if off = 0 ∧ l.len = 4 then s.setBal c (le l.data 0 4) else s).reply l 0
  | .request _ => s.ledgerArrive l
  | .estimate _ => s.ledgerArrive l
  | .publication off =>
    (if off = 0x3000 ∧ l.len = 8 ∧ isQueue l.hdr.sender then s.budgetAck l.data else s).reply l 0
  | _ => s.reply l 0

/-- A letter at an engine window (R431): atomics name nothing there. -/
def State.windowLetter (s : State) (l : Letter) : State :=
  let t := target l.hdr.addr.toNat
  if l.op = .put then s.windowPut t l
  else match t with
    | .request _ => s.ledgerArrive l
    | .estimate _ => s.ledgerArrive l
    | _ => if l.op = .get then s.reply l 0 (s.windowBytes t l.len) else s.notReady l

/-! ### Arrival (R46 to R52) -/

/-- A letter is well formed (R46, R47): others are never sent. -/
def letterOk (op : LOp) (a len : Nat) : Bool :=
  if LOp.atomic op then (decide (len = 4 ∨ len = 8)) && decide (a % len = 0)
  else decide (1 ≤ len ∧ len ≤ 64 ∧ a % 64 + len ≤ 64)

/-- A letter reaches its target; an arrival out of the order of R45 and R49 is none (log entry 7). -/
def State.letterIn (s : State) (l : Letter) (ecc : Ecc) : State :=
  if s.mustWait l.op l.hdr then s
  else
    let s := s.unflight l.op l.hdr
    match target l.hdr.addr.toNat with
    | .dram p o => if s.retrains p o l.len then s.chanWait (.letter l ecc) else s.arriveLetter l ecc
    | t => if t.isWindow then s.windowLetter l else s.arriveLetter l ecc

/-- A letter as a command brings it. -/
def State.letterCmd (s : State) (op : LOp) (h : Hdr) (len : Nat) (d : Bytes) (ecc : Ecc) : State :=
  if letterOk op h.addr.toNat len then s.letterIn { op := op, hdr := h, len := len, data := d } ecc else s

/-- The target whose telemetry record a PUT of 32 bytes writes (R134). -/
def State.telemTarget (s : State) (a len : Nat) : Option Nat :=
  let b := s.grd.telemAddr
  if b ≠ 0 ∧ len = 32 ∧ b ≤ a ∧ a < b + 8192 ∧ (a - b) % 32 = 0 then some ((a - b) / 32) else none

/-- PUT (R48): a step telemetry record is also taken by grid control, or ignored and counted where it is malformed. -/
def execPut (h : Hdr) (data : Bytes) (s : State) : Res :=
  let a := h.addr.toNat
  let t := target a
  let there := !(match t.part? with | some p => s.held p | none => false) && !s.namesNothing t h.sender
  .next (match s.telemTarget a data.length with
    | some i =>
      if ¬ there ∨ s.mustWait .put h then s.letterCmd .put h data.length data .clean
      else if telemBad i data then
        ((s.unflight .put h).bump Reg.GRD_TELEM_STALE_CNT).reply { op := .put, hdr := h, len := 32, data := data } 0
      else (s.letterCmd .put h data.length data .clean).telemNote i data
    | none => s.letterCmd .put h data.length data .clean)

/-- GET (R46). -/
def execGet (h : Hdr) (len : Nat) (ecc : Ecc) (s : State) : Res := .next (s.letterCmd .get h len [] ecc)

/-- The width of an atomic. -/
def widthOf (wide : Bool) : Nat := if wide then 8 else 4

/-- ADD, SWAP, MAX and MIN with their operand (R46). -/
def State.atomicCmd (s : State) (op : LOp) (h : Hdr) (wide : Bool) (v : BitVec 64) (ecc : Ecc) : State :=
  s.letterCmd op h (widthOf wide) (toLe (widthOf wide) v.toNat) ecc

def execAddLetter (h : Hdr) (wide : Bool) (v : BitVec 64) (ecc : Ecc) (s : State) : Res := .next (s.atomicCmd .add h wide v ecc)
def execSwap (h : Hdr) (wide : Bool) (v : BitVec 64) (ecc : Ecc) (s : State) : Res := .next (s.atomicCmd .swap h wide v ecc)
def execMaxLetter (h : Hdr) (wide : Bool) (v : BitVec 64) (ecc : Ecc) (s : State) : Res := .next (s.atomicCmd .max h wide v ecc)
def execMinLetter (h : Hdr) (wide : Bool) (v : BitVec 64) (ecc : Ecc) (s : State) : Res := .next (s.atomicCmd .min h wide v ecc)

/-- CAS (R46): the compare value, then the new one. -/
def execCas (h : Hdr) (wide : Bool) (cmp new : BitVec 64) (ecc : Ecc) (s : State) : Res :=
  let w := widthOf wide
  .next (s.letterCmd .cas h w (toLe w cmp.toNat ++ toLe w new.toNat) ecc)

/-- The completion word (R50). -/
def completionWord (r : Reply) : Nat := r.status + 65536 * LOp.code r.op + 1048576 * r.tag.toNat

/-- REPLY_ARRIVAL (R50, R52): the data part, then the completion word, of the oldest reply on its way. -/
def execReplyArrival (s : State) : Res :=
  .next (match s.replies with
    | [] => s
    | r :: rest =>
      let s : State := { s with replies := rest }
      match r.dest with
      | .none => s
      | .cell k dOff sOff =>
        let n := cellNo k
        let s := s.setCell n { s.cell n with outst := (s.cell n).outst - 1 }
        let s := if r.data = [] then s else s.replyPart n dOff.toNat r.data
        s.replyPart n sOff.toNat (toLe 4 (completionWord r))
      | .host _ id => s.hostReply id r.status r.data)

/-! ### The gate enable (R61, R63) -/

/-- A write of FAB_GATE_CTL: IDLE_BEATS is staged, GATE_EN acts at once. -/
def State.gateCtl (s : State) (v : Word) : State :=
  let s := s.wr 0x200010 (v &&& 0x0001FFFF#32)
  if s.f Reg.FAB_GATE_CTL_GATE_EN = 0 then s.wakeAll s.gatedClusters else s

/-! ### Circulars (R57) -/

/-- A circular is presented to a cluster's router. -/
def State.presentTo (s : State) (k : Circ) (c : Nat) : State :=
  let s := s.setCl c { s.cl c with circ := some k }
  if s.cstate c = 2 then s.landCirc c k
  else if s.cstate c = 3 then s
  else s.setCl c { s.cl c with landing := (s.cl c).landing ++ [k] }

/-- The cluster sequencer image of the Postmaster firmware in force (R344). -/
def State.seqImage (s : State) : Bytes := Config.sequencerImage ((s.bankImage 0).drop 3488)

/-- At the effect beat of a FIRMWARE circular every router of an available partition writes the image to its cluster's sequencer
store and hashes it (R344). -/
def State.loadSequencers (s : State) : State :=
  let d := digest s.seqImage
  (List.range 640).foldl (fun s c =>
    if s.deadClusters.contains c ∨ ¬ bit (s.f Reg.BUP_PART_AVAIL_AVAIL) (c / 20) then s else s.setCl c { s.cl c with image := d }) s

/-- The first circular in the order of effect beats is presented at its own. -/
def State.present (s : State) : State :=
  match s.circs with
  | [] => s
  | k :: rest =>
    if s.beatN < k.effect then s
    else
      let s : State := { s with circs := rest }
      let s := (List.range 640).foldl (fun s c => s.presentTo k c) s
      match k.type with
      | 1 =>
        let cur := match s.cnt.cur with | some (n, e, _) => some (n, e, true) | none => none
        { s with cnt := { s.cnt with cur := cur } }
      | 2 => s.peerDown (k.src % 32)
      | 3 => s.peerUp (k.src % 32)
      | 4 => s.loadSequencers
      | _ => s

/-- CIRCULAR_PRESENT (R57). -/
def execCircularPresent (s : State) : Res := .next s.present

/-! ### Commits (R98 to R100) -/

/-- A committed letter at a memory whose cluster runs; the others join the head of their router's queue. -/
def State.commitRunning (s : State) (l : Letter) : State :=
  let t := target l.hdr.addr.toNat
  let gone := (match t.part? with | some p => s.held p | none => false) || s.namesNothing t l.hdr.sender
  if t.isWindow || gone then s
  else match t.cluster? with
    | some c => if s.cstate c = 2 then s.applyLetter l .clean else s
    | none => s

/-- Committed letters for a cluster that sleeps join the head of its queue, beyond 64 too: their hold store has held them (R98; the
spec gives that case no limit: log entry 66). -/
def State.commitGated (s : State) (l : Letter) : State :=
  let t := target l.hdr.addr.toNat
  let gone := (match t.part? with | some p => s.held p | none => false) || s.namesNothing t l.hdr.sender
  if t.isWindow || gone then s
  else match t.cluster? with
    | some c =>
      if s.cstate c = 0 ∨ s.cstate c = 1 then
        let hit := s.hits l
        let q := (s.cl c).queue
        let s := s.setCl c { s.cl c with queue := (l, .clean) :: q }
        if hit || decide (q.length + 1 ≥ 64) then s.startWake c else s
      else s
    | none => s

/-- The loops whose setpoint windows a list of letters writes. -/
def loopsOf (ls : List Letter) : List Nat :=
  (ls.filterMap fun l => match target l.hdr.addr.toNat with | .setpoint k _ => some k | _ => none).eraseDups

/-- A target committed by dispatch for a GRID or STRING loop (R133, R140), where the set that holds it is not rejected (R180); any commit
to a GRID loop counts under R155. taken says whether the set comes into force. -/
def State.commitTarget (s : State) (k : Nat) (parts : List (Nat × Bytes)) (taken : Bool) : State :=
  let L := s.loop k
  let src := (byteAt L.ent 15).toNat
  let takes := taken && touchesSp parts
  let uw := i16 L.latest 0 * (lUnit L.ent : Nat)
  if L.ent = [] then s
  else if src % 16 = 1 then (if takes then s.gridTarget uw else s).dispatched
  else if takes ∧ src % 16 = 2 then s.stringTarget (src / 16 % 8) uw
  else s

/-- The setpoint sets of an envelope: for each loop its letters as one set, in force for samples latched at C (R98). -/
def State.commitSetpoints (s : State) (c : Nat) (ls : List Letter) : State :=
  (loopsOf ls).foldl (fun s k =>
    let parts := setpointParts k ls
    (s.windowSet k (1250 * c) parts).commitTarget k parts (s.takesSet k parts)) s

/-- The publication window's letters of an envelope: the record waits for its boundary, the mask acts (Table 7-1). -/
def State.commitPublication (s : State) (c : Nat) (ls : List Letter) : State :=
  let ps := ls.filterMap fun l => match target l.hdr.addr.toNat with
    | .publication off => some (off, l.data)
    | _ => none
  let recs := ps.filter fun (e : Nat × Bytes) => decide (e.1 < 0x1040)
  let masks := ps.filter fun (e : Nat × Bytes) => decide (0x2000 ≤ e.1 ∧ e.1 < 0x2020)
  let s : State := if recs = [] then s
    else
      let r := recs.foldl (fun b (e : Nat × Bytes) => patch b e.1 e.2) (fit s.pubRecordLast 0x1040)
      { s with bud := { s.bud with pend := s.bud.pend ++ [(c, r)], last := r } }
  if masks = [] then s
  else s.maskCommit (masks.foldl (fun b (e : Nat × Bytes) => patch b (e.1 - 0x2000) e.2) (fit s.bud.mask 32))

/-- Losers to a committed envelope (R100, R103): ENV_LATE at its own deadline, else ENV_CONFLICT naming the winner. -/
def State.conflicts (s : State) (h : Nat) (blocks : List Nat) : State :=
  (s.envs.within 0 2048).foldl (fun s (e : Nat × Env) =>
    let v := s.env (e.1 / 64) (e.1 % 64)
    if (v.st = .open ∨ v.st = .sealed) ∧ v.vec = none ∧ v.blocks.any (blocks.contains ·) then
      if v.deadline ≤ s.beatN then s.abortEnv (e.1 / 64) (e.1 % 64) 0x12
      else s.abortEnv (e.1 / 64) (e.1 % 64) 0x11 h
    else s) s

/-- One envelope of the vector commits (R98, Table 4-3); its memory letters are applied apart. -/
def State.commitOne (s : State) (k : Nat) : State :=
  let p := k / 64
  let sl := k % 64
  let e := s.env p sl
  let h := handleOf p sl e.gen
  let c := e.vec.getD s.beatN
  let s := (s.bump Reg.ENV_COMMIT_CNT).conflicts h e.blocks
  if e.actuator = some true then
    let s := s.startAct { h := h, sets := s.actSets e.held, c := c, env := true }
    s.putEnv p sl { e with st := .actuating, boards := e.boardMask, commitAt := c, held := [], blocks := [], vec := none }
  else
    let s := (s.commitSetpoints c e.held).commitPublication c e.held
    let s := s.outcome e h 0
    s.putEnv p sl { gen := e.gen }

/-- The envelopes set for a boundary that has come, earliest last seal first. -/
def State.committing (s : State) : List Nat :=
  let l := (s.envs.within 0 2048).filter fun (e : Nat × Env) => decide (e.2.st = .sealed) && (match e.2.vec with | some c => decide (c ≤ s.beatN) | none => false)
  let key (e : Nat × Env) : Nat := e.2.sealedAt * 4096 + e.1
  (l.foldl (fun acc (e : Nat × Env) => (acc.filter fun (x : Nat × Env) => decide (key x < key e)) ++ [e]
    ++ (acc.filter fun (x : Nat × Env) => decide (key e ≤ key x))) []).map fun (e : Nat × Env) => e.1

/-- ENV_COMMIT (R98): every hold store applies the committed envelopes' letters, and outcome words are written. -/
def State.envCommit (s : State) : State :=
  let ks := s.committing
  let ls := ks.flatMap fun k => if (s.env (k / 64) (k % 64)).actuator = some true then [] else (s.env (k / 64) (k % 64)).held
  let s := ls.foldl State.commitRunning s
  let s := ls.foldr (fun l s => s.commitGated l) s
  ks.foldl State.commitOne s

/-- ENV_COMMIT (R98). -/
def execEnvCommit (s : State) : Res := .next s.envCommit

end Sys2Proof.Machine
end

