-- ==== Sys2Proof/Machine/Image.lean ====
section
/-! DEFINITION. Manifest images: their form (R114 to R116, Table 5-6 reason 0x01), instruction words (R71, R72) and the
budget check's longest path (R119). -/

namespace Sys2Proof.Machine

open Sys2Proof.Bits

/-! ### Instruction words (R71 to R73) -/

/-- Fields of an instruction word (Table 3-2). -/
def iOp (w : Word) : Nat := fld w 26 6
def iD (w : Word) : BitVec 4 := BitVec.ofNat 4 (fld w 22 4)
def iA (w : Word) : BitVec 4 := BitVec.ofNat 4 (fld w 18 4)
def iB (w : Word) : BitVec 4 := BitVec.ofNat 4 (fld w 14 4)
def iX (w : Word) : Nat := fld w 0 14
def iImm (w : Word) : Nat := fld w 0 16
def iTgt (w : Word) : Nat := fld w 0 8

/-- The format of an opcode (Table 3-3). -/
inductive Fmt where
  | A | I | L | J | W | reserved
deriving DecidableEq, Repr

/-- Table 3-3's format column. -/
def fmtOf (op : Nat) : Fmt :=
  if op ≤ 0x0F ∨ op = 0x1F ∨ (0x28 ≤ op ∧ op ≤ 0x2B) ∨ (0x30 ≤ op ∧ op ≤ 0x39) ∨ op = 0x3C ∨ op = 0x3E then .A
  else if (0x10 ≤ op ∧ op ≤ 0x1E) ∨ op = 0x3B then .I
  else if 0x20 ≤ op ∧ op ≤ 0x26 then .L
  else if op = 0x3A then .J
  else if op = 0x3D then .W
  else .reserved

/-- The X bits that Table 3-4 assigns to a format A opcode. -/
def xMask (op : Nat) : Nat :=
  if op = 0x30 ∨ op = 0x31 ∨ op = 0x38 ∨ op = 0x39 then 7
  else if op = 0x32 ∨ op = 0x33 ∨ op = 0x34 then 1
  else if op = 0x35 ∨ op = 0x36 then 0x1F01
  else if op = 0x1F then 0xF
  else 0

/-- A word that R72 accepts in a program of a length. -/
def wordOk (len : Nat) (w : Word) : Bool :=
  let op := iOp w
  match fmtOf op with
  | .reserved => false
  | .A =>
    decide (iX w &&& (16383 ^^^ xMask op) = 0) &&
    (op != 0x3E || decide (fld w 0 26 = 0)) && (op != 0x1F || decide (iX w < 5)) &&
    (!(decide (0x30 ≤ op ∧ op ≤ 0x34) || decide (op = 0x37)) || decide (iD w = 0))
  | .I =>
    decide (fld w 16 2 = 0) && (op != 0x14 || decide (iA w = 0)) &&
    (!decide (0x15 ≤ op ∧ op ≤ 0x17) || decide (iImm w < 32)) &&
    (op != 0x3B || decide (iA w = 0 ∧ iImm w < 256 ∧ iImm w < len))
  | .L => decide (fld w 22 1 = 0) && (op != 0x20 || decide (fld w 16 1 = 1 ∨ fld w 12 4 = 0))
  | .J => decide (fld w 8 7 = 0 ∧ iTgt w < len)
  | .W => decide (fld w 0 22 ≠ 0)

/-- The instruction that a word spells in a cell (R71 to R73, Tables 3-2 to 3-4); none for a reserved opcode, a set bit that must be 0,
an odd A field of format L or a reserved selector. -/
def instrOf (k : CellId) (w : Word) : Option Instr :=
  let d := iD w
  let a := iA w
  let b := iB w
  let x := iX w
  let imm := BitVec.ofNat 16 (iImm w)
  let n := bit x 0
  let sh5 := BitVec.ofNat 5 x
  let shf := BitVec.ofNat 5 (x / 256)
  let part := BitVec.ofNat 2 (x / 2)
  let l : LFields := { aHalf := BitVec.ofNat 3 (fld w 23 3), b := a, env := decide (fld w 17 1 = 1), reply := decide (fld w 16 1 = 1)
                       c := BitVec.ofNat 4 (fld w 12 4), tag := BitVec.ofNat 12 (fld w 0 12) }
  if ¬ wordOk 256 w then none
  else match iOp w with
    | 0x00 => some (.nop k)
    | 0x01 => some (.add k d a b)
    | 0x02 => some (.sub k d a b)
    | 0x03 => some (.addc k d a b)
    | 0x04 => some (.subb k d a b)
    | 0x05 => some (.and k d a b)
    | 0x06 => some (.or k d a b)
    | 0x07 => some (.xor k d a b)
    | 0x08 => some (.shl k d a b)
    | 0x09 => some (.shr k d a b)
    | 0x0A => some (.sra k d a b)
    | 0x0B => some (.mul k d a b)
    | 0x0C => some (.slt k d a b)
    | 0x0D => some (.sltu k d a b)
    | 0x0E => some (.qadd k d a b)
    | 0x0F => some (.qsub k d a b)
    | 0x10 => some (.addi k d a imm)
    | 0x11 => some (.andi k d a imm)
    | 0x12 => some (.ori k d a imm)
    | 0x13 => some (.xori k d a imm)
    | 0x14 => some (.lui k d imm)
    | 0x15 => some (.shli k d a sh5)
    | 0x16 => some (.shri k d a sh5)
    | 0x17 => some (.srai k d a sh5)
    | 0x18 => some (.ldw k d a imm .clean)
    | 0x19 => some (.ldh k d a imm .clean)
    | 0x1A => some (.ldhu k d a imm .clean)
    | 0x1B => some (.ldb k d a imm .clean)
    | 0x1C => some (.stw k d a imm)
    | 0x1D => some (.sth k d a imm)
    | 0x1E => some (.stb k d a imm)
    | 0x1F => some (.sys k d (BitVec.ofNat 4 x))
    | 0x20 => some (.lput k l)
    | 0x21 => some (.lget k l)
    | 0x22 => some (.ladd k l)
    | 0x23 => some (.lswap k l)
    | 0x24 => some (.lcas k l)
    | 0x25 => some (.lmax k l)
    | 0x26 => some (.lmin k l)
    | 0x28 => some (.envOpen k d a b)
    | 0x29 => some (.envJoin k d a b)
    | 0x2A => some (.envSeal k d)
    | 0x2B => some (.envAbort k d)
    | 0x30 => some (.macq k a b n (bit x 1) (bit x 2))
    | 0x31 => some (.msuq k a b n (bit x 1) (bit x 2))
    | 0x32 => some (.macb8 k a b n)
    | 0x33 => some (.macb4 k a b n)
    | 0x34 => some (.clra k n)
    | 0x35 => some (.extq k d n shf)
    | 0x36 => some (.extb k d n shf)
    | 0x37 => some (.setx k a b)
    | 0x38 => some (.geta k d n part)
    | 0x39 => some (.seta k a n part)
    | 0x3A => some (.br k d a (BitVec.ofNat 3 (fld w 15 3)) (BitVec.ofNat 8 (iTgt w)))
    | 0x3B => some (.jal k d (BitVec.ofNat 8 (iTgt w)))
    | 0x3C => some (.jr k a)
    | 0x3D => some (.wait k d (BitVec.ofNat 8 (fld w 14 8)) (BitVec.ofNat 14 (fld w 0 14)))
    | 0x3E => some (.done k)
    | _ => none

/-- The instruction that a cell's program memory holds at its PC (R37, R71): what the cell executes next (log entry 51). -/
def State.fetch (s : State) (k : CellId) : Option Instr :=
  let n := cellNo k
  instrOf k (BitVec.ofNat 32 (le (s.rdMem (cellAddr n (0x800 + 4 * (s.cell n).pc.toNat)) 4) 0 4))

/-- A BR whose target, or a JAL whose target, is at or below its own index (R119). -/
def backward (i : Nat) (w : Word) : Bool :=
  (decide (iOp w = 0x3A) || decide (iOp w = 0x3B)) && decide (iTgt w ≤ i)

/-- The registers an instruction reads, for the load-use stall of R84. -/
def wordReads (w : Word) : List (BitVec 4) :=
  let op := iOp w
  match fmtOf op with
  | .A =>
    if op = 0 ∨ op = 0x1F ∨ op = 0x2A ∨ op = 0x2B ∨ op = 0x34 ∨ op = 0x35 ∨ op = 0x36 ∨ op = 0x38 ∨ op = 0x3E then []
    else if op = 0x39 ∨ op = 0x3C then [iA w] else [iA w, iB w]
  | .I => if op = 0x14 ∨ op = 0x3B then [] else if 0x1C ≤ op ∧ op ≤ 0x1E then [iA w, iD w] else [iA w]
  | .L => [iD w, iD w + 1, iA w] ++ (if op ≠ 0x20 ∨ fld w 16 1 = 1 then [BitVec.ofNat 4 (fld w 12 4)] else [])
  | .J => if fld w 15 3 < 6 then [iD w, iA w] else []
  | _ => []

/-- The charge of an instruction that does not branch (Table 3-3, R119). -/
def wordCost (w : Word) : Nat :=
  if iOp w = 0x0B then 2 else if iOp w = 0x28 then 128 else if iOp w = 0x29 then 512 else 1

/-! ### The longest path (R119) -/

/-- A place on a path: the PC, the register just loaded, the cycles until each accumulator is ready, and the times each
bounded transfer has been taken, by index. -/
structure Place where
  pc : Nat
  load : BitVec 4 := 0
  r0 : Nat := 0
  r1 : Nat := 0
  taken : Tab Nat := []
deriving DecidableEq, Repr

/-- The bound of a transfer: the smallest KIND 0 value at its index. -/
def boundOf (bs : List BoundDef) (img i : Nat) : Nat :=
  match (bs.filter fun b => decide (b.img = img ∧ b.idx = i ∧ b.kind = 0)).map fun b => b.value with
  | [] => 0
  | v :: r => r.foldl min v

/-- The steps from a place: the charge of its instruction, and the next place, or none after DONE. A place outside the
program or at a word that is no instruction ends its path. -/
def placeSteps (ws : List Word) (bs : List BoundDef) (img : Nat) (q : Place) : List (Nat × Option Place) :=
  match ws[q.pc]? with
  | none => []
  | some w =>
    let op := iOp w
    let accN := fld w 0 1
    let load := if q.load ≠ 0 ∧ (wordReads w).contains q.load then 1 else 0
    let ready := if op = 0x35 ∨ op = 0x36 ∨ op = 0x38 then (if accN = 0 then q.r0 else q.r1) else 0
    let stall := max load ready
    let go (pc cost : Nat) (taken : Tab Nat) : Nat × Option Place :=
      let t := stall + cost
      let writes := decide (0x30 ≤ op ∧ op ≤ 0x34) || decide (op = 0x39)
      let r0 := if writes ∧ accN = 0 then 3 - cost else q.r0 - t
      let r1 := if writes ∧ accN = 1 then 3 - cost else q.r1 - t
      (t, some { pc := pc, load := if 0x18 ≤ op ∧ op ≤ 0x1B then iD w else 0, r0 := r0, r1 := r1, taken := taken })
    let n := q.taken.get q.pc 0
    let again : List (Nat × Option Place) :=
      if backward q.pc w then (if n < boundOf bs img q.pc then [go (iTgt w) 2 (q.taken.put q.pc (n + 1) 0)] else [])
      else [go (iTgt w) 2 q.taken]
    if fmtOf op = .reserved then []
    else if op = 0x3E then [(stall + 1, none)]
    else if op = 0x3A then go (q.pc + 1) 1 q.taken :: again
    else if op = 0x3B then again
    else if op = 0x3C then
      (bs.filter fun b => decide (b.img = img ∧ b.idx = q.pc ∧ b.kind = 1)).map fun b => go b.value 2 q.taken
    else [go (q.pc + 1) (wordCost w) q.taken]

/-- A place joins a frontier with the larger of the costs of reaching it. -/
def joinPlace : List (Place × Nat) → Place → Nat → List (Place × Nat)
  | [], q, c => [(q, c)]
  | (q', c') :: r, q, c => if q' = q then (q', max c' c) :: r else (q', c') :: joinPlace r q c

/-- The larger of two costs of paths to a DONE. -/
def maxCost : Option Nat → Nat → Option Nat
  | none, c => some c
  | some a, c => some (max a c)

/-- One step of every path of a frontier: the next frontier, and the largest cost of a path that has reached a DONE. -/
def sweepStep (ws : List Word) (bs : List BoundDef) (img : Nat) (fr : List (Place × Nat)) (best : Option Nat) :
    List (Place × Nat) × Option Nat :=
  fr.foldl (fun acc e =>
    (placeSteps ws bs img e.1).foldl (fun acc st => match st.2 with
      | none => (acc.1, maxCost acc.2 (e.2 + st.1))
      | some q => (joinPlace acc.1 q (e.2 + st.1), acc.2)) acc) ([], best)

/-- The largest cost of a path to a DONE of at most n instructions; the search ends once a path costs more than the
budget. -/
def longest (ws : List Word) (bs : List BoundDef) (img budget : Nat) :
    Nat → List (Place × Nat) → Option Nat → Option Nat
  | 0, _, best => best
  | n + 1, fr, best =>
    if fr.isEmpty || (match best with | some v => decide (budget < v) | none => false) then best
    else
      let r := sweepStep ws bs img fr best
      longest ws bs img budget n r.1 r.2

/-- More instructions than a path of cost at most the budget, and then to its nearest DONE, can hold. -/
def pathFuel (ws : List Word) (bs : List BoundDef) (img budget : Nat) : Nat :=
  budget + 2 + 256 * ws.length * ((List.range ws.length).foldl (fun m i => m * (boundOf bs img i + 1)) 1)

/-- Reason 0x13: no DONE is reachable from the entry, or some path to a DONE costs more than the budget (R119). -/
def pathBad (ws : List Word) (bs : List BoundDef) (img entry budget : Nat) : Bool :=
  match longest ws bs img budget (pathFuel ws bs img budget) [({ pc := entry }, 0)] none with
  | none => true
  | some v => decide (budget < v)

/-! ### The form of an image (R114 to R116) -/

/-- The refusals of Table 5-6 by reason. -/
def refuse (reason sect entry : Nat) : Refuse :=
  { status := if reason < 0x10 then 0x21 else if reason < 0x20 then 0x22 else 0x31
    reason := reason, sect := sect, entry := min entry 65535 }

/-- Length rounded up to 16 bytes. -/
def pad16 (n : Nat) : Nat := (n + 15) / 16 * 16

/-- The bytes an entry takes in its section, from its first 16 bytes (Tables 5-4, 5-5 and the owning chapters). -/
def entrySpan (t : Nat) (b : Bytes) : Nat :=
  match t with
  | 1 => 32
  | 2 => pad16 (16 + 4 * le b 2 2)
  | 3 => 8
  | 4 => pad16 (16 + le b 8 4)
  | 5 => 8
  | 6 => 16
  | 7 => 8
  | 8 => 16
  | 9 => 80
  | 10 => 128
  | 11 => 64
  | 12 => 48
  | 13 => 48
  | _ => 16

/-- The least bytes an entry takes. -/
def entryHead (t : Nat) : Nat := if t = 2 ∨ t = 4 then 16 else entrySpan t []

/-- Some byte of a range is not zero. -/
def dirty (b : Bytes) (i n : Nat) : Bool := ((b.drop i).take n).any fun x => x != 0

/-- The RECEIVER of a ROUTES entry is not an address with offset 0 (Table 5-5). An address of nothing, or of DRAM, is left to R43. -/
def receiverDirty (r : Nat) : Bool :=
  match target r with
  | .nothing | .dram .. => false
  | .cell .. | .shared .. | .cellCtl .. | .clCtl .. => decide (aOff r ≠ 0)
  | _ => decide (receiverOf r ≠ r)

/-- An entry of a section of this chapter with a reserved byte or bit set, or a field out of the range its table states
that no later reason names. -/
def entryDirty (t : Nat) (b : Bytes) : Bool :=
  match t with
  | 1 => dirty b 3 1 || dirty b 24 8 || decide ((byteAt b 2).toNat ≥ 16)
  | 2 => dirty b 4 12 || dirty b (16 + 4 * le b 2 2) 16
  | 3 => dirty b 7 1
  | 4 => dirty b 1 1 || dirty b 12 4 || dirty b (16 + le b 8 4) 16 || decide ((byteAt b 0).toNat > 1) ||
      decide ((if byteAt b 0 = 0 then 10240 else 20) ≤ le b 2 2)
  | 5 => dirty b 3 1
  | 6 => dirty b 11 5 || receiverDirty (le b 4 6)
  | 7 => decide ((byteAt b 3).toNat > 1)
  | 8 => dirty b 6 2 || dirty b 12 4
  | 9 => decide (le b 0 8 % 256 ≠ 0)
  | _ => false

/-- n entries of a section, from index i; the refusal names the first that does not fit or is malformed. Zero bytes after the counted
entries are accepted, others refused as FORMAT (the spec does not say: DESIGN CHOICE, log entry 67). -/
def splitEntries (t : Nat) : Nat → Nat → Bytes → Except Refuse (List Bytes)
  | 0, i, b => if dirty b 0 b.length then .error (refuse 1 t i) else .ok []
  | n + 1, i, b =>
    let k := entrySpan t b
    if b.length < entryHead t ∨ b.length < k then .error (refuse 1 t i)
    else
      let e := b.take k
      if entryDirty t e then .error (refuse 1 t i)
      else match splitEntries t n (i + 1) (b.drop k) with
        | .error r => .error r
        | .ok es => .ok (e :: es)

/-- A section: its type and entries. -/
abbrev Sect := Nat × List Bytes

/-- n sections in ascending order of type, all of their bytes used; last is the type before. Bytes missing or left over are reported as
TYPE 0xFFFF, entry 0 (the spec names no section for them: DESIGN CHOICE, log entry 67). -/
def splitSections : Nat → Nat → Bytes → Except Refuse (List Sect)
  | 0, _, b => if b = [] then .ok [] else .error (refuse 1 0xFFFF 0)
  | n + 1, last, b =>
    let t := le b 0 2
    let len := le b 4 4
    if b.length < 16 then .error (refuse 1 0xFFFF 0)
    else if t = 0 ∨ 14 < t ∨ t ≤ last ∨ le b 2 2 ≠ 1 ∨ len < 16 ∨ len % 16 ≠ 0 ∨ b.length < len ∨ dirty b 12 4 then
      .error (refuse 1 t 0)
    else match splitEntries t (le b 8 4) 0 ((b.take len).drop 16) with
      | .error r => .error r
      | .ok es => match splitSections n t (b.drop len) with
        | .error r => .error r
        | .ok r => .ok ((t, es) :: r)

/-- The header is in range (Table 5-1). -/
def headerOk (p : Nat) (b : Bytes) : Bool :=
  decide (le b 0 4 = 0x464D4E57 ∧ le b 4 2 = 1 ∧ le b 6 2 = 64 ∧ le b 8 4 % 16 = 0 ∧ 1616 ≤ le b 8 4 ∧ le b 8 4 ≤ 134217728 ∧
    (byteAt b 12).toNat = p ∧ (byteAt b 13).toNat ≤ 1 ∧ le b 14 2 ≤ 14 ∧ le b 16 4 ≤ 63) && !dirty b 20 4

/-- The signature block is in form (R115). -/
def sigBlockOk (b : Bytes) : Bool :=
  decide (le b 0 2 = 0xFFFF ∧ le b 2 2 = 1 ∧ le b 4 4 = 1552) && !dirty b 10 6

/-- The entries of a section. -/
def entriesOf (ss : List Sect) (t : Nat) : List Bytes :=
  match ss.find? fun s => decide (s.1 = t) with
  | some s => s.2
  | none => []

/-- The instruction words of n × 4 bytes. -/
def wordsOf (b : Bytes) : Nat → List Word
  | 0 => []
  | n + 1 => BitVec.ofNat 32 (le b 0 4) :: wordsOf (b.drop 4) n

/-- The manifest that the sections of an image spell. -/
def manOfSections (half : Bool) (p : Nat) (hdr : Bytes) (dig : Bytes) (ss : List Sect) : Man :=
  { half := half, part := p, shelf := decide ((byteAt hdr 13).toNat = 1), svn := le hdr 16 4, build := le hdr 24 8
    owner := (hdr.drop 32).take 32, digest := dig, sects := ss.map fun s => s.1
    progs := (entriesOf ss 1).map fun b =>
      let fl := (byteAt b 2).toNat
      { prog := le b 0 2, crit := bit fl 0, cls := fl / 2 % 4, peerPause := bit fl 3, period := le b 4 4
        offset := le b 8 4, deadline := le b 12 4, budget := le b 16 4, depends := le b 20 4 }
    imgs := (entriesOf ss 2).map fun b => (le b 0 2, wordsOf (b.drop 16) (le b 2 2))
    cells := (entriesOf ss 3).map fun b => { cell := le b 0 2, prog := le b 2 2, img := le b 4 2, entry := (byteAt b 6).toNat }
    data := (entriesOf ss 4).map fun b =>
      { space := (byteAt b 0).toNat, unit := le b 2 2, off := le b 4 4, bytes := (b.drop 16).take (le b 8 4) }
    slots := (entriesOf ss 5).map fun b => { cell := le b 0 2, word := (byteAt b 2).toNat, value := BitVec.ofNat 32 (le b 4 4) }
    routes := (entriesOf ss 6).map fun b => { sender := le b 0 4, receiver := le b 4 6, rate := (byteAt b 10).toNat }
    bounds := (entriesOf ss 7).map fun b =>
      { img := le b 0 2, idx := (byteAt b 2).toNat, kind := (byteAt b 3).toNat, value := le b 4 4 }
    owns := (entriesOf ss 8).map fun b => (le b 0 6, le b 8 4)
    digests := (entriesOf ss 9).map fun b => { off := le b 0 8, len := le b 8 8, digest := (b.drop 16).take 64 }
    loops := entriesOf ss 10, stage := entriesOf ss 11, monitor := entriesOf ss 12, throttle := entriesOf ss 13
    orphan := entriesOf ss 14 }

/-- Reason 0x01: the manifest of an image, with its signature block, or the refusal. -/
def parseImage (half : Bool) (p : Nat) (hdr : Bytes) (img : Bytes) : Except Refuse (Man × Bytes) :=
  if ¬ headerOk p hdr then .error (refuse 1 0 0)
  else
    let n := img.length - 1552
    match splitSections (le hdr 14 2) 0 ((img.take n).drop 64) with
    | .error r => .error r
    | .ok ss =>
      if sigBlockOk (img.drop n) then .ok (manOfSections half p hdr (digest (img.take n)) ss, img.drop n)
      else .error (refuse 1 0xFFFF 0)

end Sys2Proof.Machine
end

