-- ==== Sys2Proof/Machine/Check.lean ====
section
/-! DEFINITION. The checks of Table 5-6 after the form of the image: reasons 0x02 to 0x29 (R43, R54, R60, R72, R118, R119,
R167, R172, R178, R201, R221). -/

namespace Sys2Proof.Machine

open Sys2Proof.Bits

/-- The index of the first entry with a fault, at or after i. -/
def firstBad {α : Type} (f : Nat → α → Bool) : Nat → List α → Option Nat
  | _, [] => none
  | i, e :: es => if f i e then some i else firstBad f (i + 1) es

/-- A check over the entries of a section. -/
def checkAll {α : Type} (reason sect : Nat) (es : List α) (f : Nat → α → Bool) : Option Refuse :=
  (firstBad f 0 es).map fun i => refuse reason sect i

/-- A check that names entry 0. -/
def checkOne (reason sect : Nat) (bad : Bool) : Option Refuse := if bad then some (refuse reason sect 0) else none

/-- The first check of a list that fails. -/
def firstFault (cs : List (Unit → Option Refuse)) : Option Refuse := cs.findSome? fun c => c ()

/-- Ranges from a to below a + n overlap. -/
def meets (a n b k : Nat) : Bool := decide (a < b + k ∧ b < a + n)

/-! ### Reasons 0x02 to 0x05 -/

/-- The owner slot that is enrolled, not revoked, and whose identifier the header names (R326). -/
def State.ownerSlot (s : State) (m : Man) : Option Nat :=
  (List.range 4).find? fun i => s.ownerLive i && decide (s.rdBytes (0xE02000 + 32 * i) 8 = m.owner)

/-- The signature of R115 verifies under the owner key. -/
def State.manSigOk (s : State) (m : Man) (blk : Bytes) : Bool :=
  match s.ownerSlot m with
  | some i => sigOk (s.sec.owners.get i []) m.digest (le blk 8 2) ((blk.drop 16).take 1536)
  | none => false

/-- A DRAM_DIGEST region is out of place or its digest differs. -/
def State.regionBad (s : State) (p : Nat) (m : Man) (i : Nat) (d : DigestDef) : Bool :=
  decide (0x1F0000000 < d.off + d.len) ||
  (decide (p ≤ 1) && meets d.off d.len 0x100000000 0xA0000000) ||
  (firstBad (fun j (e : DigestDef) => j != i && meets d.off d.len e.off e.len) 0 m.digests).isSome ||
  decide (digest (s.rdMem (dramAddr p d.off) d.len) ≠ d.digest)

/-! ### Reasons 0x10 to 0x14 -/

/-- Reason 0x10. -/
def sizeFault (m : Man) : Option Refuse :=
  firstFault [
    fun _ => if 1024 < m.progs.length then some (refuse 0x10 1 1024) else none,
    fun _ => checkAll 0x10 1 m.progs fun i d => decide (1023 < d.prog) || (m.progs.take i).any fun e => decide (e.prog = d.prog),
    fun _ => checkAll 0x10 2 m.imgs fun _ e => decide (e.2.length = 0 ∨ 256 < e.2.length),
    fun _ => checkAll 0x10 4 m.data fun _ d =>
      if d.space = 0 then decide (0x800 < d.off + d.bytes.length)
      else decide (0x40000 < d.off + d.bytes.length),
    fun _ => checkAll 0x10 5 m.slots fun _ d =>
      decide (d.word < 8 ∧ 0x800 < slotAddr d.value + slotLen d.value ∨ d.word = 8 ∧ 0x800 < slotAddr d.value + 16)]

/-- Reason 0x11. -/
def scheduleFault (m : Man) : Option Refuse :=
  checkAll 0x11 1 m.progs fun _ d =>
    decide (d.period = 0 ∨ 1000000 < d.period ∨ d.period ≤ d.offset ∨ d.deadline = 0 ∨ d.period < d.deadline ∨ (d.crit ∧ d.cls ≠ 0))

/-- A word at index j of image g without the bound or target it needs (R119). -/
def unboundedAt (m : Man) (g j : Nat) (w : Word) : Bool :=
  let has (k : Nat) : Bool := m.bounds.any fun b => decide (b.img = g ∧ b.idx = j ∧ b.kind = k)
  (backward j w && !has 0) || (decide (iOp w = 0x3C) && !has 1)

/-- Reason 0x12. -/
def unboundedFault (m : Man) : Option Refuse :=
  checkAll 0x12 2 m.imgs fun _ e => (firstBad (fun j w => unboundedAt m e.1 j w) 0 e.2).isSome

/-- An image of a manifest. -/
def Man.img? (m : Man) (g : Nat) : Option (List Word) := (m.imgs.find? fun e => decide (e.1 = g)).map fun e => e.2

/-- Reason 0x13; entries that a later reason names are passed over. -/
def pathFault (m : Man) : Option Refuse :=
  checkAll 0x13 3 m.cells fun _ d => match m.prog? d.prog, m.img? d.img with
    | some pd, some ws => decide (d.entry < ws.length) && pathBad ws m.bounds d.img d.entry pd.budget
    | _, _ => false

/-- Reason 0x14. -/
def deadlineFault (m : Man) : Option Refuse := checkAll 0x14 1 m.progs fun _ d => decide (1250 * d.deadline < d.budget)

/-! ### Reasons 0x20 to 0x23 -/

/-- Reason 0x20 (R72). -/
def programFault (m : Man) : Option Refuse :=
  firstFault [
    fun _ => checkAll 0x20 2 m.imgs fun i e =>
      decide (e.1 = 0xFFFF) || ((m.imgs.take i).any fun o => decide (o.1 = e.1)) || !e.2.all (wordOk e.2.length),
    fun _ => checkAll 0x20 3 m.cells fun _ d => match m.img? d.img with
      | some ws => decide (ws.length ≤ d.entry)
      | none => false]

/-- Reason 0x21. -/
def State.cellFaultOf (s : State) (p : Nat) (m : Man) : Option Refuse :=
  checkAll 0x21 3 m.cells fun i d =>
    decide (10239 < d.cell) || ((m.cells.take i).any fun e => decide (e.cell = d.cell)) ||
    s.deadCells.contains (10240 * p + d.cell) || s.deadClusters.contains (20 * p + d.cell / 512) ||
    (m.prog? d.prog).isNone || (m.img? d.img).isNone

/-- A CELLS entry's program is control-critical. -/
def Man.critCell (m : Man) (d : CellDef) : Bool := match m.prog? d.prog with | some pd => pd.crit | none => false

/-- The clusters of a partition that a manifest pins (R60). -/
def Man.pins (m : Man) : List Nat := (m.cells.filter m.critCell).map fun d => d.cell / 512

/-- Reason 0x22. -/
def pinningFault (m : Man) : Option Refuse :=
  checkAll 0x22 3 m.cells fun i d =>
    (m.cells.take i).any fun e => decide (e.cell / 512 = d.cell / 512) && (m.critCell e != m.critCell d)

/-- A SLOTS value that breaks Table 2-4 or R54. -/
def slotBad (d : SlotDef) : Bool :=
  decide (10239 < d.cell ∨ 8 < d.word) ||
  (if d.word = 8 then decide (slotAddr d.value % 16 ≠ 0) || decide (d.value &&& 0xFFFF7800#32 ≠ 0)
   else decide (slotAddr d.value % 4 ≠ 0 ∨ fld d.value 16 16 ≠ 0 ∨
     slotAddr d.value / 64 ≠ (slotAddr d.value + slotLen d.value - 1) / 64))

/-- Reason 0x23. -/
def slotFault (m : Man) : Option Refuse := checkAll 0x23 5 m.slots fun _ d => slotBad d

/-! ### Reasons 0x24 to 0x28: the manifests loaded in other partitions -/

/-- The manifest that counts as loaded in a partition for the cross-partition checks (R118, R122): from its decision, the one
being swapped in. -/
def Part.effective (v : Part) : Option Man :=
  if v.swapAt.isSome ∨ v.wroteAt.isSome then (if v.unload then none else v.cand) else v.man

/-- The manifests loaded in other partitions. -/
def State.others (s : State) (p : Nat) : List Man :=
  s.parts.filterMap fun e => if e.1 = p then none else e.2.effective

/-- Positions passed from one to another, both included. -/
def walk (a b : Nat) : List Nat :=
  if a ≤ b then (List.range (b - a + 1)).map (a + ·) else (List.range (a - b + 1)).map (a - ·)

/-- The router a sender identity injects at (R39, R175). -/
def senderRouter (i : Nat) : Nat × Nat :=
  if i / 1073741824 = 1 then ((i % 65536 - 0x100) / 2, if i % 2 = 1 then 19 else 0) else (i / 16384 % 32, i / 512 % 32)

/-- The links of a route (R40, R43): the cluster dimension first, then partitions. Routers are numbered 20p + c; injection
and ejection links are pairs with 1,000 and 2,000 more. -/
def linksOf (r : RouteDef) : List (Nat × Nat) :=
  let a := senderRouter r.sender
  let pt := aPart r.receiver
  let ct := aCluster r.receiver
  let nodes := ((walk a.2 ct).map fun c => 20 * a.1 + c) ++ ((walk a.1 pt).drop 1).map fun p => 20 * p + ct
  (if r.sender / 1073741824 = 0 then [(20 * a.1 + a.2, 20 * a.1 + a.2 + 1000)] else []) ++ nodes.zip (nodes.drop 1) ++
  (if (target r.receiver).isWindow then [] else [(20 * pt + ct, 20 * pt + ct + 2000)])

/-- Flit slots reserved on a link by routes. -/
def share (rs : List RouteDef) (l : Nat × Nat) : Nat :=
  ((rs.filter fun r => (linksOf r).contains l).map fun r => r.rate).sum

/-- The engines that LOOP_BIND binds. -/
def Man.engines (m : Man) : List Nat := m.loops.map fun b => (byteAt b 0).toNat

/-- The sender of a route is a cell of p or an engine bound in LOOP_BIND. -/
def senderOk (p : Nat) (m : Man) (i : Nat) : Bool :=
  if i / 1073741824 = 0 then decide (i / 524288 = 0 ∧ i / 16384 % 32 = p ∧ i / 512 % 32 < 20)
  else decide (i / 65536 = 16384) && m.engines.any fun e => decide (i % 65536 = 0x100 + e)

/-- The receiver of a route lies in a pinned cluster, or is an engine window (R43). -/
def receiverOk (all : List Man) (r : Nat) : Bool :=
  let t := target r
  t.isWindow ||
  (match t with
    | .cell n _ => all.any fun o => decide (o.part = partOf n) && o.pins.contains (clusterOf n % 20)
    | .cellCtl n _ => all.any fun o => decide (o.part = partOf n) && o.pins.contains (clusterOf n % 20)
    | .shared c _ => all.any fun o => decide (o.part = c / 20) && o.pins.contains (c % 20)
    | _ => false)

/-- Reason 0x24 (R43). -/
def routeFault (p : Nat) (m : Man) (others : List Man) : Option Refuse :=
  let theirs := others.flatMap fun o => o.routes
  checkAll 0x24 6 m.routes fun i r =>
    decide (r.rate = 0 ∨ 8 < r.rate) || !senderOk p m r.sender || !receiverOk (m :: others) r.receiver ||
    (linksOf r).any fun l => decide (8 < share (theirs ++ m.routes.take (i + 1)) l)

/-- The setpoint window of a bound loop (R176). -/
def boundWindow (b : Bytes) : Nat :=
  let e := (byteAt b 0).toNat
  211106232532992 + e / 2 * 2199023255552 + (if e % 2 = 1 then 19 else 0) * 68719476736 + 0x4800000 + 64 * (byteAt b 1).toNat

/-- A range of less than 4 GiB meets a cell data memory, or a shared memory, of partition p (R117). -/
def meetsCells (p a n : Nat) : Bool :=
  (List.range 34).any fun i =>
    let b := (a / 134217728 + i) * 134217728
    decide (b < 281474976710656 ∧ aSpace b = 0 ∧ aPart b = p ∧ aCluster b < 20) && meets a n b 0x800
def meetsShared (p a n : Nat) : Bool :=
  (List.range 2).any fun i =>
    let b := (a / 68719476736 + i) * 68719476736
    decide (b < 281474976710656 ∧ aSpace b = 1 ∧ aPart b = p ∧ aCluster b < 20) && meets a n b 0x40000

/-- A range meets what a manifest owns implicitly or by OWNERSHIP (R117). -/
def Man.ownsRange (o : Man) (a n : Nat) : Bool :=
  meetsCells o.part a n || meetsShared o.part a n || o.owns.any fun r => meets a n r.1 r.2

/-- Reason 0x25. -/
def ownershipFault (m : Man) (others : List Man) : Option Refuse :=
  firstFault [
    fun _ => checkAll 0x25 8 m.owns fun _ r =>
      decide (r.1 % 64 ≠ 0 ∨ r.2 % 64 ≠ 0 ∨ r.2 = 0) ||
      others.any fun o => o.ownsRange r.1 r.2 || o.loops.any fun b => meets r.1 r.2 (boundWindow b) 64,
    fun _ => checkAll 0x25 10 m.loops fun _ b => others.any fun o => o.ownsRange (boundWindow b) 64]

/-- The engine and loop of an entry. -/
def sameLoop (a b : Bytes) : Bool := decide (a.take 2 = b.take 2)

/-- Reason 0x26. -/
def engineFault (m : Man) (others : List Man) : Option Refuse :=
  checkAll 0x26 10 m.loops fun _ b => others.any fun o => o.loops.any (sameLoop b)

/-- An address lies in a cell data memory of a partition, aligned, with room for n bytes. -/
def inCellData (a p n align : Nat) : Bool :=
  match target a with
  | .cell k off => decide (partOf k = p ∧ off % align = 0 ∧ off + n ≤ 0x800)
  | _ => false

/-- A STAGE_MAP field out of range or a reserved byte or bit set (Table 9-4). -/
def stageFieldBad (b : Bytes) : Bool :=
  decide (23 < (byteAt b 0).toNat ∨ 3 < (byteAt b 1).toNat ∨ (byteAt b 2).toNat / 8 % 16 ≠ 0 ∨ (byteAt b 3).toNat / 8 % 16 ≠ 0 ∨
    le b 4 2 = 0 ∨ le b 6 2 = 0 ∨ 1 < (byteAt b 8).toNat ∨ le b 16 2 = 0 ∨ le b 18 2 = 0 ∨ 1000 < le b 18 2) ||
  dirty b 9 1 || dirty b 26 6

/-- MODE RADIO of a MONITOR_MAP. -/
def radioMap (es : List Bytes) : Bool := es.any fun b => decide (byteAt b 0 = 0 ∧ byteAt b 1 = 1)

/-- A MONITOR_MAP field out of range or a reserved byte set (Table 10-1). -/
def monitorFieldBad (p : Nat) (radio : Bool) (b : Bytes) : Bool :=
  if byteAt b 0 = 0 then
    let ch (i : Nat) : Bool := if radio then decide ((byteAt b i).toNat < 11 ∨ 26 < (byteAt b i).toNat) else decide (byteAt b i ≠ 0)
    decide (1 < (byteAt b 1).toNat) || ch 2 || ch 3 || (!radio && dirty b 24 16) || dirty b 40 8 ||
    !inCellData (le b 18 6) p 8 8 ||
    (match target (le b 12 6) with
     | .shared c off => decide (c / 20 ≠ p ∨ off % 64 ≠ 0)
     | _ => true)
  else
    decide (1 < (byteAt b 0).toNat ∨ (if radio then 15 else 95) < (byteAt b 1).toNat ∨
      (95 < (byteAt b 2).toNat ∧ byteAt b 2 ≠ 0xFF)) || dirty b 3 45

/-- Shelf-section causes judged before reason 0x27 (R118): fields out of range and reserved bytes. -/
def shelfFieldFault (p : Nat) (m : Man) : Option Refuse :=
  firstFault [
    fun _ => checkAll 0x29 11 m.stage fun _ b => stageFieldBad b,
    fun _ => checkAll 0x29 12 m.monitor fun _ b => monitorFieldBad p (radioMap m.monitor) b,
    fun _ => checkAll 0x29 13 m.throttle fun _ b => decide (15 < (byteAt b 0).toNat) || dirty b 1 15,
    fun _ => checkAll 0x29 14 m.orphan fun _ b => dirty b 2 2 || dirty b 8 8]

/-- The strings that a STAGE_MAP entry names valid. -/
def entryStrings (b : Bytes) : List Nat :=
  ([2, 3].filter fun i => bit (byteAt b i).toNat 7).map fun i => (byteAt b i).toNat % 8

/-- Reason 0x27 (R16, R201). -/
def shelfFault (m : Man) (others : List Man) : Option Refuse :=
  firstFault [
    fun _ => if m.shelf then none
      else ([11, 12, 13, 14].find? fun t => m.sects.contains t).map fun t => refuse 0x27 t 0,
    fun _ => checkOne 0x27 0 (m.shelf && others.any fun o => o.shelf),
    fun _ => checkAll 0x27 11 m.stage fun i b =>
      let k := (byteAt b 0).toNat
      let role := (byteAt b 1).toNat
      let ss := entryStrings b
      decide (role = 1 ∧ 11 < k) || decide ((role = 2 ∨ role = 3) ∧ k < 12) || decide (role ≠ 3 ∧ ss ≠ []) ||
      decide (role = 3 ∧ ss = []) || decide (ss.length = 2 ∧ ss.getD 0 0 = ss.getD 1 0) ||
      ss.any fun x => (m.stage.take i).any fun e => (entryStrings e).contains x]

/-- Reason 0x28: the lowest route of another manifest whose receiver lies in a cluster left unpinned. -/
def unpinFault (p : Nat) (m : Man) (others : List Man) : Option Refuse :=
  others.findSome? fun o =>
    (firstBad (fun _ (r : RouteDef) => match (target r.receiver).cluster? with
      | some c => !(target r.receiver).isWindow && decide (c / 20 = p) && !m.pins.contains (c % 20)
      | none => false) 0 o.routes).map fun i => { refuse 0x28 6 i with other := some o.part }

/-- The cross-partition checks, with the causes judged before 0x27 (R118, R122). -/
def State.crossFault (s : State) (p : Nat) (m : Man) : Option Refuse :=
  let os := s.others p
  firstFault [fun _ => routeFault p m os, fun _ => ownershipFault m os, fun _ => engineFault m os,
    fun _ => shelfFieldFault p m, fun _ => shelfFault m os, fun _ => unpinFault p m os]

/-! ### Reason 0x29: LOOP_BIND (R178) -/

/-- The phases that DUTY outputs of an entry drive, as board and phase numbers. -/
def dutyPhases (b : Bytes) : List Nat :=
  if lOutKind b = 0 then ((List.range 4).filter fun j => bit (byteAt b 14).toNat j).map fun j => 4 * lOutBoard b + j else []

/-- A board serves a string under a stage mapping. -/
def serves (stage : List Bytes) (board st : Nat) : Bool :=
  stage.any fun b => decide ((byteAt b 0).toNat = board ∧ byteAt b 1 = 3) && (entryStrings b).contains st

/-- A field of a LOOP_BIND entry out of range, or a reserved byte or bit set (Table 8-1). -/
def loopFieldBad (b : Bytes) : Bool :=
  let by_ (i : Nat) : Nat := (byteAt b i).toNat
  let sh (i : Nat) : Bool := decide (sint 8 (by_ i) < -16 ∨ 15 < sint 8 (by_ i))
  let q (i : Nat) : Bool := decide (le b i 2 = 0 ∨ 0x7FFF < le b i 2)
  let src := by_ 15 % 16
  decide (63 < by_ 0 ∨ 7 < by_ 1 ∨ 3 < by_ 2 ∨ 1 < by_ 3 ∨ 1000 < lDiv b ∨ 2 < by_ 6 ∨ 23 < by_ 7 ∨ 2 < by_ 12 ∨ 23 < by_ 13 ∨
    15 < by_ 14 ∨ 3 < src ∨ 127 < by_ 15 ∨ 2 < by_ 32) ||
  sh 33 || sh 34 || q 36 || decide (le b 38 2 = 0) || q 40 || decide (le b 42 2 = 0) || q 44 ||
  (decide (src = 1 ∨ src = 2) && decide (le b 56 4 = 0)) ||
  ((List.range 8).any fun j => decide (le b (16 + 2 * j) 2 / 512 % 64 ≠ 0)) || dirty b 35 1 || dirty b 60 4

/-- The feedback fields break R178. -/
def loopFieldsBad (b : Bytes) : Bool :=
  let fb (i : Nat) : Nat := (byteAt b (8 + i)).toNat
  let used (i : Nat) : Bool := fb i != 255
  let kind := (byteAt b 6).toNat
  !used 0 || (decide (kind = 2) && !used 1) || ((List.range 4).any fun i => used i && decide (fb i = 11 ∨ 15 < fb i)) ||
  (decide (kind = 0) && (used 1 || used 2 || used 3)) || (decide (kind = 2) && (used 2 || used 3))

/-- A loop of the same image by its number. -/
def Man.loop? (m : Man) (k : Nat) : Option Bytes :=
  m.loops.find? fun b => decide (8 * (byteAt b 0).toNat + (byteAt b 1).toNat = k)

/-- A loop's number. -/
def loopKey (b : Bytes) : Nat := 8 * (byteAt b 0).toNat + (byteAt b 1).toNat

/-- The CASCADE list breaks R178: it names a loop not bound here, or under OUT_KIND CASCADE is empty, names a loop whose SP_SRC is
not CASCADE, or one that an earlier entry feeds. -/
def cascadeBad (m : Man) (i : Nat) (b : Bytes) : Bool :=
  ((lCascade b).any fun t => (m.loop? t).isNone) ||
  decide (lOutKind b = 1) &&
  (decide (lCascade b = []) || (lCascade b).any fun t =>
    (match m.loop? t with | some e => decide ((byteAt e 15).toNat % 16 ≠ 3) | none => false) ||
    (m.loops.take i).any fun e => decide (lOutKind e = 1) && (lCascade e).contains t)

/-- The loops reached from a loop by n cascades. -/
def reached (m : Man) (k : Nat) : Nat → List Nat
  | 0 => []
  | n + 1 => match m.loop? k with
    | some b => if lOutKind b = 1 then lCascade b ++ (lCascade b).flatMap (fun t => reached m t n) else []
    | none => []

/-- A cycle of cascades passes through an entry. -/
def cycleBad (m : Man) (b : Bytes) : Bool := (reached m (loopKey b) m.loops.length).contains (loopKey b)

/-- Reason 0x29 for LOOP_BIND; stage is the stage mapping that says which board serves which string. -/
def loopFault (p : Nat) (m : Man) (others : List Man) : Option Refuse :=
  let stage := if m.shelf then m.stage else (others.filter fun o => o.shelf).flatMap fun o => o.stage
  let taken := others.flatMap fun o => o.loops.flatMap dutyPhases
  firstFault [
    fun _ => checkAll 0x29 10 m.loops fun i b =>
      let src := (byteAt b 15).toNat % 16
      let duty := decide (lOutKind b = 0)
      loopFieldBad b || ((m.loops.take i).any (sameLoop b)) || loopFieldsBad b ||
      ((dutyPhases b).any fun ph => taken.contains ph || (m.loops.take i).any fun e => (dutyPhases e).contains ph) ||
      decide (lForm b = 0 ∧ lDiv b ≠ 1) ||
      decide (src = 1 ∧ (m.shelf = false ∨ (lOutKind b = 0 ∧ 11 < lOutBoard b))) ||
      (decide (src = 2) && duty && !serves stage (lOutBoard b) ((byteAt b 15).toNat / 16 % 8)) ||
      !inCellData (le b 50 6) p 8 8 || (windowFault b ((b.drop 64).take 64)).isSome,
    fun _ => checkAll 0x29 10 m.loops fun i b => cascadeBad m i b,
    fun _ => checkAll 0x29 10 m.loops fun _ b => cycleBad m b]

/-! ### Reason 0x29: the shelf sections (R167, R172, R201, R221) -/

/-- STAGE_MAP (R201); under RADIO it may serve string 0 alone (R221). -/
def stageFault (p : Nat) (m : Man) : Option Refuse :=
  checkAll 0x29 11 m.stage fun i b =>
    ((m.stage.take i).any fun e => byteAt e 0 == byteAt b 0) ||
    (bit (byteAt b 8).toNat 0 && decide (le b 12 2 < 2 * le b 10 2)) ||
    (decide (le b 20 6 ≠ 0) && !inCellData (le b 20 6) p 64 64) ||
    (radioMap m.monitor && (entryStrings b).any fun x => x != 0)

/-- The strings a manifest's STAGE_MAP serves. -/
def Man.strings (m : Man) : List Nat := m.stage.flatMap entryStrings

/-- MONITOR_MAP (R221, R412). -/
def monitorFault (m : Man) : Option Refuse :=
  if ¬ m.sects.contains 12 then none
  else
    let radio := radioMap m.monitor
    let cfgs := m.monitor.filter fun b => byteAt b 0 == 0
    let pos := m.monitor.filter fun b => byteAt b 0 != 0
    let cmu (b : Bytes) : Nat := (byteAt b 2).toNat
    let served (c : Nat) : Bool := m.strings.contains (c / 12)
    firstFault [
      fun _ => if cfgs.length = 1 then none
        else some (refuse 0x29 12 ((firstBad (fun i (b : Bytes) => byteAt b 0 == 0 && (m.monitor.take i).any fun e => byteAt e 0 == 0) 0
          m.monitor).getD 0)),
      fun _ => checkAll 0x29 12 m.monitor fun i b =>
        if byteAt b 0 = 0 then
          !decide (le b 4 2 > le b 8 2 ∧ le b 8 2 > le b 10 2 ∧ le b 10 2 > le b 6 2) ||
          (radio && (decide (byteAt b 2 = byteAt b 3) || !Config.radioFitted)) ||
          decide (0x40000 < aOff (le b 12 6) + 6208)
        else
          (decide (cmu b ≠ 255) && (m.monitor.take i).any fun e => decide (byteAt e 0 ≠ 0 ∧ cmu e = cmu b)) ||
          (if radio then decide (11 < cmu b ∧ cmu b ≠ 255) || decide (pos.length ≤ (byteAt b 1).toNat) ||
              (m.monitor.take i).any fun e => decide (byteAt e 0 ≠ 0 ∧ byteAt e 1 = byteAt b 1)
            else decide (cmu b = 255 ∨ byteAt b 1 ≠ byteAt b 2)) ||
          (decide (cmu b ≠ 255) && !served (cmu b)),
      fun _ => checkOne 0x29 12 (decide (16 < pos.length ∧ radio) ||
        (List.range 96).any fun c => served c && !pos.any fun b => decide (cmu b = c))]

/-- A bit of a 256-bit set of targets. -/
def targetBit (b : Bytes) (t : Nat) : Bool := bit (byteAt b (16 + t / 8)).toNat (t % 8)

/-- THROTTLE_MAP (R167). -/
def throttleFault (m : Man) (targets : Nat) : Option Refuse :=
  checkAll 0x29 13 m.throttle fun i b =>
    ((m.throttle.take i).any fun e => byteAt e 0 == byteAt b 0) ||
    (List.range 256).any fun t => targetBit b t && (decide (targets ≤ t) || (m.throttle.take i).any fun e => targetBit e t)

/-- ORPHAN_BUDGET (R172). -/
def orphanFault (m : Man) (targets : Nat) : Option Refuse :=
  checkAll 0x29 14 m.orphan fun i b =>
    decide (targets ≤ le b 0 2) || ((m.orphan.take i).any fun e => decide (le e 0 2 = le b 0 2)) ||
    decide (250000 < ((m.orphan.take (i + 1)).map fun e => le e 4 4).sum)

/-! ### All checks (R118) -/

/-- Reasons 0x02 to 0x29, in the order of Table 5-6. -/
def State.manFault (s : State) (p : Nat) (m : Man) (blk : Bytes) : Option Refuse :=
  let os := s.others p
  let n := s.f Reg.BUD_CFG_TARGETS
  firstFault [
    fun _ => checkOne 0x02 0 (s.ownerSlot m).isNone,
    fun _ => checkOne 0x03 0xFFFF (!s.manSigOk m blk),
    fun _ => checkOne 0x04 0 (decide (m.svn < s.f Reg.SEC_STATUS_SVN_MIN)),
    fun _ => checkAll 0x05 9 m.digests fun i d => s.regionBad p m i d,
    fun _ => sizeFault m, fun _ => scheduleFault m, fun _ => unboundedFault m, fun _ => pathFault m, fun _ => deadlineFault m,
    fun _ => programFault m, fun _ => s.cellFaultOf p m, fun _ => pinningFault m, fun _ => slotFault m,
    fun _ => s.crossFault p m,
    fun _ => loopFault p m os, fun _ => stageFault p m, fun _ => monitorFault m, fun _ => throttleFault m n,
    fun _ => orphanFault m n]

/-- The image in a staging half, checked in full: its manifest, or the refusal (R118). -/
def State.checkHalf (s : State) (p : Nat) (half : Bool) : Except Refuse Man :=
  let a := stagingAddr p half
  let hdr := s.rdMem a 64
  if ¬ headerOk p hdr then .error (refuse 1 0 0)
  else match parseImage half p hdr (s.rdMem a (le hdr 8 4)) with
    | .error r => .error r
    | .ok (m, blk) => match s.manFault p m blk with
      | some r => .error r
      | none => .ok m

end Sys2Proof.Machine
end

