-- ==== Sys2Proof/Machine/Swap.lean ====
section
/-! DEFINITION. The compute reset scope of a partition (R361), and loading, swapping and unloading manifests (R117,
R121 to R125). -/

namespace Sys2Proof.Machine

open Sys2Proof.Bits

/-! ### The compute reset scope (R41, R51, R52, R61, R361) -/

/-- SYNC clears with a cause of event 0x1003 (R379). -/
def State.syncClear (s : State) (cause : Nat) : State :=
  if s.twn.judge.isSome then s else
  let s : State := { s with twn := { s.twn with matched := 0, clean := 0 } }
  let s := s.wr 0x110000C 0#32
  if s.b Reg.TWN_STATUS_SYNC then (s.setF Reg.TWN_STATUS_SYNC 0).ev 0x1003 (2 * cause) 0 0x152 else s

/-- Envelopes abort as p enters reset (Table 4-2, R103): TARGET_RESET where a letter targets p, else DISCARDED where p is the
home or the partition of a contributor. -/
def State.abortFor (s : State) (p : Nat) : State :=
  let s := (s.envs.within 0 2048).foldl (fun s e => match e.2.targetIn (· = p) with
    | some l => s.abortEnv (e.1 / 64) (e.1 % 64) 3 l.hdr.addr.toNat
    | none => s) s
  s.abortWhere 2 (fun q => decide (q = p)) (fun n => decide (partOf n = p))

/-- Letters queued at a cluster complete with TARGET_RESET, and its circular landings are gone. -/
def State.flushCluster (s : State) (c : Nat) : State :=
  let v := s.cl c
  let s := s.setCl c { v with queue := [], landing := [] }
  v.queue.foldl (fun s e => s.reply e.1 3) s

/-- A cell of the scope stops. The model forgets the letters it had outstanding, so that a reply that comes after the release counts down
newer ones: the spec does not say (DESIGN CHOICE, log entry 63). -/
def State.resetCell (s : State) (n : Nat) : State :=
  let s := s.stopCell n
  s.setCell n { s.cell n with outst := 0, ctx := .none }

/-- Partition p is held in its compute reset scope: its envelopes abort, its cells stop, letters waiting for it complete
TARGET_RESET, its GATED clusters start their wakes, and its ledger copy follows. -/
def State.holdPart (s : State) (p pstate : Nat) : State :=
  let s := s.abortFor p
  let s := (s.cells.within (10240 * p) (10240 * p + 10240)).foldl (fun s e => s.resetCell e.1) s
  let s := (clustersOf p).foldl State.flushCluster s
  let s := s.setPart p { s.part p with held := true }
  let s := s.wakeAll ((clustersOf p).filter fun c => decide (s.cstate c = 0))
  let s := s.setF (Reg.RCV_PART_STATE_PSTATE p) pstate
  s.degrade.ldgPartDown p

/-- A reset of p at a rung or swap is counted (Table 17-7). -/
def State.countReset (s : State) (p : Nat) : State :=
  s.setF (Reg.RCV_PART_STATE_RESETS p) ((s.f (Reg.RCV_PART_STATE_RESETS p) + 1) % 65536)

/-- Partition p is released from its compute reset scope. -/
def State.releasePart (s : State) (p pstate : Nat) : State :=
  let s := s.setPart p { s.part p with held := false }
  let s := s.setF (Reg.RCV_PART_STATE_PSTATE p) pstate
  let s := (clustersOf p).foldl (fun s c => s.setCl c { s.cl c with idleFrom := s.beatN }) s
  s.degrade.ldgPartUp p

/-- A PEER_DOWN (type 2) or PEER_UP (type 3) circular for p (R363). -/
def State.peerCirc (s : State) (type p cause effect : Nat) : State :=
  s.issueCirc { type := type, src := p, effect := effect, param := cause + 65536 * s.f (Reg.RCV_PART_STATE_RESETS p) }

/-! ### Contents of a partition (R68, R117) -/

/-- What a load removes: assignments, working and kept states, control words, data and shared memory, pinning, programs and
route accounts of p. -/
def State.clearPart (s : State) (p : Nat) : State :=
  let cellLo := 2199023255552 * p
  let shLo := 70368744177664 + cellLo
  let s : State := { s with
    cells := s.cells.outside (10240 * p) (10240 * p + 10240)
    mem := Tab.outside (Tab.outside s.mem cellLo (cellLo + 2199023255552)) shLo (shLo + 2199023255552)
    kept := s.kept.outside cellLo (cellLo + 2199023255552)
    progs := s.progs.outside (1024 * p) (1024 * p + 1024)
    routes := s.routes.outside (65536 * p) (65536 * p + 65536) }
  (clustersOf p).foldl (fun s c => (s.setF (Reg.FAB_CLUSTER_STATE_PINNED c) 0).setF (Reg.FAB_CLUSTER_STATE_ASSIGNED c) 0) s

/-- The bytes of a program's words. -/
def wordBytes (ws : List Word) : Bytes := ws.flatMap fun w => toLe 4 w.toNat

/-- A CELLS entry: the cell is assigned and idle until its program's first period (R124), its program memory written. -/
def State.loadCell (s : State) (p : Nat) (m : Man) (d : CellDef) : State :=
  let n := 10240 * p + d.cell
  let ws := (m.img? d.img).getD []
  let s := s.setCell n { run := 3, prog := d.prog, img := d.img, entry := BitVec.ofNat 8 d.entry, len := ws.length
                         pc := BitVec.ofNat 8 d.entry }
  s.wrMem (cellAddr n 0x800) (wordBytes ws)

/-- A DATA entry: bytes of a cell's data memory, in both banks, or of shared memory. -/
def State.loadData (s : State) (p : Nat) (d : DataDef) : State :=
  if d.space = 0 then s.wrData (10240 * p + d.unit) d.off d.bytes else s.wrMem (sharedAddr (20 * p + d.unit) d.off) d.bytes

/-- A SLOTS entry; COUNT stays 0. -/
def State.loadSlot (s : State) (p : Nat) (d : SlotDef) : State :=
  let n := 10240 * p + d.cell
  let c := s.cell n
  s.setCell n (if d.word = 8 then { c with circLand := d.value &&& 0x87FF#32 }
    else { c with slots := c.slots.put d.word (d.value &&& 0xFFFF#32) 0 })

/-- The swap writes of a manifest (R117, R122). -/
def State.writePart (s : State) (p : Nat) (m : Man) : State :=
  let s := s.clearPart p
  let s := m.cells.foldl (fun s d => s.loadCell p m d) s
  let s := m.data.foldl (fun s d => s.loadData p d) s
  let s := m.slots.foldl (fun s d => s.loadSlot p d) s
  let s := (m.pins.filter fun c => decide (c < 20)).foldl (fun s c => s.setF (Reg.FAB_CLUSTER_STATE_PINNED (20 * p + c)) 1) s
  (m.cells.filter fun d => decide (d.cell < 10240)).foldl (fun s d => s.setF (Reg.FAB_CLUSTER_STATE_ASSIGNED (20 * p + d.cell / 512)) 1) s

/-- At the release of a rung they may too; a program that PEER_PAUSE holds stays paused until its PEER_UP (R363, R433). -/
def State.rearmProgs (s : State) (p : Nat) (m : Man) : State :=
  m.progs.foldl (fun s d => s.setProg p d.prog { from_ := s.beatN, paused := (s.prog p d.prog).paused
                                                 pausedBy := (s.prog p d.prog).pausedBy }) s

/-- The writes of a rung's reload keep the pauses of the partition's programs (R433). -/
def State.keepPauses (s old : State) (p : Nat) (m : Man) : State :=
  m.progs.foldl (fun s d => s.setProg p d.prog { s.prog p d.prog with paused := (old.prog p d.prog).paused
                                                                      pausedBy := (old.prog p d.prog).pausedBy }) s

/-- The programs of p may begin periods from this boundary on (R124). -/
def State.armProgs (s : State) (p : Nat) (m : Man) : State :=
  m.progs.foldl (fun s d => s.setProg p d.prog { from_ := s.beatN }) s

/-! ### The MAN registers (R125, R129) -/

/-- SERVICE_LOCK of a manifest. -/
def Man.locked (m : Man) : Bool := m.shelf || !m.loops.isEmpty || m.progs.any fun d => d.crit

/-- The registers that follow the manifest in force of p: MAN_STATUS but STATE, MAN_BUILD, MAN_DIGEST with its measurement,
and MAN_SHELF. -/
def State.manRegs (s : State) (p : Nat) : State :=
  let m := (s.manOf p).getD {}
  let st := s.f (Reg.MAN_STATUS_STATE p)
  let s := s.wr (0x400100 + 4 * p) (BitVec.ofNat 32 (st + 4 * ofBool m.half + 8 * ofBool m.locked + 16 * ofBool m.shelf +
    32 * ofBool (m.progs.any fun d => d.crit) + 65536 * m.progs.length))
  let s := s.wr64 (0x400400 + 8 * p) m.build
  let s := (s.wrBytes (0x401000 + 64 * p) (fit m.digest 64) 16).setMeas (16 + p) m.digest
  s.wr 0x400300 (match s.parts.find? fun (e : Nat × Part) => (match e.2.man with | some o => o.shelf | none => false) with
    | some e => BitVec.ofNat 32 (e.1 + 128)
    | none => 0)

/-- MAN_LOAD_RESULT. -/
def State.loadResult (s : State) (p status reason sect entry : Nat) : State :=
  (s.wr (0x400200 + 8 * p) (BitVec.ofNat 32 (status + 65536 * reason))).wr (0x400204 + 8 * p)
    (BitVec.ofNat 32 (sect + 65536 * min entry 65535))

/-- An image is refused (R118, R130). -/
def State.refuseLoad (s : State) (p : Nat) (r : Refuse) : State :=
  let s := (s.loadResult p r.status r.reason r.sect r.entry).bump Reg.MAN_REFUSE_CNT
  let s := if r.reason = 3 then s.bump 0xE00100 else s
  let more := match r.other with | some q => 16777216 * q + 2147483648 | none => 0
  s.raise 0x0302 p (r.status + 65536 * r.reason + more) (r.sect + 65536 * r.entry) s.beatLo p

/-- Verification ends with a refusal: the state before VERIFYING. -/
def State.loadFails (s : State) (p : Nat) (r : Refuse) : State :=
  let v := s.part p
  let s := (s.refuseLoad p r).setF (Reg.MAN_STATUS_STATE p) (if v.fromLoaded then 3 else 0)
  s.setPart p { v with cand := none, deciding := false }

/-! ### START and UNLOAD (R121, R125) -/

/-- The partition is unavailable (R342, R343). -/
def State.unavailable (s : State) (p : Nat) : Bool := decide (s.f (Reg.RCV_PART_STATE_PSTATE p) = 3)

/-- START accepted: verification begins, in EMPTY and LOADED. A start while an unload is being decided changes nothing; an
unavailable partition answers NOT_READY. -/
def State.startLoad (s : State) (p : Nat) (half : Bool) : State :=
  let v := s.part p
  let st := s.f (Reg.MAN_STATUS_STATE p)
  if s.unavailable p then s.loadResult p 0x30 0 0 0
  else if (st = 0 ∨ st = 3) ∧ ¬ v.deciding ∧ v.swapAt = none then
    let s := s.setPart p { v with cand := none, candHalf := half, unload := false, fromLoaded := decide (st = 3) }
    s.setF (Reg.MAN_STATUS_STATE p) 1
  else s

/-- UNLOAD accepted in LOADED: an empty swap is to be decided in the next beat. -/
def State.startUnload (s : State) (p : Nat) : State :=
  let v := s.part p
  if s.f (Reg.MAN_STATUS_STATE p) = 3 ∧ ¬ v.deciding ∧ v.swapAt = none then
    s.setPart p { v with cand := none, unload := true, deciding := true, passedAt := s.beatN }
  else s

/-- The MAN block of p runs (R125). -/
def State.manRuns (s : State) (p : Nat) : Bool :=
  let st := s.f (Reg.MAN_STATUS_STATE p)
  decide (st = 1 ∨ st = 2) || (decide (st = 3) && s.b (Reg.MAN_STATUS_SERVICE_LOCK p) && decide (s.mstate = 3 ∨ s.mstate = 4))

/-- A write of MAN_LOAD_CTL[p] (R125, R129): the state and its completion status. -/
def State.manCtl (s : State) (path : Path) (p v : Nat) : State × Nat :=
  let start := bit v 0
  let unload := bit v 1
  let half := bit v 2
  if start && unload then (s, 0)
  else if s.manRuns p && (start || unload || half != s.b (Reg.MAN_LOAD_CTL_HALF p)) then
    (s.ev 0x0305 (0x400000 + 4 * p) v 0xFFF (pathCode path), 0x20)
  else
    let s := s.setF (Reg.MAN_LOAD_CTL_HALF p) (ofBool half)
    if (start || unload) && decide (s.mstate = 1) && !s.bup.asked9 then (s.loadResult p 0x30 0 0 0, 0)
    else if start then (s.startLoad p half, 0)
    else if unload then (s.startUnload p, 0)
    else (s, 0)

/-! ### Verification, decision and swap (R118, R121, R122) -/

/-- VERIFICATION_FAIL (R118, R321): a check of Table 5-6 fails. -/
def execVerificationFail (p : Fin 32) (s : State) : Res :=
  .next (if s.verifying p.val ∧ s.frankerFor 5 then
    match s.checkHalf p.val (s.part p.val).candHalf with
    | .error r => s.frankerDone.loadFails p.val r
    | .ok _ => s
  else s)

/-- VERIFICATION_PASS (R121, R321): every check passes in beat V. -/
def execVerificationPass (p : Fin 32) (s : State) : Res :=
  .next (if s.verifying p.val ∧ s.frankerFor 5 then
    match s.checkHalf p.val (s.part p.val).candHalf with
    | .error _ => s
    | .ok m => s.frankerDone.setPart p.val { s.part p.val with cand := some m, deciding := true, passedAt := s.beatN }
  else s)

/-- The swap of p is decided (R122): the cross-partition checks of an image, PEER_DOWN where p holds a manifest, and the
boundary S two beats on. -/
def State.decide_ (s : State) (p : Nat) : State :=
  let v := s.part p
  let fault := match v.cand with | some m => s.crossFault p m | none => none
  match fault with
  | some r => s.loadFails p r
  | none =>
    let S := s.beatN + 2
    let s := s.setPart p { v with deciding := false, swapAt := some S, wroteAt := none }
    if v.man.isSome then s.peerCirc 2 p (if v.unload then 2 else 0) S else s

/-- SWAP_DECISION (R122): in beat V + 1, partitions that reach it on one beat in ascending order. -/
def execSwapDecision (p : Fin 32) (s : State) : Res :=
  .next ((List.range (p.val + 1)).foldl (fun s q =>
    if (s.part q).deciding ∧ (s.part q).passedAt < s.beatN then s.decide_ q else s) s)

/-- What the removal of a manifest at S ends (Tables 8-5, 10-6, R188, R227, R244). -/
def State.removeMan (s : State) (p : Nat) : State :=
  match s.manOf p with
  | none => s
  | some m =>
    let s0 := s
    let s := if m.loops.isEmpty then s else s.loopsUnbind p
    let s := if m.shelf then s.monitorUnmap.sstUnmap else s
    let s := s.setPart p { s.part p with man := none }
    let s := s.manRegs p
    if m.shelf then
      let s := ((s.wr64 0x500060 0).wr64 0x500068 0)
      let s : State := { s with grd := { s.grd with telemAddr := 0, fcstAddr := 0 } }
      (s.relines s0).ldgFollow
    else s

/-- SWAP_START (R122): boundary S. -/
def execSwapStart (p : Fin 32) (s : State) : Res :=
  let v := s.part p.val
  .next (match v.swapAt with
    | none => s
    | some S =>
      if S ≤ s.beatN then
        let s := s.setPart p.val { v with swapAt := none, wroteAt := some 0 }
        let build := match v.man with | some m => m.build | none => 0
        let s := ((s.holdPart p.val 1).countReset p.val).syncClear 4
        let s := (s.removeMan p.val).setF (Reg.MAN_STATUS_STATE p.val) 2
        s.setPart p.val { s.part p.val with passedAt := build % 4294967296 }
      else s)

/-- SWAP_WRITES_COMPLETE (R121): beat W; PEER_UP and the event follow in beat W + 1, the release at E = W + 3. -/
def execSwapWritesComplete (p : Fin 32) (s : State) : Res :=
  let v := s.part p.val
  .next (if s.f (Reg.MAN_STATUS_STATE p.val) = 2 ∧ v.wroteAt = some 0 then
    let W := s.beatN
    let s := match v.cand with | some m => s.writePart p.val m | none => s.clearPart p.val
    let s := s.setPart p.val { v with wroteAt := some (W + 3) }
    let s := s.peerCirc 3 p.val (if v.cand.isSome then 0 else 2) (W + 3)
    let lo := (W + 1) % 4294967296
    let hi := (W + 1) / 4294967296
    match v.cand with
    | some m => s.raise 0x0301 (p.val + 32 * ofBool m.half) (m.build % 4294967296) lo hi p.val
    | none => s.raise 0x0304 p.val v.passedAt lo hi p.val
  else s)

/-- What the release of a manifest at E begins (R122, R161, R176, R188, R201, R221, R244). -/
def State.applyMan (s : State) (p : Nat) (m : Man) : State :=
  let s0 := s
  let s := if m.loops.isEmpty then s else s.loopsBind p m.loops
  if m.shelf then
    let s := s.stageMap m.stage
    let s := s.monitorMap m.monitor
    let s := s.sstMap
    let a := (Config.telemWindow m.digest).toNat
    let b := (Config.forecastBlock m.digest).toNat
    let s := (s.wr64 0x500060 a).wr64 0x500068 b
    let s : State := { s with grd := { s.grd with telemAddr := a, fcstAddr := b } }
    (s.relines s0).ldgFollow
  else s

/-- SWAP_RELEASE (R122): boundary E. -/
def execSwapRelease (p : Fin 32) (s : State) : Res :=
  let v := s.part p.val
  .next (match v.wroteAt with
    | none => s
    | some e =>
      if s.f (Reg.MAN_STATUS_STATE p.val) = 2 ∧ 0 < e ∧ e ≤ s.beatN then
        let s := s.setPart p.val { v with man := v.cand, cand := none, wroteAt := none, unload := false }
        let s := s.setF (Reg.MAN_STATUS_STATE p.val) (if v.cand.isSome then 3 else 0)
        let s := (s.manRegs p.val).releasePart p.val 0
        let s := s.loadResult p.val 0 0 0 0
        match v.cand with
        | some m => (s.armProgs p.val m).applyMan p.val m
        | none => s
      else s)

end Sys2Proof.Machine
end

