-- ==== Sys2Proof/Machine/Recovery.lean ====
section
/-! DEFINITION. Watchdogs, rungs of the recovery ladder, and the dead-letter list (chapter 17, R343). -/

namespace Sys2Proof.Machine

open Sys2Proof.Bits

/-! ### The dead-letter list (R343) -/

/-- BUP_DEAD follows the list. -/
def State.deadCount (s : State) : State :=
  (s.setF Reg.BUP_DEAD_CELLS s.deadCells.length).setF Reg.BUP_DEAD_CLUSTERS s.deadClusters.length

/-- A cluster is added to the list with the test it failed (Table 16-6). -/
def State.deadCluster (s : State) (c test : Nat) : State :=
  if s.deadClusters.contains c then s
  else ((s.ev 0x0E04 (c / 20 + 256 * (c % 20) + 2147483648) test (c / 20)).killCluster c).deadCount

/-- Entries of the list in a cluster. -/
def State.deadIn (s : State) (c : Nat) : Nat := (s.deadCells.filter fun n => decide (clusterOf n = c)).length

/-- A cell is added to the list; its cluster follows when more than 64 of its cells are on it. -/
def State.deadCell (s : State) (n test : Nat) : State :=
  if s.deadCells.contains n then s
  else
    let s : State := { s with deadCells := s.deadCells ++ [n] }
    let s := s.ev 0x0E04 (cellParam n) test (partOf n)
    let c := clusterOf n
    if 64 < s.deadIn c then s.deadCount.deadCluster c 8 else s.deadCount

/-- The list has no room for one more cell (R343). -/
def State.deadFull (s : State) : Bool := decide (8192 ≤ s.deadCells.length)

/-! ### Status and counts (Tables 17-7, 17-8) -/

/-- RCV_STATUS and GLB_STATE.DEGRADED follow the rungs that run. -/
def State.rcvStatus (s : State) : State :=
  let hi := s.rcv.rungs.foldl (fun m r => max m r.rung) 0
  ((s.setF Reg.RCV_STATUS_BUSY (ofBool (decide (s.rcv.rungs ≠ [])))).setF Reg.RCV_STATUS_HIGHEST hi).degrade

/-- PART_CNT and CHIP_CNT follow the window. -/
def State.rcvCounts (s : State) : State :=
  let s := (List.range 32).foldl (fun s p => s.setF (Reg.RCV_PART_STATE_PART_CNT p) (min 15 (s.rungCount 3 p))) s
  s.setF Reg.RCV_CHIP_HIST_CHIP_CNT (min 15 s.chipCount)

/-- A rung that runs on a unit. -/
def State.rung? (s : State) (rung unit : Nat) : Option Rung := s.rcv.rungs.find? fun r => decide (r.rung = rung ∧ r.unit = unit)

/-- The partition or unit that rung events name (Table 17-9), and their origin. -/
def rungName (rung unit : Nat) : Nat := if rung = 1 then unit / 1024 else unit
def rungOrigin (rung unit : Nat) : Nat := if rung = 2 then 0x100 + unit else rungName rung unit

/-- A rung ends. -/
def State.dropRung (s : State) (rung unit : Nat) : State :=
  { s with rcv := { s.rcv with rungs := s.rcv.rungs.filter fun r => !decide (r.rung = rung ∧ r.unit = unit) }
           twn := { s.twn with rungAt := some s.beatN } }

/-! ### Partitions lost (R342, R343) -/

/-- Partition p is held from now on; a rung that runs on it ends with it, with no release. -/
def State.lose (s : State) (p : Nat) : State :=
  if s.unavailable p then s
  else if s.held p then ((s.dropRung 3 p).setF (Reg.RCV_PART_STATE_PSTATE p) 3).rcvStatus else s.holdPart p 3

/-- Partition p has a live cluster. -/
def State.live? (s : State) (p : Nat) : Bool := (clustersOf p).any fun c => !s.deadClusters.contains c

/-- Partitions with all clusters on the list become unavailable. -/
def State.dropDead (s : State) : State :=
  (List.range 32).foldl (fun s p =>
    if s.live? p then s
    else (s.setF Reg.BUP_PART_AVAIL_AVAIL (setBit (s.f Reg.BUP_PART_AVAIL_AVAIL) p false)).lose p) s

/-- A rung joins those that run: event 0x0F03, its counters, its start in the count of R357 unless it was ordered. -/
def State.beginRung (s : State) (r : Rung) (escalated : Bool) : State :=
  let s := s.ev 0x0F03 (r.rung + 256 * rungName r.rung r.unit) r.reason (rungOrigin r.rung r.unit)
  let s := s.bump (if r.rung = 1 then Reg.RCV_CTX_CNT else if r.rung = 2 then Reg.RCV_ENG_CNT else Reg.RCV_PART_CNT)
  let s := if escalated then s.bump Reg.RCV_ESC_CNT else s
  let starts := if r.reason = 0x17 then s.rcv.starts else s.rcv.starts ++ [(r.rung, r.unit, s.beatN)]
  let s : State := { s with rcv := { s.rcv with rungs := s.rcv.rungs ++ [r], starts := starts } }
  (s.syncClear 3).rcvStatus.rcvCounts

/-- Event 0x0F04. -/
def State.rungEnded (s : State) (rung unit start refused : Nat) : State :=
  s.ev 0x0F04 (rung + 256 * rungName rung unit + 65536 * refused) ((s.beatN - start) % 4294967296) (rungOrigin rung unit)

/-! ### Context rung (R359) -/

/-- The cells of program x of partition p. -/
def State.progCells (s : State) (p x : Nat) : List Nat := match s.manOf p with | some m => m.cellsOf p x | none => []

/-- Letters queued for cells of a list complete DISCARDED (R51). -/
def State.discardFor (s : State) (c : Nat) (cells : List Nat) : State :=
  let mine (l : Letter) : Bool := match target l.hdr.addr.toNat with
    | .cell n _ => cells.contains n
    | .cellCtl n _ => cells.contains n
    | _ => false
  let v := s.cl c
  let s := s.setCl c { v with queue := v.queue.filter fun e => !mine e.1 }
  (v.queue.filter fun e => mine e.1).foldl (fun s e => s.reply e.1 2) s

/-- Clusters of cells, each once. -/
def clustersOfCells (cells : List Nat) : List Nat := (cells.map clusterOf).eraseDups

/-- A context rung starts on program x of p at D. Envelopes to which a cell still contributes abort; one that all its cells of x have
sealed goes on, and the count of letters outstanding is forgotten (R359 settles neither: DESIGN CHOICE, log entries 63 and 65). -/
def State.startContext (s : State) (f : FaultRec) : State :=
  let p := f.unit / 1024
  let x := f.unit % 1024
  let cells := s.progCells p x
  if s.held p || (s.rung? 1 f.unit).isSome || cells.isEmpty then s
  else
    let s := s.beginRung { rung := 1, unit := f.unit, reason := f.reason, start := s.beatN } f.escalated
    let s := cells.foldl State.stopCell s
    let s := cells.foldl (fun s n => s.setCell n { s.cell n with outst := 0 }) s
    let s := (clustersOfCells cells).foldl (fun s c => s.discardFor c cells) s
    let s := s.setProg p x { s.prog p x with start := none, settled := true }
    let s := match f.cluster with
      | some c => if f.reason = 0x17 then s
          else { s with rcv := { s.rcv with named := s.rcv.named ++ [(f.unit, c, s.beatN)] } }
      | none => s
    s.wakeAll ((clustersOfCells cells).filter fun c => decide (s.cstate c = 0))

/-- The Postmaster rewrites the cells of program x of p (R359): program memory, data, control words, both states. -/
def State.rewriteProg (s : State) (p x : Nat) (m : Man) : State :=
  let cells := m.cellsOf p x
  let wipe (s : State) (n : Nat) : State :=
    let a := cellAddr n 0
    { s with mem := Tab.outside s.mem a (a + 0xC00), kept := s.kept.outside a (a + 256), cells := s.cells.drop n }
  let s := cells.foldl wipe s
  let s := (m.cells.filter fun d => decide (d.prog = x)).foldl (fun s d => s.loadCell p m d) s
  let mine (c : Nat) : Bool := cells.contains (10240 * p + c)
  let s := (m.data.filter fun d => decide (d.space = 0) && mine d.unit).foldl (fun s d => s.loadData p d) s
  (m.slots.filter fun d => mine d.cell).foldl (fun s d => s.loadSlot p d) s

/-- CONTEXT_RUNG_RELEASE (R359): the rewrite ends at R and the program is watched afresh. -/
def execContextRungRelease (p : Fin 32) (prog : Fin 1024) (s : State) : Res :=
  let u := 1024 * p.val + prog.val
  .next (match s.rung? 1 u, s.manOf p.val with
    | some r, some m =>
      let s := s.rewriteProg p.val prog.val m
      let pr := s.prog p.val prog.val
      let s := s.setProg p.val prog.val { pr with start := none, settled := true, from_ := s.beatN, progress := 0
                                                  idlePeriods := 0, exempt := false, lowest := 0 }
      ((s.dropRung 1 u).rungEnded 1 u r.start 0).rcvStatus
    | _, _ => s)

/-! ### Engine rung (R360, R190) -/

/-- An engine rung starts; the franker begins what it serves afresh at its release (R360). -/
def State.startEngine (s : State) (f : FaultRec) : State :=
  if (s.rung? 2 f.unit).isSome then s
  else
    let s : State := if f.unit = 65 then { s with sec := { s.sec with serving := 0 } } else s
    s.beginRung { rung := 2, unit := f.unit, reason := f.reason, start := s.beatN } f.escalated

/-- ENGINE_RUNG_RELEASE (R190, R360). -/
def execEngineRungRelease (u : BitVec 7) (s : State) : Res :=
  let k := u.toNat
  .next (match s.rung? 2 k with
    | some r =>
      let s := s.dropRung 2 k
      let s := if k < 64 then s.engineBack k else if k = 64 then s.ledgerBack r.start else s
      (s.rungEnded 2 k r.start 0).rcvStatus
    | none => s)

/-! ### Partition rung (R362, R365) -/

/-- Clusters named by counted context faults of a program within the window. -/
def State.namedBy (s : State) (unit : Nat) : List Nat :=
  (s.rcv.named.filter fun (e : Nat × Nat × Nat) => decide (e.1 = unit) && s.inWindow e.2.2).map fun (e : Nat × Nat × Nat) => e.2.1

/-- The clusters that the rung of a fault tests: the fault's own, and those of the context faults counted towards it. -/
def State.testsOf (s : State) (f : FaultRec) : List Nat :=
  let kind := f.w0 / 536870912
  let own := match f.cluster with | some c => [c] | none => []
  if f.reason = 0x17 then []
  else (own ++ (if kind ≤ 1 then s.namedBy (1024 * (f.w0 % 32) + f.w0 / 524288 % 1024) else [])).eraseDups

/-- Context rungs of p are pre-empted, and the context counts of its programs cleared (R357, R358). -/
def State.preemptContexts (s : State) (p : Nat) : State :=
  { s with rcv := { s.rcv with
      rungs := s.rcv.rungs.filter fun r => !decide (r.rung = 1 ∧ r.unit / 1024 = p)
      starts := s.rcv.starts.filter fun (e : Nat × Nat × Nat) => !decide (e.1 = 1 ∧ e.2.1 / 1024 = p)
      named := s.rcv.named.filter fun (e : Nat × Nat × Nat) => !decide (e.1 / 1024 = p) } }

/-- Periods of a partition's programs end unsettled. -/
def State.stopProgs (s : State) (p : Nat) : State :=
  match s.manOf p with
  | none => s
  | some m => m.progs.foldl (fun s d => s.setProg p d.prog { s.prog p d.prog with start := none, settled := true }) s

/-- A partition rung starts on p at D (Table 17-6), or p is held out of service (R357, R365): from D + 3 it is EMPTY. -/
def State.startPartition (s : State) (f : FaultRec) : State :=
  let p := f.unit
  if s.held p then s
  else
    let tests := s.testsOf f
    let was := s.f (Reg.RCV_PART_STATE_PSTATE p)
    let s := (s.abandonLoad p).preemptContexts p
    if f.out then
      let s : State := { s with rcv := { s.rcv with rungs := s.rcv.rungs ++ [
        { rung := 3, unit := p, reason := f.reason, start := s.beatN, stage := 3, wroteAt := some (s.beatN + 3), empty := true }] } }
      let s := ((s.stopProgs p).holdPart p 1).countReset p
      let s := (s.syncClear 3).ev 0x0F06 p (s.rungCount 3 p) p
      ((s.peerCirc 2 p 3 (s.beatN + 2)).peerCirc 3 p 3 (s.beatN + 3)).rcvStatus
    else
      let s := s.beginRung { rung := 3, unit := p, reason := f.reason, start := s.beatN, tests := tests
                             empty := decide (was = 2) } f.escalated
      let s := ((s.stopProgs p).holdPart p 1).countReset p
      (s.peerCirc 2 p 1 (s.beatN + 2)).rcvStatus

/-- A partition's rung changes. -/
def State.setRung (s : State) (p : Nat) (g : Rung → Rung) : State :=
  { s with rcv := { s.rcv with rungs := s.rcv.rungs.map fun r => if r.rung = 3 ∧ r.unit = p then g r else r } }

/-- The writes of the rung are complete in this beat W: PEER_UP for E = W + 3, and event 0x0F04 in beat W + 1. -/
def State.rungWritten (s : State) (p cause start refused : Nat) : State :=
  let W := s.beatN
  let s := s.setRung p fun r => { r with stage := 3, wroteAt := some (W + 3) }
  let s := s.peerCirc 3 p cause (W + 3)
  s.raise 0x0F04 (3 + 256 * p + 65536 * refused) ((W + 1 - start) % 4294967296) ((W + 1) % 4294967296) ((W + 1) / 4294967296) p

/-- PARTITION_RUNG_RETRAINED (R362): the channels are retrained; the tests follow where clusters were named. A rung on an
EMPTY partition retrains only (R371). -/
def execPartitionRungRetrained (p : Fin 32) (s : State) : Res :=
  .next (match s.rung? 3 p.val with
    | some r =>
      if r.stage ≠ 0 then s
      else if (s.manOf p.val).isNone then s.rungWritten p.val 4 r.start 0
      else s.setRung p.val fun r => { r with stage := if r.tests = [] then 2 else 1 }
    | none => s)

/-- PARTITION_RUNG_TESTED (R362, R343): the tests of the named clusters end. -/
def execPartitionRungTested (p : Fin 32) (cells : List (CellId × Nat)) (clusters : List (Nat × Nat)) (s : State) : Res :=
  .next (match s.rung? 3 p.val with
    | some r =>
      if r.stage ≠ 1 then s
      else
        let s := cells.foldl (fun s (e : CellId × Nat) =>
          if r.tests.contains (clusterOf (cellNo e.1)) ∧ ¬ s.deadFull then s.deadCell (cellNo e.1) e.2 else s) s
        let s := clusters.foldl (fun s (e : Nat × Nat) => if r.tests.contains e.1 then s.deadCluster e.1 e.2 else s) s
        s.dropDead.setRung p.val fun r => { r with stage := 2 }
    | none => s)

/-- PARTITION_RUNG_RELOAD (R362, R365, R433): the in-force half is checked in full; then its swap writes, or without
SERVICE_LOCK the partition goes out of service, or with it RELOAD_REFUSED takes the chip rung. -/
def execPartitionRungReload (p : Fin 32) (s : State) : Res :=
  let q := p.val
  .next (match s.rung? 3 q, s.manOf q with
    | some r, some m0 =>
      if r.stage ≠ 2 then s
      else match s.checkHalf q m0.half with
        | .ok m => (((s.writePart q m).keepPauses s q m).setPart q { s.part q with man := some m }).rungWritten q 4 r.start 0
        | .error e =>
          if m0.locked then
            let s := s.setRung q fun r => { r with stage := 4 }
            let s := s.rungEnded 3 q r.start 1
            s.nameFault (q + 3 * 536870912) 0 0x18 0 4 0 q
          else
            let s := (s.refuseLoad q e).ev 0x0304 q (m0.build % 4294967296) q
            let s := s.peerCirc 2 q 3 (s.beatN + 2)
            let s := s.clearPart q
            let s := s.setRung q fun r => { r with empty := true }
            s.rungWritten q 3 r.start 1
    | _, _ => s)

/-- PARTITION_RUNG_RELEASE (R362, R365): boundary E. -/
def execPartitionRungRelease (p : Fin 32) (s : State) : Res :=
  let q := p.val
  .next (match s.rung? 3 q with
    | some r =>
      (match r.wroteAt with
       | some e =>
         if r.stage = 3 ∧ e ≤ s.beatN then
           let s := s.dropRung 3 q
           if r.empty then
             let s := if (s.manOf q).isSome then (s.clearPart q).removeMan q else s
             ((s.setF (Reg.MAN_STATUS_STATE q) 0).releasePart q 2).rcvStatus
           else
             let s := (s.releasePart q 0).rcvStatus
             match s.manOf q with
             | some m => s.rearmProgs q m
             | none => s
         else s
       | none => s)
    | none => s)

/-! ### Chip rung and power cycle (R366, R367) -/

/-- The chip rung of a fault. In HOLDUP it is outranked (R31, R358). -/
def State.chipRung (s : State) (f : FaultRec) : State :=
  if s.mstate = 6 ∨ s.outranks 3 then s.outranked 4
  else
    let name := if f.w0 / 536870912 = 2 ∨ f.w0 / 536870912 = 4 then f.w0 % 128 else f.w0 % 32
    let s := if f.rung = 5 then (s.setF Reg.RCV_CHIP_HIST_PWR_REQ 1).ev 0x0F07 1 s.chipCount else s
    let s := s.ev 0x0F03 (4 + 256 * name) f.reason
    let s : State := { s with rcv := s.rcv.putChip (s.rcv.chipStarts ++ [(s.rd Reg.EVL_OPS_OP_SECONDS.off).toNat]) }
    (s.setF Reg.RCV_CHIP_HIST_CHIP_CNT (min 15 s.chipCount)).wholeReset 4

/-! ### RUNG_START (R356, R358) -/

/-- A fault takes its rung, narrower rungs after wider ones. -/
def State.startRung (s : State) (f : FaultRec) : State :=
  if f.rung = 3 then s.startPartition f else if f.rung = 2 then s.startEngine f else s.startContext f

/-- A fault joins a list in ascending partition order, before the first of a higher unit. -/
def insertFault (f : FaultRec) : List FaultRec → List FaultRec
  | [] => [f]
  | g :: r => if f.unit < g.unit then f :: g :: r else g :: insertFault f r

/-- The faults named in earlier beats wait no more. -/
def State.takeFaults (s : State) : State :=
  { s with rcv := { s.rcv with faults := s.rcv.faults.filter fun f => !decide (f.beat < s.beatN) } }

/-- RUNG_START (R356): the faults named in earlier beats are acted on; the chip rung pre-empts every other. They wait until their
rungs have started, so that the aborts of one boundary are ranked (R103). -/
def execRungStart (s : State) : Res :=
  let due := s.rcv.faults.filter fun f => decide (f.beat < s.beatN)
  .next (match due.find? fun f => decide (4 ≤ f.rung) with
    | some f => s.takeFaults.chipRung f
    | none =>
      let parts := (due.filter fun f => decide (f.rung = 3)).foldl (fun l f => insertFault f l) []
      ((parts ++ due.filter fun f => decide (f.rung ≠ 3)).foldl State.startRung s).takeFaults)

/-! ### Watchdogs (R354) -/

/-- A unit fault. -/
def State.unitFault (s : State) (unit reason rung : Nat) : State :=
  s.nameFault (unit + (if rung = 2 then 2 else 4) * 536870912) 0 reason 0 rung (if rung = 2 then unit else 0) (0x100 + unit)

/-- The unit's number in `Rcv.still`: Table 17-4's, a cluster sequencer's 1,000 + 20p + c. -/
def unitNo : WatchUnit → Nat
  | .sequencer p c => 1000 + 20 * p.val + c.val
  | .loopEngine e => e.val
  | .ledger => 64
  | .franker => 65
  | .stage => 80
  | .monitor => 81
  | .twin => 82
  | .host => 83
  | .postmaster => 84
  | .memory u => u.toNat

/-- Window of a unit in beats (Table 17-1). -/
def unitWindow : WatchUnit → Nat
  | .sequencer .. => 2
  | .loopEngine _ => 2
  | .ledger => 2000
  | .franker => 200000
  | .stage => 2
  | .monitor => 10000
  | .twin => 2
  | .host => 1000
  | .postmaster => 1000
  | .memory _ => 0

/-- The unit is watched (Table 17-1). -/
def State.watches (s : State) : WatchUnit → Bool
  | .sequencer p _ => decide (s.f (Reg.MAN_STATUS_STATE p.val) = 3)
  | .loopEngine e => (List.range 8).any fun l => decide (s.lstate (8 * e.val + l) ≠ 0)
  | .ledger => s.ldgRuns
  | .franker => decide (s.serving ≠ 0)
  | .stage => s.stg.boards.any fun e => e.2.trained
  | .monitor => s.mon.cmus.any fun e => e.2.mapped
  | .twin => s.b Reg.TWN_CFG_MODE
  | .host => decide (s.hif.accs ≠ [] ∨ s.hif.sent ≠ [])
  | .postmaster => s.released
  | .memory _ => false

/-- The units of Table 17-1 that are watched. -/
def State.watched (s : State) : List WatchUnit :=
  ((List.finRange 32).flatMap fun p => (List.finRange 20).map fun c => WatchUnit.sequencer p c).filter s.watches
    ++ ((List.finRange 64).map WatchUnit.loopEngine).filter s.watches
    ++ [WatchUnit.ledger, .franker, .stage, .monitor, .twin, .host, .postmaster].filter s.watches

/-- What shows that the counters of the franker and of the host interface have moved: requests completed; letters formed and ring entries
written. -/
def State.doneBy (s : State) (n : Nat) : Nat :=
  if n = 65 then s.sec.done
  else s.hif.formed + ((List.range 64).map fun q => s.f (Reg.HIF_CQ_TAIL_TAIL q)).sum + s.f Reg.LDG_RX_TAIL_TAIL + s.f Reg.LDG_BX_TAIL_TAIL

/-- A unit's counter has moved in the beat that ends (Table 17-1). A sequencer, the twin link controller and the Postmaster move by themselves
(log entry 69). -/
def State.moved (s : State) (u : WatchUnit) : Bool :=
  let n := unitNo u
  match u with
  | .loopEngine e =>
    let bound := ((List.range 8).map (8 * e.val + ·)).filter fun k => decide (s.lstate k ≠ 0)
    bound.any (fun k => decide (2 * s.beatN < (s.loop k).sampled)) || bound.all fun k => !s.loopDue k
  | .ledger => decide (s.beatN < 1000 * (s.ldg.next + 2))
  | .franker => decide (s.rcv.seen.get n 0 ≠ s.doneBy n)
  | .host => decide (s.rcv.seen.get n 0 ≠ s.doneBy n)
  | .stage => s.stg.boards.any fun e => match e.2.sent with | some (k, _) => decide (k = s.beatN + 1) | none => false
  | .monitor => !s.twn.formed.isEmpty || !s.twn.heard.isEmpty
  | _ => Config.moves s.free n

/-- A PLL that has lost lock clocks the unit (R414): the fabric PLL every unit, the serialisers' PLLs the link controllers. -/
def State.halted (s : State) (u : WatchUnit) : Bool :=
  s.rcv.stopped.contains .fabric ||
  (s.rcv.stopped.contains .serialiser && (match u with | .stage | .monitor | .twin => true | _ => false))

/-- The progress counters at the end of a beat (R354): of every watched unit the beats since its counter last moved. -/
def State.watchUnits (s : State) : State :=
  let still := s.watched.foldl (fun t u => Tab.put t (unitNo u) (if s.moved u && !s.halted u then 0 else min 65535 (s.still (unitNo u) + 1)) 0) ([] : Tab Nat)
  { s with rcv := { s.rcv with still := still, seen := [(65, s.doneBy 65), (83, s.doneBy 83)] } }.useFree

/-- WATCHDOG_EXPIRY (R354, Table 17-1): the fault of a watched unit whose counter has not moved within its window is named, and a new
window begins. An uncorrectable error in an engine's own state memory comes by this command too (Table 17-3: reason ENGINE_MEM; the
table of commands has no other for it: log entry 69). -/
def execWatchdogExpiry (u : WatchUnit) (s : State) : Res :=
  let n := unitNo u
  let t : State := { s with rcv := { s.rcv with still := s.rcv.still.put n 0 0 } }
  .next (match u with
    | .memory e => if e.toNat ≤ 65 then s.unitFault e.toNat 0x16 2 else s
    | _ =>
      if s.watches u && decide (unitWindow u ≤ s.still n) then
        match u with
        | .sequencer p c => t.nameFault (p.val + 32 * c.val + 3 * 536870912) 0 0x11 0 3 p.val p.val (some (20 * p.val + c.val))
        | .postmaster => t.unitFault 84 0x14 4
        | _ => if n ≤ 65 then t.unitFault n 0x12 2 else t.unitFault n 0x13 4
      else s)

/-! ### Rungs ordered for test (R371) -/

/-- An ordered rung is named with reason REQUEST; it takes the rung ordered, whatever the counts. -/
def State.orderRung (s : State) (w0 w1 rung unit origin : Nat) : State :=
  let absorbed := s.underRung rung unit
  let w2 := 0x17 + 256 * rung + 4096 * ofBool absorbed
  let s : State := { s with twn := { s.twn with faultAt := some s.beatN } }
  let s := (s.histFault w0 w1 w2 s.beatLo).raise 0x0F02 w0 w2 w1 s.beatLo origin
  if absorbed then s.bump Reg.RCV_ABSORB_CNT
  else { s with rcv := { s.rcv with faults := s.rcv.faults ++ [
      { w0 := w0, w1 := w1, reason := 0x17, idx := 0, beat := s.beatN, rung := rung, unit := unit }] } }

/-- A write of RCV_REQ is ignored: a rung that does not exist (Table 17-7), or GO with a unit that does not. -/
def State.rcvIgnores (_s : State) (v : Nat) : Bool :=
  let rung := v % 8
  let unit := v / 256 % 256
  !decide (1 ≤ rung ∧ rung ≤ 3) || bit v 31 && !decide ((rung = 1 ∧ unit < 32) ∨ (rung = 2 ∧ unit < 66) ∨ (rung = 3 ∧ (unit < 32 ∨ unit = 255)))

/-- A write of RCV_REQ (R369, R371): the state and its status. -/
def State.rcvReq (s : State) (path : Path) (v : Nat) : State × Nat :=
  let rung := v % 8
  let unit := v / 256 % 256
  let x := v / 65536 % 1024
  let refuse (st : Nat) : State × Nat := (s.ev 0x0F08 0x1000008 v 0xFFF (pathCode path), st)
  let go := bit v 31
  let known := (rung = 1 ∧ unit < 32) ∨ (rung = 2 ∧ unit < 66) ∨ (rung = 3 ∧ (unit < 32 ∨ unit = 255))
  let ranged := 1 ≤ rung ∧ rung ≤ 3
  if s.mstate ≠ 1 ∧ s.mstate ≠ 2 then
    (if go || decide ((BitVec.ofNat 32 v &&& 0x03FFFF07#32) ≠ s.rd 0x1000008) then refuse 0x20 else (s, 0))
  else if ¬ ranged ∨ (go ∧ ¬ known) then refuse 0
  else
    let s := ((s.setF Reg.RCV_REQ_RUNG rung).setF Reg.RCV_REQ_UNIT unit).setF Reg.RCV_REQ_PROG x
    if ¬ go then (s, 0)
    else if rung = 1 then
      (s.orderRung (unit + 524288 * x + 536870912) ((s.prog unit x).begun % 4294967296) 1 (1024 * unit + x) unit, 0)
    else if rung = 2 then (s.orderRung (unit + 2 * 536870912) 0 2 unit (0x100 + unit), 0)
    else
      let ps := if unit = 255 then List.range 32 else [unit]
      (ps.foldl (fun s p => s.orderRung (p + 3 * 536870912) 0 3 p p) s, 0)

end Sys2Proof.Machine
end

