-- ==== Sys2Proof/Machine/Twin.lean ====
section
/-! DEFINITION. Twin operation: frames, digests, the self-check, and changes of control (chapter 18). -/

namespace Sys2Proof.Machine

open Sys2Proof.Bits

/-! ### Roles (R380 to R383) -/

/-- The TWN block runs from the OK completion of step 8 (R388); in TWIN it then exchanges frames (R373). -/
def State.twnRuns (s : State) : Bool := decide (8 ≤ s.bup.last)
def State.twinRuns (s : State) : Bool := s.b Reg.TWN_CFG_MODE && s.twnRuns

/-- EPOCH and SYNC of the peer's last valid frame. -/
def State.peerEpoch (s : State) : Nat := le s.twn.peer 4 2
def State.peerSync (s : State) : Bool := bit (byteAt s.twn.peer 6).toNat 2

/-- Event 0x1001. -/
def State.roleEvent (s : State) (became : Bool) (cause : Nat) : State :=
  s.ev 0x1001 (ofBool became + 2 * cause + 65536 * s.f Reg.TWN_STATUS_EPOCH) s.peerEpoch 0x152

/-- A change of control ends the pair's agreement: the new standby's SYNC and clean time begin again (R384). The spec gives event 0x1003
no cause for it, and none is written (DESIGN CHOICE, log entry 42). -/
def State.newPair (s : State) : State :=
  let s : State := { s with twn := { s.twn with matched := 0, clean := 0 } }
  (s.wr 0x110000C 0#32).setF Reg.TWN_STATUS_SYNC 0

/-- The new active continues from its own reference (R374, Table 20-5). -/
def State.ownReference (s : State) : State :=
  ((s.setF Reg.CLK_STATUS_TWIN_LOCK 0).setF Reg.CLK_STATUS_REF_SRC 0).setF Reg.CLK_TWIN_PHASE_OFFSET 0

/-- The module becomes active from its next frame (R380, R382, R386), with a cause of event 0x1001. -/
def State.takeControl (s : State) (cause : Nat) : State :=
  let e := if s.twn.peer = [] then 1 else (s.peerEpoch + 1) % 65536
  let was := s.mstate
  let s : State := { s with twn := { s.twn with flip := some (s.beatN + 1, true), asked := none, judge := none } }
  let s := s.setF Reg.TWN_STATUS_EPOCH e
  let s := (s.setF Reg.TWN_LAST_TAKE_CAUSE cause).setF Reg.TWN_LAST_TAKE_EPOCH e
  let s := (s.setF Reg.TWN_LAST_BEAT_BEAT s.beatLo).bump Reg.TWN_TAKEOVER_CNT
  let s := if cause = 3 ∨ cause = 4 then s.bump Reg.TWN_SWITCH_CNT else s
  let s := ((s.roleEvent true cause).enter 3 0).newPair.ownReference
  if was = 4 then s.ldgTakeover else s

/-- It becomes active unless a trigger of Table 1-7 outranks the change (R31), or an output mismatch waits for its decision (R378). -/
def State.becomeActive (s : State) (cause : Nat) : State :=
  if s.twn.judge.isSome then s else s.lowest fun s => s.takeControl cause

/-- The module becomes standby, with ACTIVE 0 from frame k (R381, R382). -/
def State.giveControl (s : State) (cause k : Nat) : State :=
  let s : State := { s with twn := { s.twn with flip := some (k, false), asked := none, judge := none } }
  let s := if cause = 5 then s.bump Reg.TWN_YIELD_CNT else s
  ((s.roleEvent false cause).enter 4 0).newPair

/-- It becomes standby under the same conditions. -/
def State.becomeStandby (s : State) (cause k : Nat) : State :=
  if s.twn.judge.isSome then s else s.lowest fun s => s.giveControl cause k

/-- YIELD (R381): a valid status section of this beat reports that the peer's frame was applied, and this module's carried
ACTIVE. A module in SAFE_STOP clears ACTIVE and keeps its state (Table 18-3). -/
def State.yield (s : State) (fr : Bytes) (v : Sections) : State :=
  let a := (byteAt fr 56).toNat
  let giving : Bool := match s.twn.flip with | some (_, false) => true | _ => false
  if s.twinRuns ∧ v.status ∧ bit a 1 ∧ a % 2 ≠ s.f Reg.TWN_STATUS_MODULE ∧ s.srcActive s.beatN ∧ ¬ giving then
    if s.mstate = 3 then s.becomeStandby 5 (s.beatN + 2)
    else ({ s with twn := { s.twn with flip := some (s.beatN + 2, false) } }).logTrigger 0 false
  else s

/-- The role taken when step 10 completes (R383): standby where the peer's last valid frame showed an active in service. -/
def State.stepTenRole (s : State) : State :=
  if ¬ s.b Reg.TWN_CFG_MODE then s.lowest fun s => s.enter 3 0
  else if s.b Reg.TWN_STATUS_PEER_ACTIVE ∧ s.f Reg.TWN_STATUS_PEER_MSTATE = 3 then s.lowest fun s => (s.roleEvent false 0).enter 4 0
  else ({ s with twn := { s.twn with judge := none, mism := false } }).becomeActive 0

/-! ### Digests and the self-check (R377, R378) -/

/-- Frames of ports in port order. -/
def byPort (l : List (Nat × Bytes)) : List Bytes :=
  (l.foldl (fun (acc : List (Nat × Bytes)) (e : Nat × Bytes) =>
    (acc.filter fun (x : Nat × Bytes) => decide (x.1 ≤ e.1)) ++ [e] ++ acc.filter fun (x : Nat × Bytes) => decide (e.1 < x.1)) []).map
      fun (e : Nat × Bytes) => e.2

/-- The output digest of this beat at its end. -/
def State.outDigest (s : State) : Bytes :=
  let n := s.beatN
  let links := s.stg.boards.flatMap fun (e : Nat × Board) => match e.2.sent with
    | some (k, fr) => if e.2.trained ∧ k = n + 1 then fr.take 4 ++ (fr.drop 7).take 1205 else []
    | none => []
  let pub := if s.bud.lastPub.1 = n then s.bud.lastPub.2 else []
  let roots := s.ldg.closed.flatMap fun (b : Batch) => if b.beat = n then (b.hdr.drop 128).take 32 else []
  Config.shake256 (links ++ (byPort s.twn.formed).flatten ++ toLe 2 (s.f Reg.BUD_THR_STATE_LINES) ++ pub ++ roots) 32

/-- The valid sections of an upstream frame (Table 9-2), after a byte with the validity of the five. -/
def Rx.digest (rx : Rx) : Bytes :=
  let part (v : Bool) (at_ n : Nat) : Bytes := if v then (rx.frame.drop at_).take n else []
  BitVec.ofNat 8 (31 - failedOf rx.ok) :: part rx.ok.sample 0 36 ++ part rx.ok.status 36 28 ++ part rx.ok.ack 192 8
    ++ part rx.ok.fault 256 64 ++ part rx.ok.half 640 36

/-- The input digest of this beat at its end. -/
def State.inDigest (s : State) : Bytes :=
  let links := s.stg.boards.flatMap fun (e : Nat × Board) =>
    if e.2.trained then
      (match e.2.rx with
       | some rx => if rx.beat = s.beatN then rx.digest else [0]
       | none => [0])
    else []
  Config.shake256 (links ++ (byPort s.twn.heard).flatten ++ s.twn.applied ++ s.twn.used) 32

/-- The self-check's items. Item 3 recomputes the digest from the retained outputs, which are those that were sent: it is 0. -/
def State.selfItems (s : State) : Nat :=
  let recent (o : Option Nat) : Bool := match o with | some b => decide (s.beatN < b + 1000) | none => false
  let down := s.parts.any fun (e : Nat × Part) => e.2.man.isSome && decide (s.f (Reg.RCV_PART_STATE_PSTATE e.1) ≠ 0)
  ofBool (recent s.twn.faultAt || recent s.twn.rungAt || decide (s.rcv.rungs ≠ [])) + 2 * ofBool (recent s.twn.eccAt) + 4 * ofBool down

/-- The OR of two sets of items. -/
def orItems (a b : Nat) : Nat := (BitVec.ofNat 4 a ||| BitVec.ofNat 4 b).toNat

/-- The self-check of a beat with an output mismatch. -/
def State.selfCheck (s : State) : State :=
  match s.twn.judge with
  | some (j, own, peer) =>
    if s.twn.mism ∨ own.isNone then
      { s with twn := { s.twn with judge := some (j, some (orItems (own.getD 0) s.selfItems), peer), mism := false } }
    else s
  | none => s

/-- SELF_CHECK (R378). -/
def execSelfCheck (s : State) : Res := .next s.selfCheck

/-- TAKEOVER_DECISION (R378, Table 18-2). -/
def State.takeover (s : State) : State :=
  match s.twn.judge with
  | some (j, some own, some peer) =>
    if s.beatN ≤ j then s
    else
      let standby := decide (s.mstate = 4)
      let sync := if standby then s.b Reg.TWN_STATUS_SYNC else s.peerSync
      let take := sync && decide (s.mstate = 3 ∨ s.mstate = 4) &&
        (if standby then decide (peer ≠ 0 ∧ own = 0) else decide (own ≠ 0 ∧ peer = 0))
      let s := s.ev 0x1002 (2 * own + 32 * peer + 512 * ofBool take) ((j - 3) % 4294967296) 0x152
      let s : State := { s with twn := { s.twn with judge := none, mism := false } }
      let s := s.syncClear 2
      if ¬ take then s else if standby then s.becomeActive 2 else s.becomeStandby 2 (s.beatN + 1)
  | _ => s

/-- TAKEOVER_DECISION (R378). -/
def execTakeoverDecision (s : State) : Res := .next s.takeover

/-! ### Twin frames (R373, R375) -/

/-- A mirrored record in RECORDS (Table 18-1). -/
def Mirrored.bytes : Mirrored → Bytes
  | .letter l cycle =>
    let q := match l.hdr.reply with | .host q _ => q.val | _ => 0
    let n := if l.data = [] then l.len else l.data.length
    [1, BitVec.ofNat 8 (LOp.code l.op)] ++ toLe 2 q ++ toLe 6 l.hdr.addr.toNat ++ toLe 2 cycle
      ++ [BitVec.ofNat 8 (n - 1), 0, 0, 0] ++ fit l.data ((l.data.length + 7) / 8 * 8)
  | .write off v _ => [2, 0, 0, 0] ++ toLe 4 off ++ [0, 0, 0, 0, 3, 0, 0, 0] ++ fit (toLe 4 v.toNat) 8

/-- The frame for the coming boundary, and the state with its free values used: DELIVERED before any delivery since the start is not stated. -/
def State.twinFrame (s : State) : Bytes × State :=
  let j := s.beatN + 1
  let active := decide (s.mstate = 3)
  let dig := match s.twn.digs.find? fun (e : Nat × Bytes × Bytes) => decide (e.1 + 3 = j) with | some e => e.2 | none => ([], [])
  let ent := match s.twn.draws.find? fun (e : Nat × Bytes) => decide (e.1 + 3 = j) with | some e => e.2 | none => []
  let recs := s.twn.mirror.flatMap fun (e : Nat × Mirrored) => if e.1 + 3 = j then e.2.bytes else []
  let src := s.f Reg.TWN_STATUS_MODULE + 2 * ofBool (s.srcActive j) + 4 * s.f Reg.TWN_STATUS_SYNC + 8 * ofBool s.twn.asked.isSome
  let grd := s.gstate + 16 * ((s.rd 0x500000).toNat / 256 % 1024)
  let delivered := match s.ldg.delivered with | some n => toLe 8 n | none => s.freeBytes 2
  let on (b : Bytes) (n : Nat) : Bytes := if active then fit b n else zeros n
  let self := match s.twn.judge with | some (_, some own, _) => own + 16 | _ => 0
  let body := toLe 4 j ++ toLe 2 (s.f Reg.TWN_STATUS_EPOCH) ++ [BitVec.ofNat 8 src, BitVec.ofNat 8 s.mstate] ++ toLe 4 grd
    ++ on (toLe 4 (s.f Reg.LDG_KEY_EPOCH_EPOCH)) 4 ++ on delivered 8 ++ on (keyId identityKey) 32 ++ zeros 8
    ++ fit dig.1 32 ++ fit dig.2 32 ++ on ent 32 ++ on recs 2904 ++ toLe 4 self
  let s : State := if active ∧ s.ldg.delivered.isNone then { s with free := s.free + 2 } else s
  (body ++ toLe 4 (crc32c body).toNat, s)

/-- A letter type of its code (Table 2-3). -/
def opOf (code : Nat) : Option LOp := [LOp.put, .get, .add, .swap, .cas, .max, .min].find? fun o => decide (LOp.code o = code)

/-- The peer's letter is formed here too, to be injected with the active's (R375): this module's own SEQ, no access. -/
def State.mirrorLetter (s : State) (n : Nat) (op : LOp) (r : Bytes) : State :=
  let q := le r 2 2 % 64
  let len := (byteAt r 12).toNat + 1
  let width := if op = .cas then len / 2 else len
  let a := le r 4 6
  let seq := (s.f (Reg.HIF_SQ_SEQ_SEQ q) + 1) % 4294967296
  let s := s.setF (Reg.HIF_SQ_SEQ_SEQ q) seq
  let src := if op = .put then 0 else if op = .get then 1 else 2
  let id := s.hif.formed + 1
  let l : Letter :=
    { op := op
      hdr := { sender := .unit (BitVec.ofNat 16 (0x500 + q)), addr := BitVec.ofNat 48 a, tag := BitVec.ofNat 12 seq
               reply := .host (Fin.ofNat 64 q) id }
      len := width, data := if op = .get then [] else (r.drop 16).take len, issued := 1250 * (n + 3) + le r 10 2 }
  let sent : HLetter := { id := id, q := q, seq := seq, src := src, op := op, addr := a, len := width, access := 0 }
  { s with hif := { s.hif with formed := id, sent := s.hif.sent ++ [sent] }
           twn := { s.twn with mirror := s.twn.mirror ++ [(n, .letter l (le r 10 2))] } }

/-- The records of a frame, to the end of the list; k bounds their number. -/
def State.takeRecords (s : State) (n : Nat) (r : Bytes) : Nat → State
  | 0 => s
  | k + 1 =>
    let kind := (byteAt r 0).toNat
    if r.length < 16 ∨ (kind ≠ 1 ∧ kind ≠ 2) then s
    else
      let len := (byteAt r 12).toNat + 1
      let next := r.drop (16 + (len + 7) / 8 * 8)
      if kind = 2 then
        let w : Mirrored := .write (le r 4 4) (BitVec.ofNat 32 (le r 16 4))
        State.takeRecords { s with twn := { s.twn with mirror := s.twn.mirror ++ [(n, w)] } } n next k
      else match opOf (byteAt r 1).toNat with
        | some .get => State.takeRecords (s.mirrorLetter n .get r) n (r.drop 16) k
        | some op => State.takeRecords (s.mirrorLetter n op r) n next k
        | none => State.takeRecords s n next k

/-- The precharge that a standby follows, for a change of control during it (R149): its timer starts where the state or the flags show
a start, and phases are disabled as the active's row of Table 6-5 left them. -/
def State.followPrecharge (s : State) (was : Nat) (wasOff : Bool) : State :=
  let off := s.b Reg.GRD_STATE_WAIT_GRID || s.b Reg.GRD_STATE_PRE_FAIL
  if s.gstate ≠ 1 then { s with grd := { s.grd with disabled := false } }
  else if was ≠ 1 then { s with grd := { s.grd with preAt := s.beatN, preRun := 0, disabled := off || decide (was = 4) } }
  else if wasOff ∧ ¬ off then
    { s with grd := { s.grd with preAt := s.beatN, preRun := 0, disabled := false } }
  else { s with grd := { s.grd with disabled := s.grd.disabled || off } }

/-- What goes with the flags that a standby follows, for a change of control (R149): the beats at which they rose, the loss of the grid
that was logged, the record that ORPHAN holds. -/
def State.followFlags (s old : State) : State :=
  let rose (f : Fld) : Bool := s.b f && !old.b f
  let fell (f : Fld) : Bool := !s.b f && old.b f
  let G := s.grd
  let lost := (decide (s.gstate = 4) && decide (old.gstate ≠ 4)) || rose Reg.GRD_STATE_WAIT_GRID && decide (old.gstate = 1)
  let s : State := { s with grd := { G with
      coolAt := if rose Reg.GRD_STATE_COOLANT then s.beatN else G.coolAt
      coolDone := G.coolDone && !rose Reg.GRD_STATE_COOLANT
      coolHost := if rose Reg.GRD_STATE_COOLANT then s.b Reg.GRD_CTL_COOLANT_REQ && decide (G.coolLow < 10) else G.coolHost
      nbrSrc := if rose Reg.GRD_STATE_NEIGHBOUR then
          (if 10 ≤ G.shelfLow then 0 else if s.b Reg.GRD_CTL_NEIGHBOUR_REQ then 1 else 2) else G.nbrSrc
      quiet := if rose Reg.GRD_STATE_NEIGHBOUR then 0 else G.quiet
      yieldAt := if rose Reg.GRD_STATE_RAMP_YIELD then s.beatN else G.yieldAt
      steepest := if rose Reg.GRD_STATE_RAMP_YIELD then 0 else G.steepest
      orphanAt := if rose Reg.GRD_STATE_HOST_LOST then s.beatN else G.orphanAt
      orphanOn := G.orphanOn && decide (s.gstate = 5)
      lossLogged := lost || G.lossLogged && !s.returned } }
  let s : State := if fell Reg.GRD_STATE_COOLANT then { s with bud := { s.bud with coolant := 0 } } else s
  if s.gstate = 5 ∧ old.gstate ≠ 5 then { s with bud := { s.bud with orphanRec := s.bud.inForce } } else s

/-- What a standby takes from the frame of an active (R149, R375, R386): grid control's state, what the ledger has delivered,
and the mirrored records. -/
def State.standbyTake (s : State) : State :=
  let fr := s.twn.peer
  let g := le fr 8 4
  let was := s.gstate
  let off := s.b Reg.GRD_STATE_WAIT_GRID || s.b Reg.GRD_STATE_PRE_FAIL
  let s := ((s.wr 0x500000 (BitVec.ofNat 32 (g % 16 + 256 * (g / 16 % 1024)))).followPrecharge was off).followFlags s
  let s := s.ldgPeer (le fr 16 8)
  s.takeRecords (s.beatN - 2) ((fr.drop 160).take 2904) 182

/-- Step 8 runs: the twin link carries frames already (R373). -/
def State.step8 (s : State) : Bool := s.b Reg.BUP_RESULT_BUSY && decide (s.f Reg.BUP_RESULT_STEP = 8)

/-- PEER_ACTIVE and PEER_MSTATE follow a valid frame. -/
def State.peerShown (s : State) (frame : Bytes) : State :=
  (s.setF Reg.TWN_STATUS_PEER_ACTIVE ((byteAt frame 6).toNat / 2 % 2)).setF Reg.TWN_STATUS_PEER_MSTATE ((byteAt frame 7).toNat % 16)

/-- The active's rung or swap clears SYNC (R379); the frame does not show it, and whether one came is a free value (log entry 42). -/
def State.peerDisturbs (s : State) : State :=
  if s.b Reg.TWN_STATUS_SYNC ∧ Config.peerDisturbed s.free then s.useFree.syncClear 3 else s.useFree

/-- TWIN_FRAME (R373): frame j is complete and its CHECK passes before boundary j. During step 8, whose end may adopt the peer's beat
counter, a frame shows the peer's state and no more (R374). -/
def execTwinFrame (frame : Bytes) (ok : Bool) (s : State) : Res :=
  .next (if s.power ∧ s.b Reg.TWN_CFG_MODE ∧ ¬ s.twnRuns ∧ s.step8 ∧ ok ∧ frame.length = 3072 then
    ({ s with twn := { s.twn with peer := frame } }).peerShown frame
  else if s.power ∧ s.twinRuns ∧ ok ∧ ¬ s.twn.got ∧ frame.length = 3072 ∧ le frame 0 4 = (s.beatN + 1) % 4294967296 then
    let src := (byteAt frame 6).toNat
    let s := if s.mstate = 4 ∧ bit src 1 then s.ldgPeerEpoch (le frame 12 4) else s
    let s : State := { s with twn := { s.twn with peer := frame, got := true } }
    let s := s.peerShown frame
    let self := (byteAt frame 3064).toNat
    let judge := match s.twn.judge with
      | some (j, own, peer) => if bit self 4 then some (j, own, some (self % 16)) else some (j, own, peer)
      | none => none
    let s : State := { s with twn := { s.twn with judge := judge } }
    if s.mstate = 4 ∧ bit src 1 then
      let s : State := { s with twn := { s.twn with draws := s.twn.draws ++ [(s.beatN - 2, (frame.drop 128).take 32)] } }
      s.standbyTake.peerDisturbs
    else s
  else s)

/-- TWIN_LINK_LOST (R373, Table 18-3): frames missing at two boundaries in a row. -/
def execTwinLinkLost (s : State) : Res :=
  .next (if s.twinRuns ∧ s.b Reg.TWN_STATUS_LINK ∧ 2 ≤ s.twn.missRun then
    let s := (s.setF Reg.TWN_STATUS_LINK 0).ev 0x1004 1 (s.rd Reg.TWN_LINK_MISS_CNT).toNat 0x152
    let s : State := { s with twn := { s.twn with judge := none, mism := false } }
    let s := s.syncClear 5
    if s.mstate = 4 ∧ s.b Reg.TWN_STATUS_PEER_ACTIVE ∧ s.f Reg.TWN_STATUS_PEER_MSTATE ≠ 5 then s.becomeActive 1 else s
  else s)

/-- SYNC_SET (R379): every comparison of RESYNC_MS matched. That the state of a module that joined has converged, the command tells: its
ledger does not hold the requests opened before. -/
def execSyncSet (s : State) : Res :=
  .next (if s.mstate = 4 ∧ s.twinRuns ∧ s.b Reg.TWN_STATUS_LINK ∧ ¬ s.b Reg.TWN_STATUS_SYNC ∧
      s.lf Reg.TWN_CFG_RESYNC_MS * 1000 ≤ s.twn.matched then
    (s.setF Reg.TWN_STATUS_SYNC 1).ev 0x1003 1 0 0x152 else s)

/-- RETURN_OF_CONTROL (R382): the preferred standby, clean for CLEAN_S, on the frame before a multiple of 1,000. -/
def execReturnOfControl (s : State) : Res :=
  let clean := s.lf Reg.TWN_CFG_CLEAN_S
  .next (if s.mstate = 4 ∧ s.twinRuns ∧ s.f Reg.TWN_CFG_PREF = s.f Reg.TWN_STATUS_MODULE ∧ s.b Reg.TWN_STATUS_SYNC ∧ 0 < clean ∧
      clean ≤ (s.rd 0x110000C).toNat ∧ s.b Reg.TWN_STATUS_PEER_ACTIVE ∧ s.f Reg.TWN_STATUS_PEER_MSTATE = 3 ∧
      (s.beatN + 1) % 1000 = 0 then s.becomeActive 3 else s)

/-- A standby whose peer's last valid frame shows SWITCH takes control at the boundary before a frame whose number is a multiple of 1,000
(R384, Table 18-3). -/
def State.switchTake (s : State) : State :=
  let src := (byteAt s.twn.peer 6).toNat
  if s.mstate = 4 ∧ bit src 1 ∧ bit src 3 ∧ s.b Reg.TWN_STATUS_SYNC ∧ s.b Reg.TWN_STATUS_LINK ∧ (s.beatN + 1) % 1000 = 0 then
    s.becomeActive 4
  else s

/-- A write of TWN_CTL.SWITCH 1 (R384). -/
def State.askSwitch (s : State) : State :=
  if s.mstate ≠ 3 ∨ ¬ s.twinRuns then s.ev 0x1005 0 0 0x152
  else if ¬ s.peerSync ∨ ¬ s.b Reg.TWN_STATUS_LINK then s.ev 0x1005 1 0 0x152
  else if s.f Reg.TWN_STATUS_PEER_MSTATE = 5 then s.ev 0x1005 2 0 0x152
  else { s with twn := { s.twn with asked := some s.beatN } }

/-- SWITCH_TIMEOUT (R384): the peer has not taken control for 1,000 beats. -/
def execSwitchTimeout (s : State) : Res :=
  .next (match s.twn.asked with
    | some a => if a + 1000 ≤ s.beatN then ({ s with twn := { s.twn with asked := none } }).ev 0x1005 3 0 0x152 else s
    | none => s)

/-- TWIN_LOCK (R374): the standby locks to the active's reference. -/
def execTwinLock (phase : BitVec 8) (s : State) : Res :=
  .next (if s.b Reg.TWN_CFG_MODE ∧ s.mstate ≠ 3 then
    ((s.setF Reg.CLK_STATUS_TWIN_LOCK 1).setF Reg.CLK_STATUS_REF_SRC 1).setF Reg.CLK_TWIN_PHASE_OFFSET phase.toNat
  else s)

/-! ### The twin block at the end of a beat and at a boundary -/

/-- At the end of a beat: its digests are kept and the next twin frame is sent (R373, R377). -/
def State.twinEnd (s : State) : State :=
  if ¬ s.twinRuns then s
  else
    let s := s.selfCheck
    let keep := s.twn.digs.filter fun (e : Nat × Bytes × Bytes) => decide (s.beatN < e.1 + 6)
    let s : State := { s with twn := { s.twn with digs := keep ++ [(s.beatN, s.inDigest, s.outDigest)] } }
    let r := s.twinFrame
    r.2.drive (.twin r.1)

/-- DIGEST_COMPARE (R378): at boundary j, the digests of beat j − 3. -/
def State.digestCompare (s : State) : State :=
  let j := s.beatN
  let judged (m : Nat) : Bool := decide (m = 3 ∨ m = 4)
  match s.twn.digs.find? fun (e : Nat × Bytes × Bytes) => decide (e.1 + 3 = j) with
  | none => s
  | some (_, i, o) =>
    if ¬ (judged s.mstate && judged (s.f Reg.TWN_STATUS_PEER_MSTATE) && s.b Reg.TWN_STATUS_LINK && s.twn.got) then s
    else if fit i 32 ≠ (s.twn.peer.drop 64).take 32 then
      let s := (s.bump Reg.TWN_INPUT_DIV_CNT).ev 0x1002 1 ((j - 3) % 4294967296) 0x152
      s.syncClear 1
    else if fit o 32 ≠ (s.twn.peer.drop 96).take 32 then
      let judge := match s.twn.judge with | some x => some x | none => some (j, none, none)
      let s := s.bump Reg.TWN_MISMATCH_CNT
      { s with twn := { s.twn with matched := 0, judge := judge, mism := true } }
    else { s with twn := { s.twn with matched := s.twn.matched + 1 } }

/-- The frame of this boundary came or is missing (R373). -/
def State.twinArrived (s : State) : State :=
  if s.twn.got then
    let s : State := { s with twn := { s.twn with okRun := s.twn.okRun + 1, missRun := 0 } }
    if ¬ s.b Reg.TWN_STATUS_LINK ∧ 1000 ≤ s.twn.okRun then
      (s.setF Reg.TWN_STATUS_LINK 1).ev 0x1004 0 (s.rd Reg.TWN_LINK_MISS_CNT).toNat 0x152
    else s
  else
    let s := s.bump Reg.TWN_LINK_MISS_CNT
    { s with twn := { s.twn with okRun := 0, missRun := s.twn.missRun + 1 } }

/-- The clean time (R379). -/
def State.cleanTime (s : State) : State :=
  if s.b Reg.TWN_STATUS_SYNC then
    let n := s.twn.clean + 1
    let s : State := { s with twn := { s.twn with clean := n } }
    s.wr 0x110000C (BitVec.ofNat 32 (min 4294967295 (n / 1000000)))
  else s

/-- A new beat's accounts begin: what was heard, formed, applied and drawn; a due change of ACTIVE has come. -/
def State.twinFresh (s : State) : State :=
  let t := s.twn
  let act := match t.flip with | some (k, v) => if k ≤ s.beatN then v else t.act | none => t.act
  let flip := match t.flip with | some (k, v) => if k ≤ s.beatN then none else some (k, v) | none => none
  { s with twn := { t with act := act, flip := flip, got := false, heard := [], formed := [], applied := [], used := []
                           draws := t.draws.filter fun (e : Nat × Bytes) => decide (s.beatN < e.1 + 8) } }

/-- The twin block at a boundary. The boundary that restores the link compares nothing yet (R378). -/
def State.twinBoundary (s : State) : State :=
  (if ¬ s.twinRuns then s
    else
      let up := s.b Reg.TWN_STATUS_LINK
      let s := s.twinArrived
      (if up then s.digestCompare else s).cleanTime.switchTake).twinFresh

end Sys2Proof.Machine
end

