-- ==== Sys2Proof/Machine/BringUp.lean ====
section
/-! DEFINITION. Bring-up and retraining (chapter 16). -/

namespace Sys2Proof.Machine

open Sys2Proof.Bits

/-! ### Requesting a step (R335) -/

/-- A request for step n is accepted. -/
def State.stepOk (s : State) (n : Nat) : Bool :=
  !s.b Reg.BUP_RESULT_BUSY &&
  ((decide (s.mstate = 1 ∧ 1 ≤ n ∧ n ≤ 9) && (decide (n = s.bup.last + 1) || (decide (8 ≤ n) && bit s.bup.ended n))) ||
   decide (n = 10 ∧ s.mstate = 2))

/-- A write of BUP_STEP.STEP. -/
def State.stepReq (s : State) (path : Path) (v : Nat) : State :=
  let n := v % 16
  if s.stepOk n then
    let s := ((s.setF Reg.BUP_STEP_STEP n).setF Reg.BUP_RESULT_STEP n).setF Reg.BUP_RESULT_BUSY 1
    { s with bup := { s.bup with outcome := none, began := s.beatN, loading := false
                                 dram := if n = 5 then false else s.bup.dram
                                 asked9 := s.bup.asked9 || decide (n = 9) } }
  else s.ev 0x0E08 0xF00000 v 0xFFF (pathCode path)

/-- The work of step n runs. -/
def State.working (s : State) (n : Nat) : Bool :=
  s.b Reg.BUP_RESULT_BUSY && decide (s.f Reg.BUP_RESULT_STEP = n) && s.bup.outcome.isNone

/-- The work of the running step ends with a status and a reason; STEP_END follows. The outcomes that only a power-on or a firmware
change alters are remembered (R337); those of reasons 0x03 and 0x04 the stored certificate and banks alone decide. -/
def State.worked (s : State) (status reason : Nat) : State :=
  { s with bup := { s.bup with
    outcome := some (status, reason)
    stuck := if [1, 2, 8, 9].contains reason then s.bup.stuck ++ [reason] else s.bup.stuck } }

/-- A failure that a repeat of its step does not cure has come before (R337). -/
def State.stuck (s : State) (reason : Nat) : Bool := s.bup.stuck.contains reason

/-! ### Steps 1 to 4 (R322, R338 to R341) -/

/-- The stored identity certificate verifies and names the derived key (R322). -/
def identityOk : Bool :=
  decide (digest Config.vendorRoot = Config.vendorRootDigest) && certOk Config.identityCert 1 Config.vendorRoot &&
  decide ((Config.identityCert.drop 24).take 32 = fit (keyId identityKey) 32)

/-- The identity check (R322): the key cannot be derived once the seed-kill fuse is blown (R330). -/
def State.idOk (s : State) : Bool := identityOk && decide (s.f Reg.SEC_STATUS_DEBUG ≠ 2)

/-- FUSE_ROM_CHECK (R338); the always-on image in force is measured with the ROM. -/
def execFuseRomCheck (fuseOk romOk : Bool) (s : State) : Res :=
  .next (if ¬ s.working 1 then s
    else if ¬ fuseOk ∨ s.stuck 1 then s.worked 0x30 1
    else
      let s := ((s.setMeas 3 (digest Config.romImage)).setMeas 2 ((s.bankImage 1).drop 64)).fuseMeas
      if ¬ romOk ∨ s.stuck 2 then s.worked 0x30 2
      else if s.idOk then (s.setF Reg.SEC_STATUS_ID_OK 1).worked 0 0
      else (((s.setF Reg.SEC_STATUS_ID_OK 0).bump Reg.SEC_VERIFY_FAIL_CNT).ev 0x0D01 0 0).worked 0x21 3)

/-- A Postmaster bank that fails R329 (event 0x0D01). -/
def State.bankFailed (s : State) (bank cond : Nat) : State :=
  (s.bump Reg.SEC_VERIFY_FAIL_CNT).ev 0x0D01 (1 + 65536 * cond) bank

/-- A Postmaster bank is used. -/
def State.useBank (s : State) (bank : Nat) : State :=
  let s := (s.setF Reg.HIF_FW_STATUS_PM_BANK bank).setF Reg.HIF_FW_STATUS_PM_PENDING 0
  (s.setMeas 1 (((s.sec.banks.get bank []).drop 64).take 64)).worked 0 0

/-- FIRMWARE_VERIFY (R339): the preferred bank, or else the other. -/
def execFirmwareVerify (s : State) : Res :=
  let a := s.hif.pmBank
  let fault (b : Nat) : Nat := fwFault (s.sec.banks.get b []) 1 (s.f Reg.SEC_STATUS_SVN_MIN)
  .next (if ¬ s.working 2 then s
    else if fault a = 0 then s.useBank a
    else
      let t := s.bankFailed a (fault a)
      if fault (1 - a) = 0 then (t.ev 0x0E06 (1 - a) (fault a)).useBank (1 - a)
      else (t.bankFailed (1 - a) (fault (1 - a))).worked 0x21 4)

/-- CLOCKS_START (R340): tj is TJ_MAX in 0.1 °C; which sensor shows it (Table 13-2) the step's account does not give: a free value. -/
def execClocksStart (fabPll linkPll : Bool) (tj : BitVec 12) (s : State) : Res :=
  .next (if ¬ s.working 3 then s
    else
      let s := ((s.setF Reg.MPW_TJ_TJ_MAX tj.toNat).setF Reg.MPW_TJ_SENSOR (s.freeWord.toNat % 40)).useFree
      if 10 * s.f Reg.MPW_THERM_T_THR ≤ tj.toNat then s.worked 0x30 5
      else
        let s := (s.setF Reg.CLK_STATUS_FAB_LOCK (ofBool fabPll)).setF Reg.CLK_STATUS_LINK_LOCK (ofBool linkPll)
        if fabPll && linkPll then s.worked 0 0 else s.worked 0x30 6)

/-- LPDDR5_TRAINING (R341): the PLLs lock before the channels train; of a step that fails the command does not tell whether they
have: a free value. -/
def execLpddr5Training (ok : Bool) (s : State) : Res :=
  .next (if ¬ s.working 4 then s
    else if ok then (s.setF Reg.CLK_STATUS_MEM_LOCK 1).worked 0 0
    else ((s.setF Reg.CLK_STATUS_MEM_LOCK (s.freeWord.toNat % 2)).useFree).worked 0x30 7)

/-! ### Step 5 (R341, R342) -/

/-- Partition p after its test: held where it has not passed, a rung on it ended, and released where an earlier test was cut short. -/
def State.tested (s : State) (bad : Bool) (p : Nat) : State :=
  if bad then s.lose p
  else if s.unavailable p then s.releasePart p 0 else s

/-- The memory test ends with the partitions that have failed it and those that it did not reach: DRAM reads all ones, and
BAR4 opens. -/
def State.memoryEnd (s : State) (failed cut : Nat) : State :=
  let bad (p : Nat) : Bool := bit failed p || bit cut p || bit (s.f Reg.BUP_DRAM_FAIL_FAIL) p
  let all := (List.range 32).foldl (fun m p => if bad p then m else m + 2 ^ p) 0
  let fails := (List.range 32).foldl (fun m p => if bit failed p || bit (s.f Reg.BUP_DRAM_FAIL_FAIL) p then m + 2 ^ p else m) 0
  let s := (List.range 32).foldl (fun s p => s.tested (bad p) p) s
  let s := (s.setF Reg.BUP_DRAM_FAIL_FAIL fails).setF Reg.BUP_PART_AVAIL_AVAIL all
  { s with mem := Tab.outside s.mem 140737488355328 211106232532992, bup := { s.bup with dram := true } }

/-- Limit of a step in s; 1 ms of step 10 apart (Table 16-1). -/
def stepLimit (n : Nat) : Nat := [0, 2, 5, 1, 15, 300, 60, 1, 10, 600].getD n 0

/-- MEMORY_TEST (R342): partitions that failed, partitions not reached, failing addresses and repaired rows by partition + 32 ×
channel. -/
def execMemoryTest (failed cutShort : BitVec 32) (fails : List (Nat × Word)) (repairs : List (Nat × Nat)) (s : State) : Res :=
  .next (if ¬ s.working 5 then s
    else
      let s := repairs.foldl (fun s (e : Nat × Nat) => (s.bump Reg.BUP_DRAM_REPAIR_CNT).ev 0x0E03 (e.1 % 64) e.2) s
      let s := fails.foldl (fun s (e : Nat × Word) => s.ev 0x0E02 (e.1 % 64) e.2.toNat) s
      let m := fails.foldl (fun m (e : Nat × Word) => setBit m (e.1 % 32) true) failed.toNat
      let s := s.memoryEnd m cutShort.toNat
      if cutShort ≠ 0 then s.worked 0x30 15
      else if s.f Reg.BUP_DRAM_FAIL_FAIL % 4 ≠ 0 ∨ s.stuck 8 then s.worked 0x30 8
      else s.worked 0 0)

/-! ### Steps 6 and 7 (R343, R344) -/

/-- Cells that failed join the list, until it is full. -/
def State.listCells (s : State) : List (CellId × Nat) → State × Bool
  | [] => (s, false)
  | e :: r =>
    if s.unavailable e.1.p.val then State.listCells s r
    else if s.deadFull ∧ ¬ s.deadCells.contains (cellNo e.1) then (s, true)
    else State.listCells (s.deadCell (cellNo e.1) e.2) r

/-- CELL_BIST (R343): cells and clusters (by number) that failed, each with the test. -/
def execCellBist (cells : List (CellId × Nat)) (clusters : List (Nat × Nat)) (s : State) : Res :=
  .next (if ¬ s.working 6 then s
    else
      let r := s.deadCount.listCells cells
      let s := clusters.foldl (fun s (e : Nat × Nat) =>
        if e.1 < 640 ∧ ¬ s.unavailable (e.1 / 20) then s.deadCluster e.1 e.2 else s) r.1
      let s := s.dropDead
      if r.2 ∨ s.stuck 9 then s.worked 0x30 9 else s.worked 0 0)

/-- FIRMWARE_BROADCAST (R344): one FIRMWARE circular, with the image's length in 64-byte blocks and BUILD; at its effect beat the routers
write and hash the image (`loadSequencers`). The command brings the clusters whose digest, returned by letter, differed and
differed again after the second sending. -/
def execFirmwareBroadcast (badTwice : List Nat) (s : State) : Res :=
  .next (if ¬ s.working 7 then s
    else
      let param := ceilDiv s.seqImage.length 64 % 65536 + 65536 * (s.f Reg.PM_BUILD_LO % 65536)
      let s := s.issueCirc { type := 4, src := 0x8000, effect := s.beatN + 2, param := param }
      let s := badTwice.foldl (fun s c => if c < 640 ∧ ¬ s.unavailable (c / 20) then s.deadCluster c 9 else s) s
      let s := s.dropDead
      let req := (s.rd 0xF0100C).toNat
      if (List.range 32).any fun p => bit req p && !s.live? p then s.worked 0x30 10 else s.worked 0 0)

/-! ### Step 8 (R345, R346, R372, R374) -/

/-- An entry of the difference report (Table 16-3); what the spec does not state of it is a free value. -/
structure Diff where
  kind : Nat
  index : Option Nat := none
  expected : Option Nat := none
  found : Option Nat := none
deriving DecidableEq, Repr

/-- The descriptor's fields (Table 16-2). -/
def State.topo (s : State) : Bytes := s.rdBytes 0xF01000 40

/-- A wrong MAGIC or FORMAT, or a reserved byte that is not 0 (R345). -/
def topoBad (d : Bytes) : Bool :=
  decide (le d 0 4 ≠ 0x44544E57 ∨ le d 4 2 ≠ 1 ∨ byteAt d 11 ≠ 0) || ((d.drop 36).take 28).any fun b => decide (b ≠ 0)

/-- The link of an expected board that trained: its latency and BOARD field (R193: up to 32 cycles). -/
def trainedAs (t : Topology) (b : Nat) : Option (Nat × Nat) :=
  (t.boards.find? fun (e : Nat × Nat × Nat) => decide (e.1 = b ∧ e.2.1 ≤ 32)).map fun (e : Nat × Nat × Nat) => e.2

/-- Differences of boards, by kind. -/
def boardDiffs (d : Bytes) (t : Topology) (kind : Nat) : List Diff :=
  (List.range 24).filterMap fun b =>
    let want := bit (le d 8 4) b
    match trainedAs t b with
    | some (_, f) => if want then (if kind = 3 ∧ f ≠ b then some { kind := 3, index := some b, expected := some b, found := some f } else none)
        else if kind = 2 ∧ t.lit.contains b then some { kind := 2, index := some b } else none
    | none =>
      if kind = 1 ∧ want then some { kind := 1, index := some b, expected := some b, found := some 0xFFFF }
      else if kind = 2 ∧ ¬ want ∧ t.lit.contains b then some { kind := 2, index := some b } else none

/-- Differences of monitor units, by kind: ports of an OPTICAL shelf, positions of a RADIO chain. -/
def cmuDiffs (d : Bytes) (t : Topology) (kind : Nat) : List Diff :=
  let mode := (byteAt d 7).toNat
  let n := if mode = 0 then 96 else if mode = 1 then min 96 (byteAt d 17).toNat else 0
  (List.range n).filterMap fun i =>
    let e := (byteAt d (64 + i)).toNat
    match (t.cmus.find? fun (x : Nat × Nat) => decide (x.1 = i)).map (fun (x : Nat × Nat) => x.2) with
    | none => if kind = 4 ∧ e ≠ 255 then some { kind := 4, index := some i, expected := some e, found := some 0xFFFF } else none
    | some f =>
      if e = 255 then (if kind = 6 then some { kind := 6, index := some i, found := some f } else none)
      else if kind = 5 ∧ f ≠ e then some { kind := 5, index := some i, expected := some e, found := some f } else none

/-- The twin differs (R372, R412). -/
def State.twinDiff (s : State) (d : Bytes) (t : Topology) : Bool :=
  let mode := s.f Reg.TWN_CFG_MODE
  decide ((byteAt d 6).toNat ≠ mode) || decide ((byteAt d 6).toNat = 1 ∧ s.f Reg.GLB_CAPS_TWIN_LINK = 0) ||
  (decide (mode = 1) && (!t.twinTrained || decide (200 < t.twinLatency) || t.rolesEqual || !t.peerMode))

/-- The difference report, in ascending KIND, then INDEX. -/
def State.diffs (s : State) (d : Bytes) (t : Topology) : List Diff :=
  if topoBad d then [{ kind := 15 }]
  else
    let parts := List.range 32
    let dead (p : Nat) : Nat := ((clustersOf p).filter s.deadClusters.contains).length
    boardDiffs d t 1 ++ boardDiffs d t 2 ++ boardDiffs d t 3 ++ cmuDiffs d t 4 ++ cmuDiffs d t 5 ++ cmuDiffs d t 6
      ++ (if s.twinDiff d t then [{ kind := 7 }] else [])
      ++ (if s.f Reg.HIF_LINK_WIDTH < (byteAt d 18).toNat then
        [{ kind := 8, expected := some (byteAt d 18).toNat, found := some (s.f Reg.HIF_LINK_WIDTH) }] else [])
      ++ parts.filterMap (fun p => if bit (le d 12 4) p ∧ ¬ bit (s.f Reg.BUP_PART_AVAIL_AVAIL) p then
        some { kind := 9, index := some p } else none)
      ++ parts.filterMap (fun p => if (byteAt d 16).toNat < dead p then
        some { kind := 10, index := some p, expected := some (byteAt d 16).toNat, found := some (dead p) } else none)

/-- An entry's bytes. -/
def Diff.bytes (e : Diff) (w : Nat) : Bytes :=
  [BitVec.ofNat 8 e.kind, 0] ++ toLe 2 (e.index.getD w) ++ toLe 2 (e.expected.getD w) ++ toLe 2 (e.found.getD w)

/-- The report in BUP_DIFF: up to 511 entries. -/
def State.report (s : State) (ds : List Diff) : State :=
  let ds := ds.take 511
  let r := ds.foldl (fun (r : Bytes × State) e => (r.1 ++ e.bytes r.2.freeWord.toNat, r.2.useFree)) (toLe 4 ds.length ++ zeros 4, s)
  let t : State := { r.2 with regs := Tab.outside r.2.regs 0xF02000 0xF03000 }
  t.wrBytes 0xF02000 r.1 (2 + 2 * ds.length)

/-- The beat counter is adopted from the peer (R374): by a module whose peer is in service, or by module B. -/
def State.adopt (s : State) (t : Topology) : State :=
  let peer := s.f Reg.TWN_STATUS_PEER_MSTATE
  if s.b Reg.TWN_CFG_MODE ∧ t.twinTrained ∧ (peer = 3 ∨ peer = 4 ∨ s.f Reg.TWN_STATUS_MODULE = 1) then
    let old := s.beatLo
    let gone := s.beatN - s.bup.began
    let boards : Tab Board := s.stg.boards.map fun (e : Nat × Board) => (e.1, { e.2 with sent := none, rx := none })
    let s : State := { s with beat := t.peerBeat, bup := { s.bup with began := t.peerBeat.toNat - gone }
                              stg := { s.stg with boards := boards.filter fun (e : Nat × Board) => decide (e.2 ≠ {})
                                                  taken := t.peerBeat.toNat } }
    s.ev 0x1007 old s.beatLo 0x152
  else s

/-- Stage links are trained (R346): of expected boards that were found. A link that an earlier run of the step trained stays trained. -/
def State.trainAll (s : State) (d : Bytes) (t : Topology) : State :=
  (List.range 24).foldl (fun s b =>
    let want := bit (le d 8 4) b && !topoBad d
    match t.boards.find? fun (e : Nat × Nat × Nat) => decide (e.1 = b) with
    | some e => if want then s.trainLink b e.2.1 e.2.2 else s
    | none => s) s

/-- REF to every port of an OPTICAL shelf, or on DATA_CH along a RADIO chain under the descriptor's CHAIN_KEY to each position (R346, R223,
R224). The exchanges stand within the step's command: every frame shows its beat (DESIGN CHOICE, log entry 74). -/
def State.discover (s : State) (d : Bytes) : State :=
  let frame (seq : Nat) : Bytes :=
    let fr := [4, BitVec.ofNat 8 seq] ++ toLe 4 s.beatLo ++ zeros 16
    fr ++ toLe 4 (crc32c fr).toNat
  if topoBad d then s
  else if byteAt d 7 = 0 then
    let s := (List.range 96).foldl (fun t i => t.monOut 0 i (frame s.mon.refs)) s
    { s with mon := { s.mon with refs := (s.mon.refs + 1) % 256 } }
  else if byteAt d 7 = 1 then
    (List.range (byteAt d 17).toNat).foldl (fun s i =>
      let psdu := toLe 2 (i + 256 * 15) ++ frame s.mon.chainSeq
      let s : State := { s with mon := { s.mon with chainSeq := (s.mon.chainSeq + 1) % 256 } }
      s.monOut (byteAt d 19).toNat i (psdu ++ psduTag ((d.drop 20).take 16) psdu)) s
  else s

/-- TOPOLOGY_DISCOVERY (R346). -/
def execTopologyDiscovery (found : Topology) (s : State) : Res :=
  .next (if ¬ s.working 8 then s
    else
      let d := s.topo
      let s := ((s.adopt found).trainAll d found).discover d
      let up := s.b Reg.TWN_CFG_MODE && found.twinTrained && decide (found.twinLatency ≤ 200)
      let s := s.setF Reg.TWN_STATUS_LINK (ofBool up)
      let ds := s.diffs d found
      let s := s.report ds
      if ds = [] then s.worked 0 0
      else (s.ev 0x0E05 (s.rd 0xF02000).toNat (s.rd 0xF02008).toNat).worked 0x31 11)

/-! ### Steps 9 and 10 (R347, R348) -/

/-- Partitions that step 9 loads. -/
def State.selected9 (s : State) : List Nat := (List.range 32).filter fun p => bit (s.f Reg.BUP_MAN_SEL_PARTS) p

/-- MANIFEST_LOAD (R347): every selected partition starts its load. -/
def execManifestLoad (s : State) : Res :=
  .next (if s.working 9 ∧ ¬ s.bup.loading then
    let s : State := { s with bup := { s.bup with loading := true } }
    s.selected9.foldl (fun s p => s.startLoad p (bit (s.f Reg.BUP_MAN_HALF_HALF) p)) s
  else s)

/-- The loads of step 9 have ended, and how: the status of the lowest partition that is not LOADED with OK. -/
def State.loadsEnded (s : State) : Bool :=
  s.bup.loading && s.selected9.all fun p => decide (s.f (Reg.MAN_STATUS_STATE p) = 0 ∨ s.f (Reg.MAN_STATUS_STATE p) = 3)
def State.loadsOutcome (s : State) : Nat × Nat :=
  match s.selected9.find? fun p => decide (s.f (Reg.MAN_STATUS_STATE p) ≠ 3 ∨ s.f (Reg.MAN_LOAD_RESULT_STATUS p) ≠ 0) with
  | some p =>
    let st := s.f (Reg.MAN_LOAD_RESULT_STATUS p)
    (if st = 0 then 0x30 else st, 12)
  | none => (0, 0)

/-- PRECHARGE_ENABLE (R348). -/
def execPrechargeEnable (s : State) : Res :=
  .next (if ¬ s.working 10 then s
    else if ¬ s.b Reg.MAN_SHELF_VALID then s.worked 0x30 13
    else if s.b Reg.GLB_SAFE_CMD_SAFE_REQ then s.worked 0x30 14
    else s.worked 0 0)

/-! ### The end of a step (R336) -/

/-- The operating time before the clocks run, which no beat counts, is a free value (R397; log entry 68). -/
def State.operatedBefore (s : State) : State :=
  let n := s.evl.opUs + s.freeWord.toNat
  let sec := (s.rd Reg.EVL_OPS_OP_SECONDS.off).toNat + n / 1000000
  { (s.wr Reg.EVL_OPS_OP_SECONDS.off (BitVec.ofNat 32 (min 4294967295 sec))).useFree with
    evl := { s.evl with opUs := n % 1000000 } }

/-- The beat counter is released: boundary 0, at which staged values accepted before it come into force (R340, R430). -/
def State.release (s : State) : State :=
  let s := s.operatedBefore
  let s : State := { s with released := true, beat := 0, cycle := 0 }
  let s := (s.setF Reg.CLK_STATUS_RUN 1).setF Reg.CLK_FABRIC_MHZ_MHZ 0x4E2
  let s := ((s.stage 0x200000 0x201000).stage 0x500000 0x501000).stage 0x600000 0x603000
  let s := (s.stage 0x900000 0x900100).stage 0xF00030 0xF00034
  let s := (((s.stage 0xA00000 0xA00100).stage 0xB00000 0xB05000).stage 0xC00000 0xC00100).stage 0xD00000 0xE00000
  let s := ((s.stage 0x1000000 0x1000100).stage 0x1100000 0x1100100).stage 0x1200000 0x1200100
  let s := s.vrefStep
  if s.mpw.tripNew then
    ({ s with mpw := { s.mpw with tripNew := false } }).ev 0x0B09 (65536 * s.f Reg.MPW_TRIP_SENSOR) (s.f Reg.MPW_TRIP_TJ)
  else s

/-- The Postmaster firmware of the bank in use runs (R413). -/
def State.fwRuns (s : State) : State :=
  let img := s.bankImage 0
  let s := ((s.setF Reg.PM_STATUS_CORES 15).setF Reg.PM_STATUS_FW_RUN 1).setF Reg.PM_STATUS_SVN (le img 8 4)
  s.wr64 0x100008 (le img 16 8)

/-- The running step ends with a status and a reason: its result, event, vector, and what an OK completion brings. -/
def State.endStep (s : State) (status reason : Nat) : State :=
  let n := s.f Reg.BUP_RESULT_STEP
  let s := ((s.setF Reg.BUP_RESULT_BUSY 0).setF Reg.BUP_RESULT_STATUS status).setF Reg.BUP_RESULT_REASON reason
  let s : State := { s with bup := { s.bup with
    outcome := none, loading := false, ended := setBit s.bup.ended n true
    last := if status = 0 ∧ n ≤ 9 then n else s.bup.last } }
  let s := s.ev 0x0E01 (n + 256 * reason) status
  let s := if s.b Reg.HIF_LINK_DL_UP ∧ s.b Reg.HIF_EVT_CTL_EN then s.vector (s.f Reg.HIF_EVT_CTL_VECTOR) else s
  if status ≠ 0 then s
  else if (n = 9 ∧ s.mstate ≠ 1) ∨ (n = 10 ∧ s.mstate ≠ 2) then s.logTrigger 0 false
  else if n = 2 then s.fwRuns
  else if n = 3 then s.release
  else if n = 9 then (if s.f Reg.SEC_STATUS_DEBUG = 2 then s else s.lowest fun s => s.enter 2 0)
  else if n = 10 then s.stepTenRole
  else s

/-- STEP_END (R336). -/
def execStepEnd (s : State) : Res :=
  .next (if ¬ s.b Reg.BUP_RESULT_BUSY then s
    else match s.bup.outcome with
      | some (st, r) => s.endStep st r
      | none => if s.f Reg.BUP_RESULT_STEP = 9 ∧ s.loadsEnded then s.endStep s.loadsOutcome.1 s.loadsOutcome.2 else s)

/-- STEP_TIMEOUT (R336): the limit of Table 16-1 is reached with the work not ended. Before the clocks step the beat counter
shows no time, and the command tells it. -/
def execStepTimeout (s : State) : Res :=
  let n := s.f Reg.BUP_RESULT_STEP
  let limit := if n = 10 then 1000 else stepLimit n * 1000000
  .next (if s.working n ∧ (¬ s.released ∨ s.bup.began + limit ≤ s.beatN) then
    (if n = 5 then s.memoryEnd 0 0xFFFFFFFF else s).endStep 0x30 15 else s)

/-! ### Retraining (R350) -/

/-- RETRAIN_TURN (R350): the next channel's turn comes INTERVAL_MS after the last; the staged interval comes into force. -/
def execRetrainTurn (s : State) : Res :=
  let c := s.bup.nextCh
  .next (if s.released ∧ s.b Reg.BUP_RETRAIN_EN ∧ s.mstate ≠ 1 ∧ s.bup.channel = none ∧
      s.bup.turnAt + s.lf Reg.BUP_RETRAIN_INTERVAL_MS * 1000 ≤ s.beatN ∧ (4 ≤ c ∨ s.beatN % 1000 = 400) then
    let s := s.stage 0xF00030 0xF00034
    { s with bup := { s.bup with turnAt := s.beatN, channel := some c, nextCh := (c + 1) % 64 } }
  else s)

/-- An access that waited for its channel is applied (R350). -/
def State.chanServe (s : State) : ChanWait → State
  | .letter l ecc => s.arriveLetter l ecc
  | .write off d => s.bar4Write off d
  | .read off n => s.bar4Read off n

/-- The channel is in service again: what waited is applied in arrival order (R350). -/
def State.chanBack (s : State) : State :=
  s.bup.waits.foldl State.chanServe { s with bup := { s.bup with waits := [] } }

/-- RETRAIN_DONE (R350). -/
def execRetrainDone (ok : Bool) (s : State) : Res :=
  .next (match s.bup.channel with
    | none => s
    | some c =>
      let run := if ok then 0 else satAdd 8 (s.bup.failRuns.get c 0) 1
      let s : State := { s with bup := { s.bup with channel := none, failRuns := s.bup.failRuns.put c run 0 } }
      let s := (s.chanBack.setF Reg.BUP_RETRAIN_STATUS_CHANNEL c).setF Reg.BUP_RETRAIN_STATUS_FAIL_RUN run
      if ok then s.bump Reg.BUP_RETRAIN_CNT
      else
        let s := (s.bump Reg.BUP_RETRAIN_FAIL_CNT).ev 0x0E07 c run
        let p := c / 2
        if 3 ≤ run then s.nameFault (p + 3 * 536870912) 0 0x15 0 3 p p else s)

/-- PLL_LOCK_LOSS (R414): counted after step 3; the units that the PLL clocks stop, and their watchdogs name the fault. They stay stopped
until the PLL starts again after a whole-chip reset. -/
def execPllLockLoss (pll : Pll) (s : State) : Res :=
  .next (if s.released then
    { s.bump Reg.CLK_LOCK_LOSS_CNT_COUNT.off with rcv := { s.rcv with stopped := s.rcv.stopped ++ [pll] } }
  else s)

end Sys2Proof.Machine
end

