-- ==== Sys2Proof/Machine/Write.lean ====
section
/-! DEFINITION. Writes of BAR0 registers: write classes, locks, ranges and refusals (R7 to R10, R313, R375, R376), and the
mirrored inputs of a twin pair. -/

namespace Sys2Proof.Machine

open Sys2Proof.Bits

/-! ### Refusals -/

/-- The refusal event of a block by its window and the unit its SOURCE names; 0 where the block has none. -/
def refusalOf (off : Nat) : Nat × Nat :=
  let l : List (Nat × Nat) := [(0, 0xFFF), (0, 0xFFF), (0, 0xFFF), (0x0208, 0xFFF), (0x0305, 0xFFF), (0x040D, 0xFFF), (0x0506, 0xFFF),
    (0, 0xFFF), (0x0709, stgOrigin), (0x0808, monOrigin), (0x0907, 0xFFF), (0x0A09, ldgOrigin), (0x0B08, 0xFFF), (0x0C05, 0xFFF),
    (0x0D0A, 0xFFF), (0x0E08, 0xFFF), (0x0F08, 0xFFF), (0x1009, 0xFFF), (0x1104, 0xFFF), (0x1104, 0xFFF)]
  l.getD (off / 1048576) (0, 0xFFF)

/-- A write is refused: the event of its block with the parameters of R9. -/
def State.refuseWrite (s : State) (path : Path) (off : Nat) (v : Word) : State :=
  let r := refusalOf off
  if r.1 = 0 then s else s.ev r.1 off v.toNat r.2 (pathCode path)

/-- The RO registers of SEC and EVL, where a write is an event (R333, R405): (offset, words). -/
def reportedRo : List (Nat × Nat) := [
  (0xE00000, 1), (0xE00008, 1), (0xE00010, 1), (0xE00020, 8), (0xE00100, 4), (0xE02000, 32), (0xE02100, 32), (0xE03000, 768),
  (0xE04000, 864), (0xE08000, 864), (0xE09000, 864), (0xE0A000, 864), (0xE0B000, 864), (0xE0C000, 864), (0xE0D000, 864),
  (0xE0E000, 864), (0xE0F000, 864), (0x1300000, 2), (0x1300010, 2), (0x1300100, 4), (0x1380000, 131072)]

/-! ### Ranges -/

/-- A field with a stated range: its registers, its place, the least and the greatest value. -/
structure Range where
  base : Nat
  stride : Nat
  count : Nat
  lo : Nat
  n : Nat
  min : Nat
  max : Nat
deriving DecidableEq, Repr

/-- The stated ranges of the register tables. -/
def ranges : List Range := [
  ⟨0x300000, 4, 32, 0, 3, 0, 4⟩, ⟨0x500010, 4, 1, 0, 19, 1000, 500000⟩, ⟨0x500014, 4, 1, 0, 18, 0, 250000⟩,
  ⟨0x50001C, 4, 1, 0, 16, 10, 10000⟩, ⟨0x50001C, 4, 1, 16, 8, 20, 90⟩, ⟨0x500020, 4, 1, 0, 7, 1, 100⟩,
  ⟨0x500020, 4, 1, 8, 8, 10, 255⟩, ⟨0x500020, 4, 1, 16, 10, 5, 250⟩, ⟨0x500024, 4, 1, 0, 8, 5, 250⟩,
  ⟨0x500024, 4, 1, 8, 8, 5, 255⟩, ⟨0x500024, 4, 1, 16, 16, 100, 60000⟩, ⟨0x600000, 4, 1, 16, 9, 1, 256⟩,
  ⟨0x600000, 4, 1, 25, 7, 1, 127⟩, ⟨0x600010, 4, 1, 0, 14, 0, 0⟩, ⟨0x600030, 4, 1, 8, 8, 10, 255⟩,
  ⟨0x600030, 4, 1, 16, 16, 100, 60000⟩, ⟨0x60100C, 16, 256, 0, 3, 0, 4⟩, ⟨0x800004, 4, 1, 0, 16, 6000, 9000⟩,
  ⟨0x800004, 4, 1, 16, 16, 1, 65535⟩, ⟨0x800010, 4, 1, 0, 16, 0, 32767⟩, ⟨0x900000, 4, 1, 0, 16, 1, 10000⟩,
  ⟨0x900004, 4, 1, 0, 12, 0, 2000⟩, ⟨0x900004, 4, 1, 16, 16, 100, 60000⟩, ⟨0x900008, 4, 1, 0, 8, 1, 255⟩,
  ⟨0x900008, 4, 1, 8, 8, 5, 255⟩, ⟨0x900008, 4, 1, 16, 12, 40, 4095⟩, ⟨0x90000C, 4, 1, 0, 16, 10, 65535⟩,
  ⟨0x90000C, 4, 1, 16, 16, 10, 65535⟩, ⟨0x900010, 4, 1, 0, 7, 0, 95⟩, ⟨0x900010, 4, 1, 8, 5, 0, 17⟩,
  ⟨0xA00000, 4, 1, 0, 16, 10, 65535⟩, ⟨0xA00000, 4, 1, 16, 16, 60, 65535⟩, ⟨0xA00004, 4, 1, 0, 16, 1500, 2500⟩,
  ⟨0xA00004, 4, 1, 16, 16, 2300, 3000⟩, ⟨0xA00008, 4, 1, 0, 16, 1, 500⟩, ⟨0xA00008, 4, 1, 16, 16, 1, 500⟩,
  ⟨0xA00010, 4, 1, 0, 16, 1, 65535⟩, ⟨0xA00010, 4, 1, 16, 16, 0, 1000⟩, ⟨0xA00014, 4, 1, 0, 8, 1, 255⟩,
  ⟨0xA00014, 4, 1, 8, 16, 10, 3600⟩, ⟨0xA00040, 4, 16, 16, 14, 0, 10000⟩, ⟨0xB00000, 4, 1, 0, 7, 1, 100⟩,
  ⟨0xB00008, 4, 1, 0, 18, 1000, 250000⟩, ⟨0xB00040, 4, 1, 0, 12, 0, 0⟩, ⟨0xB00048, 4, 1, 0, 5, 10, 22⟩,
  ⟨0xB00058, 4, 1, 0, 12, 0, 0⟩, ⟨0xB00060, 4, 1, 0, 5, 4, 16⟩, ⟨0xC00000, 4, 1, 0, 10, 150, 350⟩,
  ⟨0xC0000C, 4, 1, 0, 8, 85, 105⟩, ⟨0xC0000C, 4, 1, 8, 4, 1, 15⟩, ⟨0xC0000C, 4, 1, 16, 8, 1, 50⟩,
  ⟨0xC00010, 4, 1, 0, 10, 400, 520⟩, ⟨0xC00010, 4, 1, 16, 10, 150, 350⟩, ⟨0xD00008, 4, 1, 0, 16, 10, 1000⟩,
  ⟨0xD02000, 8, 512, 0, 6, 0, 0⟩, ⟨0xD04000, 32, 64, 0, 12, 0, 0⟩, ⟨0xD04008, 32, 64, 0, 5, 6, 16⟩,
  ⟨0xE0000C, 4, 1, 0, 10, 0, 720⟩, ⟨0xF00030, 4, 1, 0, 16, 100, 60000⟩, ⟨0x1000000, 4, 1, 0, 4, 1, 15⟩,
  ⟨0x1000000, 4, 1, 4, 4, 1, 15⟩, ⟨0x1000000, 4, 1, 8, 4, 1, 15⟩, ⟨0x1000000, 4, 1, 12, 4, 1, 15⟩,
  ⟨0x1000000, 4, 1, 16, 16, 10, 65535⟩, ⟨0x1000004, 4, 1, 0, 8, 2, 255⟩, ⟨0x1000004, 4, 1, 8, 8, 2, 255⟩,
  ⟨0x1100000, 4, 1, 16, 16, 10, 60000⟩, ⟨0x1200004, 4, 1, 0, 16, 0, 60000⟩]

/-- A value lies outside a field's stated range. -/
def outOfRange (off : Nat) (v : Word) : Bool :=
  ranges.any fun r => inRow off r.base r.stride r.count && decide (fld v r.lo r.n < r.min ∨ r.max < fld v r.lo r.n)

/-- SST_OCV with one entry replaced leaves V_MV not strictly ascending among its entries in use (R256; log entry 23). -/
def State.ocvBad (s : State) (off : Nat) (v : Word) : Bool :=
  let mv := ((List.range 16).map fun i => if off = 0xA00040 + 4 * i then fld v 0 16 else s.f (Reg.SST_OCV_V_MV i)).filter (· ≠ 0)
  !((mv.zip (mv.drop 1)).all fun (e : Nat × Nat) => decide (e.1 < e.2))

/-- A write breaks a stated relation between fields (R158, R231, R256, R261, R280, R294, R301, R317). -/
def State.relationBad (s : State) (off : Nat) (v : Word) : Bool :=
  let g (lo n : Nat) : Nat := fld v lo n
  if inRow off 0x601000 16 256 then decide (g 16 16 < g 0 16)
  else if off = 0x900000 then
    s.sweepBad (g 0 16) (g 16 8) (s.f Reg.MON_TIMING_SETTLE_US) (s.f Reg.MON_TIMING_COMM_TO_MS)
  else if off = 0x900004 then
    s.sweepBad (s.f Reg.MON_CFG_SWEEP_MS) (s.f Reg.MON_CFG_WIN) (g 0 12) (g 16 16)
  else if inRow off 0xA00040 4 16 then s.ocvBad off v
  else if off = 0xB0000C then decide (g 16 16 < g 0 16)
  else if inRow off 0xB01000 4 4096 then
    let q := (off - 0xB01000) / 4
    s.ldg.busy.any (fun e => decide (e.2 = q + 1)) && (decide (g 8 1 = 0 ∧ s.b (Reg.LDG_QUEUE_EN q)) || decide (g 9 1 = 1 ∧ ¬ s.b (Reg.LDG_QUEUE_OVERHEAD q)))
  else if off = 0xC00004 then decide (g 0 2 = 3 ∨ g 2 2 = 3 ∨ g 4 2 = 3 ∨ g 0 2 = g 2 2 ∨ g 0 2 = g 4 2 ∨ g 2 2 = g 4 2)
  else if inRow off 0xD04010 32 64 then
    let q := (off - 0xD04010) / 32
    decide (s.ringHeld q < ringUsed v.toNat (s.f (Reg.HIF_CQ_HEAD_HEAD q)))
  else false

/-! ### Locks (R7, R9) -/

/-- The owning block of a register runs, so that its RWL fields are locked (R9, R111, R156, R173, R242, R256, R279, R294, R317, R351,
R388). The host bases of BUD and LDG are free while Bus Master Enable is 0 (R300). -/
def State.blockRuns (s : State) (off : Nat) : Bool :=
  let base := decide (off = 0x600010 ∨ off = 0x600014 ∨ off = 0xB00040 ∨ off = 0xB00044 ∨ off = 0xB00058 ∨ off = 0xB0005C)
  if base ∧ s.f Reg.HIF_LINK_BME = 0 then false
  else match off / 1048576 with
    | 0x3 => (s.manOf ((off - 0x300000) / 4)).isSome
    | 0x5 => decide (s.gstate ≠ 0)
    | 0x6 => s.budRuns
    | 0x9 => decide (s.mon.cfg ≠ [])
    | 0xA => s.b Reg.MAN_SHELF_VALID
    | 0xB => s.ldgRuns
    | 0xC => s.released
    | 0xD => s.b (Reg.HIF_SQ_CFG_EN (if off < 0xD04000 then (off - 0xD01000) / 4 else (off - 0xD04000) / 32))
    | 0xF => s.b Reg.BUP_RESULT_BUSY
    | 0x11 => s.twnRuns
    | _ => false

/-- A write would change a locked field. -/
def State.locked (s : State) (r : WRow) (off : Nat) (v : Word) : Bool :=
  let m := BitVec.ofNat 32 r.rwl
  s.blockRuns off && decide (v &&& m ≠ s.rd off &&& m)

/-! ### Effects -/

/-- The register takes its writable bits; bits of class RW1C are cleared by 1 (Table 0-3). A staged field is held here and
comes into force at its block's boundary. -/
def State.plain (s : State) (r : WRow) (off : Nat) (v : Word) : State :=
  let m := BitVec.ofNat 32 (r.rw + r.rws + r.rwl)
  let old := s.rd off &&& ~~~(v &&& BitVec.ofNat 32 r.rw1c)
  s.wr off ((old &&& ~~~m) ||| (v &&& m))

/-- A write of SEC_CMD (Tables 15-4, 15-7): a reserved OP is refused (R333), with GO as a command too (R327); GO starts the command. -/
def State.secCmd (s : State) (path : Path) (n : Nat) : State :=
  let slot := n / 16 % 4
  let auth := n / 4096 % 4
  let v := n / 64 % 64
  if n % 16 = 0 ∨ 7 < n % 16 then
    let t := s.refuseWrite path 0xE00004 (BitVec.ofNat 32 n)
    if bit n 31 then ((t.setF Reg.SEC_CMD_RESULT_STATUS 0x30).secRefuse (n % 16) slot 0x30 path).renewNonce else t
  else if ¬ bit n 31 then s.wr 0xE00004 (BitVec.ofNat 32 (n % 16384))
  else match n % 16 with
    | 1 => s.enrollOwner path slot auth v
    | 2 => s.revokeOwner path slot auth v
    | 3 => s.advanceSvn path slot auth v
    | 4 => s.setPackIssuer path slot auth v
    | 5 => s.clearPackIssuer path slot auth v
    | 6 => s.rotateLedger path slot auth v
    | _ => s.enterRma path slot auth v

/-- A write of GRD_CTL (Table 6-9). -/
def State.grdCtl (s : State) (n : Nat) : State :=
  let s := (s.coolantReq (bit n 0)).neighbourReq (bit n 1)
  if bit n 2 then s.preRetry else s

/-- A write of BUD_SEQ_CTL (R170): START and STOP at once are ignored with event 0x0506. -/
def State.seqCtl (s : State) (path : Path) (n : Nat) : State :=
  match bit n 0, bit n 1 with
  | true, true => s.refuseWrite path 0x600030 (BitVec.ofNat 32 n)
  | true, false => s.seqStart path n
  | false, true => s.seqStop path n
  | false, false => s

/-- A write of the MSI-X table: a vector that was pending is sent once it is no longer masked, as PCIe defines (Table 20-6). -/
def State.msixWrite (s : State) (off : Nat) (v : Word) : State :=
  let n := (off - 0xD80000) / 16
  let a := 0xD90000 + 4 * (n / 32)
  let t := s.wr off v
  if off % 16 = 12 ∧ ¬ bit v.toNat 0 ∧ bit (s.rd a).toNat (n % 32) ∧ s.f Reg.HIF_LINK_BME = 1 then
    (t.wr a (BitVec.ofNat 32 (setBit (s.rd a).toNat (n % 32) false))).out (.vector n)
  else t

/-- The accepted write takes effect: by the operation of its register, or by its fields' classes alone. -/
def State.applyWrite (s : State) (path : Path) (r : WRow) (off : Nat) (v : Word) : State :=
  let n := v.toNat
  let each (k : Nat) (f : State → Nat → State) : State := (List.range k).foldl (fun s i => if bit n i then f s i else s) s
  let t := s.plain r off v
  if off = 0x104 then s.safeReq (bit n 0)
  else if off = 0x200010 then s.gateCtl v
  else if off = 0x500004 then s.grdCtl n
  else if off = 0x500018 then { t with grd := { t.grd with replan := true } }
  else if off = 0x600030 then (s.plain r off (v &&& 0xFFFFFF00#32)).seqCtl path n
  else if off = 0x600000 then t.relines s
  else if off = 0x600040 then s.thrForce (n % 65536)
  else if inRow off 0x700000 4 512 then (if bit n 0 then s.loopClear ((off - 0x700000) / 4) else s)
  else if off = 0x800004 then { t with stg := { t.stg with vcmd := true } }
  else if off = 0x800014 then each 24 State.askExit
  else if off = 0x900010 then
    let u := s.plain r off (v &&& 0x1F7F#32)
    if bit n 16 then u.diagRequest path (n % 128) (n / 256 % 32) else u
  else if off = 0x900014 then each 8 fun s i => s.isoRelease path i
  else if off = 0xA00018 then each 8 State.reauth
  else if off = 0xB00050 then s.rxHead path n
  else if off = 0xB00068 then s.bxHead path n
  else if off = 0xD00004 then s.heartbeat n
  else if off = 0xD00010 then s.chipReset n
  else if inRow off 0xD01000 4 64 then
    let q := (off - 0xD01000) / 4
    if bit n 0 ∧ ¬ s.b (Reg.HIF_SQ_CFG_EN q) then t.setF (Reg.HIF_SQ_SEQ_SEQ q) 0 else t
  else if inRow off 0xD80000 4 1024 then s.msixWrite off v
  else if off = 0xE00004 then s.secCmd path n
  else if off = 0xF00000 then s.stepReq path n
  else if off = 0x1100004 then (if bit n 0 then s.askSwitch else s)
  else if off = 0x1200000 then (if bit n 0 then s.collRequest path n else s)
  else if off = 0x1300008 then s.logClear path n
  else t

/-- The blocks whose writes are inputs of both modules of a twin pair (R375): GRD, BUD, LE, STG, MON, SST, LDG. -/
def inStepOff (off : Nat) : Bool := decide (5 ≤ off / 1048576 ∧ off / 1048576 ≤ 0xB)

/-- A write that is neither accepted nor refused as locked: out of range, against a relation of fields, or of a command that its
register cannot take (R313, R317, R333, R336, R369). The spec names no status for it. -/
def ignored : Nat := 0xFFFF

/-- The registers of commands ignore a write: a step that cannot start, a reserved security OP, START with STOP, a rung or a unit
that does not exist, a diagnosis of no cell, START with UNLOAD, a wrong key of the log or one while it is cleared, a HEAD past TAIL. -/
def State.ignores (s : State) (off n : Nat) : Bool :=
  if off = 0xF00000 then !s.stepOk (n % 16)
  else if off = 0xE00004 then !decide (1 ≤ n % 16 ∧ n % 16 ≤ 7)
  else if off = 0x600030 then bit n 0 && bit n 1
  else if off = 0x900010 then bit n 16 && decide (95 < n % 128 ∨ 17 < n / 256 % 32)
  else if off = 0xD00010 then decide (n ≠ 0x1C7A0350)
  else if off = 0x1200000 then bit n 0 && decide (¬ s.released ∨ s.mstate = 6)
  else if inRow off 0x400000 4 32 then bit n 0 && bit n 1
  else if off = 0x1000008 then s.rcvIgnores n
  else if off = 0x1300008 then decide (n ≠ clearKey) || s.b Reg.EVL_STATUS_CLEARING
  else if off = 0xB00050 then
    let head := s.f Reg.LDG_RX_HEAD_HEAD
    decide (ringUsed (s.f Reg.LDG_RX_TAIL_TAIL) head < ringUsed n head)
  else if off = 0xB00068 then
    let head := s.f Reg.LDG_BX_HEAD_HEAD
    decide (ringUsed (s.f Reg.LDG_BX_TAIL_TAIL) head < ringUsed n head)
  else false

/-- A write reaches RO bits of a register of SEC or EVL with another value than they read (R333, R405). -/
def State.roTouched (s : State) (r : WRow) (off : Nat) (v : Word) : Bool :=
  let m := ~~~(BitVec.ofNat 32 (r.rw + r.rws + r.rwl + r.rw1c))
  decide (off / 1048576 = 0xE ∨ off / 1048576 = 0x13) && decide (v &&& m ≠ s.rd off &&& m)

/-- The row of a writable register. -/
def rowOf (off : Nat) : Option WRow := writableRows.find? fun r => inRow off r.base r.stride r.count

/-- A write of a register: the state and the status a writer that receives one gets (R9): a reserved offset and an RO register
ignore it (R7, R10), a locked field refuses it whole with LOCKED_WRITE, a value out of range leaves it. -/
def State.regWrite (s : State) (path : Path) (at_ : Nat) (v : Word) : State × Nat :=
  let off := at_ / 4 * 4
  match rowOf off with
  | none => (if reportedRo.any fun e => inRow off e.1 4 e.2 then s.refuseWrite path off v else s, ignored)
  | some r =>
    if off = 0x1000008 then
      let q := s.rcvReq path v.toNat
      (q.1, if q.2 = 0 ∧ s.ignores off v.toNat then ignored else q.2)
    else if inRow off 0x400000 4 32 then
      let q := s.manCtl path ((off - 0x400000) / 4) v.toNat
      (q.1, if q.2 = 0 ∧ s.ignores off v.toNat then ignored else q.2)
    else if (inStepOff off ∧ s.mstate = 4) ∨ s.locked r off v then (s.refuseWrite path off v, 0x20)
    else if outOfRange off v ∨ s.relationBad off v then (s.refuseWrite path off v, ignored)
    else if s.ignores off v.toNat then (s.applyWrite path r off v, ignored)
    else if inStepOff off ∧ s.twinActive then (s.mirror (.write off v path), 0)
    else ((if s.roTouched r off v then s.refuseWrite path off v else s).applyWrite path r off v, 0)

/-- The word that a host write of some bytes of a register carries (R9, R297): the bytes not written hold what the register reads,
and no 1 for a bit that a write of 1 clears (DESIGN CHOICE, log entry 55). -/
def State.lanes (s : State) (off : Nat) (d : Bytes) : Word :=
  let o := off / 4 * 4
  let rw1c := match rowOf o with | some r => r.rw1c | none => 0
  BitVec.ofNat 32 (le (patch (toLe 4 (s.latest o &&& ~~~(BitVec.ofNat 32 rw1c)).toNat) (off % 4) d) 0 4)

/-- REGISTER_WRITE (R7, R297): a host write of 1 to 4 bytes of a BAR0 register, or of 8 bytes as two words, the lower first. -/
def execRegisterWrite (off : BitVec 25) (data : Bytes) (s : State) : Res :=
  let o := off.toNat
  let first := data.take (4 - o % 4)
  .next (if ¬ s.power ∨ data = [] then s
    else
      let t := (s.regWrite .host o (s.lanes o first)).1
      if data.length = 8 ∧ o % 4 = 0 then (t.regWrite .host (o + 4) (BitVec.ofNat 32 (le data 4 4))).1 else t)

/-- A side-band write (R313): each accepted one writes event 0x0C0A. One refused for HIF or MSI-X space writes no event, and one that
is ignored gets a status of Table 0-4 that is free (DESIGN CHOICE, log entry 56). -/
def State.sideWrite (s : State) (o : Nat) (v : Word) : State :=
  if inHif o then s.out (.sideband 0x20 [])
  else if ¬ (alwaysOn o ∨ s.mainServes) then s.out (.sideband 0x30 [])
  else
    let r := s.regWrite .sideband o v
    if r.2 = ignored then (r.1.out (.sideband r.1.freeStatus [])).useFree
    else (if r.2 = 0 then r.1.ev 0x0C0A o v.toNat 0x153 2 else r.1).out (.sideband r.2 [])

/-- REG_WRITE (R313). -/
def execRegWrite (iana : Word) (off : BitVec 25) (v : Word) (s : State) : Res :=
  .next (s.vendor iana fun s => s.sideWrite (off.toNat / 4 * 4) v)

/-! ### Mirrored inputs (R375) -/

/-- A mirrored input takes effect. -/
def State.injectOne (s : State) (n : Nat) (m : Mirrored) : State :=
  let s : State := { s with twn := { s.twn with applied := s.twn.applied ++ m.bytes } }
  match m with
  | .letter l cycle => s.send { l with issued := 1250 * (n + 3) + cycle }
  | .write off v path => match rowOf off with
    | some r => s.applyWrite path r off v
    | none => s

/-- A challenge that waits for the entropy drawn in beat n is sent (R255, R375). -/
def State.injectDraw (s : State) (st n : Nat) : State :=
  let nonce := match s.twn.draws.find? fun (e : Nat × Bytes) => decide (e.1 = n) with
    | some e => e.2
    | none => s.freeBytes 8
  let known := s.twn.draws.any fun (e : Nat × Bytes) => decide (e.1 = n)
  let s : State := { s with free := if known then s.free else s.free + 8, twn := { s.twn with used := s.twn.used ++ fit nonce 32 } }
  s.sendChallenge st nonce

/-- MIRRORED_INJECT (R375): what was formed in beat N takes effect at beat N + 3. -/
def execMirroredInject (s : State) : Res :=
  let due := s.twn.mirror.filter fun (e : Nat × Mirrored) => decide (e.1 + 3 ≤ s.beatN)
  let rest := s.twn.mirror.filter fun (e : Nat × Mirrored) => decide (s.beatN < e.1 + 3)
  let s : State := { s with twn := { s.twn with mirror := rest } }
  let s := due.foldl (fun s (e : Nat × Mirrored) => s.injectOne e.1 e.2) s
  .next ((List.range 8).foldl (fun s st => match (s.string st).waitDraw with
    | some n => if n + 3 ≤ s.beatN then s.injectDraw st n else s
    | none => s) s)

end Sys2Proof.Machine
end

