-- ==== Sys2Proof/Machine/Paths.lean ====
section
/-! DEFINITION. The commands that are writes of one register on either path: the host's takes effect, and the side-band's is its
REG_WRITE (R313, R314). -/

namespace Sys2Proof.Machine

open Sys2Proof.Bits

/-- A register write on its path: the host's effect, or REG_WRITE of the same value. -/
def State.viaPath (s : State) (path : Path) (off v : Nat) (host : State) : Res :=
  .next (match path with
    | .host => host
    | .sideband => s.sideWrite off (BitVec.ofNat 32 v))

/-- SAFE_REQ (R32). -/
def execSafeReq (path : Path) (v : Bool) (s : State) : Res := s.viaPath path 0x104 (ofBool v) (s.safeReq v)

/-- GATE_EN (R63). -/
def execGateEn (path : Path) (v : Word) (s : State) : Res := s.viaPath path 0x200010 v.toNat (s.gateCtl v)

/-- MANIFEST_START (R121). -/
def execManifestStart (path : Path) (p : Fin 32) (half : Bool) (s : State) : Res :=
  let v := 1 + 4 * ofBool half
  s.viaPath path (0x400000 + 4 * p.val) v (s.manCtl .host p.val v).1

/-- MANIFEST_UNLOAD (R121): HALF keeps its value. -/
def execManifestUnload (path : Path) (p : Fin 32) (s : State) : Res :=
  let v := 2 + 4 * s.f (Reg.MAN_LOAD_CTL_HALF p.val)
  s.viaPath path (0x400000 + 4 * p.val) v (s.manCtl .host p.val v).1

/-- PRE_RETRY (R149). -/
def execPreRetry (path : Path) (s : State) : Res :=
  let v := (setFld (s.latest 0x500004) 2 1 1).toNat
  s.viaPath path 0x500004 v (s.inStep 0x040D 0x500004 v .host State.preRetry)

/-- COOLANT_REQ (R151). -/
def execCoolantReq (path : Path) (v : Bool) (s : State) : Res :=
  let w := (setFld (s.latest 0x500004) 0 1 (ofBool v)).toNat
  s.viaPath path 0x500004 w (s.inStep 0x040D 0x500004 w .host fun s => s.coolantReq v)

/-- NEIGHBOUR_REQ (R152). -/
def execNeighbourReq (path : Path) (v : Bool) (s : State) : Res :=
  let w := (setFld (s.latest 0x500004) 1 1 (ofBool v)).toNat
  s.viaPath path 0x500004 w (s.inStep 0x040D 0x500004 w .host fun s => s.neighbourReq v)

/-- SEQ_START (R170). -/
def execSeqStart (path : Path) (s : State) : Res :=
  let v := (setFld (s.latest 0x600030) 0 2 1).toNat
  s.viaPath path 0x600030 v (s.inStep 0x0506 0x600030 v .host fun s => s.seqStart .host v)

/-- SEQ_STOP (R170). -/
def execSeqStop (path : Path) (s : State) : Res :=
  let v := (setFld (s.latest 0x600030) 0 2 2).toNat
  s.viaPath path 0x600030 v (s.inStep 0x0506 0x600030 v .host fun s => s.seqStop .host v)

/-- THR_FORCE (R168). -/
def execThrForce (path : Path) (v : BitVec 16) (s : State) : Res :=
  s.viaPath path 0x600040 v.toNat (s.inStep 0x0506 0x600040 v.toNat .host fun s => s.thrForce v.toNat)

/-- LOOP_CLEAR (R188). -/
def execLoopClear (path : Path) (e : Fin 64) (l : Fin 8) (s : State) : Res :=
  let k := 8 * e.val + l.val
  s.viaPath path (0x700000 + 4 * k) 1 (s.inStep 0 (0x700000 + 4 * k) 1 .host fun s => s.loopClear k)

/-- EXIT (R204). -/
def execExit (path : Path) (b : Fin 24) (s : State) : Res :=
  s.viaPath path 0x800014 (2 ^ b.val) (s.inStep 0x0709 0x800014 (2 ^ b.val) .host (fun s => s.askExit b.val) stgOrigin)

/-- ISO (R216): the host's isolation source of each string. -/
def execIso (path : Path) (v : BitVec 8) (s : State) : Res :=
  s.viaPath path 0x800018 v.toNat (s.inStep 0x0709 0x800018 v.toNat .host (fun s => s.setF Reg.STG_ISO_ISO v.toNat) stgOrigin)

/-- DIAG_REQUEST (R239). -/
def execDiagRequest (path : Path) (c : BitVec 7) (j : BitVec 5) (s : State) : Res :=
  let v := c.toNat + 256 * j.toNat + 65536
  s.viaPath path 0x900010 v (s.inStep 0x0808 0x900010 v .host (fun s => s.diagRequest .host c.toNat j.toNat) monOrigin)

/-- ISO_RELEASE (R236). -/
def execIsoRelease (path : Path) (st : Fin 8) (s : State) : Res :=
  s.viaPath path 0x900014 (2 ^ st.val)
    (s.inStep 0x0808 0x900014 (2 ^ st.val) .host (fun s => s.isoRelease .host st.val) monOrigin)

/-- REAUTH (R244). -/
def execReauth (path : Path) (st : Fin 8) (s : State) : Res :=
  s.viaPath path 0xA00018 (2 ^ st.val) (s.inStep 0x0907 0xA00018 (2 ^ st.val) .host fun s => s.reauth st.val)

/-- LDG_RX_HEAD (R276). -/
def execLdgRxHead (path : Path) (v : Word) (s : State) : Res :=
  s.viaPath path 0xB00050 v.toNat (s.inStep 0x0A09 0xB00050 v.toNat .host (fun s => s.rxHead .host v.toNat) ldgOrigin)

/-- LDG_BX_HEAD (R276). -/
def execLdgBxHead (path : Path) (v : Word) (s : State) : Res :=
  s.viaPath path 0xB00068 v.toNat (s.inStep 0x0A09 0xB00068 v.toNat .host (fun s => s.bxHead .host v.toNat) ldgOrigin)

/-- The word of a security command written to SEC_CMD with GO (Table 15-4). -/
def secWord (op slot auth v : Nat) : Nat := op + 16 * slot + 64 * v + 4096 * auth + 2147483648

/-- ENROLL_OWNER (R326). -/
def execEnrollOwner (path : Path) (slot auth : Fin 4) (v : BitVec 6) (s : State) : Res :=
  s.viaPath path 0xE00004 (secWord 1 slot.val auth.val v.toNat) (s.enrollOwner .host slot.val auth.val v.toNat)

/-- REVOKE_OWNER (R326). -/
def execRevokeOwner (path : Path) (slot auth : Fin 4) (v : BitVec 6) (s : State) : Res :=
  s.viaPath path 0xE00004 (secWord 2 slot.val auth.val v.toNat) (s.revokeOwner .host slot.val auth.val v.toNat)

/-- ADVANCE_SVN (R328). -/
def execAdvanceSvn (path : Path) (slot auth : Fin 4) (v : BitVec 6) (s : State) : Res :=
  s.viaPath path 0xE00004 (secWord 3 slot.val auth.val v.toNat) (s.advanceSvn .host slot.val auth.val v.toNat)

/-- SET_PACK_ISSUER (R326). -/
def execSetPackIssuer (path : Path) (slot auth : Fin 4) (v : BitVec 6) (s : State) : Res :=
  s.viaPath path 0xE00004 (secWord 4 slot.val auth.val v.toNat) (s.setPackIssuer .host slot.val auth.val v.toNat)

/-- CLEAR_PACK_ISSUER (R326). -/
def execClearPackIssuer (path : Path) (slot auth : Fin 4) (v : BitVec 6) (s : State) : Res :=
  s.viaPath path 0xE00004 (secWord 5 slot.val auth.val v.toNat) (s.clearPackIssuer .host slot.val auth.val v.toNat)

/-- ROTATE_LEDGER (R324). -/
def execRotateLedger (path : Path) (slot auth : Fin 4) (v : BitVec 6) (s : State) : Res :=
  s.viaPath path 0xE00004 (secWord 6 slot.val auth.val v.toNat) (s.rotateLedger .host slot.val auth.val v.toNat)

/-- ENTER_RMA (R330). -/
def execEnterRma (path : Path) (slot auth : Fin 4) (v : BitVec 6) (s : State) : Res :=
  s.viaPath path 0xE00004 (secWord 7 slot.val auth.val v.toNat) (s.enterRma .host slot.val auth.val v.toNat)

/-- RUNG_REQUEST (R371). -/
def execRungRequest (path : Path) (v : Word) (s : State) : Res := s.viaPath path 0x1000008 v.toNat (s.rcvReq .host v.toNat).1

/-- SWITCH (R384). -/
def execSwitch (path : Path) (s : State) : Res := s.viaPath path 0x1100004 1 s.askSwitch

/-- COLLECTION_REQUEST (R394). -/
def execCollectionRequest (path : Path) (s : State) : Res := s.viaPath path 0x1200000 1 (s.collRequest .host 1)

/-- LOG_CLEAR (R403). -/
def execLogClear (path : Path) (v : Word) (s : State) : Res := s.viaPath path 0x1300008 v.toNat (s.logClear .host v.toNat)

end Sys2Proof.Machine
end

