-- ==== Sys2Proof/Machine/Beat.lean ====
section
/-! DEFINITION. The beat: stage frames in and out, what is taken from a beat's samples, and the beat boundary (R58, R193 to R198). -/

namespace Sys2Proof.Machine

open Sys2Proof.Bits

/-! ### Frames of a beat -/

/-- The samples of this beat are taken as a whole, once: by the stage controller, the ledger's meter, grid control and the
storage block (R23, R259, R246); the lasting triggers of Table 1-7 are evaluated with them, by rank (R31). -/
def State.takeBeat (s : State) : State :=
  if s.beatN < s.stg.taken then s
  else
    let r := s.stageTake.meter
    (r.1.gridTake r.2).sstTake.linksEval.safeEval

/-- UPSTREAM_FRAME (R198): one frame of each trained board per beat; with the last of them the beat's samples are taken. -/
def execUpstreamFrame (b : Fin 24) (frame : Bytes) (valid : Sections) (s : State) : Res :=
  let k := b.val
  let came : Bool := match (s.board k).rx with | some rx => decide (rx.beat = s.beatN) | none => false
  .next (if ¬ (s.board k).trained ∨ came ∨ s.beatN < s.stg.taken then s
    else
      let s := s.stageFrame k frame valid
      let rx := (s.board k).rx
      let ok : Bool := match rx with | some rx => rx.valid | none => false
      let s := if ok then s.sstFrame k else s
      let s := match rx with | some rx => s.yield frame rx.ok | none => s
      if s.allReported then s.takeBeat else s)

/-- DOWNSTREAM_FRAME (R194, R195): one frame per board and beat from link training on, each field as taken at its cycle; what has
not been taken yet is taken now, EXT_U before the first. -/
def execDownstreamFrame (b : Fin 24) (s : State) : Res :=
  let k := b.val
  let gone : Bool := match (s.board k).sent with | some (n, _) => decide (n = s.beatN + 1) | none => false
  .next (if ¬ (s.board k).trained ∨ s.stg.stopped ∨ gone then s
    else
      let s := s.takeExt.takeBeat
      s.sendFrame k)

/-! ### The boundary -/

/-- Staged fields whose boundary is the beat boundary come into force (R7, R64, R317, R369, R388, R396). -/
def State.stageBeat (s : State) : State :=
  let s := (s.stage 0x200000 0x201000).stage 0xD00000 0xE00000
  ((s.stage 0x1000000 0x1000100).stage 0x1100000 0x1100100).stage 0x1200000 0x1200100

/-- The operating time with a feed OK is a beat longer (Table 19-6). -/
def State.operate (s : State) : State :=
  if s.f Reg.TWN_FEED_A_STATE = 0 ∨ s.f Reg.TWN_FEED_B_STATE = 0 then
    let n := s.evl.opUs + 1
    let t : State := { s with evl := { s.evl with opUs := n % 1000000 } }
    if n < 1000000 then t else t.bump Reg.EVL_OPS_OP_SECONDS.off
  else s

/-- The operating time, and at a new second of the beat counter the counts of the ladder's window (R357). -/
def State.newSecond (s : State) : State :=
  let s := s.operate
  if s.beatN % 1000000 = 0 then s.rcvCounts else s

/-- A beat ends: what it has not taken is taken, the twin's digests are formed, the progress counters are
read (R354), and the counter advances. -/
def State.endBeat (s : State) : State :=
  let s := s.takeExt.takeBeat.twinEnd.frankerBegins.watchUnits.snapshot
  { s with beat := s.beat + 1, cycle := 0 }

/-- The beat markers of boundary N, one on every link in use (R193). -/
def State.markers (s : State) : State :=
  (List.range 24).foldl (fun s b =>
    if (s.board b).trained then s.drive (.marker b s.beatN (s.f (Reg.STG_BOARD_STATUS_LATENCY b))) else s) s

/-- A beat begins: staged fields, the voltage reference, grid control, the lines' times, power and the twin block. -/
def State.beginBeat (s : State) (coolantN shelfN : Bool) (tj : List Nat) : State :=
  let s := s.stageBeat.vrefStep.exitStarts.markers.voltageSp
  let s := (s.dueTargets.gridBoundary coolantN shelfN).lineTimes
  let s := (s.powerBoundary tj).twinBoundary
  s.hostRegained.monBoundary.newSecond

/-- BEAT_BOUNDARY (R58), with what the pins and the junction sensors show at it. -/
def execBeatBoundary (coolantN shelfN : Bool) (tj : List (BitVec 12)) (s : State) : Res :=
  .next (if s.power ∧ s.released then s.endBeat.beginBeat coolantN shelfN (tj.map BitVec.toNat) else s)

/-- One fabric cycle passes within the beat (R58, R59): while the fabric clock runs the cycle counts up to 1,249, where it stays
until BEAT_BOUNDARY (log entry 6). The parts of the coming downstream frames are taken at their cycles (R195). -/
def tick (s : State) : State :=
  if s.released ∧ s.cycle < 1249 then { s.stageCycle with cycle := s.cycle + 1 } else s

end Sys2Proof.Machine
end

