-- ==== Sys2Proof/Machine/Dispatch.lean ====
section
/-! DEFINITION. One arm per command of the opcode table. -/

namespace Sys2Proof.Machine

def exec (i : Instr) (s : State) : Host.Outcome State Fault Refusal :=
  match i with
  | .beatBoundary coolantN shelfN tj => Sys2Proof.Machine.execBeatBoundary coolantN shelfN tj s
  | .registerWrite off data => Sys2Proof.Machine.execRegisterWrite off data s
  | .safeReq path v => Sys2Proof.Machine.execSafeReq path v s
  | .upstreamFramesLost => Sys2Proof.Machine.execUpstreamFramesLost s
  | .junctionTrip => Sys2Proof.Machine.execJunctionTrip s
  | .wholeChipReset => Sys2Proof.Machine.execWholeChipReset s
  | .powerOn removedSeconds roleB => Sys2Proof.Machine.execPowerOn removedSeconds roleB s
  | .feedSample va vb ia ib => Sys2Proof.Machine.execFeedSample va vb ia ib s
  | .bothFeedsLost => Sys2Proof.Machine.execBothFeedsLost s
  | .holdupClosed => Sys2Proof.Machine.execHoldupClosed s
  | .feedReturn => Sys2Proof.Machine.execFeedReturn s
  | .powerLoss => Sys2Proof.Machine.execPowerLoss s
  | .put h data => Sys2Proof.Machine.execPut h data s
  | .get h len ecc => Sys2Proof.Machine.execGet h len ecc s
  | .addLetter h wide v ecc => Sys2Proof.Machine.execAddLetter h wide v ecc s
  | .swap h wide v ecc => Sys2Proof.Machine.execSwap h wide v ecc s
  | .cas h wide cmp new ecc => Sys2Proof.Machine.execCas h wide cmp new ecc s
  | .maxLetter h wide v ecc => Sys2Proof.Machine.execMaxLetter h wide v ecc s
  | .minLetter h wide v ecc => Sys2Proof.Machine.execMinLetter h wide v ecc s
  | .replyArrival => Sys2Proof.Machine.execReplyArrival s
  | .clusterGate p c => Sys2Proof.Machine.execClusterGate p c s
  | .clusterScheduledWake p c => Sys2Proof.Machine.execClusterScheduledWake p c s
  | .clusterWakeComplete p c => Sys2Proof.Machine.execClusterWakeComplete p c s
  | .gateEn path v => Sys2Proof.Machine.execGateEn path v s
  | .circularPresent => Sys2Proof.Machine.execCircularPresent s
  | .nop k => Sys2Proof.Machine.execNop k s
  | .add k d a b => Sys2Proof.Machine.execAdd k d a b s
  | .sub k d a b => Sys2Proof.Machine.execSub k d a b s
  | .addc k d a b => Sys2Proof.Machine.execAddc k d a b s
  | .subb k d a b => Sys2Proof.Machine.execSubb k d a b s
  | .and k d a b => Sys2Proof.Machine.execAnd k d a b s
  | .or k d a b => Sys2Proof.Machine.execOr k d a b s
  | .xor k d a b => Sys2Proof.Machine.execXor k d a b s
  | .shl k d a b => Sys2Proof.Machine.execShl k d a b s
  | .shr k d a b => Sys2Proof.Machine.execShr k d a b s
  | .sra k d a b => Sys2Proof.Machine.execSra k d a b s
  | .mul k d a b => Sys2Proof.Machine.execMul k d a b s
  | .slt k d a b => Sys2Proof.Machine.execSlt k d a b s
  | .sltu k d a b => Sys2Proof.Machine.execSltu k d a b s
  | .qadd k d a b => Sys2Proof.Machine.execQadd k d a b s
  | .qsub k d a b => Sys2Proof.Machine.execQsub k d a b s
  | .addi k d a imm => Sys2Proof.Machine.execAddi k d a imm s
  | .andi k d a imm => Sys2Proof.Machine.execAndi k d a imm s
  | .ori k d a imm => Sys2Proof.Machine.execOri k d a imm s
  | .xori k d a imm => Sys2Proof.Machine.execXori k d a imm s
  | .lui k d imm => Sys2Proof.Machine.execLui k d imm s
  | .shli k d a sh => Sys2Proof.Machine.execShli k d a sh s
  | .shri k d a sh => Sys2Proof.Machine.execShri k d a sh s
  | .srai k d a sh => Sys2Proof.Machine.execSrai k d a sh s
  | .ldw k d a imm ecc => Sys2Proof.Machine.execLdw k d a imm ecc s
  | .ldh k d a imm ecc => Sys2Proof.Machine.execLdh k d a imm ecc s
  | .ldhu k d a imm ecc => Sys2Proof.Machine.execLdhu k d a imm ecc s
  | .ldb k d a imm ecc => Sys2Proof.Machine.execLdb k d a imm ecc s
  | .stw k d a imm => Sys2Proof.Machine.execStw k d a imm s
  | .sth k d a imm => Sys2Proof.Machine.execSth k d a imm s
  | .stb k d a imm => Sys2Proof.Machine.execStb k d a imm s
  | .sys k d sel => Sys2Proof.Machine.execSys k d sel s
  | .lput k f => Sys2Proof.Machine.execLput k f s
  | .lget k f => Sys2Proof.Machine.execLget k f s
  | .ladd k f => Sys2Proof.Machine.execLadd k f s
  | .lswap k f => Sys2Proof.Machine.execLswap k f s
  | .lcas k f => Sys2Proof.Machine.execLcas k f s
  | .lmax k f => Sys2Proof.Machine.execLmax k f s
  | .lmin k f => Sys2Proof.Machine.execLmin k f s
  | .envOpen k d a b => Sys2Proof.Machine.execEnvOpen k d a b s
  | .envJoin k d a b => Sys2Proof.Machine.execEnvJoin k d a b s
  | .envSeal k d => Sys2Proof.Machine.execEnvSeal k d s
  | .envAbort k d => Sys2Proof.Machine.execEnvAbort k d s
  | .macq k a b n ha hb => Sys2Proof.Machine.execMacq k a b n ha hb s
  | .msuq k a b n ha hb => Sys2Proof.Machine.execMsuq k a b n ha hb s
  | .macb8 k a b n => Sys2Proof.Machine.execMacb8 k a b n s
  | .macb4 k a b n => Sys2Proof.Machine.execMacb4 k a b n s
  | .clra k n => Sys2Proof.Machine.execClra k n s
  | .extq k d n sh => Sys2Proof.Machine.execExtq k d n sh s
  | .extb k d n sh => Sys2Proof.Machine.execExtb k d n sh s
  | .setx k a b => Sys2Proof.Machine.execSetx k a b s
  | .geta k d n part => Sys2Proof.Machine.execGeta k d n part s
  | .seta k a n part => Sys2Proof.Machine.execSeta k a n part s
  | .br k a b cond tgt => Sys2Proof.Machine.execBr k a b cond tgt s
  | .jal k d tgt => Sys2Proof.Machine.execJal k d tgt s
  | .jr k a => Sys2Proof.Machine.execJr k a s
  | .wait k d mask time => Sys2Proof.Machine.execWait k d mask time s
  | .waitSlotResume k => Sys2Proof.Machine.execWaitSlotResume k s
  | .waitBeatResume k => Sys2Proof.Machine.execWaitBeatResume k s
  | .done k => Sys2Proof.Machine.execDone k s
  | .periodStart p prog => Sys2Proof.Machine.execPeriodStart p prog s
  | .periodDeadline p prog => Sys2Proof.Machine.execPeriodDeadline p prog s
  | .envResultWord k => Sys2Proof.Machine.execEnvResultWord k s
  | .holdStoreArrival => Sys2Proof.Machine.execHoldStoreArrival s
  | .holdAcknowledgement => Sys2Proof.Machine.execHoldAcknowledgement s
  | .commitVector => Sys2Proof.Machine.execCommitVector s
  | .envCommit => Sys2Proof.Machine.execEnvCommit s
  | .envLate p slot => Sys2Proof.Machine.execEnvLate p slot s
  | .actuatorDecision => Sys2Proof.Machine.execActuatorDecision s
  | .actuatorResolve => Sys2Proof.Machine.execActuatorResolve s
  | .manifestStart path p half => Sys2Proof.Machine.execManifestStart path p half s
  | .manifestUnload path p => Sys2Proof.Machine.execManifestUnload path p s
  | .verificationFail p => Sys2Proof.Machine.execVerificationFail p s
  | .verificationPass p => Sys2Proof.Machine.execVerificationPass p s
  | .swapDecision p => Sys2Proof.Machine.execSwapDecision p s
  | .swapStart p => Sys2Proof.Machine.execSwapStart p s
  | .swapWritesComplete p => Sys2Proof.Machine.execSwapWritesComplete p s
  | .swapRelease p => Sys2Proof.Machine.execSwapRelease p s
  | .telemetryRecord t rec => Sys2Proof.Machine.execTelemetryRecord t rec s
  | .targetStale t => Sys2Proof.Machine.execTargetStale t s
  | .forecastDegraded => Sys2Proof.Machine.execForecastDegraded s
  | .forecastRestored => Sys2Proof.Machine.execForecastRestored s
  | .backstopRelease => Sys2Proof.Machine.execBackstopRelease s
  | .capReleases => Sys2Proof.Machine.execCapReleases s
  | .prechargeComplete => Sys2Proof.Machine.execPrechargeComplete s
  | .prechargeTimeout => Sys2Proof.Machine.execPrechargeTimeout s
  | .preRetry path => Sys2Proof.Machine.execPreRetry path s
  | .gridLost => Sys2Proof.Machine.execGridLost s
  | .gridPresent => Sys2Proof.Machine.execGridPresent s
  | .rampYieldSet => Sys2Proof.Machine.execRampYieldSet s
  | .rampYieldClear => Sys2Proof.Machine.execRampYieldClear s
  | .coolantFault => Sys2Proof.Machine.execCoolantFault s
  | .coolantReq path v => Sys2Proof.Machine.execCoolantReq path v s
  | .coolantThrottle => Sys2Proof.Machine.execCoolantThrottle s
  | .coolantClear => Sys2Proof.Machine.execCoolantClear s
  | .neighbourFault => Sys2Proof.Machine.execNeighbourFault s
  | .neighbourReq path v => Sys2Proof.Machine.execNeighbourReq path v s
  | .neighbourClear => Sys2Proof.Machine.execNeighbourClear s
  | .orphanTable => Sys2Proof.Machine.execOrphanTable s
  | .dispatchStale => Sys2Proof.Machine.execDispatchStale s
  | .publicationBoundary => Sys2Proof.Machine.execPublicationBoundary s
  | .budgetAck data => Sys2Proof.Machine.execBudgetAck data s
  | .seqStart path => Sys2Proof.Machine.execSeqStart path s
  | .seqStop path => Sys2Proof.Machine.execSeqStop path s
  | .stageTimeout => Sys2Proof.Machine.execStageTimeout s
  | .stopAssert => Sys2Proof.Machine.execStopAssert s
  | .stageStopped => Sys2Proof.Machine.execStageStopped s
  | .thrForce path v => Sys2Proof.Machine.execThrForce path v s
  | .loopSample e l half => Sys2Proof.Machine.execLoopSample e l half s
  | .setpointWindow e l off data => Sys2Proof.Machine.execSetpointWindow e l off data s
  | .loopClear path e l => Sys2Proof.Machine.execLoopClear path e l s
  | .downstreamFrame b => Sys2Proof.Machine.execDownstreamFrame b s
  | .upstreamFrame b frame valid => Sys2Proof.Machine.execUpstreamFrame b frame valid s
  | .boardLost b => Sys2Proof.Machine.execBoardLost b s
  | .exit path b => Sys2Proof.Machine.execExit path b s
  | .cltWindow => Sys2Proof.Machine.execCltWindow s
  | .shareUpdate => Sys2Proof.Machine.execShareUpdate s
  | .shedStart b grp => Sys2Proof.Machine.execShedStart b grp s
  | .shedRampEnd b j => Sys2Proof.Machine.execShedRampEnd b j s
  | .allfireLimit => Sys2Proof.Machine.execAllfireLimit s
  | .iso path v => Sys2Proof.Machine.execIso path v s
  | .sweepCommand => Sys2Proof.Machine.execSweepCommand s
  | .sweepRecord port data => Sys2Proof.Machine.execSweepRecord port data s
  | .sweepComplete => Sys2Proof.Machine.execSweepComplete s
  | .configReply port data => Sys2Proof.Machine.execConfigReply port data s
  | .faultFrame port data => Sys2Proof.Machine.execFaultFrame port data s
  | .diagReply port data => Sys2Proof.Machine.execDiagReply port data s
  | .refReply port data => Sys2Proof.Machine.execRefReply port data s
  | .passReply port data => Sys2Proof.Machine.execPassReply port data s
  | .refCheckDue => Sys2Proof.Machine.execRefCheckDue s
  | .diagRequest path c j => Sys2Proof.Machine.execDiagRequest path c j s
  | .isoRelease path st => Sys2Proof.Machine.execIsoRelease path st s
  | .balanceWindow c mask => Sys2Proof.Machine.execBalanceWindow c mask s
  | .presenceDetected st => Sys2Proof.Machine.execPresenceDetected st s
  | .presenceLost st => Sys2Proof.Machine.execPresenceLost st s
  | .response st => Sys2Proof.Machine.execResponse st s
  | .incrementReply st => Sys2Proof.Machine.execIncrementReply st s
  | .authTimeout st => Sys2Proof.Machine.execAuthTimeout st s
  | .reauth path st => Sys2Proof.Machine.execReauth path st s
  | .restAnchor st => Sys2Proof.Machine.execRestAnchor st s
  | .chargeLost st => Sys2Proof.Machine.execChargeLost st s
  | .recordPeriod st => Sys2Proof.Machine.execRecordPeriod st s
  | .openReq rec bad0 bad1 => Sys2Proof.Machine.execOpenReq rec bad0 bad1 s
  | .close rec bad0 bad1 => Sys2Proof.Machine.execClose rec bad0 bad1 s
  | .estimate off data => Sys2Proof.Machine.execEstimate off data s
  | .distribute bad0 bad1 => Sys2Proof.Machine.execDistribute bad0 bad1 s
  | .rootFranked => Sys2Proof.Machine.execRootFranked s
  | .ledgerKeyReady => Sys2Proof.Machine.execLedgerKeyReady s
  | .batchDelivery => Sys2Proof.Machine.execBatchDelivery s
  | .refusalDelivery => Sys2Proof.Machine.execRefusalDelivery s
  | .ldgRxHead path v => Sys2Proof.Machine.execLdgRxHead path v s
  | .ldgBxHead path v => Sys2Proof.Machine.execLdgBxHead path v s
  | .copyResilvered copy => Sys2Proof.Machine.execCopyResilvered copy s
  | .controlStep est => Sys2Proof.Machine.execControlStep est s
  | .calibrationUpdate => Sys2Proof.Machine.execCalibrationUpdate s
  | .thermalStep => Sys2Proof.Machine.execThermalStep s
  | .feedLowSet => Sys2Proof.Machine.execFeedLowSet s
  | .feedLowClear => Sys2Proof.Machine.execFeedLowClear s
  | .ageingCheck d slack => Sys2Proof.Machine.execAgeingCheck d slack s
  | .pcieReset => Sys2Proof.Machine.execPcieReset s
  | .busMasterEnable v dState => Sys2Proof.Machine.execBusMasterEnable v dState s
  | .dataLinkChange up speed width aer => Sys2Proof.Machine.execDataLinkChange up speed width aer s
  | .hifChipReset v => Sys2Proof.Machine.execHifChipReset v s
  | .bar2Write off data => Sys2Proof.Machine.execBar2Write off data s
  | .bar2Read off len => Sys2Proof.Machine.execBar2Read off len s
  | .bar2Atomic off op width operand cmp => Sys2Proof.Machine.execBar2Atomic off op width operand cmp s
  | .bar2ReadTimeout n => Sys2Proof.Machine.execBar2ReadTimeout n s
  | .cqVectorTimer q => Sys2Proof.Machine.execCqVectorTimer q s
  | .bar4Write off data => Sys2Proof.Machine.execBar4Write off data s
  | .bar4Read off len => Sys2Proof.Machine.execBar4Read off len s
  | .heartbeat v => Sys2Proof.Machine.execHeartbeat v s
  | .hostLost => Sys2Proof.Machine.execHostLost s
  | .entdaa addr => Sys2Proof.Machine.execEntdaa addr s
  | .setEndpointId onPcie eid => Sys2Proof.Machine.execSetEndpointId onPcie eid s
  | .regRead iana off => Sys2Proof.Machine.execRegRead iana off s
  | .regWrite iana off v => Sys2Proof.Machine.execRegWrite iana off v s
  | .logRead iana idx => Sys2Proof.Machine.execLogRead iana idx s
  | .lastStatus iana cmd => Sys2Proof.Machine.execLastStatus iana cmd s
  | .pldmSensorRead sensor => Sys2Proof.Machine.execPldmSensorRead sensor s
  | .requestUpdate onPcie => Sys2Proof.Machine.execRequestUpdate onPcie s
  | .firmwareComponentWrite comp data last => Sys2Proof.Machine.execFirmwareComponentWrite comp data last s
  | .activateFirmware => Sys2Proof.Machine.execActivateFirmware s
  | .cancelUpdate => Sys2Proof.Machine.execCancelUpdate s
  | .updateAgentTimeout => Sys2Proof.Machine.execUpdateAgentTimeout s
  | .enrollOwner path slot auth v => Sys2Proof.Machine.execEnrollOwner path slot auth v s
  | .revokeOwner path slot auth v => Sys2Proof.Machine.execRevokeOwner path slot auth v s
  | .advanceSvn path slot auth v => Sys2Proof.Machine.execAdvanceSvn path slot auth v s
  | .setPackIssuer path slot auth v => Sys2Proof.Machine.execSetPackIssuer path slot auth v s
  | .clearPackIssuer path slot auth v => Sys2Proof.Machine.execClearPackIssuer path slot auth v s
  | .rotateLedger path slot auth v => Sys2Proof.Machine.execRotateLedger path slot auth v s
  | .enterRma path slot auth v => Sys2Proof.Machine.execEnterRma path slot auth v s
  | .secCommandComplete => Sys2Proof.Machine.execSecCommandComplete s
  | .entropyHealthChange fail => Sys2Proof.Machine.execEntropyHealthChange fail s
  | .getVersion => Sys2Proof.Machine.execGetVersion s
  | .getCapabilities => Sys2Proof.Machine.execGetCapabilities s
  | .negotiateAlgorithms falcon shake => Sys2Proof.Machine.execNegotiateAlgorithms falcon shake s
  | .getDigests => Sys2Proof.Machine.execGetDigests s
  | .getCertificate slot off len => Sys2Proof.Machine.execGetCertificate slot off len s
  | .challenge slot nonce => Sys2Proof.Machine.execChallenge slot nonce s
  | .getMeasurements idx nonce => Sys2Proof.Machine.execGetMeasurements idx nonce s
  | .fuseRomCheck fuseOk romOk => Sys2Proof.Machine.execFuseRomCheck fuseOk romOk s
  | .firmwareVerify => Sys2Proof.Machine.execFirmwareVerify s
  | .clocksStart fabPll linkPll tj => Sys2Proof.Machine.execClocksStart fabPll linkPll tj s
  | .lpddr5Training ok => Sys2Proof.Machine.execLpddr5Training ok s
  | .memoryTest failed cutShort fails repairs => Sys2Proof.Machine.execMemoryTest failed cutShort fails repairs s
  | .cellBist cells clusters => Sys2Proof.Machine.execCellBist cells clusters s
  | .firmwareBroadcast badTwice => Sys2Proof.Machine.execFirmwareBroadcast badTwice s
  | .topologyDiscovery found => Sys2Proof.Machine.execTopologyDiscovery found s
  | .manifestLoad => Sys2Proof.Machine.execManifestLoad s
  | .prechargeEnable => Sys2Proof.Machine.execPrechargeEnable s
  | .stepEnd => Sys2Proof.Machine.execStepEnd s
  | .stepTimeout => Sys2Proof.Machine.execStepTimeout s
  | .retrainTurn => Sys2Proof.Machine.execRetrainTurn s
  | .retrainDone ok => Sys2Proof.Machine.execRetrainDone ok s
  | .watchdogExpiry u => Sys2Proof.Machine.execWatchdogExpiry u s
  | .rungStart => Sys2Proof.Machine.execRungStart s
  | .contextRungRelease p prog => Sys2Proof.Machine.execContextRungRelease p prog s
  | .engineRungRelease u => Sys2Proof.Machine.execEngineRungRelease u s
  | .partitionRungRetrained p => Sys2Proof.Machine.execPartitionRungRetrained p s
  | .partitionRungTested p cells clusters => Sys2Proof.Machine.execPartitionRungTested p cells clusters s
  | .partitionRungReload p => Sys2Proof.Machine.execPartitionRungReload p s
  | .partitionRungRelease p => Sys2Proof.Machine.execPartitionRungRelease p s
  | .rungRequest path v => Sys2Proof.Machine.execRungRequest path v s
  | .twinFrame frame ok => Sys2Proof.Machine.execTwinFrame frame ok s
  | .twinLinkLost => Sys2Proof.Machine.execTwinLinkLost s
  | .mirroredInject => Sys2Proof.Machine.execMirroredInject s
  | .selfCheck => Sys2Proof.Machine.execSelfCheck s
  | .takeoverDecision => Sys2Proof.Machine.execTakeoverDecision s
  | .syncSet => Sys2Proof.Machine.execSyncSet s
  | .returnOfControl => Sys2Proof.Machine.execReturnOfControl s
  | .switch path => Sys2Proof.Machine.execSwitch path s
  | .switchTimeout => Sys2Proof.Machine.execSwitchTimeout s
  | .collectionDue => Sys2Proof.Machine.execCollectionDue s
  | .collectionRequest path => Sys2Proof.Machine.execCollectionRequest path s
  | .collectionComplete late => Sys2Proof.Machine.execCollectionComplete late s
  | .eventRecordWrite => Sys2Proof.Machine.execEventRecordWrite s
  | .logClear path v => Sys2Proof.Machine.execLogClear path v s
  | .logClearDone => Sys2Proof.Machine.execLogClearDone s
  | .bar0Read off len => Sys2Proof.Machine.execBar0Read off len s
  | .pllLockLoss pll => Sys2Proof.Machine.execPllLockLoss pll s
  | .twinLock phase => Sys2Proof.Machine.execTwinLock phase s

end Sys2Proof.Machine
end

