-- ==== Sys2Proof/WellFormed.lean ====
section
/-! DEFINITION. Well-formed commands: what the world sends has the lengths and ranges that the spec gives it. A command that is not
well formed is never sent; exec leaves the state as its own guards say. -/

namespace Sys2Proof

/-- A PUT or GET of len bytes lies within one 64-byte line (R47). -/
def letterFits (a len : Nat) : Bool := decide (1 ≤ len ∧ len ≤ 64 ∧ a % 64 + len ≤ 64)

/-- A BAR0 access is 1 to 4 bytes within one aligned word, or 8 bytes of two (R297). -/
def bar0Fits (a len : Nat) : Bool := decide (1 ≤ len ∧ a % 4 + len ≤ 4 ∨ a % 8 = 0 ∧ len = 8)

/-- An atomic letter is 4 or 8 bytes and aligned to its width (R46). -/
def atomicFits (a : Nat) (wide : Bool) : Bool := decide (a % (if wide then 8 else 4) = 0)

/-- What discovery can find: boards 0 to 23, ports or positions 0 to 95, CMU numbers 0 to 95 (R346). -/
def topologyFits (t : Topology) : Bool :=
  t.boards.all (fun e => decide (e.1 < 24)) && t.lit.all (fun b => decide (b < 24)) &&
  t.cmus.all fun e => decide (e.1 < 96 ∧ e.2 < 128)

/-- The command is well formed. -/
def Instr.wf : Instr → Bool
  | .beatBoundary _ _ tj => decide (tj.length = 40)
  | .registerWrite off data => bar0Fits off.toNat data.length
  | .safeReq _ _ => true
  | .upstreamFramesLost => true
  | .junctionTrip => true
  | .wholeChipReset => true
  | .powerOn _ _ => true
  | .feedSample _ _ _ _ => true
  | .bothFeedsLost => true
  | .holdupClosed => true
  | .feedReturn => true
  | .powerLoss => true
  | .put h data => letterFits h.addr.toNat data.length
  | .get h len _ => letterFits h.addr.toNat len
  | .addLetter h wide _ _ => atomicFits h.addr.toNat wide
  | .swap h wide _ _ => atomicFits h.addr.toNat wide
  | .cas h wide _ _ _ => atomicFits h.addr.toNat wide
  | .maxLetter h wide _ _ => atomicFits h.addr.toNat wide
  | .minLetter h wide _ _ => atomicFits h.addr.toNat wide
  | .replyArrival => true
  | .clusterGate _ _ => true
  | .clusterScheduledWake _ _ => true
  | .clusterWakeComplete _ _ => true
  | .gateEn _ _ => true
  | .circularPresent => true
  | .nop _ => true
  | .add _ _ _ _ => true
  | .sub _ _ _ _ => true
  | .addc _ _ _ _ => true
  | .subb _ _ _ _ => true
  | .and _ _ _ _ => true
  | .or _ _ _ _ => true
  | .xor _ _ _ _ => true
  | .shl _ _ _ _ => true
  | .shr _ _ _ _ => true
  | .sra _ _ _ _ => true
  | .mul _ _ _ _ => true
  | .slt _ _ _ _ => true
  | .sltu _ _ _ _ => true
  | .qadd _ _ _ _ => true
  | .qsub _ _ _ _ => true
  | .addi _ _ _ _ => true
  | .andi _ _ _ _ => true
  | .ori _ _ _ _ => true
  | .xori _ _ _ _ => true
  | .lui _ _ _ => true
  | .shli _ _ _ _ => true
  | .shri _ _ _ _ => true
  | .srai _ _ _ _ => true
  | .ldw _ _ _ _ _ => true
  | .ldh _ _ _ _ _ => true
  | .ldhu _ _ _ _ _ => true
  | .ldb _ _ _ _ _ => true
  | .stw _ _ _ _ => true
  | .sth _ _ _ _ => true
  | .stb _ _ _ _ => true
  | .sys _ _ sel => decide (sel.toNat ≤ 4)
  | .lput _ f => f.reply || decide (f.c = 0)
  | .lget _ _ => true
  | .ladd _ _ => true
  | .lswap _ _ => true
  | .lcas _ _ => true
  | .lmax _ _ => true
  | .lmin _ _ => true
  | .envOpen _ _ _ _ => true
  | .envJoin _ _ _ _ => true
  | .envSeal _ _ => true
  | .envAbort _ _ => true
  | .macq _ _ _ _ _ _ => true
  | .msuq _ _ _ _ _ _ => true
  | .macb8 _ _ _ _ => true
  | .macb4 _ _ _ _ => true
  | .clra _ _ => true
  | .extq _ _ _ _ => true
  | .extb _ _ _ _ => true
  | .setx _ _ _ => true
  | .geta _ _ _ _ => true
  | .seta _ _ _ _ => true
  | .br _ _ _ _ _ => true
  | .jal _ _ _ => true
  | .jr _ _ => true
  | .wait _ _ mask time => decide (mask ≠ 0 ∨ time ≠ 0)
  | .waitSlotResume _ => true
  | .waitBeatResume _ => true
  | .done _ => true
  | .periodStart _ _ => true
  | .periodDeadline _ _ => true
  | .envResultWord _ => true
  | .holdStoreArrival => true
  | .holdAcknowledgement => true
  | .commitVector => true
  | .envCommit => true
  | .envLate _ _ => true
  | .actuatorDecision => true
  | .actuatorResolve => true
  | .manifestStart _ _ _ => true
  | .manifestUnload _ _ => true
  | .verificationFail _ => true
  | .verificationPass _ => true
  | .swapDecision _ => true
  | .swapStart _ => true
  | .swapWritesComplete _ => true
  | .swapRelease _ => true
  | .telemetryRecord _ rec => decide (rec.length = 32)
  | .targetStale _ => true
  | .forecastDegraded => true
  | .forecastRestored => true
  | .backstopRelease => true
  | .capReleases => true
  | .prechargeComplete => true
  | .prechargeTimeout => true
  | .preRetry _ => true
  | .gridLost => true
  | .gridPresent => true
  | .rampYieldSet => true
  | .rampYieldClear => true
  | .coolantFault => true
  | .coolantReq _ _ => true
  | .coolantThrottle => true
  | .coolantClear => true
  | .neighbourFault => true
  | .neighbourReq _ _ => true
  | .neighbourClear => true
  | .orphanTable => true
  | .dispatchStale => true
  | .publicationBoundary => true
  | .budgetAck data => decide (data.length = 8)
  | .seqStart _ => true
  | .seqStop _ => true
  | .stageTimeout => true
  | .stopAssert => true
  | .stageStopped => true
  | .thrForce _ _ => true
  | .loopSample _ _ _ => true
  | .setpointWindow _ _ off data => decide (1 ≤ data.length ∧ off.toNat + data.length ≤ 64)
  | .loopClear _ _ _ => true
  | .downstreamFrame _ => true
  | .upstreamFrame _ frame _ => decide (frame.length = 676)
  | .boardLost _ => true
  | .exit _ _ => true
  | .cltWindow => true
  | .shareUpdate => true
  | .shedStart _ _ => true
  | .shedRampEnd _ _ => true
  | .allfireLimit => true
  | .iso _ _ => true
  | .sweepCommand => true
  | .sweepRecord _ data => decide (data.length = 64 ∨ data.length = 74)
  | .sweepComplete => true
  | .configReply _ data => decide (data.length = 16 ∨ data.length = 26)
  | .faultFrame _ data => decide (data.length = 16 ∨ data.length = 26)
  | .diagReply _ data => decide (data.length = 16 ∨ data.length = 26)
  | .refReply _ data => decide (data.length = 16 ∨ data.length = 26)
  | .passReply _ data => decide (data.length = 16 ∨ data.length = 26)
  | .refCheckDue => true
  | .diagRequest _ _ _ => true
  | .isoRelease _ _ => true
  | .balanceWindow _ _ => true
  | .presenceDetected _ => true
  | .presenceLost _ => true
  | .response _ => true
  | .incrementReply _ => true
  | .authTimeout _ => true
  | .reauth _ _ => true
  | .restAnchor _ => true
  | .chargeLost _ => true
  | .recordPeriod _ => true
  | .openReq rec _ _ => decide (rec.length = 32)
  | .close rec _ _ => decide (rec.length = 32)
  | .estimate off data => decide (1 ≤ data.length ∧ data.length ≤ 64 ∧ off.toNat % 64 + data.length ≤ 64)
  | .distribute _ _ => true
  | .rootFranked => true
  | .ledgerKeyReady => true
  | .batchDelivery => true
  | .refusalDelivery => true
  | .ldgRxHead _ _ => true
  | .ldgBxHead _ _ => true
  | .copyResilvered _ => true
  | .controlStep est => decide (est.memParts.length = 32)
  | .calibrationUpdate => true
  | .thermalStep => true
  | .feedLowSet => true
  | .feedLowClear => true
  | .ageingCheck _ _ => true
  | .pcieReset => true
  | .busMasterEnable _ _ => true
  | .dataLinkChange _ _ _ _ => true
  | .hifChipReset _ => true
  | .bar2Write _ data => decide (1 ≤ data.length)
  | .bar2Read _ len => decide (1 ≤ len ∧ len ≤ 512)
  | .bar2Atomic off _ width _ _ => decide ((width = 4 ∨ width = 8 ∨ width = 16) ∧ off.toNat % width = 0)
  | .bar2ReadTimeout _ => true
  | .cqVectorTimer _ => true
  | .bar4Write off data => decide (1 ≤ data.length ∧ off.toNat % 8589934592 + data.length ≤ 8589934592)
  | .bar4Read off len => decide (1 ≤ len ∧ len ≤ 4096 ∧ off.toNat % 8589934592 + len ≤ 8589934592)
  | .heartbeat _ => true
  | .hostLost => true
  | .entdaa _ => true
  | .setEndpointId _ _ => true
  | .regRead _ _ => true
  | .regWrite _ _ _ => true
  | .logRead _ _ => true
  | .lastStatus _ _ => true
  | .pldmSensorRead _ => true
  | .requestUpdate _ => true
  | .firmwareComponentWrite _ _ _ => true
  | .activateFirmware => true
  | .cancelUpdate => true
  | .updateAgentTimeout => true
  | .enrollOwner _ _ _ _ => true
  | .revokeOwner _ _ _ _ => true
  | .advanceSvn _ _ _ _ => true
  | .setPackIssuer _ _ _ _ => true
  | .clearPackIssuer _ _ _ _ => true
  | .rotateLedger _ _ _ _ => true
  | .enterRma _ _ _ _ => true
  | .secCommandComplete => true
  | .entropyHealthChange _ => true
  | .getVersion => true
  | .getCapabilities => true
  | .negotiateAlgorithms _ _ => true
  | .getDigests => true
  | .getCertificate _ _ _ => true
  | .challenge _ nonce => decide (nonce.length = 32)
  | .getMeasurements _ nonce => decide (nonce.length = 32)
  | .fuseRomCheck _ _ => true
  | .firmwareVerify => true
  | .clocksStart _ _ _ => true
  | .lpddr5Training _ => true
  | .memoryTest _ _ fails repairs => fails.all (fun e => decide (e.1 < 64)) && repairs.all fun e => decide (e.1 < 64)
  | .cellBist cells clusters => cells.all (fun e => decide (1 ≤ e.2 ∧ e.2 ≤ 7)) && clusters.all fun e => decide (e.1 < 640 ∧ 1 ≤ e.2 ∧ e.2 ≤ 7)
  | .firmwareBroadcast badTwice => badTwice.all fun c => decide (c < 640)
  | .topologyDiscovery found => topologyFits found
  | .manifestLoad => true
  | .prechargeEnable => true
  | .stepEnd => true
  | .stepTimeout => true
  | .retrainTurn => true
  | .retrainDone _ => true
  | .watchdogExpiry _ => true
  | .rungStart => true
  | .contextRungRelease _ _ => true
  | .engineRungRelease u => decide (u.toNat < 66)
  | .partitionRungRetrained _ => true
  | .partitionRungTested _ cells clusters => cells.all (fun e => decide (1 ≤ e.2 ∧ e.2 ≤ 7)) && clusters.all fun e => decide (e.1 < 640 ∧ 1 ≤ e.2 ∧ e.2 ≤ 7)
  | .partitionRungReload _ => true
  | .partitionRungRelease _ => true
  | .rungRequest _ _ => true
  | .twinFrame frame _ => decide (frame.length = 3072)
  | .twinLinkLost => true
  | .mirroredInject => true
  | .selfCheck => true
  | .takeoverDecision => true
  | .syncSet => true
  | .returnOfControl => true
  | .switch _ => true
  | .switchTimeout => true
  | .collectionDue => true
  | .collectionRequest _ => true
  | .collectionComplete _ => true
  | .eventRecordWrite => true
  | .logClear _ _ => true
  | .logClearDone => true
  | .bar0Read off len => bar0Fits off.toNat len
  | .pllLockLoss _ => true
  | .twinLock _ => true

end Sys2Proof
end

