-- ==== Sys2Proof/Safety.lean ====
section
/-! DEFINITION. What a good state and a good run are, in the terms the statements use. -/

namespace Sys2Proof.Safety

open Sys2Proof.Machine

/-- Memory, the KEPT banks and the registers are in their canonical forms (R34, R67, R11): keys rise strictly, and nothing is
listed that an unlisted key reads as. -/
def memoryWf (s : State) : Bool := Memory.wf s.mem && Tab.wf s.kept (fun _ => 0)

/-- The registers are listed in rising order of their offsets, none at its Reset column. -/
def registersWf (s : State) : Bool := Tab.wf s.regs resetWord

/-- Every waiting command is well formed. -/
def queueWf (s : State) : Bool := s.pending.all Instr.wf

/-- The command answers a next state of which P holds. -/
def completes (i : Instr) (s : State) (P : State → Prop) : Prop := ∃ t, exec i s = .next t ∧ P t

/-! ### Cells -/

/-- The stall of an instruction that reads registers and an accumulator (R84). -/
def stall (s : State) (k : CellId) (reads : List (BitVec 4)) (acc : Option Bool) : Nat :=
  let c := s.cell (cellNo k)
  let load := match c.lastLoad with
    | some d => if d ≠ 0 ∧ d ∈ reads then 1 else 0
    | none => 0
  let ready := match acc with
    | some true => c.ready1
    | some false => c.ready0
    | none => 0
  max load (ready - max c.next s.now)

/-- The cell may execute an instruction of a charge now: it runs in a running cluster of a partition that is not held, waits for
nothing, and its cycle budget covers the instruction (R61, R83, R120, R122). -/
abbrev mayRun (s : State) (k : CellId) (reads : List (BitVec 4)) (acc : Option Bool) (charge : Nat) : Prop :=
  s.canRun (cellNo k) = true ∧ (s.cell (cellNo k)).charged + (stall s k reads acc + charge) ≤ s.budget (cellNo k)

/-- The instruction at the PC is not the program's last (R74). -/
abbrev notLast (s : State) (k : CellId) : Prop := (s.cell (cellNo k)).pc.toNat + 1 < (s.cell (cellNo k)).len

/-- Nothing of the state but one cell and the counters of its cluster has changed: no register, no byte of memory, no other
cell, no letter. -/
def onlyCell (s t : State) (k : CellId) : Prop :=
  t = { s with cells := t.cells, clusters := t.clusters } ∧ (∀ m, m ≠ cellNo k → t.cell m = s.cell m) ∧
  ∀ j, j ≠ clusterOf (cellNo k) → t.cl j = s.cl j

/-- The cell's cluster has counted one instruction, and its counters are otherwise as before (Table 19-3). -/
def counted (s t : State) (k : CellId) : Prop :=
  t.cl (clusterOf (cellNo k)) = { s.cl (clusterOf (cellNo k)) with
    instr := Bits.satAdd 64 (s.cl (clusterOf (cellNo k))).instr 1 }

/-- The cell goes on after an instruction of a charge and cost: its working registers are w, the PC is pc, the charge and the
stalls are counted, the next instruction issues cost cycles after this one, and ld is the register just loaded; everything else of the cell is as before. -/
def cellAfter (s t : State) (k : CellId) (reads : List (BitVec 4)) (acc : Option Bool) (cost : Nat) (w : Work) (pc : BitVec 8)
    (ld : Option (BitVec 4) := none) : Prop :=
  let c := s.cell (cellNo k)
  let st := stall s k reads acc
  t.cell (cellNo k) = { c with
    work := w, pc := pc, charged := c.charged + (st + cost), next := max c.next s.now + st + cost, lastLoad := ld }

/-- The command is an instruction that changes the cell's working registers to w and nothing else. -/
def setsWork (i : Instr) (s : State) (k : CellId) (reads : List (BitVec 4)) (acc : Option Bool) (cost : Nat) (w : Work) : Prop :=
  completes i s fun t => cellAfter s t k reads acc cost w ((s.cell (cellNo k)).pc + 1) ∧ onlyCell s t k ∧ counted s t k

/-- Where a local load or store of a cell goes: the byte of WORK at a + sext(IMM). -/
def byteAddress (k : CellId) (ea : Nat) : Nat := k.p.val * 2 ^ 41 + k.c.val * 2 ^ 36 + k.k.val * 2 ^ 27 + ea

/-- An event is queued first among those that follow, where the log is open and its queue has room (R399, R401). -/
def raises (s t : State) (code p0 p1 p2 p3 : Nat) : Prop :=
  s.evl.closed = false → s.evl.queue.length < 256 →
    ∃ e r, t.evl.queue = s.evl.queue ++ e :: r ∧ e.code = code ∧ e.p0 = BitVec.ofNat 32 p0 ∧ e.p1 = BitVec.ofNat 32 p1 ∧
      e.p2 = BitVec.ofNat 32 p2 ∧ e.p3 = BitVec.ofNat 32 p3

/-- An event whose parameters 2 and 3 are the beat counter's low and high words is queued first among those that follow. -/
def raisesAt (s t : State) (code p0 p1 : Nat) : Prop := raises s t code p0 p1 (s.beat.toNat % 2 ^ 32) (s.beat.toNat / 2 ^ 32)

/-- A cell stops at a fault: RUN reads 3, the instruction has changed no register of the cell and no byte of memory, no letter
has left it, and an event names it: 0x0107 with the reason x, 0x0106 with the letter's form x, or 0x0103 with the address x. -/
def cellStops (s t : State) (k : CellId) (code x : Nat) : Prop :=
  let c := s.cell (cellNo k)
  t.cell (cellNo k) = { c with run := 3, lastLoad := none } ∧ t.mem = s.mem ∧ t.kept = s.kept ∧ t.net = s.net ∧
  (∀ m, m ≠ cellNo k → t.cell m = s.cell m) ∧
  if code = 0x103 then raises s t code (x % 2 ^ 32) (x / 2 ^ 32) (2 ^ 32 - 1) (s.beat.toNat % 2 ^ 32)
  else raises s t code (k.p.val + 256 * k.c.val + 65536 * k.k.val) x c.pc.toNat (s.beat.toNat % 2 ^ 32)

/-- The cycle at which a MAC instruction issues: the first open issue cycle of the cell's class (R284). -/
def macCycle (s : State) (k : CellId) (reads : List (BitVec 4)) : Nat :=
  s.openCycle (s.macClass (cellNo k)) (max (s.cell (cellNo k)).next s.now + stall s k reads none) 16

/-- A MAC instruction: accumulator n becomes A, ASAT is set if it was clamped and never cleared, the accumulator is ready 3 cycles
after the issue, and nothing else of the cell's registers, no byte of memory and no register changes. -/
def macs (i : Instr) (s : State) (k : CellId) (reads : List (BitVec 4)) (n : Bool) (A : Acc) (clamped : Bool) : Prop :=
  completes i s fun t =>
    let c := s.cell (cellNo k)
    let T := macCycle s k reads
    onlyCell s t k ∧
    t.cell (cellNo k) = { c with
      work := { c.work with
        acc0 := if n then c.work.acc0 else A, acc1 := if n then A else c.work.acc1
        flags := if clamped then c.work.flags ||| 4 else c.work.flags }
      pc := c.pc + 1, charged := c.charged + (stall s k reads none + 1), next := T + 1, lastLoad := none
      ready0 := if n then c.ready0 else T + 3, ready1 := if n then T + 3 else c.ready1 } ∧
    (t.cl (clusterOf (cellNo k))).mac = Bits.satAdd 64 (s.cl (clusterOf (cellNo k))).mac 1

/-! ### The fabric -/

/-- The memory at an address serves a sender's letters now: a cell's data memory, a cluster's shared memory or DRAM, in a
partition that has a manifest (or for the Postmaster) and is not in reset, in a running cluster, at an address that names
something (R36 to R38, R52, R60). -/
def serves (s : State) (sender : Sender) (a : Nat) : Bool :=
  (match target a with
   | .cell n off => decide (off < 0x800) && !s.deadCells.contains n && !s.underContext n
   | .shared _ _ => true
   | .dram p off => !inStaging off && !inLedger p off
   | _ => false) &&
  (match (target a).part? with
   | some p => !s.held p && (decide (sender = postmaster) || (s.manOf p).isSome)
   | none => true) &&
  (match (target a).cluster? with
   | some c => decide (s.cstate c = 2)
   | none => true)

/-- An address to which an envelope's letter is held: a cell's data memory that is neither dead nor in reset, of a partition with a
manifest, or a setpoint window (R94). -/
def holdsAt (s : State) (a : Nat) : Bool :=
  match target a with
  | .cell n _ => !s.deadCells.contains n && decide (s.cstate (clusterOf n) ≠ 3) && !s.held (partOf n) && (s.manOf (partOf n)).isSome
  | .setpoint _ _ => true
  | _ => false

/-! ### Envelopes -/

/-- A 4-byte word in memory. -/
def wordAt (s : State) (a n : Nat) : Prop := ∀ i, i < 4 → s.rdByte (a + i) = BitVec.ofNat 8 (n / 2 ^ (8 * i))

/-- A counter register has counted one, saturating. -/
def counts (s t : State) (off : Nat) : Prop := (t.rd off).toNat = min (2 ^ 32 - 1) ((s.rd off).toNat + 1)

/-- The envelope of a slot has aborted with a status (R102 to R105): ENV_LAST_ABORT names the handle, the status and the beat;
the slot is ABORTED with nothing held and its entries free, or FREE where no contributor is left. -/
def aborted (s t : State) (p sl status : Nat) : Prop :=
  let e := s.env p sl
  let h := p * 2 ^ 11 + sl * 2 ^ 5 + e.gen
  t.rd (0x300200 + 8 * p) = BitVec.ofNat 32 (status + 2 ^ 16 * h) ∧
  t.rd (0x300204 + 8 * p) = BitVec.ofNat 32 (s.beat.toNat % 2 ^ 32) ∧
  (t.env p sl).held = [] ∧ (t.env p sl).blocks = [] ∧ (t.env p sl).gen = e.gen ∧
  (if e.members.any (·.active) then (t.env p sl).st = .aborted ∧ (t.env p sl).status = status else (t.env p sl).st = .free)

/-- The cell takes reply parts now: its cluster runs, it is not in reset, dead or under a context rung (R52). -/
abbrev takesReplies (s : State) (n : Nat) : Prop :=
  s.held (partOf n) = false ∧ s.underContext n = false ∧ s.deadCells.contains n = false ∧ s.cstate (clusterOf n) = 2

/-- No other abort cause of an envelope falls due at the present boundary (R103): no partition that its letters target, that is its
home or a contributor's enters reset, and no contributor's period is dropped. -/
def noRival (s : State) (p : Nat) (e : Env) : Prop :=
  (∀ l ∈ e.held, ∀ q, (target l.hdr.addr.toNat).part? = some q → s.resetsNow q = false) ∧ s.resetsNow p = false ∧
  ∀ m ∈ e.members, s.resetsNow (partOf m.cell) = false ∧ s.dropsNow m = false

/-! ### Registers -/

/-- No register but those listed has changed. -/
def regsBut (s t : State) (l : List Nat) : Prop := ∀ r, r ∉ l → t.rd r = s.rd r

/-- Nothing of the memories, the cells, the clusters, the partitions and what is in flight has changed. -/
def fabricKept (s t : State) : Prop :=
  t.mem = s.mem ∧ t.kept = s.kept ∧ t.cells = s.cells ∧ t.clusters = s.clusters ∧ t.parts = s.parts ∧ t.progs = s.progs ∧
  t.net = s.net ∧ t.replies = s.replies ∧ t.envs = s.envs

/-- Only registers and the event queue have changed. -/
def regsOnly (s t : State) : Prop := t = { s with regs := t.regs, evl := t.evl }

/-- The module takes the writes of in-step registers at once: it is neither STANDBY nor the active of a twin pair (R375, R376). -/
abbrev writesAtOnce (s : State) : Prop := s.mstate ≠ 4 ∧ (s.mstate = 3 → s.f Reg.TWN_CFG_MODE ≠ 1)

/-! ### Throttle lines -/

/-- The throttle lines follow their sources (R146, R154, R168): THR_SRC, GRD_STATE.THROTTLING and THR_STATE show them, no line is
asserted in NOT_READY, READY and HOLDUP, and no other register changes. -/
def linesFollow (s t : State) : Prop :=
  t.f Reg.BUD_THR_SRC_GRID = t.gridLines ∧ t.f Reg.BUD_THR_SRC_SAFE = t.safeLines ∧
  t.f Reg.GRD_STATE_THROTTLING = (if t.gridLines = 0 then 0 else 1) ∧
  t.f Reg.BUD_THR_STATE_LINES = (if t.mstate = 1 ∨ t.mstate = 2 ∨ t.mstate = 6 then 0
    else t.gridLines ||| t.safeLines ||| t.f Reg.BUD_THR_FORCE_FORCE) ∧
  regsBut s t [0x500000, 0x600044, 0x600048, 0x130010C] ∧ fabricKept s t

end Sys2Proof.Safety
end

