-- ==== Sys2Proof/Certificates/Slice0/Obligations.lean ====
section
/-! DEFINITION. The statements for the provers, each citing in OBLIGATIONS.json the rules of spec/ it rests on. -/

open Sys2Proof Sys2Proof.Machine Sys2Proof.Safety

/-! ### The block (log entry 6) -/

/-- A step runs the command at the front of the queue on the state with the queue's rest. -/
def Obligations.StepRunsFrontCommand : Prop :=
  ∀ (s : State) (c : Instr) (r : List Instr), s.pending = c :: r → step s = exec c { s with pending := r }

/-- An empty queue lets one fabric cycle pass within the beat, once the beat counter is released: the model's choice, log entry 6. At
no cycle does memory, a cell, a letter or the beat counter change; at a cycle other than 0, 535, 875, 1,000 and 1,200, where the
stage controller takes the parts of its frames and all-fire acts, nothing else does. -/
def Obligations.EmptyQueuePassesACycle : Prop :=
  ∀ s : State, s.pending = [] → ∃ t, step s = .next t ∧
    t.cycle = (if s.released ∧ s.cycle < 1249 then s.cycle + 1 else s.cycle) ∧
    t.mem = s.mem ∧ t.kept = s.kept ∧ t.cells = s.cells ∧ t.net = s.net ∧ t.beat = s.beat ∧ t.pending = [] ∧
    (s.released = false ∨ (s.cycle ≠ 0 ∧ s.cycle ≠ 535 ∧ s.cycle ≠ 875 ∧ s.cycle ≠ 1000 ∧ s.cycle ≠ 1200) → t = { s with cycle := t.cycle })

/-! ### Cells: registers and flags -/

/-- g0 reads 0 and ignores writes; a write of any other general register is read back; no other register, accumulator, tag or
flag changes. -/
def Obligations.GeneralRegisters : Prop :=
  ∀ (w : Work) (d r : BitVec 4) (v : Word),
    w.reg 0 = 0 ∧ (w.setReg d v).reg r = (if r = d ∧ d ≠ 0 then v else w.reg r) ∧
    (w.setReg d v).acc0 = w.acc0 ∧ (w.setReg d v).acc1 = w.acc1 ∧ (w.setReg d v).exa = w.exa ∧ (w.setReg d v).exb = w.exb ∧
    (w.setReg d v).flags = w.flags

/-- The integer instructions of two registers that write no flag: gd receives the result, nothing else changes. -/
def Obligations.LogicShiftCompareInstructions : Prop :=
  ∀ (s : State) (k : CellId) (d a b : BitVec 4), notLast s k →
    let w := (s.cell (cellNo k)).work
    (mayRun s k [a, b] none 1 →
      setsWork (.and k d a b) s k [a, b] none 1 (w.setReg d (w.reg a &&& w.reg b)) ∧
      setsWork (.or k d a b) s k [a, b] none 1 (w.setReg d (w.reg a ||| w.reg b)) ∧
      setsWork (.xor k d a b) s k [a, b] none 1 (w.setReg d (w.reg a ^^^ w.reg b)) ∧
      setsWork (.shl k d a b) s k [a, b] none 1 (w.setReg d (w.reg a <<< ((w.reg b).toNat % 32))) ∧
      setsWork (.shr k d a b) s k [a, b] none 1 (w.setReg d (w.reg a >>> ((w.reg b).toNat % 32))) ∧
      setsWork (.sra k d a b) s k [a, b] none 1 (w.setReg d ((w.reg a).sshiftRight ((w.reg b).toNat % 32))) ∧
      setsWork (.slt k d a b) s k [a, b] none 1 (w.setReg d (if (w.reg a).toInt < (w.reg b).toInt then 1 else 0)) ∧
      setsWork (.sltu k d a b) s k [a, b] none 1 (w.setReg d (if (w.reg a).toNat < (w.reg b).toNat then 1 else 0))) ∧
    (mayRun s k [a, b] none 2 →
      setsWork (.mul k d a b) s k [a, b] none 2 (w.setReg d (BitVec.ofInt 32 ((w.reg a).toInt * (w.reg b).toInt))))

/-- ADD, SUB, ADDC, SUBB: gd receives the sum or difference on 32 bits and C the carry out of bit 31 or the borrow; QSAT, ASAT
and DROPPED keep their values. QADD and QSUB: the sum or difference of the signed low halves, clamped to 16 bits and
sign-extended; QSAT is set when it was clamped, and no flag is cleared. -/
def Obligations.AddSubtractCarryAndSaturation : Prop :=
  (∀ (s : State) (k : CellId) (d a b : BitVec 4), notLast s k → mayRun s k [a, b] none 1 →
    let w := (s.cell (cellNo k)).work
    let x := (w.reg a).toNat
    let y := (w.reg b).toNat
    let c := w.flags.toNat % 2
    let after (v : Word) (carry : Bool) : Work :=
      { w.setReg d v with flags := BitVec.ofNat 4 (w.flags.toNat / 2 * 2 + if carry then 1 else 0) }
    setsWork (.add k d a b) s k [a, b] none 1 (after (w.reg a + w.reg b) (decide (2 ^ 32 ≤ x + y))) ∧
    setsWork (.sub k d a b) s k [a, b] none 1 (after (w.reg a - w.reg b) (decide (x < y))) ∧
    setsWork (.addc k d a b) s k [a, b] none 1 (after (w.reg a + w.reg b + BitVec.ofNat 32 c) (decide (2 ^ 32 ≤ x + y + c))) ∧
    setsWork (.subb k d a b) s k [a, b] none 1 (after (w.reg a - w.reg b - BitVec.ofNat 32 c) (decide (x < y + c)))) ∧
  (∀ (s : State) (k : CellId) (d a b : BitVec 4), notLast s k → mayRun s k [a, b] none 1 →
    let w := (s.cell (cellNo k)).work
    let x := ((w.reg a).truncate 16 : BitVec 16).toInt
    let y := ((w.reg b).truncate 16 : BitVec 16).toInt
    let after (v : Int) : Work :=
      { w.setReg d (BitVec.ofInt 32 (max (-32768) (min 32767 v))) with
        flags := if -32768 ≤ v ∧ v ≤ 32767 then w.flags else w.flags ||| 2 }
    setsWork (.qadd k d a b) s k [a, b] none 1 (after (x + y)) ∧
    setsWork (.qsub k d a b) s k [a, b] none 1 (after (x - y)))

/-- Immediate instructions, NOP, LUI and SETX. SYS: the sender identity, the periods begun, the cycles since the period began,
the beat counter, or FLAGS, whose read clears QSAT, ASAT and DROPPED. -/
def Obligations.ImmediateAndSystemInstructions : Prop :=
  (∀ (s : State) (k : CellId) (d a b : BitVec 4) (imm : BitVec 16) (sh : BitVec 5), notLast s k →
    let w := (s.cell (cellNo k)).work
    (mayRun s k [a] none 1 →
      setsWork (.addi k d a imm) s k [a] none 1 (w.setReg d (w.reg a + imm.signExtend 32)) ∧
      setsWork (.andi k d a imm) s k [a] none 1 (w.setReg d (w.reg a &&& imm.zeroExtend 32)) ∧
      setsWork (.ori k d a imm) s k [a] none 1 (w.setReg d (w.reg a ||| imm.zeroExtend 32)) ∧
      setsWork (.xori k d a imm) s k [a] none 1 (w.setReg d (w.reg a ^^^ imm.zeroExtend 32)) ∧
      setsWork (.shli k d a sh) s k [a] none 1 (w.setReg d (w.reg a <<< sh.toNat)) ∧
      setsWork (.shri k d a sh) s k [a] none 1 (w.setReg d (w.reg a >>> sh.toNat)) ∧
      setsWork (.srai k d a sh) s k [a] none 1 (w.setReg d ((w.reg a).sshiftRight sh.toNat))) ∧
    (mayRun s k [] none 1 →
      setsWork (.lui k d imm) s k [] none 1 (w.setReg d (BitVec.ofNat 32 (imm.toNat * 65536))) ∧
      setsWork (.nop k) s k [] none 1 w) ∧
    (mayRun s k [a, b] none 1 →
      setsWork (.setx k a b) s k [a, b] none 1
        { w with exa := BitVec.ofNat 8 (w.reg a).toNat, exb := BitVec.ofNat 8 (w.reg b).toNat })) ∧
  (∀ (s : State) (k : CellId) (d : BitVec 4), notLast s k → mayRun s k [] none 1 →
    let n := cellNo k
    let w := (s.cell n).work
    let p := s.prog k.p.val (s.cell n).prog
    let t := max (s.cell n).next s.now + stall s k [] none
    setsWork (.sys k d 0) s k [] none 1 (w.setReg d (BitVec.ofNat 32 (k.k.val + k.c.val * 512 + k.p.val * 16384))) ∧
    setsWork (.sys k d 1) s k [] none 1 (w.setReg d (BitVec.ofNat 32 p.begun)) ∧
    setsWork (.sys k d 2) s k [] none 1 (w.setReg d (BitVec.ofNat 32 (t - 1250 * p.last))) ∧
    setsWork (.sys k d 3) s k [] none 1 (w.setReg d (BitVec.ofNat 32 (t / 1250))) ∧
    setsWork (.sys k d 4) s k [] none 1 { w.setReg d (BitVec.ofNat 32 w.flags.toNat) with flags := w.flags &&& 1 })


/-! ### Cells: loads and stores -/

/-- LDW, LDH, LDHU, LDB: an aligned load within 0x000 to 0x7FF reads the cell's bytes, the lowest address first; memory keeps
every byte. A corrected error is counted in FAB_ECC_CE_CNT and in the cluster, and changes no other register. -/
def Obligations.LocalLoads : Prop :=
  ∀ (s : State) (k : CellId) (d a : BitVec 4) (imm : BitVec 16) (ecc : Ecc), notLast s k → mayRun s k [a] none 1 →
    ecc ≠ .uncorrectable →
    let w := (s.cell (cellNo k)).work
    let ea := (w.reg a + imm.signExtend 32).toNat
    let b (i : Nat) : Nat := (s.rdByte (byteAddress k (ea + i))).toNat
    let loads (i : Instr) (v : Word) : Prop := completes i s fun t =>
      cellAfter s t k [a] none 1 (w.setReg d v) ((s.cell (cellNo k)).pc + 1) (some d) ∧
      t = { s with cells := t.cells, clusters := t.clusters, regs := t.regs } ∧
      (∀ m, m ≠ cellNo k → t.cell m = s.cell m) ∧
      (∀ r, t.rd r = if r = 0x200028 ∧ ecc = .corrected then BitVec.ofNat 32 (min (2 ^ 32 - 1) ((s.rd r).toNat + 1)) else s.rd r) ∧
      (t.cl (clusterOf (cellNo k))).ecc =
        if ecc = .corrected then min (2 ^ 32 - 1) ((s.cl (clusterOf (cellNo k))).ecc + 1) else (s.cl (clusterOf (cellNo k))).ecc
    ea ≤ 0x7FF →
    (ea % 4 = 0 → loads (.ldw k d a imm ecc) (BitVec.ofNat 32 (b 0 + 2 ^ 8 * b 1 + 2 ^ 16 * b 2 + 2 ^ 24 * b 3))) ∧
    (ea % 2 = 0 → loads (.ldh k d a imm ecc) ((BitVec.ofNat 16 (b 0 + 2 ^ 8 * b 1)).signExtend 32) ∧
      loads (.ldhu k d a imm ecc) (BitVec.ofNat 32 (b 0 + 2 ^ 8 * b 1))) ∧
    loads (.ldb k d a imm ecc) ((s.rdByte (byteAddress k ea)).signExtend 32)

/-- STW, STH, STB: an aligned store within 0x000 to 0x7FF writes the low bytes of gd, lowest first, at the effective address;
every other byte of memory, the KEPT bank, every working register of the cell and everything else keep their values, but that
the cell holds what it stored for letters of the same cycle (R48). -/
def Obligations.LocalStores : Prop :=
  ∀ (s : State) (k : CellId) (d a : BitVec 4) (imm : BitVec 16), notLast s k → mayRun s k [a, d] none 1 →
    let w := (s.cell (cellNo k)).work
    let ea := (w.reg a + imm.signExtend 32).toNat
    let stores (i : Instr) (n : Nat) : Prop := completes i s fun t =>
      (let c := s.cell (cellNo k)
       let T := max c.next s.now + stall s k [a, d] none
       t.cell (cellNo k) = { c with
         pc := c.pc + 1, charged := c.charged + (stall s k [a, d] none + 1), next := T + 1, lastLoad := none
         stored := some (T, ea, s.rdMem (byteAddress k ea) n, Bits.toLe n (w.reg d).toNat) }) ∧
      t = { s with cells := t.cells, clusters := t.clusters, mem := t.mem } ∧
      (∀ m, m ≠ cellNo k → t.cell m = s.cell m) ∧ counted s t k ∧
      (∀ i, i < n → t.rdByte (byteAddress k (ea + i)) = BitVec.ofNat 8 ((w.reg d).toNat / 2 ^ (8 * i))) ∧
      ∀ x, (x < byteAddress k ea ∨ byteAddress k ea + n ≤ x) → t.rdByte x = s.rdByte x
    ea ≤ 0x7FF →
    (ea % 4 = 0 → stores (.stw k d a imm) 4) ∧ (ea % 2 = 0 → stores (.sth k d a imm) 2) ∧ stores (.stb k d a imm) 1

/-- A load or store outside 0x000 to 0x7FF faults with MEM_RANGE (1); in range and misaligned, with MEM_ALIGN (2); a load in
range and aligned that meets an uncorrectable error, with MEM_UNCORRECTABLE (3). A JR to a target at or beyond the program's
length faults with PC_RANGE (5), and so does execution past the last instruction. An instruction whose charge would take the
count above the budget has no effect: the cell stops before it, with RUN 3; one that spends the budget at the program's end
stops without a fault. -/
def Obligations.CellFaultsAndBudgetStops : Prop :=
  (∀ (s : State) (k : CellId) (d a : BitVec 4) (imm : BitVec 16) (ecc : Ecc), (s.cell (cellNo k)).ctx = .none →
    let c := s.cell (cellNo k)
    let ea := (c.work.reg a + imm.signExtend 32).toNat
    let stops (i : Instr) (code reason : Nat) : Prop := completes i s fun t => cellStops s t k code reason
    (mayRun s k [a] none 1 →
      (0x7FF < ea →
        stops (.ldw k d a imm ecc) 0x107 1 ∧ stops (.ldh k d a imm ecc) 0x107 1 ∧ stops (.ldhu k d a imm ecc) 0x107 1 ∧
        stops (.ldb k d a imm ecc) 0x107 1) ∧
      (ea ≤ 0x7FF → ea % 4 ≠ 0 → stops (.ldw k d a imm ecc) 0x107 2) ∧
      (ea ≤ 0x7FF → ea % 2 ≠ 0 → stops (.ldh k d a imm ecc) 0x107 2 ∧ stops (.ldhu k d a imm ecc) 0x107 2) ∧
      (ea ≤ 0x7FF → ea % 4 = 0 → stops (.ldw k d a imm .uncorrectable) 0x103 (byteAddress k ea)) ∧
      (ea ≤ 0x7FF → ea % 2 = 0 →
        stops (.ldh k d a imm .uncorrectable) 0x103 (byteAddress k ea) ∧ stops (.ldhu k d a imm .uncorrectable) 0x103 (byteAddress k ea)) ∧
      (ea ≤ 0x7FF → stops (.ldb k d a imm .uncorrectable) 0x103 (byteAddress k ea))) ∧
    (mayRun s k [a, d] none 1 →
      (0x7FF < ea → stops (.stw k d a imm) 0x107 1 ∧ stops (.sth k d a imm) 0x107 1 ∧ stops (.stb k d a imm) 0x107 1) ∧
      (ea ≤ 0x7FF → ea % 4 ≠ 0 → stops (.stw k d a imm) 0x107 2) ∧
      (ea ≤ 0x7FF → ea % 2 ≠ 0 → stops (.sth k d a imm) 0x107 2)) ∧
    (mayRun s k [a] none 2 → c.len ≤ (c.work.reg a).toNat % 256 → stops (.jr k a) 0x107 5) ∧
    (mayRun s k [] none 1 → c.len ≤ c.pc.toNat + 1 → completes (.nop k) s fun t =>
      (t.cell (cellNo k)).run = 3 ∧ (t.cell (cellNo k)).work = c.work ∧ t.mem = s.mem ∧ t.kept = s.kept ∧ t.net = s.net ∧
      (c.charged + (stall s k [] none + 1) = s.budget (cellNo k) → (t.cell (cellNo k)).overrun = true ∧ t.evl = s.evl) ∧
      (c.charged + (stall s k [] none + 1) < s.budget (cellNo k) →
        raises s t 0x107 (k.p.val + 256 * k.c.val + 65536 * k.k.val) 5 (c.pc.toNat + 1) (s.beat.toNat % 2 ^ 32)))) ∧
  (∀ (s : State) (k : CellId) (d a b : BitVec 4), s.canRun (cellNo k) = true →
    let c := s.cell (cellNo k)
    let stopped (i : Instr) : Prop := completes i s fun t =>
      t.cell (cellNo k) = { c with run := 3, overrun := true } ∧ onlyCell s t k ∧ t.evl = s.evl ∧
      (t.cl (clusterOf (cellNo k))).instr = (s.cl (clusterOf (cellNo k))).instr
    (s.budget (cellNo k) < c.charged + (stall s k [a, b] none + 1) → stopped (.add k d a b) ∧ stopped (.xor k d a b)) ∧
    (s.budget (cellNo k) < c.charged + (stall s k [a, d] none + 1) → stopped (.stw k d a 0)) ∧
    (s.budget (cellNo k) < c.charged + (stall s k [] none + 1) → stopped (.done k)))

/-! ### Cells: accumulators -/

/-- MACQ and MSUQ: V ± x × y clamped to 40 bits; EMPTY is cleared and EX kept. -/
def Obligations.Q15MultiplyAccumulate : Prop :=
  ∀ (s : State) (k : CellId) (a b : BitVec 4) (n ha hb : Bool), notLast s k → mayRun s k [a, b] none 1 →
    let w := (s.cell (cellNo k)).work
    let acc := if n then w.acc1 else w.acc0
    let x := (BitVec.ofNat 16 ((w.reg a).toNat / if ha then 2 ^ 16 else 1)).toInt
    let y := (BitVec.ofNat 16 ((w.reg b).toNat / if hb then 2 ^ 16 else 1)).toInt
    let after (v : Int) : Acc := { acc with v := BitVec.ofInt 40 (max (-2 ^ 39) (min (2 ^ 39 - 1) v)), empty := false }
    let clamped (v : Int) : Bool := decide (v < -2 ^ 39 ∨ 2 ^ 39 - 1 < v)
    macs (.macq k a b n ha hb) s k [a, b] n (after (acc.v.toInt + x * y)) (clamped (acc.v.toInt + x * y)) ∧
    macs (.msuq k a b n ha hb) s k [a, b] n (after (acc.v.toInt - x * y)) (clamped (acc.v.toInt - x * y))

/-- MACB8 and MACB4: the exact lane sum and the product exponent EXA + EXB are accumulated, aligned to the larger exponent by
rounding half to even, and clamped to 32 bits. -/
def Obligations.BlockMultiplyAccumulate : Prop :=
  ∀ (s : State) (k : CellId) (a b : BitVec 4) (n : Bool), notLast s k → mayRun s k [a, b] none 1 →
    let w := (s.cell (cellNo k)).work
    let acc := if n then w.acc1 else w.acc0
    let pe := w.exa.toInt + w.exb.toInt
    let ex := acc.ex.toInt
    let lane (m : Nat) (x : Word) (i : Nat) : Int := (BitVec.ofNat m (x.toNat / 2 ^ (m * i))).toInt
    let sum (m lanes : Nat) : Int := ((List.range lanes).map fun i => lane m (w.reg a) i * lane m (w.reg b) i).sum
    let sat32 (v : Int) : Int := max (-2 ^ 31) (min (2 ^ 31 - 1) v)
    let clamps (v : Int) : Bool := decide (v < -2 ^ 31 ∨ 2 ^ 31 - 1 < v)
    let does (i : Instr) (S : Int) : Prop :=
      if acc.empty then
        macs i s k [a, b] n { v := BitVec.ofInt 40 (sat32 S), ex := BitVec.ofInt 10 pe, empty := false } (clamps S)
      else
        let S' := if pe < ex then Bits.rhe S (ex - pe).toNat else S
        let v := if ex < pe then Bits.rhe (sat32 acc.v.toInt) (pe - ex).toNat else sat32 acc.v.toInt
        macs i s k [a, b] n
          { v := BitVec.ofInt 40 (sat32 (v + S')), ex := BitVec.ofInt 10 (max pe ex), empty := false }
          (clamps acc.v.toInt || clamps (v + S'))
    does (.macb8 k a b n) (sum 8 4) ∧ does (.macb4 k a b n) (sum 4 8)

/-- rhe divides by a power of two and rounds to the nearest integer, and a tie to the even one. -/
def Obligations.RoundHalfToEven : Prop :=
  ∀ (v : Int) (n : Nat), n ≤ 62 →
    let q := Bits.rhe v n
    2 * (q * 2 ^ n - v) ≤ 2 ^ n ∧ 2 * (v - q * 2 ^ n) ≤ 2 ^ n ∧
    ((2 * (q * 2 ^ n - v) = 2 ^ n ∨ 2 * (v - q * 2 ^ n) = 2 ^ n) → q % 2 = 0)

/-- CLRA, SETA, GETA, EXTQ and EXTB. -/
def Obligations.AccumulatorMoves : Prop :=
  ∀ (s : State) (k : CellId) (d a : BitVec 4) (n : Bool) (sh : BitVec 5), notLast s k →
    let c := s.cell (cellNo k)
    let w := c.work
    let acc := if n then w.acc1 else w.acc0
    let writes (i : Instr) (reads : List (BitVec 4)) (A : Acc) : Prop := completes i s fun t =>
      let T := max c.next s.now + stall s k reads none
      onlyCell s t k ∧ counted s t k ∧
      t.cell (cellNo k) = { c with
        work := { w with acc0 := if n then w.acc0 else A, acc1 := if n then A else w.acc1 }
        pc := c.pc + 1, charged := c.charged + (stall s k reads none + 1), next := T + 1, lastLoad := none
        ready0 := if n then c.ready0 else T + 3, ready1 := if n then T + 3 else c.ready1 }
    let extract (e : Int) : Work :=
      let q := Bits.ext16 acc.v.toInt e
      { w.setReg d (BitVec.ofInt 32 q) with flags := if Bits.ext16Sat acc.v.toInt e then w.flags ||| 2 else w.flags }
    (mayRun s k [] none 1 → writes (.clra k n) [] { v := 0, ex := 0, empty := true }) ∧
    (mayRun s k [a] none 1 →
      writes (.seta k a n 0) [a] { acc with v := BitVec.ofNat 40 (acc.v.toNat / 2 ^ 32 * 2 ^ 32 + (w.reg a).toNat) } ∧
      writes (.seta k a n 1) [a] { acc with v := BitVec.ofNat 40 ((w.reg a).toNat % 2 ^ 8 * 2 ^ 32 + acc.v.toNat % 2 ^ 32) } ∧
      writes (.seta k a n 2) [a] { acc with ex := BitVec.ofNat 10 (w.reg a).toNat } ∧
      writes (.seta k a n 3) [a] { acc with empty := decide ((w.reg a).toNat % 2 = 1) }) ∧
    (mayRun s k [] (some n) 1 →
      setsWork (.geta k d n 0) s k [] (some n) 1 (w.setReg d (BitVec.ofNat 32 acc.v.toNat)) ∧
      setsWork (.geta k d n 1) s k [] (some n) 1 (w.setReg d ((BitVec.ofNat 8 (acc.v.toNat / 2 ^ 32)).signExtend 32)) ∧
      setsWork (.geta k d n 2) s k [] (some n) 1 (w.setReg d (acc.ex.signExtend 32)) ∧
      setsWork (.geta k d n 3) s k [] (some n) 1 (w.setReg d (if acc.empty then 1 else 0)) ∧
      setsWork (.extq k d n sh) s k [] (some n) 1 (extract (sh.toInt - 15)) ∧
      setsWork (.extb k d n sh) s k [] (some n) 1 (extract (acc.ex.toInt + 15 + sh.toInt)))

/-! ### Cells: control flow, waiting, the end of a period -/

/-- BR, JAL and JR; a BR on CS or CC reads no register. -/
def Obligations.BranchesAndJumps : Prop :=
  ∀ (s : State) (k : CellId) (d a b : BitVec 4) (cond : BitVec 3) (tgt : BitVec 8),
    let c := s.cell (cellNo k)
    let w := c.work
    let x := w.reg a
    let y := w.reg b
    let holds : Bool := match cond.toNat with
      | 0 => decide (x = y)
      | 1 => decide (x ≠ y)
      | 2 => decide (x.toInt < y.toInt)
      | 3 => decide (y.toInt ≤ x.toInt)
      | 4 => decide (x.toNat < y.toNat)
      | 5 => decide (y.toNat ≤ x.toNat)
      | 6 => decide (w.flags.toNat % 2 = 1)
      | _ => decide (w.flags.toNat % 2 = 0)
    let goes (i : Instr) (reads : List (BitVec 4)) (cost : Nat) (w' : Work) (pc : BitVec 8) : Prop :=
      completes i s fun t => cellAfter s t k reads none cost w' pc ∧ onlyCell s t k ∧ counted s t k
    let reads := if cond.toNat < 6 then [a, b] else []
    (holds = true → mayRun s k reads none 2 → goes (.br k a b cond tgt) reads 2 w tgt) ∧
    (holds = false → notLast s k → mayRun s k reads none 1 → goes (.br k a b cond tgt) reads 1 w (c.pc + 1)) ∧
    (mayRun s k [] none 2 → goes (.jal k d tgt) [] 2 (w.setReg d (BitVec.ofNat 32 (c.pc.toNat + 1))) tgt) ∧
    (mayRun s k [a] none 2 → x.toNat % 256 < c.len → goes (.jr k a) [a] 2 w (BitVec.ofNat 8 x.toNat))

/-- WAIT blocks the cell with RUN 2 until a selected slot counts or TIME expires; DONE stops it with RUN 3, its period ended. -/
def Obligations.WaitAndDone : Prop :=
  ∀ (s : State) (k : CellId) (d : BitVec 4) (mask : BitVec 8) (time : BitVec 14), mayRun s k [] none 1 →
    let c := s.cell (cellNo k)
    let T := max c.next s.now + stall s k [] none
    let ends (i : Instr) (c' : Cell) : Prop := completes i s fun t =>
      t.cell (cellNo k) = { c' with
        pc := c.pc + 1, charged := c.charged + (stall s k [] none + 1), next := T + 1, lastLoad := none } ∧ onlyCell s t k
    ((mask ≠ 0 ∨ time ≠ 0) →
      ends (.wait k d mask time) { c with
        run := 2
        waiting := some { mask := mask, dst := d, untilBeat := if time = 0 then none else some (T / 1250 + time.toNat) } }) ∧
    (c.ctx = .none → ends (.done k) { c with run := 3, done := true })

/-- A waiting cell resumes: on a selected slot that counts, the lowest such slot counts one less and gd is its number; at the
beat at which TIME expires with none counting, gd is 8. The result word of ENV_OPEN or ENV_JOIN reaches gd and the cell goes on. -/
def Obligations.CellsGoOn : Prop :=
  (∀ (s : State) (k : CellId) (w : WaitSt), let c := s.cell (cellNo k)
    c.waiting = some w → s.cstate (clusterOf (cellNo k)) = 2 → s.held (partOf (cellNo k)) = false →
    c.pc.toNat < c.len → (c.pc ≠ 0 ∨ c.len < 256) →
    let counts (i : Nat) : Prop := w.mask.toNat.testBit i = true ∧ 0 < (c.slots.get i 0).toNat / 2 ^ 16 % 2 ^ 8
    let resumes (i : Instr) (v : Nat) (c' : Cell) : Prop := completes i s fun t =>
      t.cell (cellNo k) = { c' with run := 1, waiting := none, work := c.work.setReg w.dst (BitVec.ofNat 32 v) } ∧ onlyCell s t k
    (∀ i, i < 8 → counts i → (∀ j, j < i → ¬ counts j) →
      resumes (.waitSlotResume k) i { c with
        next := max c.next (s.now + 1)
        slots := c.slots.put i (BitVec.ofNat 32 ((c.slots.get i 0).toNat - 2 ^ 16)) 0 }) ∧
    (∀ e, w.untilBeat = some e → e ≤ s.beat.toNat → (∀ i, i < 8 → ¬ counts i) →
      resumes (.waitBeatResume k) 8 { c with next := max c.next s.now })) ∧
  (∀ (s : State) (k : CellId) (d : BitVec 4) (v : Word), let c := s.cell (cellNo k)
    c.result = some (d, v) →
    completes (.envResultWord k) s fun t =>
      t.cell (cellNo k) = { c with result := none, next := max c.next s.now, work := c.work.setReg d v } ∧ onlyCell s t k ∧
      t.cl (clusterOf (cellNo k)) = s.cl (clusterOf (cellNo k)))


/-! ### Cells: letters and envelopes -/

/-- LPUT, LGET and the atomics with ENV = 0, and LPUT with ENV = 1 in an envelope: one letter leaves, with the target, the local
bytes, the length, the tag and the reply destination of the operands; no byte of memory and no register but FAB_DET_PACED_CNT
changes. An LPUT that wants no reply does not read gc. -/
def Obligations.LettersFromCells : Prop :=
  ∀ (s : State) (k : CellId) (f : LFields), notLast s k →
    let c := s.cell (cellNo k)
    let w := c.work
    let ra : BitVec 4 := BitVec.ofNat 4 (2 * f.aHalf.toNat)
    let addr := (w.reg (ra + 1)).toNat % 2 ^ 16 * 2 ^ 32 + (w.reg ra).toNat
    let loff := (w.reg f.b).toNat % 2 ^ 11
    let len := (w.reg f.b).toNat / 2 ^ 16 % 2 ^ 7
    let coff := (w.reg f.c).toNat % 2 ^ 11
    let reads (want : Bool) := [ra, ra + 1, f.b] ++ if want then [f.c] else []
    let sends (i : Instr) (op : LOp) (n : Nat) (want : Bool) (env : Option (BitVec 16)) : Prop := completes i s fun t => ∃ l : Letter,
      let T := max c.next s.now + stall s k (reads want) none
      t = { s with net := s.net ++ [l], cells := t.cells, clusters := t.clusters, routes := t.routes, envs := t.envs, regs := t.regs } ∧
      l.op = op ∧ l.len = len ∧ l.env = env ∧
      l.hdr = { sender := .cell k, addr := BitVec.ofNat 48 addr, tag := f.tag
                reply := if want then .cell k (BitVec.ofNat 11 loff) (BitVec.ofNat 11 coff) else .none } ∧
      l.data = (List.range n).map (fun j => s.rdByte (byteAddress k (loff + j))) ∧
      (env = none → t.envs = s.envs) ∧
      (∀ h e, env = some h → s.handleEnv h.toNat = some e →
        t.envs = s.envs.put (64 * (h.toNat / 2 ^ 11 % 32) + h.toNat / 2 ^ 5 % 64)
          { e with members := e.members.map fun m => if m.cell = cellNo k ∧ m.active = true then { m with sent := m.sent + 1 } else m } {}) ∧
      T ≤ l.issued ∧ (s.routeOf k.p.val (.cell k) addr = none → l.issued = T ∧ t.regs = s.regs ∧ t.routes = s.routes) ∧
      (∀ r, r ≠ 0x200020 → t.rd r = s.rd r) ∧
      t.cell (cellNo k) = { c with
        pc := c.pc + 1, charged := c.charged + (stall s k (reads want) none + 1), next := l.issued + 1, lastLoad := none
        outst := c.outst + if want then 1 else 0 } ∧
      (∀ m, m ≠ cellNo k → t.cell m = s.cell m) ∧
      (t.cl (clusterOf (cellNo k))).sent = min (2 ^ 32 - 1) ((s.cl (clusterOf (cellNo k))).sent + 1)
    let ordinary : Prop := 1 ≤ len ∧ len ≤ 64 ∧ addr % 64 + len ≤ 64 ∧ loff + len ≤ 2048
    let atomic (n : Nat) : Prop := (len = 4 ∨ len = 8) ∧ loff % len = 0 ∧ addr % len = 0 ∧ loff + n ≤ 2048
    let answers : Prop := coff % 4 = 0 ∧ c.outst < 16
    (f.env = false → mayRun s k (reads f.reply) none 1 →
      ordinary → (f.reply = true → answers) → sends (.lput k f) .put len f.reply none) ∧
    (f.env = false → mayRun s k (reads true) none 1 →
      (ordinary → answers → sends (.lget k f) .get 0 true none) ∧
      (atomic len → answers →
        sends (.ladd k f) .add len true none ∧ sends (.lswap k f) .swap len true none ∧
        sends (.lmax k f) .max len true none ∧ sends (.lmin k f) .min len true none) ∧
      (atomic (2 * len) → answers → sends (.lcas k f) .cas (2 * len) true none)) ∧
    (∀ h e, f.env = true → f.reply = false → mayRun s k (reads false) none 1 → ordinary → c.ctx = .member h → s.handleEnv h.toNat = some e →
      e.st = .open ∨ e.st = .sealed → sends (.lput k f) .put len false (some h))

/-- A format L instruction that breaks a rule of form, or any but a plain LPUT with ENV = 1, faults with LETTER_FORM and sends
nothing; ENV = 1 in no envelope faults with ENV_SEQUENCE; in the void envelope or an envelope that is gone the letter is dropped;
while 16 replies are outstanding an LGET does not issue and changes nothing. -/
def Obligations.LettersNotSent : Prop :=
  ∀ (s : State) (k : CellId) (f : LFields), notLast s k →
    let c := s.cell (cellNo k)
    let w := c.work
    let ra : BitVec 4 := BitVec.ofNat 4 (2 * f.aHalf.toNat)
    let addr := (w.reg (ra + 1)).toNat % 2 ^ 16 * 2 ^ 32 + (w.reg ra).toNat
    let loff := (w.reg f.b).toNat % 2 ^ 11
    let len := (w.reg f.b).toNat / 2 ^ 16 % 2 ^ 7
    let reads (want : Bool) := [ra, ra + 1, f.b] ++ if want then [f.c] else []
    let bad (i : Instr) (type : Nat) : Prop := completes i s fun t => cellStops s t k 0x106 (type + 16 * len)
    mayRun s k (reads true) none 1 →
    (f.env = false → c.ctx = .none →
      (len = 0 ∨ 64 < len ∨ 64 < addr % 64 + len ∨ 2048 < loff + len → bad (.lput k f) 1 ∧ bad (.lget k f) 2) ∧
      ((len ≠ 4 ∧ len ≠ 8) ∨ loff % len ≠ 0 ∨ addr % len ≠ 0 ∨ 2048 < loff + len →
        bad (.ladd k f) 3 ∧ bad (.lswap k f) 4 ∧ bad (.lcas k f) 5 ∧ bad (.lmax k f) 6 ∧ bad (.lmin k f) 7) ∧
      (2048 < loff + 2 * len → bad (.lcas k f) 5) ∧
      ((w.reg f.c).toNat % 2 ^ 11 % 4 ≠ 0 →
        (f.reply = true → bad (.lput k f) 1) ∧ bad (.lget k f) 2 ∧ bad (.ladd k f) 3 ∧ bad (.lswap k f) 4 ∧
        bad (.lcas k f) 5 ∧ bad (.lmax k f) 6 ∧ bad (.lmin k f) 7)) ∧
    (f.env = true → c.ctx = .none → ∀ i ∈ [Instr.lput k f, .lget k f, .ladd k f, .lswap k f, .lcas k f, .lmax k f, .lmin k f],
      completes i s fun t => cellStops s t k 0x107 6) ∧
    (f.env = true → c.ctx ≠ .none →
      let bad (i : Instr) (type : Nat) : Prop := completes i s fun t => (t.cell (cellNo k)).run = 3 ∧ t.net = s.net ∧
        raises s t 0x106 (k.p.val + 256 * k.c.val + 65536 * k.k.val) (type + 16 * len) c.pc.toNat (s.beat.toNat % 2 ^ 32)
      (f.reply = true → bad (.lput k f) 1) ∧ bad (.lget k f) 2 ∧ bad (.ladd k f) 3 ∧ bad (.lswap k f) 4 ∧ bad (.lcas k f) 5 ∧
      bad (.lmax k f) 6 ∧ bad (.lmin k f) 7) ∧
    (f.env = true → f.reply = false → 1 ≤ len ∧ len ≤ 64 ∧ addr % 64 + len ≤ 64 ∧ loff + len ≤ 2048 →
      (∀ st, c.ctx = .void st → setsWork (.lput k f) s k (reads false) none 1 w) ∧
      (∀ h, c.ctx = .member h → (∀ e ∈ s.handleEnv h.toNat, e.st ≠ .open ∧ e.st ≠ .sealed) →
        setsWork (.lput k f) s k (reads false) none 1 w)) ∧
    (f.env = false → 16 ≤ c.outst → 1 ≤ len ∧ len ≤ 64 ∧ addr % 64 + len ≤ 64 ∧ loff + len ≤ 2048 →
      (w.reg f.c).toNat % 2 ^ 11 % 4 = 0 →
      completes (.lget k f) s fun t => t = s)

/-- ENV_OPEN, ENV_JOIN, ENV_SEAL and ENV_ABORT: their result words, the context they leave, and the slot; each faults with
ENV_SEQUENCE in the wrong context. Memory keeps every byte where no envelope aborts, and no register but ENV_PART_STATUS of the
home changes on an accepted open, join or seal. -/
def Obligations.EnvelopeInstructions : Prop :=
  ∀ (s : State) (k : CellId) (d a b : BitVec 4), notLast s k →
    let n := cellNo k
    let p := k.p.val
    let c := s.cell n
    let w := c.work
    let decl := (w.reg a).toNat
    let size := decl % 2 ^ 13
    let reserved : Prop := decl / 2 ^ 13 % 8 ≠ 0 ∨ decl / 2 ^ 30 ≠ 0
    let T (reads : List (BitVec 4)) := max c.next s.now + stall s k reads none
    let ends (reads : List (BitVec 4)) (ch : Nat) (x : EnvCtx) (res : Option (BitVec 4 × Word)) (w' : Work) (t : State) : Prop :=
      t.cell n = { c with
        work := w', pc := c.pc + 1, charged := c.charged + (stall s k reads none + ch), next := T reads + 1, lastLoad := none
        ctx := x, result := res } ∧
      t.mem = s.mem ∧ t.kept = s.kept ∧ t.net = s.net ∧ ∀ m, m ≠ n → t.cell m = s.cell m
    let slotOnly (t : State) (p' sl : Nat) (e : Env) : Prop :=
      t.env p' sl = e ∧ (∀ i j, i < 32 → j < 64 → (i ≠ p' ∨ j ≠ sl) → t.env i j = s.env i j) ∧ t.evl = s.evl ∧
      ∀ r, r ≠ 0x300100 + 4 * p' → t.rd r = s.rd r
    (mayRun s k [a, b] none 128 → c.ctx = .none →
      (∀ sl, ¬ reserved → size ≤ s.bufSize p → size + s.bufUsed p ≤ s.bufSize p → s.freeSlot p = some sl →
        completes (.envOpen k d a b) s fun t =>
          let gen := ((s.env p sl).gen + 1) % 31
          let h := p * 2 ^ 11 + sl * 2 ^ 5 + gen
          ends [a, b] 128 (.member (BitVec.ofNat 16 h)) (some (d, BitVec.ofNat 32 (2 ^ 16 * h))) w t ∧
          ∃ D, slotOnly t p sl
            { st := .open, gen := gen, size := size, expect := decl / 2 ^ 16 % 2 ^ 6 + 1, deadline := D
              members := [{ cell := n, off := BitVec.ofNat 11 ((w.reg b).toNat % 2 ^ 11 / 4 * 4), per := (s.prog p c.prog).begun }] } ∧
            (decl / 2 ^ 22 % 2 ^ 8 ≠ 0 → D = T [a, b] / 1250 + decl / 2 ^ 22 % 2 ^ 8)) ∧
      (let void (st : Nat) : Prop := completes (.envOpen k d a b) s fun t =>
        ends [a, b] 128 (.void (BitVec.ofNat 16 st)) (some (d, BitVec.ofNat 32 (0xFFFF0000 + st))) w t ∧ t.envs = s.envs
      (reserved → void 0x30) ∧ (¬ reserved → s.bufSize p < size → void 0x10) ∧
      (¬ reserved → size ≤ s.bufSize p → (s.freeSlot p = none ∨ s.bufSize p < size + s.bufUsed p) → void 0x22))) ∧
    (mayRun s k [a, b] none 512 → c.ctx = .none →
      let h := decl / 2 ^ 16
      let res (st : Nat) := some (d, BitVec.ofNat 32 (st + 2 ^ 16 * h))
      let refused (st : Nat) : Prop := completes (.envJoin k d a b) s fun t => ends [a, b] 512 .none (res st) w t ∧ t.envs = s.envs ∧ t.regs = s.regs
      (s.handleEnv h = none → refused 0x30) ∧
      ∀ e, s.handleEnv h = some e →
        (e.st = .aborted → refused e.status) ∧ (e.st = .actuating → refused 0x30) ∧
        (e.st = .open ∨ e.st = .sealed →
          (e.expect ≤ e.members.length → refused 0x22) ∧
          (e.members.length < e.expect → completes (.envJoin k d a b) s fun t =>
            ends [a, b] 512 (.member (BitVec.ofNat 16 h)) (res 0) w t ∧
            slotOnly t (h / 2 ^ 11 % 32) (h / 2 ^ 5 % 64) { e with
              members := e.members ++
                [{ cell := n, off := BitVec.ofNat 11 ((w.reg b).toNat % 2 ^ 11 / 4 * 4), per := (s.prog p c.prog).begun }] }))) ∧
    (mayRun s k [] none 1 →
      (∀ st, c.ctx = .void st → ∀ i ∈ [Instr.envSeal k d, .envAbort k d], completes i s fun t =>
        ends [] 1 .none c.result (w.setReg d (BitVec.ofNat 32 (0xFFFF0000 + st.toNat))) t ∧ t.envs = s.envs ∧ t.regs = s.regs) ∧
      (∀ h, c.ctx = .member h →
        let gives (st : Nat) (t : State) : Prop :=
          (t.cell n).ctx = .none ∧ (t.cell n).work = w.setReg d (BitVec.ofNat 32 (st + 2 ^ 16 * h.toNat)) ∧ (t.cell n).pc = c.pc + 1
        (s.handleEnv h.toNat = none → completes (.envSeal k d) s (gives 0x30)) ∧
        ∀ e, s.handleEnv h.toNat = some e →
          (e.st = .aborted → completes (.envSeal k d) s (gives e.status) ∧ completes (.envAbort k d) s (gives e.status)) ∧
          (e.st ≠ .aborted → completes (.envSeal k d) s fun t => gives 1 t ∧ t.mem = s.mem ∧ t.kept = s.kept ∧ t.net = s.net ∧
            ∀ m, m ≠ n → t.cell m = s.cell m) ∧
          (e.st = .open ∨ e.st = .sealed → e.vec = none → completes (.envAbort k d) s fun t => gives 0 t ∧ t.net = s.net ∧
            ∀ f, t.handleEnv h.toNat = some f → f.st = .aborted ∧ f.status = 2 ∧ f.held = [] ∧ f.blocks = []))) ∧
    (mayRun s k [] none 1 → c.ctx = .none → ∀ i ∈ [Instr.envSeal k d, .envAbort k d], completes i s fun t => cellStops s t k 0x107 6) ∧
    (c.ctx ≠ .none →
      let fails (i : Instr) : Prop := completes i s fun t => (t.cell n).run = 3 ∧ (t.cell n).ctx = .none ∧ (t.cell n).work = w ∧
        raises s t 0x107 (p + 256 * k.c.val + 65536 * k.k.val) 6 c.pc.toNat (s.beat.toNat % 2 ^ 32)
      (mayRun s k [a, b] none 128 → fails (.envOpen k d a b)) ∧ (mayRun s k [a, b] none 512 → fails (.envJoin k d a b)) ∧
      (mayRun s k [] none 1 → fails (.done k)))

/-! ### The fabric: letters and replies at their targets -/

/-- Letters that reach a memory that serves them, no earlier letter standing before them and no DRAM channel of theirs retraining: a PUT writes its bytes, a GET reads (in a
cell's state window the KEPT bank), an atomic writes its result and returns the old value; an atomic that meets an uncorrectable
error completes with status 2; the reply leaves with status OK, or none where none is asked for; every other byte of memory, every
cell's working registers and PC and every register but the counters of late deliveries and corrected errors keep their values.
Where the cell stored in the same cycle, its store stands over a PUT to the same bytes. A PUT that an earlier letter must go before (R49, R50) does
not arrive: nothing changes. -/
def Obligations.LettersAtMemory : Prop :=
  ∀ (s : State) (h : Hdr) (data : Bytes) (len : Nat) (wide : Bool) (v c : BitVec 64) (ecc : Ecc),
    let a := h.addr.toNat
    let w := if wide then 8 else 4
    let old := Bits.le (s.rdMem a w) 0 w
    let x := v.toNat % 2 ^ (8 * w)
    let signed (n : Nat) : Int := (n : Int) - if 2 ^ (8 * w - 1) ≤ n then 2 ^ (8 * w) else 0
    let answers (t : State) (op : LOp) (d : Bytes) : Prop := t.replies = s.replies ++
      if h.reply = .none then [] else [{ dest := h.reply, op := op, tag := h.tag, status := 0, data := d }]
    let frame (t : State) : Prop := (∀ m, (t.cell m).work = (s.cell m).work ∧ (t.cell m).pc = (s.cell m).pc) ∧
      t.envs = s.envs ∧ t.parts = s.parts ∧ t.acks = s.acks ∧
      ∀ r, r ≠ 0x200024 → r ≠ 0x200028 → r ≠ 0x130010C → t.rd r = s.rd r
    let keeps (t : State) : Prop := frame t ∧ t.mem = s.mem ∧ t.kept = s.kept
    let writes (i : Instr) (op : LOp) (n : Nat) : Prop := completes i s fun t => frame t ∧ answers t op (s.rdMem a w) ∧
      (∀ j, j < w → t.rdByte (a + j) = BitVec.ofNat 8 (n / 2 ^ (8 * j))) ∧
      ∀ y, (y < a ∨ a + w ≤ y) → t.rdByte y = s.rdByte y
    let noStore : Prop := ∀ n off, target a = .cell n off → ∀ st ∈ (s.cell n).stored, st.1 ≠ s.beat.toNat * 1250 + s.cycle
    (s.telemTarget a data.length = none → s.mustWait .put h = true → 1 ≤ data.length → data.length ≤ 64 → a % 64 + data.length ≤ 64 →
      completes (.put h data) s fun t => t = s) ∧
    ((∀ op, s.mustWait op h = false) → serves s h.sender a → (∀ p o, target a = .dram p o → ∀ n, s.retrains p o n = false) →
    (noStore → 1 ≤ data.length → data.length ≤ 64 → a % 64 + data.length ≤ 64 → s.telemTarget a data.length = none →
      completes (.put h data) s fun t => frame t ∧ answers t .put [] ∧
        (∀ (j : Nat) (hj : j < data.length), t.rdByte (a + j) = data[j]) ∧
        ∀ y, (y < a ∨ a + data.length ≤ y) → t.rdByte y = s.rdByte y) ∧
    (∀ n off old new, target a = .cell n off → (s.cell n).stored = some (s.beat.toNat * 1250 + s.cycle, off, old, new) →
      1 ≤ data.length → data.length ≤ 64 → a % 64 + data.length ≤ 64 → new.length = data.length → off + data.length ≤ 0x800 →
      s.telemTarget a data.length = none →
      completes (.put h data) s fun t => frame t ∧ answers t .put [] ∧
        ∀ (j : Nat) (hj : j < new.length), t.rdByte (a + j) = new[j]) ∧
    (noStore → 1 ≤ len → len ≤ 64 → a % 64 + len ≤ 64 → ecc ≠ .uncorrectable →
      completes (.get h len ecc) s fun t => keeps t ∧
        answers t .get (if a / 2 ^ 46 % 4 = 0 ∧ a % 2 ^ 27 < 256 then s.rdKeptN a len else s.rdMem a len)) ∧
    (noStore → a % w = 0 → ecc ≠ .uncorrectable →
      writes (.addLetter h wide v ecc) .add ((old + x) % 2 ^ (8 * w)) ∧
      writes (.swap h wide v ecc) .swap x ∧
      writes (.maxLetter h wide v ecc) .max (if signed old < signed x then x else old) ∧
      writes (.minLetter h wide v ecc) .min (if signed x < signed old then x else old) ∧
      (old = c.toNat % 2 ^ (8 * w) → writes (.cas h wide c v ecc) .cas x) ∧
      (old ≠ c.toNat % 2 ^ (8 * w) → completes (.cas h wide c v ecc) s fun t => keeps t ∧ answers t .cas (s.rdMem a w))) ∧
    (a % w = 0 → completes (.addLetter h wide v .uncorrectable) s fun t => keeps t ∧ t.replies = s.replies ++
      if h.reply = .none then [] else [{ dest := h.reply, op := .add, tag := h.tag, status := 2, data := [] }]))

/-- Letters that nothing serves: a PUT or GET to an address that the layout gives to nothing completes NOT_READY and counts in
FAB_NOT_READY_CNT; one to a partition in reset, from any sender but the Postmaster, completes TARGET_RESET; a PUT to a cell's program
memory from any other sender, or from the Postmaster while no manifest load or reload of the partition is in progress, completes
LOCKED_WRITE; a gated or waking cluster's router keeps a PUT to a cell; one to DRAM whose channel retrains waits at the edge router.
Memory keeps every byte. No earlier letter stands before them. -/
def Obligations.LettersNotServed : Prop :=
  ∀ (s : State) (h : Hdr) (data : Bytes),
    let a := h.addr.toNat
    let ends (status : Nat) (i : Instr) (op : LOp) : Prop := completes i s fun t => t.mem = s.mem ∧ t.kept = s.kept ∧
      t.replies = s.replies ++
        if h.reply = .none then [] else [{ dest := h.reply, op := op, tag := h.tag, status := status, data := [] }]
    (∀ op, s.mustWait op h = false) →
    1 ≤ data.length → data.length ≤ 64 → a % 64 + data.length ≤ 64 → s.telemTarget a data.length = none →
    (target a = .nothing → ends 0x30 (.put h data) .put ∧ ends 0x30 (.get h data.length .clean) .get ∧
      completes (.put h data) s fun t => (t.rd 0x20002C).toNat = min (2 ^ 32 - 1) ((s.rd 0x20002C).toNat + 1)) ∧
    (∀ p o, target a = .dram p o → s.retrains p o data.length = true →
      completes (.put h data) s fun t => t.mem = s.mem ∧ t.replies = s.replies ∧
        t.bup.waits = s.bup.waits ++ [.letter { op := .put, hdr := h, len := data.length, data := data } .clean]) ∧
    (∀ p, (target a).part? = some p → s.held p = true → h.sender ≠ postmaster →
      (∀ o, target a = .dram p o → s.retrains p o data.length = false) →
      ends 3 (.put h data) .put ∧ ends 3 (.get h data.length .clean) .get) ∧
    (∀ n off, target a = .cell n off → s.deadCells.contains n = false → s.held (partOf n) = false → (s.manOf (partOf n)).isSome = true →
      (s.cstate (clusterOf n) = 2 → 0x800 ≤ off → (h.sender ≠ postmaster ∨ s.f (Reg.MAN_STATUS_STATE (partOf n)) ≠ 2) →
        s.underContext n = false → ends 0x20 (.put h data) .put) ∧
      (s.cstate (clusterOf n) = 0 ∨ s.cstate (clusterOf n) = 1 →
        completes (.put h data) s fun t => t.mem = s.mem ∧ t.replies = s.replies ∧
          (t.cl (clusterOf n)).queue = (s.cl (clusterOf n)).queue ++ [({ op := .put, hdr := h, len := data.length, data := data }, .clean)]))

/-- The oldest reply reaches the cell that asked: the outstanding count falls, the data part and the completion word are written,
and no other byte of memory; the KEPT bank takes the
word and the data where they lie in the state window. The cell's working registers, every other cell and every register of the module
keep their values. The word is written after the data. -/
def Obligations.RepliesArrive : Prop :=
  ∀ (s : State) (r : Reply) (rest : List Reply) (k : CellId) (dOff sOff : BitVec 11),
    s.replies = r :: rest → r.dest = .cell k dOff sOff → s.cstate (clusterOf (cellNo k)) = 2 → s.held k.p.val = false →
    s.deadCells.contains (cellNo k) = false → s.underContext (cellNo k) = false →
    let word := r.status + 2 ^ 16 * LOp.code r.op + 2 ^ 20 * r.tag.toNat
    completes .replyArrival s fun t =>
      t.replies = rest ∧ (t.cell (cellNo k)).outst = (s.cell (cellNo k)).outst - 1 ∧
      (t.cell (cellNo k)).work = (s.cell (cellNo k)).work ∧ (∀ m, m ≠ cellNo k → t.cell m = s.cell m) ∧ t.regs = s.regs ∧
      (∀ i, i < 4 → t.rdByte (byteAddress k (sOff.toNat + i)) = BitVec.ofNat 8 (word / 2 ^ (8 * i))) ∧
      (∀ (i : Nat) (hi : i < r.data.length), (dOff.toNat + i < sOff.toNat ∨ sOff.toNat + 4 ≤ dOff.toNat + i) →
        t.rdByte (byteAddress k (dOff.toNat + i)) = r.data[i]) ∧
      (∀ i, i < 4 → sOff.toNat + i < 256 →
        t.kept.get (byteAddress k (sOff.toNat + i)) 0 = BitVec.ofNat 8 (word / 2 ^ (8 * i))) ∧
      (∀ (i : Nat) (hi : i < r.data.length), dOff.toNat + i < 256 → (dOff.toNat + i < sOff.toNat ∨ sOff.toNat + 4 ≤ dOff.toNat + i) →
        t.kept.get (byteAddress k (dOff.toNat + i)) 0 = r.data[i]) ∧
      ∀ x, (x < byteAddress k sOff.toNat ∨ byteAddress k sOff.toNat + 4 ≤ x) →
        (x < byteAddress k dOff.toNat ∨ byteAddress k dOff.toNat + r.data.length ≤ x) → t.rdByte x = s.rdByte x

/-! ### The fabric: clusters, circulars and the gate enable -/

/-- A cluster that may stop its clock does; a scheduled wake of a GATED cluster starts WAKING and counts, outside HOLDUP; 2,500 cycles
after its wake began a WAKING cluster with nothing queued runs, and one with one PUT queued to a cell of its own has applied it. A host
write of FAB_GATE_CTL reaches its writable bits; GATE_EN 0 sets every GATED cluster WAKING at once, outside HOLDUP; in HOLDUP, and with
GATE_EN 1, every cluster stays as it is. -/
def Obligations.ClusterGates : Prop :=
  (∀ (s : State) (p : Fin 32) (c : Fin 20), let k := 20 * p.val + c.val
    let F := Reg.FAB_CLUSTER_STATE_CSTATE k
    (s.cstate k = 2 → s.f (Reg.FAB_CLUSTER_STATE_PINNED k) = 0 → s.held p.val = false → s.f Reg.FAB_GATE_CTL_GATE_EN = 1 →
      s.clusterIdle k = true → (s.cl k).idleFrom + max 1 (s.lf Reg.FAB_GATE_CTL_IDLE_BEATS) ≤ s.beat.toNat → (s.cl k).queue = [] →
      s.wakeDue k = false →
      completes (.clusterGate p c) s fun t => t.cstate k = 0 ∧ t = { s with regs := t.regs, clusters := t.clusters } ∧
        ∀ r, r ≠ F.off → t.rd r = s.rd r) ∧
    (s.cstate k = 0 → s.wakeDue k = true → s.mstate ≠ 6 →
      completes (.clusterScheduledWake p c) s fun t => t.cstate k = 1 ∧ t = { s with regs := t.regs, clusters := t.clusters } ∧
        t.f (Reg.FAB_CLUSTER_STATE_WAKE_COUNT k) = min 65535 (s.f (Reg.FAB_CLUSTER_STATE_WAKE_COUNT k) + 1) ∧
        (t.cl k).wakes = min (2 ^ 32 - 1) ((s.cl k).wakes + 1) ∧ (t.cl k).wakeAt = s.now ∧ ∀ r, r ≠ F.off → t.rd r = s.rd r) ∧
    (∀ (h : Hdr) (d : Bytes) (n off : Nat), s.cstate k = 1 → (s.cl k).wakeAt + 2500 ≤ s.now →
      (s.cl k).queue = [({ op := .put, hdr := h, len := d.length, data := d }, .clean)] → (s.cl k).landing = [] →
      target h.addr.toNat = .cell n off → clusterOf n = k → off + d.length ≤ 0x800 → s.underContext n = false → (s.cell n).stored = none →
      completes (.clusterWakeComplete p c) s fun t => t.cstate k = 2 ∧ (t.cl k).queue = [] ∧
        ∀ (j : Nat) (hj : j < d.length), t.rdByte (h.addr.toNat + j) = d[j]) ∧
    (s.cstate k = 1 → (s.cl k).wakeAt + 2500 ≤ s.now → (s.cl k).queue = [] → (s.cl k).landing = [] →
      completes (.clusterWakeComplete p c) s fun t => t.cstate k = 2 ∧ t.mem = s.mem ∧ t.cells = s.cells ∧
        ∀ r, r ≠ F.off → t.rd r = s.rd r)) ∧
  (∀ (s : State) (v : Word),
    completes (.gateEn .host v) s fun t => t.rd 0x200010 = v &&& 0x1FFFF#32 ∧ t.mem = s.mem ∧ t.cells = s.cells ∧ t.evl = s.evl ∧
      (v.toNat / 2 ^ 16 % 2 = 0 → s.mstate ≠ 6 → ∀ c, c < 640 → s.cstate c = 0 → t.cstate c = 1) ∧
      ∀ c, c < 640 → (s.cstate c ≠ 0 ∨ v.toNat / 2 ^ 16 % 2 = 1 ∨ s.mstate = 6) → t.cstate c = s.cstate c)


/-! ### Envelopes: hold stores, vectors, commits -/

/-- The letter at the head of the network, of an envelope in flight and with room in its hold store: it is held and acknowledged, or,
at an address that names nothing or a partition in reset, acknowledged as doomed with that status; but for the hold, the
acknowledgement and the network nothing changes. A deterministic letter later than its 256 cycles is counted besides, with event
0x0102. The home records an acknowledgement: a doomed letter aborts the envelope with the doom's status and event 0x0205, a letter
to a cell of the home beyond the reserved or free entries aborts it with OVERFLOW and event 0x0201, else it takes one entry and
counts for its contributor. An envelope that is in no vector at its deadline aborts with ENV_LATE, event 0x0203; before its deadline
nothing changes. Aborts: where no other cause of R103 falls due at the same boundary. -/
def Obligations.HoldStoresAndHome : Prop :=
  (∀ (s : State) (l : Letter) (rest : List Letter) (hb : BitVec 16) (e : Env),
    let a := l.hdr.addr.toNat
    let p := hb.toNat / 2 ^ 11
    let sl := hb.toNat / 2 ^ 5 % 2 ^ 6
    s.net = l :: rest → l.env = some hb → s.handleEnv hb.toNat = some e → e.st = .open ∨ e.st = .sealed →
    s.heldIn (storeOf a) < 1024 →
    (l.det = true → l.issued + 256 < s.now → completes .holdStoreArrival s fun t =>
      counts s t 0x200024 ∧ raises s t 0x102 (a % 2 ^ 32) (a / 2 ^ 32) (senderIdent l.hdr.sender) (s.now - l.issued)) ∧
    (l.det = false ∨ s.now ≤ l.issued + 256 →
    (holdsAt s a →
      completes .holdStoreArrival s fun t =>
        t = { s with net := rest, envs := t.envs, acks := s.acks ++ [{ letter := l }] } ∧
        t.env p sl = { e with held := e.held ++ [l] } ∧ ∀ i j, j < 64 → (i ≠ p ∨ j ≠ sl) → t.env i j = s.env i j) ∧
    (target a = .nothing → completes .holdStoreArrival s fun t =>
        t = { s with net := rest, acks := s.acks ++ [{ letter := l, doom := some 0x30 }] }) ∧
    (∀ n off, target a = .cell n off → s.held (partOf n) = true → completes .holdStoreArrival s fun t =>
        t = { s with net := rest, acks := s.acks ++ [{ letter := l, doom := some 3 }] }))) ∧
  ((∀ (s : State) (k : HoldAck) (rest : List HoldAck) (hb : BitVec 16) (e : Env),
    let a := k.letter.hdr.addr.toNat
    let p := hb.toNat / 2 ^ 11
    let sl := hb.toNat / 2 ^ 5 % 2 ^ 6
    let room : Prop := if e.size = 0 then s.bufUsed p < s.bufSize p else e.blocks.length < e.size
    s.acks = k :: rest → k.letter.env = some hb → s.handleEnv hb.toNat = some e → e.st = .open ∨ e.st = .sealed →
    (∀ d, k.doom = some d → d ≠ 0x10 → d ≠ 0x11 → d ≠ 0x12 → d ≠ 2 → e.vec = none → noRival s p e →
      completes .holdAcknowledgement s fun t => t.acks = rest ∧ aborted s t p sl d ∧
        raisesAt s t 0x205 (hb.toNat + 2 ^ 16 * d) (a % 2 ^ 32)) ∧
    (∀ n off (c : CellId), k.doom = none → target a = .cell n off → off < 0x800 → partOf n = p → e.actuator ≠ some true →
      k.letter.hdr.sender = .cell c →
      (room → completes .holdAcknowledgement s fun t => t.acks = rest ∧ (t.env p sl).blocks = e.blocks ++ [a / 64] ∧
        (t.env p sl).held = e.held ∧ (t.env p sl).actuator = some ((e.actuator).getD false) ∧ t.mem = s.mem ∧ t.net = s.net ∧
        t.cells = s.cells ∧
        ((∃ m ∈ e.members, m.cell = cellNo c ∧ m.acked < m.sent) →
          ((t.env p sl).members.map (·.acked)).sum = (e.members.map (·.acked)).sum + 1) ∧
        ∀ i j, j < 64 → (i ≠ p ∨ j ≠ sl) → t.env i j = s.env i j) ∧
      (¬ room → e.vec = none → noRival s p e → completes .holdAcknowledgement s fun t => t.acks = rest ∧ aborted s t p sl 0x10 ∧
        raisesAt s t 0x201 (hb.toNat + 2 ^ 16 * 0x10) (e.size + 2 ^ 16 * s.bufSize p)))) ∧
  (∀ (s : State) (p : Fin 32) (sl : Fin 64), let e := s.env p.val sl.val
    e.st = .open ∨ e.st = .sealed → e.vec = none →
    (e.deadline ≤ s.beat.toNat → noRival s p.val e → completes (.envLate p sl) s fun t => aborted s t p.val sl.val 0x12 ∧
      raisesAt s t 0x203 (p.val * 2 ^ 11 + sl.val * 2 ^ 5 + e.gen + 2 ^ 16 * 0x12)
        ((e.members.filter (·.registered)).length + 2 ^ 8 * e.expect)) ∧
    (s.beat.toNat < e.deadline → completes (.envLate p sl) s fun t => t = s)))

/-- The homes publish their vectors from cycle 750: nothing but the vectors and the wait counter changes; two envelopes of one
home that hold a common block never both join; a sealed envelope with no rival joins the vector for the coming boundary. A
commit of the one envelope that is set: with nothing held, the outcome word OK is written to its contributor and no other byte of
WORK changes; with one PUT to a cell held, the letter's bytes are written; either way the slot is FREE and the commit counts.
Before the commit's boundary nothing changes. -/
def Obligations.VectorsAndCommits : Prop :=
  (∀ s : State, let c := s.beat.toNat + 1
    (s.cycle < 750 → completes .commitVector s fun t => t = s) ∧
    (750 ≤ s.cycle → completes .commitVector s fun t =>
      t = { s with envs := t.envs, regs := t.regs } ∧ (∀ r, r ≠ 0x30041C → t.rd r = s.rd r) ∧
      (∀ p sl, sl < 64 → t.env p sl = { s.env p sl with vec := (t.env p sl).vec }) ∧
      (∀ p i j, i < 64 → j < 64 → i ≠ j → (t.env p i).vec = some c → (t.env p j).vec = some c → (s.env p j).vec ≠ some c →
        ∀ b ∈ (s.env p i).blocks, b ∉ (s.env p j).blocks) ∧
      ∀ p sl, p < 32 → sl < 64 → (s.env p sl).st = .sealed → (s.env p sl).vec = none → (s.env p sl).actuator ≠ some true →
        (s.env p sl).sealedAt < (c - 1) * 1250 + 750 →
        (∀ f ∈ s.envs, f.1 = 64 * p + sl ∨ (f.2.vec ≠ some c ∧ f.2.st ≠ .sealed)) →
        t.env p sl = { s.env p sl with vec := some c })) ∧
  (∀ (s : State) (p sl : Nat) (e : Env) (c : Nat) (m : Member), sl < 64 → p < 32 →
    let h := p * 2 ^ 11 + sl * 2 ^ 5 + e.gen
    s.envs = [(64 * p + sl, e)] → e.st = .sealed → e.vec = some c → e.actuator ≠ some true → e.members = [m] →
    (s.beat.toNat < c → completes .envCommit s fun t => t = s) ∧
    (c ≤ s.beat.toNat → e.held = [] → takesReplies s m.cell → completes .envCommit s fun t =>
      t.env p sl = { gen := e.gen } ∧ counts s t 0x300400 ∧ wordAt t (cellAddr m.cell m.off.toNat) (2 ^ 16 * h) ∧
      (∀ x, (x < cellAddr m.cell m.off.toNat ∨ cellAddr m.cell m.off.toNat + 4 ≤ x) → t.rdByte x = s.rdByte x) ∧
      (t.cell m.cell).work = (s.cell m.cell).work ∧ t.evl = s.evl) ∧
    (∀ l n off, c ≤ s.beat.toNat → e.held = [l] → l.op = .put → l.len = l.data.length → l.hdr.reply = .none →
      target l.hdr.addr.toNat = .cell n off → off + l.data.length ≤ 0x800 → serves s l.hdr.sender l.hdr.addr.toNat → n ≠ m.cell →
      completes .envCommit s fun t => t.env p sl = { gen := e.gen } ∧ counts s t 0x300400 ∧
        ∀ (j : Nat) (hj : j < l.data.length), t.rdByte (l.hdr.addr.toNat + j) = l.data[j]))

/-! ### Circulars and periods -/

/-- Circulars wait in the order of their effect beats, those of one beat in the order of issue. The first is presented to every cluster
from its effect beat on and not before: the cluster's router holds it, and a cluster that is neither running nor in reset keeps its
landing for its wake. With one partition of one program: PEER_DOWN pauses a
program with PEER_PAUSE that depends on the partition, and PEER_UP lets it go on. -/
def Obligations.CircularsArePresented : Prop :=
  (∀ (k : Circ) (l : List Circ), l.Pairwise (fun a b => a.effect ≤ b.effect) →
    ∃ before after, l = before ++ after ∧ insertCirc k l = before ++ k :: after ∧
      (∀ d ∈ before, d.effect ≤ k.effect) ∧ ∀ d ∈ after, k.effect < d.effect) ∧
  ∀ (s : State) (k : Circ) (rest : List Circ), s.circs = k :: rest →
    (s.beat.toNat < k.effect → completes .circularPresent s fun t => t = s) ∧
    (k.effect ≤ s.beat.toNat → k.type ≠ 1 → s.parts = [] → completes .circularPresent s fun t => t.circs = rest ∧ t.regs = s.regs ∧
      ∀ c, c < 640 → (t.cl c).circ = some k ∧
        (s.cstate c ≠ 3 → s.cstate c ≠ 2 → (t.cl c).landing = (s.cl c).landing ++ [k])) ∧
    (∀ (p : Nat) (P : Part) (m : Man) (d : ProgDef), p < 32 → k.effect ≤ s.beat.toNat → s.parts = [(p, P)] → P.man = some m → m.progs = [d] →
      d.depends / 2 ^ (k.src % 32) % 2 = 1 → d.peerPause = true → p ≠ k.src % 32 → (s.prog p d.prog).start = none →
      (k.type = 2 → completes .circularPresent s fun t => t.circs = rest ∧ (t.prog p d.prog).paused = true) ∧
      (k.type = 3 → (s.prog p d.prog).paused = true → (s.prog p d.prog).pausedBy = 2 ^ (k.src % 32) →
        completes .circularPresent s fun t => t.circs = rest ∧ (t.prog p d.prog).paused = false))

/-- A period begins on a settled program: every cell of it is at its entry, RUNNING, with nothing done or charged and in no
envelope, and the program's count is one more; memory and registers keep their values. The period that went before, if it was
not settled, is: a completed one keeps the working registers in KEPT, one that PEER_DOWN dropped restores them and sets DROPPED. Off
its boundary nothing begins. The deadline of a live period: completed where every cell is done, and nothing but the program's start
changes; else dropped: its cells stop, MAN_LAST_DROP names the program and the cause, and, where no partition enters reset at the
same boundary, event 0x0303 is raised. Before the deadline nothing changes. -/
def Obligations.Periods : Prop :=
  (∀ (s : State) (p : Fin 32) (x : Fin 1024) (m : Man) (d : ProgDef), s.manOf p.val = some m → m.prog? x.val = some d →
    let pr := s.prog p.val x.val
    let cells := m.cellsOf p.val x.val
    let started (w kept : Work) (t : State) (n : Nat) : Prop := t.cell n = { s.cell n with
      work := w, kept := kept, pc := (s.cell n).entry, run := 1, done := false, overrun := false, charged := 0, waiting := none
      result := none, lastLoad := none, ctx := .none, next := s.beat.toNat * 1250 + s.cycle }
    (s.beat.toNat % d.period ≠ d.offset → completes (.periodStart p x) s fun t => t = s) ∧
    (s.beat.toNat % d.period = d.offset → s.released = true → s.held p.val = false → pr.paused = false → pr.from_ ≤ s.beat.toNat →
      (pr.begun = 0 ∨ pr.last ≠ s.beat.toNat) → (∀ r ∈ s.rcv.rungs, r.rung ≠ 1) → pr.start = none →
      (pr.settled = true → completes (.periodStart p x) s fun t =>
        t = { s with cells := t.cells, progs := t.progs } ∧
        t.prog p.val x.val = { pr with
          begun := pr.begun + 1, start := some s.beat.toNat, last := s.beat.toNat, settled := false, exempt := false } ∧
        (∀ n ∈ cells, started (s.cell n).work (s.cell n).kept t n) ∧ ∀ n, n ∉ cells → t.cell n = s.cell n) ∧
      (pr.settled = false → (∀ n ∈ cells, (s.cell n).done = true) → completes (.periodStart p x) s fun t =>
        t.mem = s.mem ∧ (∀ n ∈ cells, started (s.cell n).work (s.cell n).work t n) ∧
        (t.prog p.val x.val).progress = pr.progress + 1 ∧ (t.prog p.val x.val).idlePeriods = 0) ∧
      (pr.settled = false → pr.exempt = true → (∃ n ∈ cells, (s.cell n).done = false) → completes (.periodStart p x) s fun t =>
        t.kept = s.kept ∧ (∀ n ∈ cells, started { (s.cell n).kept with flags := (s.cell n).kept.flags ||| 8 } (s.cell n).kept t n) ∧
        (t.prog p.val x.val).progress = pr.progress))) ∧
  (∀ (s : State) (p : Fin 32) (x : Fin 1024) (m : Man) (d : ProgDef) (b : Nat),
    s.manOf p.val = some m → m.prog? x.val = some d → (s.prog p.val x.val).start = some b →
    let cells := m.cellsOf p.val x.val
    let cause := if cells.any (fun n => (s.cell n).overrun) then 1 else 0
    (s.beat.toNat < b + d.deadline → completes (.periodDeadline p x) s fun t => t = s) ∧
    (b + d.deadline ≤ s.beat.toNat → (∀ n ∈ cells, (s.cell n).done = true) → completes (.periodDeadline p x) s fun t =>
      t = { s with progs := t.progs } ∧ t.prog p.val x.val = { s.prog p.val x.val with start := none }) ∧
    (b + d.deadline ≤ s.beat.toNat → (∃ n ∈ cells, (s.cell n).done = false) → completes (.periodDeadline p x) s fun t =>
      (t.prog p.val x.val).start = none ∧ t.rd (0x400600 + 8 * p.val) = BitVec.ofNat 32 (x.val + 2 ^ 10 * cause) ∧
      (∀ n ∈ cells, (s.cell n).done = false → (s.cell n).run ≠ 0 → (t.cell n).run = 3) ∧
      ((∀ q, s.resetsNow q = false) → raisesAt s t 0x303 (p.val + 2 ^ 16 * x.val) (cause + 2 ^ 8 * min 255 (cells.filter fun n => !(s.cell n).done).length))))


/-! ### Stage links: actuation -/

/-- The decision of a pending set at cycle 1,000 of beat C: CONFIRM where every addressed board has acknowledged it, else
DISCARD; NACK names exactly the boards that did not. Before that cycle nothing changes. The resolution of an actuator envelope:
at cycle 1,000 of beat C + 2 boards that reported neither APPLIED nor DROPPED are commanded LOCAL; at C + 3 the outcome is OK,
PARTIAL (event 0x0204) or DISCARDED (event 0x0206), its word is written, and the slot is FREE. -/
def Obligations.ActuatorEnvelopes : Prop :=
  (∀ (s : State) (a : Act), s.stg.acts = [a] → a.stage = 0 → a.exit = none →
    let acked (b : Nat) : Prop := ∃ rx, (s.board b).rx = some rx ∧ rx.beat = a.c ∧ rx.ok.ack = true ∧ Bits.le rx.frame 192 2 = a.h ∧
      (Bits.byteAt rx.frame 194).toNat % 2 = 1
    (s.beat.toNat < a.c ∨ s.cycle < 1000 → completes .actuatorDecision s fun t => t = s) ∧
    (a.c ≤ s.beat.toNat → 1000 ≤ s.cycle → completes .actuatorDecision s fun t => ∃ nack,
      t = { s with stg := { s.stg with acts := [{ a with nack := nack, dec := if nack = 0 then 1 else 2, stage := 1 }] } } ∧
      ∀ b, nack / 2 ^ b % 2 = 1 ↔ (∃ e ∈ a.sets, e.1 = b) ∧ ¬ acked b)) ∧
  (∀ (s : State) (a : Act), s.stg.acts = [a] → a.exit = none →
    let reported (b : Nat) : Prop := ∃ rx, (s.board b).rx = some rx ∧ rx.beat = a.c + 2 ∧ rx.valid = true ∧
      Bits.le rx.frame 44 2 = a.h ∧ ((Bits.byteAt rx.frame 46).toNat % 4 = 1 ∨ (Bits.byteAt rx.frame 46).toNat % 4 = 2)
    let e := s.env (a.h / 2 ^ 11 % 32) (a.h / 2 ^ 5 % 64)
    let ends (m : Member) (status : Nat) (t : State) : Prop := t.stg.acts = [] ∧
      t.env (a.h / 2 ^ 11 % 32) (a.h / 2 ^ 5 % 64) = { gen := e.gen } ∧
      wordAt t (cellAddr m.cell m.off.toNat) (status + 2 ^ 16 * a.h)
    ((s.beat.toNat < a.c + 2 ∨ (s.beat.toNat = a.c + 2 ∧ s.cycle < 1000)) → completes .actuatorResolve s fun t => t = s) ∧
    (s.beat.toNat = a.c + 2 → 1000 ≤ s.cycle → a.stage ≤ 1 → completes .actuatorResolve s fun t => ∃ u,
      t.stg.acts = [{ a with unres := u, stage := 2 }] ∧ t.mem = s.mem ∧ t.envs = s.envs ∧
      (∀ b, u / 2 ^ b % 2 = 1 ↔ (∃ e ∈ a.sets, e.1 = b) ∧ ¬ reported b) ∧
      ∀ b, b < 24 → u / 2 ^ b % 2 = 1 → (s.board b).trained = true →
        (t.board b).force = true ∧ (s.bstate b = 4 → t.bstate b = 2)) ∧
    (∀ m, a.c + 3 ≤ s.beat.toNat → a.stage = 2 → a.env = true → e.members = [m] → takesReplies s m.cell →
      (a.dec = 1 → a.unres = 0 → completes .actuatorResolve s fun t => ends m 0 t ∧ t.evl = s.evl) ∧
      (a.dec = 1 → a.unres ≠ 0 → completes .actuatorResolve s fun t => ends m 0x13 t ∧ counts s t 0x300414 ∧
        raisesAt s t 0x204 (a.h + 2 ^ 16 * 0x13) a.unres) ∧
      (a.dec ≠ 1 → completes .actuatorResolve s fun t => ends m 2 t ∧ counts s t 0x300418 ∧
        raisesAt s t 0x206 (a.h + 2 ^ 16 * 2) a.nack)))

/-! ### Stage links: frames and boards -/

/-- A downstream frame, with no loop bound and the beat's samples taken: one per trained board and beat, none while frames have
stopped; it leaves while the serialiser is clocked (R414). Where no field of it was taken at its cycle before, it is 1,216 bytes with the number of the coming boundary, the bus
reference in force and the board's mode at their places, and CRC-32C over the others; where the four parts were taken at their
cycles, it carries those. Memory, the event log and the other boards keep their values. -/
def Obligations.DownstreamFrames : Prop :=
  ∀ (s : State) (b : Fin 24),
    let k := s.beat.toNat + 1
    let mode := if (s.board b.val).force = true ∨ s.bstate b.val = 1 ∨ s.bstate b.val = 2 ∨ (s.mstate ≠ 4 ∧ s.mstate ≠ 3) then 1
      else if s.bstate b.val = 3 then 2 else 0
    let shot (i : Nat) : Nat × Bytes := s.stg.shots.get (4 * b.val + i) (0, [])
    ((s.board b.val).trained = false ∨ s.stg.stopped = true ∨ (s.board b.val).sent.map (·.1) = some k →
      completes (.downstreamFrame b) s fun t => t = s) ∧
    ((s.board b.val).trained = true → s.stg.stopped = false → (s.board b.val).sent.map (·.1) ≠ some k →
      s.loops = [] → s.beat.toNat < s.stg.taken → s.stg.exits / 2 ^ b.val % 2 = 0 →
      completes (.downstreamFrame b) s fun t => ∃ fr body, t.outs = s.outs ++ (if s.clocked then [.downstream b.val fr] else []) ∧
        (t.board b.val).sent = some (k, fr) ∧ (t.board b.val).force = false ∧
        fr = body ++ Bits.toLe 4 (Bits.crc32c body).toNat ∧ t.mem = s.mem ∧ t.evl = s.evl ∧
        (∀ j, j ≠ b.val → t.board j = s.board j) ∧
        ((∀ i, i < 4 → (shot i).1 ≠ k) → s.exitsWith b.val k = false → fr.length = 1216 ∧ Bits.le fr 0 4 = k % 2 ^ 32 ∧
          Bits.le fr 8 4 = s.f Reg.STG_VREF_VREF ∧ (Bits.byteAt fr 1008).toNat = mode) ∧
        ((∀ i, i < 4 → (shot i).1 = k) → body = Bits.toLe 4 k ++ (shot 0).2 ++ Bits.zeros 868 ++ (shot 1).2 ++ Bits.zeros 120 ++
          (shot 2).2 ++ Bits.zeros 140 ++ (shot 3).2))

/-- An upstream frame of a trained board, one per beat, while another board's is still to come: one whose sections all fail (late,
or by CRC-32C over their bytes) counts as missing, with event 0x0703; one whose sample and status sections pass ends the run of
missing frames, and the board's report moves its state. A board whose run of missing frames has reached 4 is LOST, with event 0x0701
and cause 2; any other keeps its state. -/
def Obligations.UpstreamFramesAndLoss : Prop :=
  (∀ (s : State) (b : Fin 24) (fr : Bytes) (v : Sections),
    let B := s.board b.val
    let miss := min 255 (s.f (Reg.STG_BOARD_STATUS_MISS b.val) + 1)
    let bs := (Bits.byteAt fr 41).toNat % 4
    let st := s.bstate b.val
    let ok := sectionsOf fr v
    (B.trained = false ∨ s.beat.toNat < s.stg.taken ∨ B.rx.map (·.beat) = some s.beat.toNat → completes (.upstreamFrame b fr v) s fun t => t = s) ∧
    (B.trained = true → B.rx.map (·.beat) ≠ some s.beat.toNat → s.stg.taken ≤ s.beat.toNat → s.f Reg.TWN_CFG_MODE = 0 → s.stg.acts = [] →
      (∃ e ∈ s.stg.boards, e.1 ≠ b.val ∧ e.2.trained = true ∧ e.2.rx.map (·.beat) ≠ some s.beat.toNat) →
      (ok = ⟨false, false, false, false, false⟩ → completes (.upstreamFrame b fr v) s fun t =>
        t.f (Reg.STG_BOARD_STATUS_MISS b.val) = miss ∧ counts s t (0x800600 + 4 * b.val) ∧ (t.board b.val).run = 0 ∧
        t.bstate b.val = st ∧ raisesAt s t 0x703 (b.val + 256 * 31) miss ∧ fabricKept s t) ∧
      (ok.sample = true → ok.status = true → (Bits.byteAt fr 40).toNat = b.val → B.slot < 4 → completes (.upstreamFrame b fr v) s fun t =>
        t.f (Reg.STG_BOARD_STATUS_MISS b.val) = 0 ∧ (t.board b.val).run = min 16 (B.run + 1) ∧
        (t.board b.val).rx = some { beat := s.beat.toNat, frame := fr, ok := ok, valid := true } ∧ t.mem = s.mem ∧
        t.bstate b.val = (if (st = 1 ∧ (bs = 1 ∨ bs = 2)) ∨ (st = 3 ∧ bs = 1) ∨ (st = 4 ∧ bs = 1) then 2 else st)))) ∧
  (∀ (s : State) (b : Fin 24),
    let st := s.bstate b.val
    (4 ≤ s.f (Reg.STG_BOARD_STATUS_MISS b.val) → st = 2 ∨ st = 3 ∨ st = 4 → completes (.boardLost b) s fun t =>
      t.bstate b.val = 1 ∧ regsOnly s t ∧ regsBut s t [0x800100 + 4 * b.val, 0x130010C] ∧
      raisesAt s t 0x701 (b.val + 256 * st + 4096) 2) ∧
    (s.f (Reg.STG_BOARD_STATUS_MISS b.val) < 4 ∨ (st ≠ 2 ∧ st ≠ 3 ∧ st ≠ 4) → completes (.boardLost b) s fun t => t = s))

/-- A write of STG_EXIT only asks for the exit. It is judged as the frame of its boundary X is composed: refused with event 0x0706 and
the first condition of R204 that fails, and no board changes; where all hold, the board's ACT_INIT goes out as one internal set, due
at X, in a frame whose MODE is EXIT. ISO sets STG_ISO and changes no other register. Writes of the host. -/
def Obligations.ExitAndIsolation : Prop :=
  ∀ (s : State) (b : Fin 24) (v : BitVec 8),
    let x := s.beat.toNat + 1
    let st := s.bstate b.val
    let run := (s.board b.val).run
    let firing := (s.board b.val).flags / 64 % 2
    let heard : Prop := (s.board b.val).rx.map (·.beat) = some s.beat.toNat
    let asked := (s.board b.val).trained = true ∧ s.stg.stopped = false ∧ (s.board b.val).sent.map (·.1) ≠ some x ∧
      (∀ j, (s.board b.val).sent = some j → j.1 < x) ∧
      s.loops = [] ∧ s.beat.toNat < s.stg.taken ∧ s.stg.exits / 2 ^ b.val % 2 = 1 ∧
      ∀ i, i < 4 → (s.stg.shots.get (4 * b.val + i) (0, [])).1 ≠ x
    let refused (cause : Nat) : Prop := completes (.downstreamFrame b) s fun t =>
      t.stg.exits / 2 ^ b.val % 2 = 0 ∧ t.stg.acts = s.stg.acts ∧ fabricKept s t ∧ (∀ j, t.bstate j = s.bstate j) ∧
      raisesAt s t 0x706 b.val cause
    (writesAtOnce s →
      (completes (.exit .host b) s fun t => t = { s with stg := { s.stg with exits := t.stg.exits } } ∧
        ∀ j, t.stg.exits / 2 ^ j % 2 = if j = b.val then 1 else s.stg.exits / 2 ^ j % 2) ∧
      (completes (.iso .host v) s fun t => t = { s with regs := t.regs } ∧ t.f Reg.STG_ISO_ISO = v.toNat ∧ regsBut s t [0x800018])) ∧
    (asked →
      (s.mstate ≠ 3 → refused 0) ∧
      (s.mstate = 3 → st ≠ 2 → refused 1) ∧
      (s.mstate = 3 → st = 2 → run < 16 ∨ ¬ heard → refused 2) ∧
      (s.mstate = 3 → st = 2 → 16 ≤ run → heard → firing = 1 → refused 3) ∧
      (s.mstate = 3 → st = 2 → 16 ≤ run → heard → firing = 0 → s.envs = [] →
        (∀ a, s.stg.acts = [a] → (∃ e ∈ a.sets, e.1 = b.val) → x ≤ a.c + 2 → refused 5) ∧
        (s.stg.acts = [] → (s.board b.val).force = false → completes (.downstreamFrame b) s fun t => ∃ fr a,
          t.outs = s.outs ++ (if s.clocked then [.downstream b.val fr] else []) ∧ (Bits.byteAt fr 1008).toNat = 2 ∧ t.bstate b.val = 2 ∧ fabricKept s t ∧
          t.stg.acts = [a] ∧ a.h = 0x1F + 32 * b.val ∧ a.exit = some b.val ∧ a.env = false ∧ a.sets.map (·.1) = [b.val] ∧
          a.c = x ∧ t.evl = s.evl)))

/-- Limit-trip windows and share windows close at their boundaries and nowhere else: every phase's trips are counted anew, with
event 0x070A for one above the warning; a share update leaves no trim beyond 1,310 that was not there, and with sharing disabled
no register changes. Shedding and all-fire: the last ON phase of a group that has held is SHEDDING and counted; a SHEDDING phase
whose ramp ends is SHED with no other phase changed; an all-fire episode ends at its limit, counted, with event 0x0705. -/
def Obligations.SharingSheddingAllFire : Prop :=
  (∀ s : State,
    (s.beat.toNat % 1000 ≠ 0 ∨ s.stg.cltAt = some s.beat.toNat → completes .cltWindow s fun t => t = s) ∧
    (s.beat.toNat % 1000 = 0 → s.stg.cltAt ≠ some s.beat.toNat → completes .cltWindow s fun t =>
      (∀ n, (t.phase n).trips = 0) ∧ fabricKept s t ∧ regsBut s t [0x130010C] ∧
      ∀ n ph, s.stg.phases = [(n, ph)] → s.lf Reg.STG_CFG_CLT_WARN < ph.trips → raisesAt s t 0x70A n ph.trips) ∧
    (s.beat.toNat % 100 ≠ 0 ∨ s.stg.shareAt = some s.beat.toNat → completes .shareUpdate s fun t => t = s) ∧
    (s.beat.toNat % 100 = 0 → s.stg.shareAt ≠ some s.beat.toNat → completes .shareUpdate s fun t =>
      t = { s with stg := t.stg, regs := t.regs } ∧ t.stg.shareWin = s.beat.toNat / 100 ∧ t.stg.shareAt = some s.beat.toNat ∧
      (∀ n, (t.phase n).sum = 0) ∧ (∀ b, (t.board b).shared = 0) ∧ (s.lf Reg.STG_CFG_SHARE_EN = 0 → t.regs = s.regs) ∧
      ∀ n, let x := t.f (Reg.STG_PHASE_TRIM n)
        x = s.f (Reg.STG_PHASE_TRIM n) ∨ x ≤ 1310 ∨ 2 ^ 16 - 1310 ≤ x)) ∧
  (∀ (s : State) (b : Fin 24) (g : BitVec 4) (j : Fin 4) (first lim : Nat),
    let on := s.inState b.val g.toNat 0
    let hold := max 1 (Bits.le (s.board b.val).map 16 2)
    let ramp := Bits.le (s.board b.val).map 18 2
    (s.sheds b.val = true → g.toNat ∈ s.groupsOf b.val → s.inState b.val g.toNat 1 = [] → 2 ≤ on.length →
      (hold ≤ (s.grp b.val g.toNat).hold → completes (.shedStart b g) s fun t =>
        (∀ i, i < 4 → t.pstate (4 * b.val + i) = if on.getLast? = some i then 1 else s.pstate (4 * b.val + i)) ∧
        counts s t 0x80070C ∧ (t.grp b.val g.toNat).hold = 0 ∧ fabricKept s t ∧ t.evl = s.evl) ∧
      ((s.grp b.val g.toNat).hold < hold → completes (.shedStart b g) s fun t => t = s)) ∧
    (s.sheds b.val = false → completes (.shedStart b g) s fun t => t = s) ∧
    (s.pstate (4 * b.val + j.val) = 1 → ramp ≤ (s.phase (4 * b.val + j.val)).t + 1 → completes (.shedRampEnd b j) s fun t =>
      (∀ i, i < 96 → t.pstate i = if i = 4 * b.val + j.val then 2 else s.pstate i) ∧ fabricKept s t ∧ t.evl = s.evl) ∧
    (s.pstate (4 * b.val + j.val) ≠ 1 ∨ (s.phase (4 * b.val + j.val)).t + 1 < ramp → completes (.shedRampEnd b j) s fun t => t = s) ∧
    (s.stg.episode = some (first, lim) →
      (first + lim ≤ s.beat.toNat + 1 → completes .allfireLimit s fun t => t.stg.episode = none ∧ t.stg.firing = 0 ∧
        counts s t 0x800700 ∧ raisesAt s t 0x705 0 (s.beat.toNat + 1 - first) ∧ fabricKept s t ∧
        (t.rd 0x800704).toNat = min (2 ^ 32 - 1) ((s.rd 0x800704).toNat + (s.beat.toNat + 1 - first))) ∧
      (s.beat.toNat + 1 < first + lim → completes .allfireLimit s fun t => t = s)))


/-! ### Loop engines -/

/-- A write to the setpoint window of a bound loop: a set that passes the checks waits for the next sample latched and changes no other
loop; one with UMIN above UMAX, or a negative UMIN of a DUTY output, or a byte of the loop's form that must be 0 and is not, is
rejected, counted, with event 0x0603, and no set waits. A write of EXT_U alone to an EXTERNAL loop is no set: EXT_U is applied. -/
def Obligations.SetpointWindows : Prop :=
  ∀ (s : State) (e : Fin 64) (l : Fin 8) (off : BitVec 6) (data w : Bytes),
    let k := 8 * e.val + l.val
    let L := s.loop k
    let byte (j : Nat) : Byte := Bits.byteAt w j
    let low := (BitVec.ofNat 16 (Bits.le w 2 2)).toInt
    let high := (BitVec.ofNat 16 (Bits.le w 4 2)).toInt
    let form := lForm L.ent
    let bad (j : Nat) : Prop := j < 64 ∧ ((j = 6 ∧ 4 ≤ (byte 6).toNat) ∨
      (byte j ≠ 0 ∧ (j = 7 ∨ 30 ≤ j ∨ (form = 0 ∧ 8 ≤ j ∧ j < 28) ∨ (form = 3 ∧ 28 ≤ j) ∨ (form ≠ 0 ∧ form ≠ 3 ∧ 16 ≤ j))))
    let rejects (cause at_ : Nat) : Prop := completes (.setpointWindow e l off data) s fun t =>
      (t.loop k).next = L.next ∧ (t.loop k).win = L.win ∧ counts s t 0x70200C ∧ regsBut s t [0x70200C, 0x130010C] ∧
      raisesAt s t 0x603 (e.val + 64 * l.val + 512 * cause) at_ ∧ ∀ j, j ≠ k → t.loop j = s.loop j
    s.lstate k ≠ 0 → (s.cycle ≤ 875 ∨ L.ys = none) → data ≠ [] → off.toNat + data.length ≤ 64 → w.length = 64 →
    (∀ j, j < 64 → byte j = if h : off.toNat ≤ j ∧ j < off.toNat + data.length then data[j - off.toNat]
      else Bits.byteAt (Bits.fit L.latest 64) j) →
    (form ≠ 0 ∨ off.toNat < 28 ∨ 30 < off.toNat + data.length →
      (high < low → rejects 0 2) ∧
      (low ≤ high → lOutKind L.ent = 0 → low < 0 → rejects 1 2) ∧
      (low ≤ high → (lOutKind L.ent ≠ 0 ∨ 0 ≤ low) → ∀ j, bad j → (∀ i, i < j → ¬ bad i) → rejects 2 j) ∧
      (low ≤ high → (lOutKind L.ent ≠ 0 ∨ 0 ≤ low) → (∀ j, ¬ bad j) → completes (.setpointWindow e l off data) s fun t =>
        t = { s with loops := t.loops } ∧ (∀ j, j ≠ k → t.loop j = s.loop j) ∧ (t.loop k).win = L.win ∧
        ∃ set, (t.loop k).next = L.next ++ [(s.beat.toNat * 1250 + s.cycle + 1, set)] ∧
          ∀ j, j < 64 → (j ≠ 6 ∨ (off.toNat ≤ 6 ∧ 6 < off.toNat + data.length)) → Bits.byteAt set j = byte j)) ∧
    (form = 0 → off.toNat = 28 → data.length = 2 → completes (.setpointWindow e l off data) s fun t =>
      t = { s with loops := t.loops } ∧ (∀ j, j ≠ k → t.loop j = s.loop j) ∧ (t.loop k).win = L.win ∧ (t.loop k).next = L.next ∧
      (t.loop k).extU = (BitVec.ofNat 16 (Bits.le data 0 2)).toInt ∧ (t.loop k).extNew = true)

/-- A valid sample of a RUNNING PI or PID loop with a DUTY output and its setpoint in its window, where neither supervision count moves:
the output is the rounded law clamped to its limits, the integrator takes the error and the anti-windup term, no other loop, no byte
of memory and no letter changes. -/
def Obligations.LoopLaw : Prop :=
  ∀ (s : State) (e : Fin 64) (l : Fin 8) (y : Int),
    let k := 8 * e.val + l.val
    let L := s.loop k
    let w (j : Nat) : Int := (BitVec.ofNat 16 (Bits.le L.win j 2)).toInt
    let m := (BitVec.ofNat 16 (s.f (Reg.LE_LOOP_MODEL_M k))).toInt
    let sat (lo hi v : Int) : Int := max lo (min hi v)
    let sat16 (v : Int) := sat (-2 ^ 15) (2 ^ 15 - 1) v
    let sat40 (v : Int) := sat (-2 ^ 39) (2 ^ 39 - 1) v
    let sh := (BitVec.ofNat 8 (Bits.byteAt L.ent 33).toNat).toInt
    let err := sat16 (w 0 - y)
    let d := if lForm L.ent = 2 then sat16 (err - L.ePrev) else 0
    let ur := Bits.rhe (w 8 * err + w 12 * d + L.i) (15 - sh).toNat
    let u := min (max ur (w 2)) (w 4)
    s.lstate k = 2 → lForm L.ent = 1 ∨ lForm L.ent = 2 → L.next = [] → L.cascNew = none → L.init = false → L.clear = false →
    s.beat.toNat % lDiv L.ent = 0 → L.sampled < 2 * s.beat.toNat + 1 → (∀ r ∈ s.rcv.rungs, r.rung ≠ 2) →
    s.feedback L.ent false = some y → (Bits.byteAt L.ent 15).toNat % 16 = 0 → (Bits.byteAt L.win 6).toNat % 2 = 1 → sh ≤ 15 →
    lOutKind L.ent = 0 → L.fe ≤ Bits.le L.ent 38 2 → err.natAbs ≤ Bits.le L.ent 36 2 → (y - m).natAbs ≤ Bits.le L.ent 40 2 →
    completes (.loopSample e l false) s fun t =>
      t.lstate k = 2 ∧ (BitVec.ofNat 16 (t.f (Reg.LE_LOOP_OUT_U k))) = BitVec.ofInt 16 u ∧
      (BitVec.ofNat 16 (t.f (Reg.LE_LOOP_OUT_Y k))) = BitVec.ofInt 16 y ∧ t.f (Reg.LE_LOOP_STATUS_MISS k) = 0 ∧
      t.f (Reg.LE_LOOP_STATUS_CLAMPED k) = (if u = ur then 0 else 1) ∧
      (t.loop k).i = sat40 (L.i + w 10 * err + w 14 * sat16 (u - ur)) ∧ (t.loop k).sampled = 2 * s.beat.toNat + 1 ∧
      (∀ j, j ≠ k → t.loop j = s.loop j) ∧ t.mem = s.mem ∧ t.net = s.net ∧ t.evl = s.evl ∧ t.cells = s.cells

/-- An enabled RUNNING PI loop: an invalid sample counts as missed, with event 0x0604, and leaves the output; a sample that takes the
plausibility count beyond its time trips it, TRIP_ACT HOLD: TRIPPED, counted, one letter to its NOTIFY address, event 0x0601, the
output kept. What a sample leaves alone: an UNBOUND loop, a loop already sampled, a beat that is no multiple of DIV. A TRIPPED PI loop
with a clear waiting enters IDLE at its next sample, its output SAFE_U; the host's write of LOOP_CLEAR asks for that and does nothing
in any other state. -/
def Obligations.LoopSupervisionAndStates : Prop :=
  (∀ (s : State) (e : Fin 64) (l : Fin 8) (y : Int),
    let k := 8 * e.val + l.val
    let L := s.loop k
    let m := (BitVec.ofNat 16 (s.f (Reg.LE_LOOP_MODEL_M k))).toInt
    let miss := min 65535 (s.f (Reg.LE_LOOP_STATUS_MISS k) + 1)
    s.lstate k = 2 → lForm L.ent = 1 → L.next = [] → L.cascNew = none → L.init = false → L.clear = false →
    s.beat.toNat % lDiv L.ent = 0 → L.sampled < 2 * s.beat.toNat + 1 → (∀ r ∈ s.rcv.rungs, r.rung ≠ 2) →
    (Bits.byteAt L.win 6).toNat % 2 = 1 →
    (s.feedback L.ent false = none → completes (.loopSample e l false) s fun t =>
      t.lstate k = 2 ∧ t.f (Reg.LE_LOOP_STATUS_MISS k) = miss ∧ counts s t 0x702004 ∧
      t.f (Reg.LE_LOOP_OUT_U k) = s.f (Reg.LE_LOOP_OUT_U k) ∧ (∀ j, j ≠ k → t.loop j = s.loop j) ∧ fabricKept s t ∧
      raisesAt s t 0x604 (e.val + 64 * l.val + 2048 * (lFbBoard L.ent % 32)) miss) ∧
    (s.feedback L.ent false = some y → Bits.le L.ent 40 2 < (y - m).natAbs → Bits.le L.ent 42 2 < L.pl + 1 →
      Bits.byteAt L.ent 32 = 0 → completes (.loopSample e l false) s fun t => ∃ why, (why = 2 ∨ why = 3) ∧
      t.lstate k = 3 ∧ t.f (Reg.LE_LOOP_STATUS_WHY k) = why ∧ counts s t 0x702000 ∧
      t.f (Reg.LE_LOOP_OUT_U k) = s.f (Reg.LE_LOOP_OUT_U k) ∧ (∀ j, j ≠ k → t.loop j = s.loop j) ∧ t.mem = s.mem ∧
      (∃ a, t.net = s.net ++ [a] ∧ a.op = .put ∧ a.len = 8 ∧ a.hdr.addr = BitVec.ofNat 48 (Bits.le L.ent 50 6) ∧
        a.data = Bits.toLe 4 (e.val + 64 * l.val + 512 * why) ++ Bits.toLe 4 s.beat.toNat) ∧
      (s.evl.closed = false → s.evl.queue.length < 256 → ∃ v r, t.evl.queue = s.evl.queue ++ v :: r ∧ v.code = 0x601 ∧
        v.p0 = BitVec.ofNat 32 (e.val + 64 * l.val + 512 * why)))) ∧
  (∀ (s : State) (e : Fin 64) (l : Fin 8) (half : Bool),
    let k := 8 * e.val + l.val
    let L := s.loop k
    (s.lstate k = 0 ∨ 2 * s.beat.toNat + (if half then 1 else 0) < L.sampled ∨
      (half = false ∧ lDiv L.ent ≠ 0 ∧ s.beat.toNat % lDiv L.ent ≠ 0) ∨ (half = true ∧ lDiv L.ent ≠ 0) →
      completes (.loopSample e l half) s fun t => t = s) ∧
    (s.lstate k = 3 → L.clear = true → L.next = [] → lForm L.ent = 1 → lDiv L.ent = 1 → lOutKind L.ent = 0 → L.sampled < 2 * s.beat.toNat + 1 →
      (∀ r ∈ s.rcv.rungs, r.rung ≠ 2) → completes (.loopSample e l false) s fun t => t.lstate k = 1 ∧
        t.f (Reg.LE_LOOP_STATUS_WHY k) = 0 ∧ (t.loop k).clear = false ∧ t.f (Reg.LE_LOOP_OUT_U k) = Bits.le L.ent 48 2) ∧
    (writesAtOnce s →
      (s.lstate k = 3 → completes (.loopClear .host e l) s fun t => t = { s with loops := t.loops } ∧
        t.loop k = { L with clear := true } ∧ ∀ j, j ≠ k → t.loop j = s.loop j) ∧
      (s.lstate k ≠ 3 → completes (.loopClear .host e l) s fun t => t = s)))


/-! ### The module: states, resets, feeds, the host -/

/-- A write of SAFE_REQ sets the bit; with a beat's last upstream frame it is judged by its rank: IN_SERVICE and STANDBY go to SAFE_STOP
with cause 1, and SAFE_STOP ends in READY when its cause is gone, where no trigger of a higher rank holds (a chip with one board, no
twin). The loss of all upstream frames: IN_SERVICE enters SAFE_STOP with cause 2 and event 0x0F01; where the state has no row, or a
higher trigger holds, the loss is logged once, with bit 0 set where it is outranked, and nothing else changes. -/
def Obligations.SafeStop : Prop :=
  ∀ s : State,
    let m := s.mstate
    let higher : Prop := s.feedsLost = true ∨ s.mpw.trip ≠ none ∨ s.chipDue = true
    let enters (new cause : Nat) (t : State) : Prop := t.mstate = new ∧ raisesAt s t 0xF01 (m + 16 * new + 256 * cause) 0 ∧
      (new = 5 → t.f Reg.GLB_STATE_LAST_CAUSE = cause)
    let logs (cause : Nat) (t : State) : Prop := t = { s with regs := t.regs, evl := t.evl, runs := t.runs } ∧
      regsBut s t [0x104, 0x130010C] ∧ (higher → raisesAt s t 0xF01 (m + 16 * m + 256 * cause) 1) ∧
      (¬ higher → raisesAt s t 0xF01 (m + 16 * m + 256 * cause) 0)
    (∀ v, completes (.safeReq .host v) s fun t => t = { s with regs := t.regs } ∧ regsBut s t [0x104] ∧
      t.f Reg.GLB_SAFE_CMD_SAFE_REQ = if v then 1 else 0) ∧
    (∀ (b : Fin 24) (B : Board) (fr : Bytes) (v : Sections), s.stg.boards = [(b.val, B)] → B.trained = true → B.rx.map (·.beat) ≠ some s.beat.toNat → B.map ≠ [] →
      s.stg.taken ≤ s.beat.toNat → s.f Reg.TWN_CFG_MODE = 0 → ¬ higher →
      let sr := s.f Reg.GLB_SAFE_CMD_SAFE_REQ
      let cause := s.f Reg.GLB_STATE_LAST_CAUSE
      (s.stg.nolink < 3 →
        (m = 3 ∨ m = 4 → sr = 1 → completes (.upstreamFrame b fr v) s fun t => t.mstate = 5 ∧ t.f Reg.GLB_STATE_LAST_CAUSE = 1) ∧
        (m = 5 → sr = 0 → completes (.upstreamFrame b fr v) s fun t => t.mstate = 2)) ∧
      (3 ≤ s.stg.nolink → v = ⟨false, false, false, false, false⟩ → s.f Reg.MAN_SHELF_VALID = 1 →
        (m = 3 → completes (.upstreamFrame b fr v) s fun t => t.mstate = 5 ∧ t.f Reg.GLB_STATE_LAST_CAUSE = 2) ∧
        (m = 5 → cause = 2 → completes (.upstreamFrame b fr v) s fun t => t.mstate = 5))) ∧
    (s.stg.nolink < 4 → completes .upstreamFramesLost s fun t => t = { s with runs := { s.runs with links := false } }) ∧
    (4 ≤ s.stg.nolink →
      (m = 3 → ¬ higher → completes .upstreamFramesLost s (enters 5 2)) ∧
      (m ≠ 3 ∨ higher →
        (s.runs.links = false → completes .upstreamFramesLost s (logs 2)) ∧
        (s.runs.links = true → completes .upstreamFramesLost s fun t => t = s)))

/-- Whole-chip resets by command, key, junction trip and feed return, and power: what each leaves. Memory lists nothing, no cell,
envelope, partition, letter or loop is left, the beat counter is 0 and not released, the module is NOT_READY with the cause, and the
registers of the manifest, grid, budget and loop blocks read their reset values. A host's reset in HOLDUP, or one that the feeds' loss
or a junction trip outranks, is only logged, with bit 0 set where it is outranked; a trip that the feeds' loss outranks too; one that
comes while HOLDUP closes the records waits for the closing. Where a trip has reset a chip whose log HOLDUP had closed, the feeds' return
reopens the log alone (the model's choice, log entry 68), and the power can still go. -/
def Obligations.Resets : Prop :=
  ∀ (s : State) (v : Word) (removed : Nat) (roleB : Bool), (∀ c ∈ s.deadClusters, c < 640) →
    let m := s.mstate
    let clean (cause : Nat) (t : State) : Prop := t.mstate = 1 ∧ t.f Reg.GLB_STATE_LAST_CAUSE = cause ∧ t.beat = 0 ∧ t.released = false ∧
      t.mem = [] ∧ t.kept = [] ∧ t.cells = [] ∧ t.envs = [] ∧ t.parts = [] ∧ t.progs = [] ∧ t.net = [] ∧ t.replies = [] ∧ t.circs = [] ∧
      t.loops = [] ∧ t.pending = s.pending ∧ t.deadCells = s.deadCells ∧ t.deadClusters = s.deadClusters ∧
      ∀ r, 0x400000 ≤ r → r < 0x800000 → t.rd r = resetWord r
    let logged (cause bit : Nat) (t : State) : Prop := regsOnly s t ∧ regsBut s t [0x130010C] ∧ raisesAt s t 0xF01 (m + 16 * m + 256 * cause) bit
    let free : Prop := s.feedsLost = false ∧ s.mpw.trip = none
    (m ≠ 6 → free → completes .wholeChipReset s fun t => clean 6 t ∧ raisesAt s t 0xF01 (m + 16 + 256 * 6) 0) ∧
    (¬ free → completes .wholeChipReset s (logged 6 1)) ∧
    (m = 6 → free → completes .wholeChipReset s (logged 6 0)) ∧
    (m ≠ 6 → free → completes (.hifChipReset 0x1C7A0350) s fun t => clean 6 t ∧ raisesAt s t 0xC09 0 0) ∧
    (v ≠ 0x1C7A0350 → completes (.hifChipReset v) s fun t => regsOnly s t ∧ regsBut s t [0x130010C] ∧ raisesAt s t 0xC05 0xD00010 v.toNat) ∧
    (s.mpw.trip = none → completes .junctionTrip s fun t => t = s) ∧
    (∀ (sensor : Fin 40) (tj : BitVec 12), s.mpw.trip = some (sensor.val, tj.toNat) →
      (s.feedsLost = true → completes .junctionTrip s (logged 3 1)) ∧
      (s.feedsLost = false → m ≠ 6 ∨ s.evl.closed = true → completes .junctionTrip s fun t => clean 3 t ∧ t.f Reg.MPW_TRIP_VALID = 1 ∧
        t.f Reg.MPW_TRIP_TJ = tj.toNat ∧ t.f Reg.MPW_TRIP_SENSOR = sensor.val ∧ raisesAt s t 0xF01 (m + 16 + 256 * 3) 0) ∧
      (s.feedsLost = false → m = 6 → s.evl.closed = false → completes .junctionTrip s fun t => t.mstate = 6 ∧ fabricKept s t ∧ t.mpw.tripHeld = true ∧
        t.f Reg.MPW_TRIP_VALID = 1 ∧ t.f Reg.MPW_TRIP_TJ = tj.toNat ∧ t.f Reg.MPW_TRIP_SENSOR = sensor.val ∧
        raisesAt s t 0xF01 (m + 16 * m + 256 * 3) 0)) ∧
    (m = 6 → s.power = true → s.f Reg.TWN_FEED_A_STATE = 0 ∨ s.f Reg.TWN_FEED_B_STATE = 0 → completes .feedReturn s fun t =>
      clean (s.f Reg.GLB_STATE_LAST_CAUSE) t ∧ t.evl.closed = false) ∧
    (m = 1 → s.power = true → s.evl.closed = true → s.f Reg.TWN_FEED_A_STATE = 0 ∨ s.f Reg.TWN_FEED_B_STATE = 0 →
      completes .feedReturn s fun t => t = { s with evl := t.evl } ∧ t.evl.closed = false ∧ t.evl.recs = s.evl.recs) ∧
    ((m ≠ 6 ∧ (m ≠ 1 ∨ s.evl.closed = false)) ∨ s.power = false ∨ (s.f Reg.TWN_FEED_A_STATE ≠ 0 ∧ s.f Reg.TWN_FEED_B_STATE ≠ 0) →
      completes .feedReturn s fun t => t = s) ∧
    (m = 6 ∨ (m = 1 ∧ s.evl.closed = true) → completes .powerLoss s fun t => t = { s with power := false }) ∧
    (m ≠ 6 → m ≠ 1 ∨ s.evl.closed = false → completes .powerLoss s fun t => t = s) ∧
    (s.power = true → completes (.powerOn removed roleB) s fun t => t = s) ∧
    (s.power = false → completes (.powerOn removed roleB) s fun t => clean 7 t ∧ t.power = true ∧
      t.f Reg.TWN_STATUS_MODULE = (if roleB then 1 else 0) ∧
      t.f Reg.EVL_PWR_POWER_ONS = min (2 ^ 24 - 1) (s.f Reg.EVL_PWR_POWER_ONS + 1) ∧
      (1 ≤ removed → t.f Reg.RCV_CHIP_HIST_PWR_REQ = 0 ∧ t.f Reg.RCV_CHIP_HIST_CHIP_CNT = 0))

/-- Feed samples, every 10 beats: each feed's state follows its voltage and its runs, with event 0x1006 on a change, and the input power
is the sum of voltage times current. Both feeds LOST take the module into HOLDUP with every cluster that is not in reset gated, and the
event of that change stands first among those that wait. The
closing of HOLDUP leaves no event queued and the log closed; a junction trip that waited for it then resets the chip. A heartbeat is
a write of a new value; the host is lost where no heartbeat has come, or the data link has been down, for HB_TIMEOUT_MS, with the
cause, the count and event 0x0C02; else HOST_LOST changes nothing. -/
def Obligations.FeedsHoldupHeartbeat : Prop :=
  (∀ (s : State) (va vb : BitVec 10) (ia ib : Nat),
    let next (old v low high : Nat) : Nat :=
      if v < 360 ∧ 1 ≤ low then 1 else if v < 360 then old else if v < 400 then 2 else if 600 < v then 3 else if 9 ≤ high then 0 else old
    let a := s.f Reg.TWN_FEED_A_STATE
    let b := s.f Reg.TWN_FEED_B_STATE
    let a' := next a va.toNat s.twn.low.1 s.twn.high.1
    let b' := next b vb.toNat s.twn.low.2 s.twn.high.2
    let off : Prop := s.released = true ∧ (s.beat.toNat % 10 ≠ 0 ∨ s.mpw.feedAt = some s.beat.toNat)
    (off → completes (.feedSample va vb ia ib) s fun t => t = s) ∧
    (¬ off → completes (.feedSample va vb ia ib) s fun t => fabricKept s t ∧ regsBut s t [0x1100018, 0x110011C, 0x130010C] ∧
      t.f Reg.TWN_FEED_A_STATE = a' ∧ t.f Reg.TWN_FEED_B_STATE = b' ∧ t.f Reg.TWN_FEED_VA_DV = va.toNat ∧
      t.f Reg.TWN_FEED_VB_DV = vb.toNat ∧ t.mpw.pin = (va.toNat * ia + vb.toNat * ib) / 10 ∧ t.mpw.feedAt = some s.beat.toNat ∧ t.mpw.feedDv = max va.toNat vb.toNat ∧
      t.twn.low = (if va.toNat < 360 then s.twn.low.1 + 1 else 0, if vb.toNat < 360 then s.twn.low.2 + 1 else 0) ∧
      (a' ≠ a → raisesAt s t 0x1006 (2 * a + 8 * a') va.toNat) ∧
      (a' = a → b' ≠ b → raisesAt s t 0x1006 (1 + 2 * b + 8 * b') vb.toNat) ∧
      (a' = a → b' = b → t.evl = s.evl)) ∧
    (s.mstate ≠ 6 → s.twn.fed = true → a = 1 → b = 1 → completes .bothFeedsLost s fun t =>
      t.mstate = 6 ∧ t.f Reg.GLB_STATE_LAST_CAUSE = 5 ∧ t.stg.stopped = true ∧ (∀ c, c < 640 → s.cstate c ≠ 3 → t.cstate c = 0) ∧
      (s.evl.closed = false → s.evl.queue.length < 256 → ∃ v q, firstEv t.evl.queue = some (v, q) ∧ v.code = 0xF01 ∧
        v.p0 = BitVec.ofNat 32 (s.mstate + 16 * 6 + 256 * 5) ∧ v.hold = true)) ∧
    (s.mstate = 6 ∨ s.twn.fed = false ∨ a ≠ 1 ∨ b ≠ 1 → completes .bothFeedsLost s fun t => t = s) ∧
    (s.mstate = 6 → s.evl.closed = false → s.mpw.tripHeld = false → completes .holdupClosed s fun t =>
      t.evl.closed = true ∧ t.evl.queue = [] ∧ t.mstate = 6 ∧ fabricKept s t) ∧
    (s.mstate = 6 → s.evl.closed = false → s.mpw.tripHeld = true → completes .holdupClosed s fun t =>
      t.mstate = 1 ∧ t.f Reg.GLB_STATE_LAST_CAUSE = 3 ∧ t.mem = [] ∧ t.parts = [] ∧ t.beat = 0) ∧
    (s.mstate ≠ 6 ∨ s.evl.closed = true → completes .holdupClosed s fun t => t = s)) ∧
  (∀ (s : State) (v : Word) (w : Nat),
    let h := (s.hif.hbAt).getD w
    let timeout := s.lf Reg.HIF_HB_CFG_HB_TIMEOUT_MS * 1000
    let late : Prop := max w h + timeout ≤ s.beat.toNat
    let down : Prop := s.f Reg.HIF_LINK_DL_UP = 0 ∧ max w s.hif.downAt + timeout ≤ s.beat.toNat
    let lost (c : Nat) : Prop := completes .hostLost s fun t => t.f Reg.HIF_STATUS_HOST_LOST = 1 ∧ t.f Reg.HIF_STATUS_CAUSE = c ∧
      counts s t 0xD0600C ∧ raisesAt s t 0xC02 (1 + 2 * c) (min 65535 ((s.beat.toNat - (s.hif.hbLast).getD w) / 1000))
    (s.rd 0xD00004 ≠ v → completes (.heartbeat v) s fun t => t.rd 0xD00004 = v ∧ regsBut s t [0xD00004] ∧
      t = { s with regs := t.regs, hif := { s.hif with hbPrev := s.hif.hbAt, hbAt := some s.beat.toNat, hbLast := some s.beat.toNat } }) ∧
    (s.rd 0xD00004 = v → completes (.heartbeat v) s fun t => t = s) ∧
    (s.hif.watch = none ∨ s.f Reg.HIF_STATUS_HOST_LOST = 1 → completes .hostLost s fun t => t = s) ∧
    (s.hif.watch = some w → s.f Reg.HIF_STATUS_HOST_LOST = 0 →
      (late → down → lost 3) ∧ (late → ¬ down → lost 1) ∧ (¬ late → down → lost 2) ∧
      (¬ late → ¬ down → completes .hostLost s fun t => t = s)))


/-! ### The module's power -/

/-- The control step and the power limiter: off a multiple of 10 beats nothing changes; at one, once, the next duties lie in 1 to 16
and none rises by more than 2, the next cap is the least of CAP_W, the thermal allowance and the feed cap, the calibrated
estimate and the input power are shown, the energy counter of the input takes it, and the clusters' activity counters start again.
Calibration, the thermal allowance, feed limits and ageing: what each changes, by the rule's amount, with its event; each at its
interval or condition and nowhere else. The coefficients of the estimate and the slack's floor are fused: log entries 22 and 52. -/
def Obligations.ModulePower : Prop :=
  (∀ (s : State) (e : PowerEst),
    let k := s.f Reg.MPW_CALK_K
    let cal (mw : Nat) := mw * k / 10000
    let total := cal e.link + cal e.mem + cal e.fixed + cal (s.estClass 0) + cal (s.estClass 1) + cal (s.estClass 2) + cal (s.estClass 3)
    let duty (F : Fld) := if s.f F = 0 then 16 else s.f F
    (s.beat.toNat % 10 ≠ 0 ∨ s.mpw.stepAt = some s.beat.toNat → completes (.controlStep e) s fun t => t = s) ∧
    (s.beat.toNat % 10 = 0 → s.mpw.stepAt ≠ some s.beat.toNat → completes (.controlStep e) s fun t =>
      t = { s with regs := t.regs, live := t.live, evl := t.evl, mpw := t.mpw, hif := t.hif, clusters := t.clusters, progs := t.progs } ∧
      (∀ p x, p < 32 → x < 1024 → t.prog p x = { s.prog p x with exempt := (t.prog p x).exempt }) ∧
      t.mpw.stepAt = some s.beat.toNat ∧ (∀ c, c < 640 → t.cl c = { s.cl c with issues := [] }) ∧
      t.f Reg.MPW_PWR_P_EST_W = min 1023 (total / 1000) ∧ t.f Reg.MPW_PWR_P_IN_W = min 1023 (s.mpw.pin / 1000) ∧
      t.rd64 0xC00480 = min (2 ^ 64 - 1) (s.rd64 0xC00480 + (s.mpw.eRem + s.mpw.pin) / 100) ∧
      ∃ cap d1 d2 d3, t.mpw.next = some (cap, d1, d2, d3) ∧
        (let cap0 := min (t.lf Reg.MPW_CAP_CAP_W) s.mpw.thermal
         cap = if s.f Reg.MPW_STATUS_FEED_LOW = 1 then min cap0 (s.f Reg.MPW_FEED_FEED_CAP_W) else cap0) ∧
        (1 ≤ d1 ∧ d1 ≤ 16 ∧ d1 ≤ duty Reg.MPW_ALLOW_DUTY1 + 2) ∧ (1 ≤ d2 ∧ d2 ≤ 16 ∧ d2 ≤ duty Reg.MPW_ALLOW_DUTY2 + 2) ∧
        (1 ≤ d3 ∧ d3 ≤ 16 ∧ d3 ≤ duty Reg.MPW_ALLOW_DUTY3 + 2))) ∧
  (∀ (s : State) (d : Fin 34) (slack : Int),
    let k := s.f Reg.MPW_CALK_K
    let r := s.mpw.sumIn * 10000 / s.mpw.sumEst
    let tj := s.f Reg.MPW_TJ_TJ_MAX
    let cap := s.lf Reg.MPW_CAP_CAP_W
    let step := s.lf Reg.MPW_THERM_STEP_W
    let thr := 10 * s.f Reg.MPW_THERM_T_THR
    let offset := s.f (Reg.MPW_VOLT_OFFSET_MV d.val)
    let v := s.f (Reg.MPW_VOLT_FUSE_MV d.val) + offset
    let room : Prop := v + 5 ≤ 500 + s.f (Reg.MPW_VOLT_CEIL_MV d.val) ∧ offset ≤ 250
    let once (i : Instr) (at_ : Option Nat) : Prop := s.beat.toNat % 1000 ≠ 0 ∨ at_ = some s.beat.toNat → completes i s fun t => t = s
    let due (at_ : Option Nat) : Prop := s.beat.toNat % 1000 = 0 ∧ at_ ≠ some s.beat.toNat
    once .calibrationUpdate s.mpw.calAt ∧ once .thermalStep s.mpw.heatAt ∧
    (due s.mpw.calAt → s.mpw.sumEst ≠ 0 →
      (8500 ≤ r → r ≤ 11500 → s.f Reg.MPW_STATUS_CAL_HOLD = 0 → completes .calibrationUpdate s fun t =>
        (t.f Reg.MPW_CALK_K : Int) = k + ((r : Int) - k).tdiv 16 ∧ t.mpw.sumIn = 0 ∧ t.mpw.sumEst = 0 ∧ regsBut s t [0xC00050] ∧
        t.evl = s.evl ∧ fabricKept s t) ∧
      (r < 8500 ∨ 11500 < r → s.f Reg.MPW_STATUS_CAL_HOLD = 0 → 9 ≤ s.mpw.outRun → completes .calibrationUpdate s fun t =>
        t.f Reg.MPW_CALK_K = 11500 ∧ t.f Reg.MPW_STATUS_CAL_HOLD = 1 ∧ raisesAt s t 0xB04 1 r)) ∧
    (due s.mpw.heatAt → completes .thermalStep s fun t => fabricKept s t ∧ regsBut s t [0x130010C] ∧
      t.mpw.thermal = (if thr ≤ tj then s.mpw.thermal - step
        else if tj + 10 * s.f Reg.MPW_THERM_HYST < thr then max s.mpw.thermal (min cap (s.mpw.thermal + step)) else s.mpw.thermal) ∧
      (s.mpw.thermAt = none → t.mpw.thermal < cap → raisesAt s t 0xB02 (1 + 65536 * s.f Reg.MPW_TJ_SENSOR) tj)) ∧
    (s.f Reg.MPW_STATUS_FEED_LOW = 0 → 10 ≤ s.mpw.lowRun → completes .feedLowSet s fun t => t.f Reg.MPW_STATUS_FEED_LOW = 1 ∧
      regsOnly s t ∧ regsBut s t [0xC00040, 0x130010C] ∧ raisesAt s t 0xB07 1 s.mpw.feedDv) ∧
    (s.f Reg.MPW_STATUS_FEED_LOW = 1 ∨ s.mpw.lowRun < 10 → completes .feedLowSet s fun t => t = s) ∧
    (s.f Reg.MPW_STATUS_FEED_LOW = 1 → 1000 ≤ s.mpw.highRun → completes .feedLowClear s fun t => t.f Reg.MPW_STATUS_FEED_LOW = 0 ∧
      regsOnly s t ∧ regsBut s t [0xC00040, 0x130010C] ∧ raisesAt s t 0xB07 0 s.mpw.feedDv) ∧
    (s.f Reg.MPW_STATUS_FEED_LOW = 0 ∨ s.mpw.highRun < 1000 → completes .feedLowClear s fun t => t = s) ∧
    (s.mpw.aged.get d.val 0 + 60000000 ≤ s.beat.toNat →
      (Config.marginFloor d.val ≤ slack → completes (.ageingCheck d slack) s fun t => t = { s with mpw := t.mpw }) ∧
      (slack < Config.marginFloor d.val → room → completes (.ageingCheck d slack) s fun t =>
        t.f (Reg.MPW_VOLT_OFFSET_MV d.val) = offset + 5 ∧
        regsBut s t [0xC00100 + 4 * d.val, 0x130010C] ∧ raisesAt s t 0xB05 d.val (offset + 5)) ∧
      (slack < Config.marginFloor d.val → ¬ room → completes (.ageingCheck d slack) s fun t =>
        t.f Reg.MPW_STATUS_AGE_LIMIT = 1 ∧ regsBut s t [0xC00040, 0x130010C] ∧ raisesAt s t 0xB06 d.val v)) ∧
    (s.beat.toNat < s.mpw.aged.get d.val 0 + 60000000 → completes (.ageingCheck d slack) s fun t => t = s))


/-! ### The host interface -/

/-- BAR2: an access of one 64-byte line through an enabled queue and aperture forms one letter, with the queue's next SEQ, at the
translated address; a read or atomic waits for its letter and returns its data, and a read all ones after 50 ms; a reply to a letter
that is not outstanding is discarded; an access that forms no letter is counted, with event 0x0C03, and a read of it is Unsupported.
The vector of a completion ring is raised MOD_US after the first entry not yet signalled, where Bus Master Enable is set. -/
def Obligations.HostLetters : Prop :=
  ∀ (s : State) (off : BitVec 30) (data : Bytes) (len width : Nat) (wide : Bool) (x c : BitVec 64),
    let o := off.toNat
    let q := o / 2 ^ 24 % 64
    let a := o / 2 ^ 21 % 8
    let base := s.f (Reg.HIF_AP_BASE_LO q a) + 2 ^ 32 * s.f (Reg.HIF_AP_BASE_HI q a)
    let w := o % 2 ^ 21
    let addr := if s.f (Reg.HIF_AP_MODE q a) = 0 then (base + w) % 2 ^ 48
      else base / 2 ^ 36 * 2 ^ 36 + w / 4096 * 2 ^ 27 + base % 2 ^ 27 / 4096 * 4096 + w % 4096
    let seq := (s.f (Reg.HIF_SQ_SEQ_SEQ q) + 1) % 2 ^ 32
    let n := if wide then 8 else 4
    let forms (src : Nat) (op : LOp) (len : Nat) (d : Bytes) (access : Nat) (t : State) : Prop := ∃ l : Letter,
      t = { s with regs := t.regs, hif := t.hif, net := s.net ++ [l] } ∧ regsBut s t [0xD01100 + 4 * q] ∧
      t.f (Reg.HIF_SQ_SEQ_SEQ q) = seq ∧ l.op = op ∧ l.len = len ∧ l.data = d ∧ l.env = none ∧
      l.hdr.sender = .unit (BitVec.ofNat 16 (0x500 + q)) ∧ l.hdr.addr = BitVec.ofNat 48 addr ∧ l.hdr.tag = BitVec.ofNat 12 seq ∧
      l.hdr.reply = .host (Fin.ofNat 64 q) (s.hif.formed + 1) ∧ t.hif.formed = s.hif.formed + 1 ∧ t.hif.sent = s.hif.sent ++
        [{ id := s.hif.formed + 1, q := q, seq := seq, src := src, op := op, addr := addr, len := len, access := access }]
    let waits (read : Bool) (len : Nat) (t : State) : Prop := t.hif.accs = s.hif.accs ++
      [{ id := s.hif.next + 1, read := read, len := len, beat := s.beat.toNat, got := [(seq, none)] }]
    let refused (outs : List Out) (t : State) : Prop := t = { s with regs := t.regs, evl := t.evl, outs := s.outs ++ outs } ∧
      raisesAt s t 0xC03 (2 * q + 128 * a) o ∧ counts s t 0xD06004 ∧ (s.mstate = 4 → counts s t 0x1100118)
    let on : Prop := s.power = true ∧ writesAtOnce s ∧ s.f (Reg.HIF_SQ_CFG_EN q) = 1 ∧ s.f (Reg.HIF_AP_EN q a) = 1
    let off_ : Prop := s.f (Reg.HIF_SQ_CFG_EN q) = 0 ∨ s.f (Reg.HIF_AP_EN q a) = 0 ∨ s.mstate = 4
    (on → data ≠ [] → o % 64 + data.length ≤ 64 → completes (.bar2Write off data) s (forms 0 .put data.length data 0)) ∧
    (on → 1 ≤ len → o % 64 + len ≤ 64 → completes (.bar2Read off len) s fun t => forms 1 .get len [] (s.hif.next + 1) t ∧ waits true len t) ∧
    (on → o % n = 0 → let v := Bits.toLe n x.toNat
      (completes (.bar2Atomic off .fetchAdd n x c) s fun t => forms 2 .add n v (s.hif.next + 1) t ∧ waits false n t) ∧
      (completes (.bar2Atomic off .swap n x c) s fun t => forms 2 .swap n v (s.hif.next + 1) t ∧ waits false n t) ∧
      completes (.bar2Atomic off .cas n x c) s fun t => forms 2 .cas n (Bits.toLe n c.toNat ++ v) (s.hif.next + 1) t ∧ waits false n t) ∧
    (off_ → (data ≠ [] → completes (.bar2Write off data) s (refused [])) ∧
      (1 ≤ len → len ≤ 512 → completes (.bar2Read off len) s (refused [.unsupported])) ∧
      ∀ op, completes (.bar2Atomic off op n x c) s (refused [.unsupported])) ∧
    (width ≠ 4 → width ≠ 8 → ∀ op, completes (.bar2Atomic off op width x c) s (refused [.unsupported])) ∧
    (∀ (rest : List Reply) (r : Reply) (qq : Fin 64) (id : Nat), s.replies = r :: rest → r.dest = .host qq id →
      ((∀ l ∈ s.hif.sent, l.id ≠ id) → completes .replyArrival s fun t => t = { s with replies := rest }) ∧
      (∀ (l : HLetter) (acc : Access), l.id = id → s.hif.sent = [l] → l.access ≠ 0 → acc.id = l.access →
        s.hif.accs = [acc] → acc.got = [(l.seq, none)] → r.status = 0 → s.f (Reg.HIF_SQ_CFG_REPORT l.q) = 0 →
        completes .replyArrival s fun t => t.replies = rest ∧ t.outs = s.outs ++ [.completion (Bits.fit r.data acc.len)] ∧
          t.hif.sent = [] ∧ t.hif.accs = [] ∧ t.regs = s.regs ∧ t.mem = s.mem)) ∧
    (∀ acc, s.hif.accs = [acc] → s.hif.sent = [] →
      (acc.read = false ∨ (s.released = true ∧ s.beat.toNat < acc.beat + 50000) → completes (.bar2ReadTimeout acc.id) s fun t => t = s) ∧
      (acc.read = true → s.released = false ∨ acc.beat + 50000 ≤ s.beat.toNat → completes (.bar2ReadTimeout acc.id) s fun t => t.hif.accs = [] ∧
        t = { s with hif := t.hif, outs := s.outs ++ [.completion (List.replicate acc.len 0xFF)] })) ∧
    (∀ (r : Fin 64), let u := s.hif.unsig.get r.val (0, 0)
      let v := s.f (Reg.HIF_CQ_CFG_VECTOR r.val)
      let due : Prop := 0 < u.1 ∧ u.2 + 1250 * s.f (Reg.HIF_CQ_CFG_MOD_US r.val) ≤ s.beat.toNat * 1250 + s.cycle + 1
      (¬ due → completes (.cqVectorTimer r) s fun t => t = s) ∧
      (due → (s.rd (0xD8000C + 16 * v)).toNat % 2 = 0 → completes (.cqVectorTimer r) s fun t => t.hif.unsig.get r.val (0, 0) = (0, 0) ∧
        t = { s with hif := t.hif, outs := t.outs } ∧ t.outs = s.outs ++ if s.f Reg.HIF_LINK_BME = 1 then [.vector v] else []))

/-- BAR4 and the reads of the host and the side-band: an access whose DRAM channel retrains waits; else BAR4 writes and reads the
partition's DRAM while it is open and not held; a write
to a closed partition, or one that meets the ledger region or the staging half in force, is refused, counted, with its event; a BAR0
read gives the bytes of the register, and of a 64-bit value the high word that its low word latched; REG_READ, LOG_READ and LAST_STATUS
answer with their status and data, or NOT_READY for another enterprise number or an unknown command. Of the reads stated here none
changes a register or memory. -/
def Obligations.MemoryAndRegisterReads : Prop :=
  ∀ (s : State) (off : BitVec 38) (data : Bytes) (len : Nat) (r : BitVec 25) (i iana : Word) (cmd : Byte),
    let p := off.toNat / 2 ^ 33
    let o := off.toNat % 2 ^ 33
    let at_ := 2 ^ 47 + p * 2 ^ 41 + o
    let h := s.f (Reg.MAN_STATUS_INFORCE_HALF p)
    let lo := 0x1F0000000 + 0x8000000 * h
    let ledger : Prop := p ≤ 1 ∧ o < 0x1A0000000 ∧ 0x100000000 < o + data.length
    let half : Prop := (s.manOf p).isSome = true ∧ o < lo + 0x8000000 ∧ lo < o + data.length
    let opened : Prop := s.bup.dram = true ∧ s.held p = false
    let reg := r.toNat / 4 * 4
    let own := s.rd 0xD0001C
    let plain : Prop := (∀ e ∈ pairs, ∀ j, j < e.2.2 → reg ≠ e.1 + e.2.1 * j ∧ reg ≠ e.1 + e.2.1 * j + 4) ∧ reg ≠ 0xD0000C ∧
      reg ≠ 0xF00008 ∧ reg ≠ 0x100010 ∧ (reg < 0xE00020 ∨ 0xE00040 ≤ reg) ∧ (reg < 0x1240000 ∨ 0x12C0000 ≤ reg) ∧
      (reg < 0x1380000 ∨ 0x1400000 ≤ reg) ∧ s.twn.mirror = []
    let refuses (code p0 p1 : Nat) (more : List Out) (t : State) : Prop := t = { s with regs := t.regs, evl := t.evl, outs := s.outs ++ more } ∧
      counts s t 0xD06008 ∧ raisesAt s t code p0 p1
    let answers (i : Instr) (o : Out) : Prop := completes i s fun t => t = { s with outs := s.outs ++ [o] }
    s.power = true →
    (data ≠ [] → s.retrains p o data.length = true → completes (.bar4Write off data) s fun t =>
      t = { s with bup := { s.bup with waits := s.bup.waits ++ [.write off.toNat data] } }) ∧
    (1 ≤ len → len ≤ 4096 → s.retrains p o len = true → completes (.bar4Read off len) s fun t =>
      t = { s with bup := { s.bup with waits := s.bup.waits ++ [.read off.toNat len] } }) ∧
    (data ≠ [] → o + data.length ≤ 2 ^ 33 → s.retrains p o data.length = false →
      (opened → ¬ ledger → ¬ half → completes (.bar4Write off data) s fun t => t = { s with mem := t.mem } ∧
        (∀ (j : Nat) (hj : j < data.length), t.rdByte (at_ + j) = data[j]) ∧
        ∀ y, (y < at_ ∨ at_ + data.length ≤ y) → t.rdByte y = s.rdByte y) ∧
      (¬ opened → completes (.bar4Write off data) s (refuses 0xC03 1 off.toNat [])) ∧
      (opened → ledger → completes (.bar4Write off data) s fun t => refuses 0xA08 o p [] t ∧ counts s t 0xB00430) ∧
      (opened → ¬ ledger → half → completes (.bar4Write off data) s fun t => refuses 0x306 (p + 32 * h) o [] t ∧ counts s t 0x400904)) ∧
    (1 ≤ len → len ≤ 4096 → o + len ≤ 2 ^ 33 → s.retrains p o len = false →
      (opened → answers (.bar4Read off len) (.completion ((List.range len).map fun j => s.rdByte (at_ + j)))) ∧
      (¬ opened → completes (.bar4Read off len) s (refuses 0xC03 1 off.toNat [.completion (List.replicate len 0xFF)]))) ∧
    (plain → 1 ≤ len → r.toNat % 4 + len ≤ 4 →
      answers (.bar0Read r len) (.completion (((Bits.toLe 4 (s.rd reg).toNat).drop (r.toNat % 4)).take len))) ∧
    (let serves := inHif reg = false ∧ (alwaysOn reg = true ∨ s.mainServes = true)
     (plain → serves → answers (.regRead own r) (.sideband 0 (Bits.toLe 4 (s.rd reg).toNat))) ∧
     (¬ serves → answers (.regRead own r) (.sideband 0x30 (Bits.zeros 4)))) ∧
    (completes (.bar0Read 0x200000 4) s fun t => t.outs = s.outs ++ [.completion (Bits.toLe 4 s.beat.toNat)] ∧
      t = { s with outs := t.outs, latchHost := t.latchHost } ∧
      ∀ u : State, u.latchHost = t.latchHost → u.power = true → completes (.bar0Read 0x200004 4) u fun v =>
        v.outs = u.outs ++ [.completion (Bits.toLe 4 (s.beat.toNat / 2 ^ 32))]) ∧
    (completes (.bar0Read 0x200000 8) s fun t => t = { s with outs := t.outs, latchHost := t.latchHost } ∧
      t.outs = s.outs ++ [.completion (Bits.toLe 8 s.beat.toNat)]) ∧
    (iana ≠ own → answers (.regRead iana r) (.sideband 0x30 []) ∧ answers (.logRead iana i) (.sideband 0x30 []) ∧
      answers (.lastStatus iana cmd) (.sideband 0x30 []) ∧ answers (.regWrite iana r i) (.sideband 0x30 [])) ∧
    (let n := s.f Reg.EVL_TAIL_TAIL
     (n ≤ i.toNat ∨ s.f Reg.EVL_STATUS_CLEARING = 1 → answers (.logRead own i) (.sideband 0x30 (Bits.zeros 32))) ∧
     (i.toNat < n → s.f Reg.EVL_STATUS_CLEARING = 0 →
       answers (.logRead own i) (.sideband (if i.toNat + 1 = n then 1 else 0) (s.evl.recs.get i.toNat {}).bytes))) ∧
    (cmd = 4 → answers (.lastStatus own cmd) (.sideband 0 (Bits.toLe 2 (s.f Reg.HIF_SB_STATUS_LAST_STATUS)))) ∧
    (cmd ≠ 4 → answers (.lastStatus own cmd) (.sideband 0x30 [])) ∧
    (let side := s.released = true ∧ s.mstate ≠ 6
     (side → answers (.pldmSensorRead 1) (.pldm 1 (some (s.f Reg.MPW_TJ_TJ_MAX)))) ∧
     (¬ side → answers (.pldmSensorRead 1) (.pldm 1 none)) ∧
     answers (.pldmSensorRead 0x10) (.pldm 0x10 (some s.mstate)) ∧ answers (.pldmSensorRead 0x13) (.pldm 0x13 (some (s.f Reg.EVL_TAIL_TAIL))))

/-- The endpoint and the side-band: a PCIe reset returns the block's registers to their Reset columns but for the two that
always-on holds; Bus Master Enable, the data link, the dynamic address and the endpoint ID are set, the link with event 0x0C01, and an
uncorrectable error that AER logs with event 0x0C06. A change of the D-state clears Bus Master Enable. Firmware update: one session at
a time; a component's image is written part by part, its bank invalid until the last part; one that verifies waits in the bank not in
force, one that fails leaves the bank invalid and is counted; activation makes a verified Postmaster component pending, puts an
always-on one in force, and answers whether one is pending; cancelling, and 120 s of silence, end the session; outside a session a
command answers with a completion code. -/
def Obligations.EndpointAndFirmware : Prop :=
  (∀ (s : State) (v up onPcie : Bool) (d : Fin 4) (aer : Word × Word) (sp : BitVec 4) (w : BitVec 5) (addr : BitVec 7) (eid : Byte),
    (completes .pcieReset s fun t => t.hif.sent = [] ∧ t.hif.accs = [] ∧ t.hif.dynAddr = s.hif.dynAddr ∧ fabricKept s t ∧ t.evl = s.evl ∧
      (∀ r, 0xD00000 ≤ r → r < 0xE00000 → r ≠ 0xD00018 → r ≠ 0xD00020 → t.rd r = resetWord r) ∧
      (∀ r, (r < 0xD00000 ∨ 0xE00000 ≤ r) → t.rd r = s.rd r) ∧ t.hif.hbAt = none ∧ t.f Reg.HIF_SB_STATUS_LAST_STATUS = 0 ∧
      t.f Reg.HIF_SB_STATUS_DYN_ADDR = s.f Reg.HIF_SB_STATUS_DYN_ADDR ∧
      t.f Reg.HIF_FW_STATUS_AGENT = (if s.f Reg.HIF_FW_STATUS_AGENT = 2 then 0 else s.f Reg.HIF_FW_STATUS_AGENT)) ∧
    (completes (.busMasterEnable v none) s fun t => t = { s with regs := t.regs } ∧ t.b Reg.HIF_LINK_BME = v ∧ regsBut s t [0xD00000]) ∧
    (d.val = s.hif.dState → completes (.busMasterEnable v (some d)) s fun t => t = s) ∧
    (d.val ≠ s.hif.dState → completes (.busMasterEnable v (some d)) s fun t => t.b Reg.HIF_LINK_BME = false ∧ t.hif.dState = d.val ∧
      t = { s with regs := t.regs, hif := t.hif } ∧ regsBut s t [0xD00000]) ∧
    (completes (.dataLinkChange up sp w (some aer)) s fun t => t.hif.aer = (aer.1.toNat, aer.2.toNat) ∧
      t.b Reg.HIF_LINK_DL_UP = up ∧ raisesAt s t 0xC06 aer.1.toNat aer.2.toNat) ∧
    (completes (.dataLinkChange up sp w none) s fun t => t.b Reg.HIF_LINK_DL_UP = up ∧ fabricKept s t ∧
      t.f Reg.HIF_LINK_SPEED = (if up then sp.toNat else 0) ∧ t.f Reg.HIF_LINK_WIDTH = (if up then w.toNat else 0) ∧
      (s.b Reg.HIF_LINK_DL_UP = up → t.evl = s.evl) ∧
      (s.b Reg.HIF_LINK_DL_UP = false → up = true → raisesAt s t 0xC01 (1 + 2 * sp.toNat + 32 * w.toNat) (s.rd 0xD06010).toNat) ∧
      (s.b Reg.HIF_LINK_DL_UP = true → up = false → counts s t 0xD06010 ∧ t.hif.downAt = s.beat.toNat ∧
        raisesAt s t 0xC01 0 (min (2 ^ 32 - 1) ((s.rd 0xD06010).toNat + 1)))) ∧
    (completes (.entdaa addr) s fun t => t.hif.dynAddr = some addr ∧ t.f Reg.HIF_SB_STATUS_DYN_ADDR = addr.toNat ∧
      t.f Reg.HIF_SB_STATUS_ADDR_VALID = 1 ∧ t = { s with regs := t.regs, hif := t.hif } ∧ regsBut s t [0xD00018]) ∧
    (completes (.setEndpointId onPcie eid) s fun t => t = { s with regs := t.regs, hif := t.hif } ∧ regsBut s t [0xD00018] ∧
      (onPcie = true → t.hif.eidPcie = eid ∧ t.regs = s.regs) ∧
      (onPcie = false → t.hif.eid = eid ∧ t.f Reg.HIF_SB_STATUS_EID = eid.toNat))) ∧
  (∀ (s : State) (onPcie : Bool) (comp : BitVec 16) (before data : Bytes),
    let img := before ++ data
    let agent := s.f Reg.HIF_FW_STATUS_AGENT
    let bank := if comp = 1 then 1 - s.f Reg.HIF_FW_STATUS_PM_BANK else 1 - s.f Reg.HIF_FW_STATUS_AO_BANK
    let fault := fwFault img comp.toNat (s.f Reg.SEC_STATUS_SVN_MIN)
    let at_ := 2 * (comp.toNat - 1) + bank
    let shows (i : Instr) (code : Nat) : Prop := completes i s fun t => t.outs = s.outs ++ [.pldmCode code] ∧
      t.f Reg.HIF_FW_STATUS_AGENT = agent ∧ t.hif = s.hif ∧ t.sec = s.sec ∧ fabricKept s t
    let ended (t : State) : Prop := t.f Reg.HIF_FW_STATUS_AGENT = 0 ∧ t.hif.fwDone = [] ∧ t.hif.fwPart = none ∧ fabricKept s t
    (agent = 0 →
      (completes (.requestUpdate onPcie) s fun t => t.f Reg.HIF_FW_STATUS_AGENT = (if onPcie then 2 else 1) ∧ t.hif.fwDone = [] ∧
        t.hif.fwAt = s.beat.toNat ∧ fabricKept s t ∧ t.evl = s.evl) ∧
      shows (.firmwareComponentWrite comp data true) 0x80 ∧ shows (.firmwareComponentWrite comp data false) 0x80 ∧ shows .activateFirmware 0x80 ∧ shows .cancelUpdate 0x80 ∧
      completes .updateAgentTimeout s fun t => t = s) ∧
    (agent ≠ 0 → shows (.requestUpdate onPcie) 0x81 ∧
      (comp = 1 ∨ comp = 2 → s.hif.fwPart = (if before = [] then none else some (comp.toNat, before)) →
        (completes (.firmwareComponentWrite comp data false) s fun t => t = { s with hif := t.hif, sec := t.sec } ∧
          t.sec.banks.get at_ [] = [] ∧ t.hif.fwPart = some (comp.toNat, img) ∧ comp.toNat ∉ t.hif.fwDone) ∧
        completes (.firmwareComponentWrite comp data true) s fun t => fabricKept s t ∧ t.hif.fwPart = none ∧
          (fault = 0 → t.sec.banks.get at_ [] = img ∧ comp.toNat ∈ t.hif.fwDone ∧
            raisesAt s t 0xC08 (comp.toNat + 2 ^ 19 * agent) 0) ∧
          (fault ≠ 0 → t.sec.banks.get at_ [] = [] ∧ comp.toNat ∉ t.hif.fwDone ∧
            t.f Reg.HIF_SB_STATUS_LAST_STATUS = 0x21 ∧ counts s t Reg.SEC_VERIFY_FAIL_CNT)) ∧
      (comp ≠ 1 → comp ≠ 2 → completes (.firmwareComponentWrite comp data true) s fun t => t = s) ∧
      (s.hif.fwDone = [] → completes .activateFirmware s fun t => ended t ∧ t.evl = s.evl ∧ t.outs = s.outs ++ [.activated false]) ∧
      (s.hif.fwDone = [1] → completes .activateFirmware s fun t => ended t ∧ t.f Reg.HIF_FW_STATUS_PM_PENDING = 1 ∧
        t.hif.pmBank = 1 - s.f Reg.HIF_FW_STATUS_PM_BANK ∧ t.outs = s.outs ++ [.activated true]) ∧
      (s.hif.fwDone = [2] → completes .activateFirmware s fun t => ended t ∧ t.outs = s.outs ++ [.activated false] ∧
        t.f Reg.HIF_FW_STATUS_AO_BANK = 1 - s.f Reg.HIF_FW_STATUS_AO_BANK ∧ t.hif.dynAddr = none ∧
        raisesAt s t 0xC08 (2 + 2 ^ 16 * 3 + 2 ^ 19 * agent) 0) ∧
      (completes .cancelUpdate s fun t => ended t ∧ t.sec = s.sec) ∧
      (s.released = true → s.hif.fwAt + 120000000 ≤ s.beat.toNat → completes .updateAgentTimeout s fun t => ended t ∧ t.evl = s.evl) ∧
      (s.released = true → s.beat.toNat < s.hif.fwAt + 120000000 → completes .updateAgentTimeout s fun t => t = s)))


/-! ### Manifests -/

/-- START and UNLOAD, and the end of verification: a partition whose manifest block runs refuses them with event 0x0305; before step 9 is
asked for they answer NOT_READY; accepted, a start verifies and an unload is decided; a pass is kept for the decision, and a refusal
restores the state, counted, with its result and event 0x0302; the verification ends while the franker serves it (R321). -/
def Obligations.ManifestLoads : Prop :=
  ∀ (s : State) (p : Fin 32) (half : Bool),
    let P := s.part p.val
    let st := s.f (Reg.MAN_STATUS_STATE p.val)
    let ctl (i : Instr) (v : Nat) : Prop :=
      (st = 1 ∨ st = 2 → completes i s fun t => regsOnly s t ∧ regsBut s t [0x130010C] ∧ raisesAt s t 0x305 (0x400000 + 4 * p.val) v) ∧
      (st = 0 ∨ st = 3 → s.mstate = 1 → s.bup.asked9 = false → completes i s fun t => t = { s with regs := t.regs } ∧
        t.rd (0x400200 + 8 * p.val) = 0x30 ∧ t.rd (0x400204 + 8 * p.val) = 0 ∧
        regsBut s t [0x400000 + 4 * p.val, 0x400200 + 8 * p.val, 0x400204 + 8 * p.val])
    let open_ : Prop := (s.mstate ≠ 1 ∨ s.bup.asked9 = true) ∧ P.deciding = false ∧ P.swapAt = none ∧
      (s.f (Reg.MAN_STATUS_SERVICE_LOCK p.val) = 0 ∨ (s.mstate ≠ 3 ∧ s.mstate ≠ 4))
    let checking : Prop := st = 1 ∧ P.deciding = false ∧ P.swapAt = none ∧ s.frankerFor 5 = true
    let served : Sec := { s.sec with serving := 0, done := s.sec.done + 1 }
    ctl (.manifestStart .host p half) (1 + if half then 4 else 0) ∧
    ctl (.manifestUnload .host p) (2 + 4 * s.f (Reg.MAN_LOAD_CTL_HALF p.val)) ∧
    (open_ → (st = 0 ∨ st = 3) → s.f (Reg.RCV_PART_STATE_PSTATE p.val) ≠ 3 → completes (.manifestStart .host p half) s fun t =>
      t = { s with regs := t.regs, parts := t.parts } ∧ t.f (Reg.MAN_STATUS_STATE p.val) = 1 ∧
      t.part p.val = { P with cand := none, candHalf := half, unload := false, fromLoaded := decide (st = 3) } ∧
      t.f (Reg.MAN_LOAD_CTL_HALF p.val) = (if half then 1 else 0) ∧
      regsBut s t [0x400000 + 4 * p.val, 0x400100 + 4 * p.val]) ∧
    (open_ → st = 3 → completes (.manifestUnload .host p) s fun t => t = { s with parts := t.parts, regs := t.regs } ∧
      t.part p.val = { P with cand := none, unload := true, deciding := true, passedAt := s.beat.toNat } ∧
      t.f (Reg.MAN_STATUS_STATE p.val) = 3) ∧
    (checking →
      (completes (.verificationPass p) s fun t =>
        (∀ m, s.checkHalf p.val P.candHalf = .ok m → t = { s with parts := t.parts, sec := served } ∧
          t.part p.val = { P with cand := some m, deciding := true, passedAt := s.beat.toNat }) ∧
        (∀ r, s.checkHalf p.val P.candHalf = .error r → t = s)) ∧
      (completes (.verificationFail p) s fun t =>
        (∀ m, s.checkHalf p.val P.candHalf = .ok m → t = s) ∧
        (∀ r, s.checkHalf p.val P.candHalf = .error r → r.reason ≠ 3 → r.other = none →
          t = { s with regs := t.regs, parts := t.parts, evl := t.evl, sec := served } ∧
          t.f (Reg.MAN_STATUS_STATE p.val) = (if P.fromLoaded then 3 else 0) ∧ t.part p.val = { P with cand := none, deciding := false } ∧
          t.rd (0x400200 + 8 * p.val) = BitVec.ofNat 32 (r.status + 2 ^ 16 * r.reason) ∧ counts s t 0x400900 ∧
          raises s t 0x302 p.val (r.status + 2 ^ 16 * r.reason) (r.sect + 2 ^ 16 * r.entry) (s.beat.toNat % 2 ^ 32)))) ∧
    (¬ checking → (completes (.verificationPass p) s fun t => t = s) ∧ completes (.verificationFail p) s fun t => t = s)

/-- A swap: the decision sets S two beats on and sends PEER_DOWN for it; at S the partition is in reset with its cells stopped and no
manifest; the complete writes leave the partition's memory cleared and each cell of the manifest idle at its entry, with PEER_UP for
E = W + 3 and event 0x0301 or 0x0304; at E the partition is released with its manifest in force and its programs armed. Nothing
happens before its boundary. -/
def Obligations.ManifestSwaps : Prop :=
  ∀ (s : State) (p : Fin 32),
    let P := s.part p.val
    let st := s.f (Reg.MAN_STATUS_STATE p.val)
    let resets := s.f (Reg.RCV_PART_STATE_RESETS p.val)
    (P.deciding = true → P.passedAt < s.beat.toNat → (∀ q, q < p.val → (s.part q).deciding = false) →
      (∀ m, P.cand = some m → s.crossFault p.val m = none) → completes (.swapDecision p) s fun t =>
        t.part p.val = { P with deciding := false, swapAt := some (s.beat.toNat + 2), wroteAt := none } ∧ t.mem = s.mem ∧
        t.cells = s.cells ∧ (P.man = none → t.circs = s.circs) ∧
        (P.man.isSome = true → t.circs = insertCirc { type := 2, src := p.val, effect := s.beat.toNat + 2,
                                                       param := (if P.unload then 2 else 0) + 2 ^ 16 * resets } s.circs)) ∧
    ((∀ q, q ≤ p.val → (s.part q).deciding = false ∨ s.beat.toNat ≤ (s.part q).passedAt) → completes (.swapDecision p) s fun t => t = s) ∧
    (P.swapAt = none → completes (.swapStart p) s fun t => t = s) ∧
    (∀ S, P.swapAt = some S →
      (s.beat.toNat < S → completes (.swapStart p) s fun t => t = s) ∧
      (S ≤ s.beat.toNat → completes (.swapStart p) s fun t => (t.part p.val).held = true ∧ (t.part p.val).man = none ∧
        (t.part p.val).swapAt = none ∧ (t.part p.val).wroteAt = some 0 ∧ t.f (Reg.MAN_STATUS_STATE p.val) = 2 ∧
        t.f (Reg.RCV_PART_STATE_PSTATE p.val) = 1 ∧ t.f (Reg.RCV_PART_STATE_RESETS p.val) = (resets + 1) % 2 ^ 16 ∧
        ∀ n, n / 10240 = p.val → (t.cell n).run = 0 ∨ (t.cell n).run = 3)) ∧
    (st = 2 → P.wroteAt = some 0 → completes (.swapWritesComplete p) s fun t =>
      (t.part p.val) = { P with wroteAt := some (s.beat.toNat + 3) } ∧
      t.circs = insertCirc { type := 3, src := p.val, effect := s.beat.toNat + 3,
                             param := (if P.cand.isSome then 0 else 2) + 2 ^ 16 * resets } s.circs ∧
      (P.cand = none → (∀ a, a / 2 ^ 41 = p.val → t.rdByte a = 0) ∧ (∀ n, n / 10240 = p.val → t.cell n = {}) ∧
        raises s t 0x304 p.val P.passedAt ((s.beat.toNat + 1) % 2 ^ 32) ((s.beat.toNat + 1) / 2 ^ 32)) ∧
      ∀ m, P.cand = some m → raises s t 0x301 (p.val + if m.half then 32 else 0) (m.build % 2 ^ 32)
          ((s.beat.toNat + 1) % 2 ^ 32) ((s.beat.toNat + 1) / 2 ^ 32) ∧
        ((m.cells.map (·.cell)).Nodup → m.slots = [] → ∀ d ∈ m.cells, d.cell < 10240 → t.cell (10240 * p.val + d.cell) =
          { run := 3, prog := d.prog, img := d.img, entry := BitVec.ofNat 8 d.entry, pc := BitVec.ofNat 8 d.entry
            len := ((m.img? d.img).getD []).length })) ∧
    (st ≠ 2 ∨ P.wroteAt ≠ some 0 → completes (.swapWritesComplete p) s fun t => t = s) ∧
    (∀ e, P.wroteAt = some e →
      (s.beat.toNat < e ∨ e = 0 ∨ st ≠ 2 → completes (.swapRelease p) s fun t => t = s) ∧
      (st = 2 → 0 < e → e ≤ s.beat.toNat → (∀ m, P.cand = some m → m.shelf = false ∧ m.loops = []) →
        completes (.swapRelease p) s fun t => (t.part p.val).man = P.cand ∧ (t.part p.val).held = false ∧ (t.part p.val).cand = none ∧
          t.f (Reg.MAN_STATUS_STATE p.val) = (if P.cand.isSome then 3 else 0) ∧ t.f (Reg.RCV_PART_STATE_PSTATE p.val) = 0 ∧
          t.rd (0x400200 + 8 * p.val) = 0 ∧ t.cells = s.cells ∧
          ∀ m, P.cand = some m → ∀ d ∈ m.progs, t.prog p.val d.prog = { from_ := s.beat.toNat })) ∧
    (P.wroteAt = none → completes (.swapRelease p) s fun t => t = s)

/-! ### Recovery -/

/-- Faults are named and take their rungs: the expiry of a watched unit whose counter has not moved within its window names a fault with
its reason and rung and begins a new window, and changes nothing for a unit that is not watched or that has moved; an engine whose state
memory met an uncorrectable error names reason 0x16 (that this comes by the same command is the model's choice, log entry 69). A fault
named in an earlier beat starts its rung, with its count and event 0x0F03: the engine's, the program's with its cells stopped, the
partition's with the partition in reset and PEER_DOWN two beats on, or the whole-chip reset, which HOLDUP, the feeds' loss and a junction
trip outrank: it is then only logged. A fault of this beat waits. -/
def Obligations.FaultsTakeRungs : Prop :=
  ∀ (s : State) (p : Fin 32) (c : Fin 20) (e : Fin 64) (f : FaultRec),
    let names (i : Instr) (w0 reason rung unit : Nat) : Prop := completes i s fun t =>
      (∃ g, t.rcv.faults = s.rcv.faults ++ [g] ∧ g.reason = reason ∧ g.rung = rung ∧ g.unit = unit ∧ g.beat = s.beat.toNat ∧ g.w0 = w0) ∧
      t.rcv.rungs = [] ∧ raises s t 0xF02 w0 (reason + 256 * rung) 0 (s.beat.toNat % 2 ^ 32) ∧ fabricKept s t
    let quiet (i : Instr) : Prop := completes i s fun t => t = s
    let starts (t : State) : Prop := t.rcv.faults = [] ∧ t.rcv.rungs = s.rcv.rungs ++ [{ rung := f.rung, unit := f.unit, reason := f.reason
                                                                                         start := s.beat.toNat }]
    let expires (u : WatchUnit) (n window w0 reason rung unit : Nat) : Prop :=
      (window ≤ s.still n → names (.watchdogExpiry u) w0 reason rung unit ∧ completes (.watchdogExpiry u) s fun t => t.still n = 0) ∧
      (s.still n < window → quiet (.watchdogExpiry u))
    let chip (u : WatchUnit) (k window : Nat) : Prop := expires u k window (k + 2 ^ 31) 0x13 4 0
    let engine (u : WatchUnit) (k window : Nat) : Prop := expires u k window (k + 2 * 2 ^ 29) 0x12 2 k
    (s.rcv.rungs = [] → s.rcv.starts = [] → s.rcv.chipStarts = [] → 1 ≤ s.lf Reg.RCV_CFG_CHIP_LIMIT → 1 ≤ s.lf Reg.RCV_CFG_ENG_LIMIT →
      1 ≤ s.lf Reg.RCV_CFG_PART_LIMIT →
      (s.released = true → expires .postmaster 84 1000 (84 + 2 ^ 31) 0x14 4 0) ∧
      (s.f (Reg.MAN_STATUS_STATE p.val) = 3 → s.held p.val = false →
        expires (.sequencer p c) (1000 + 20 * p.val + c.val) 2 (p.val + 32 * c.val + 3 * 2 ^ 29) 0x11 3 p.val) ∧
      (∀ l, l < 8 → s.lstate (8 * e.val + l) ≠ 0 → engine (.loopEngine e) e.val 2) ∧
      (s.ldgRuns = true → engine .ledger 64 2000) ∧ (s.serving ≠ 0 → engine .franker 65 200000) ∧
      ((∃ b ∈ s.stg.boards, b.2.trained = true) → chip .stage 80 2) ∧ ((∃ b ∈ s.mon.cmus, b.2.mapped = true) → chip .monitor 81 10000) ∧
      (s.f Reg.TWN_CFG_MODE = 1 → chip .twin 82 2) ∧ (s.hif.accs ≠ [] ∨ s.hif.sent ≠ [] → chip .host 83 1000) ∧
      ∀ u : BitVec 7, (u.toNat ≤ 65 → names (.watchdogExpiry (.memory u)) (u.toNat + 2 * 2 ^ 29) 0x16 2 u.toNat) ∧
        (65 < u.toNat → quiet (.watchdogExpiry (.memory u)))) ∧
    (s.released = false → quiet (.watchdogExpiry .postmaster)) ∧ (s.f (Reg.MAN_STATUS_STATE p.val) ≠ 3 → quiet (.watchdogExpiry (.sequencer p c))) ∧
    ((∀ l, l < 8 → s.lstate (8 * e.val + l) = 0) → quiet (.watchdogExpiry (.loopEngine e))) ∧
    (s.ldgRuns = false → quiet (.watchdogExpiry .ledger)) ∧ (s.serving = 0 → quiet (.watchdogExpiry .franker)) ∧
    (s.f Reg.TWN_CFG_MODE = 0 → quiet (.watchdogExpiry .twin)) ∧ (s.hif.accs = [] → s.hif.sent = [] → quiet (.watchdogExpiry .host)) ∧
    ((∀ g ∈ s.rcv.faults, s.beat.toNat ≤ g.beat) → quiet .rungStart) ∧
    (s.rcv.faults = [f] → f.beat < s.beat.toNat →
      (f.rung = 2 → f.unit < 128 → (∀ r ∈ s.rcv.rungs, r.rung ≠ 2) → completes .rungStart s fun t => starts t ∧ counts s t 0x1000804 ∧
        raisesAt s t 0xF03 (2 + 256 * f.unit) f.reason ∧ fabricKept s t) ∧
      (f.rung = 1 → f.unit / 1024 < 32 → s.held (f.unit / 1024) = false → s.rcv.rungs = [] → s.progCells (f.unit / 1024) (f.unit % 1024) ≠ [] →
        completes .rungStart s fun t => starts t ∧ counts s t 0x1000800 ∧ raisesAt s t 0xF03 (1 + 256 * (f.unit / 1024)) f.reason ∧
          (t.prog (f.unit / 1024) (f.unit % 1024)).start = none ∧
          ∀ n ∈ s.progCells (f.unit / 1024) (f.unit % 1024), (t.cell n).outst = 0 ∧ ((t.cell n).run = 0 ∨ (t.cell n).run = 3)) ∧
      (f.rung = 3 → f.out = false → f.reason = 0x17 → f.unit < 32 → s.held f.unit = false → s.rcv.rungs = [] →
        s.f (Reg.MAN_STATUS_STATE f.unit) ≠ 1 → s.f (Reg.RCV_PART_STATE_PSTATE f.unit) = 0 → completes .rungStart s fun t =>
          starts t ∧ counts s t 0x1000808 ∧ raisesAt s t 0xF03 (3 + 256 * f.unit) f.reason ∧ (t.part f.unit).held = true ∧
          t.f (Reg.RCV_PART_STATE_PSTATE f.unit) = 1 ∧
          ∃ param, t.circs = insertCirc { type := 2, src := f.unit, effect := s.beat.toNat + 2, param := param } s.circs) ∧
      (f.rung = 4 → s.mstate = 6 ∨ s.feedsLost = true ∨ s.mpw.trip ≠ none → completes .rungStart s fun t =>
        t = { s with regs := t.regs, evl := t.evl, rcv := { s.rcv with faults := [] } } ∧ regsBut s t [0x130010C] ∧
        raisesAt s t 0xF01 (s.mstate + 16 * s.mstate + 256 * 4) 1) ∧
      (f.rung = 4 → s.mstate ≠ 6 → s.feedsLost = false → s.mpw.trip = none → completes .rungStart s fun t => t.mstate = 1 ∧ t.f Reg.GLB_STATE_LAST_CAUSE = 4 ∧ t.mem = [] ∧
        t.rcv.faults = [] ∧ raisesAt s t 0xF03 (4 + 256 * (if f.w0 / 2 ^ 29 = 2 ∨ f.w0 / 2 ^ 29 = 4 then f.w0 % 128 else f.w0 % 32)) f.reason))

/-- Rungs go on and end: each stage in its order, nothing where no rung of the unit runs; the release ends the rung, with event 0x0F04,
and gives the partition back with its programs armed, each still paused that was, or EMPTY and OUT; the tests add what failed to the
dead-letter list, where every partition still has a live cluster; a rung ordered in service, or one that does not exist, is refused with
event 0x0F08, and in NOT_READY or READY one that does is named. -/
def Obligations.RungsEnd : Prop :=
  ∀ (s : State) (p : Fin 32) (x : Fin 1024) (u : BitVec 7) (c : CellId) (test : Nat) (v : Word) (r : Rung),
    let beat := s.beat.toNat
    let took (start : Nat) := (beat - start) % 2 ^ 32
    let none_ (rung unit : Nat) : Prop := ∀ g ∈ s.rcv.rungs, ¬ (g.rung = rung ∧ g.unit = unit)
    let quiet (i : Instr) : Prop := completes i s fun t => t = s
    let alive : Prop := ∀ q, q < 32 → ∃ j < 20, s.deadClusters.contains (20 * q + j) = false
    (none_ 1 (1024 * p.val + x.val) → quiet (.contextRungRelease p x)) ∧ (none_ 2 u.toNat → quiet (.engineRungRelease u)) ∧
    (none_ 3 p.val → quiet (.partitionRungRetrained p) ∧ quiet (.partitionRungTested p [] []) ∧ quiet (.partitionRungReload p) ∧
      quiet (.partitionRungRelease p)) ∧
    (s.rcv.rungs = [r] →
      (∀ m, r.rung = 1 → r.unit = 1024 * p.val + x.val → s.manOf p.val = some m → completes (.contextRungRelease p x) s fun t =>
        t.rcv.rungs = [] ∧ (t.prog p.val x.val).from_ = beat ∧ (t.prog p.val x.val).start = none ∧ t.f Reg.RCV_STATUS_BUSY = 0 ∧
        raisesAt s t 0xF04 (1 + 256 * p.val) (took r.start)) ∧
      (r.rung = 2 → r.unit = 65 → u = 65 → completes (.engineRungRelease u) s fun t => t.rcv.rungs = [] ∧ t.f Reg.RCV_STATUS_BUSY = 0 ∧
        fabricKept s t ∧ raisesAt s t 0xF04 (2 + 256 * 65) (took r.start)) ∧
      (r.rung = 3 → r.unit = p.val →
        (r.stage = 0 → (s.manOf p.val).isSome = true → completes (.partitionRungRetrained p) s fun t =>
          t = { s with rcv := { s.rcv with rungs := [{ r with stage := if r.tests = [] then 2 else 1 }] } }) ∧
        (r.stage ≠ 0 → quiet (.partitionRungRetrained p)) ∧
        (r.stage = 1 → alive → completes (.partitionRungTested p [] []) s fun t => t = { s with rcv := { s.rcv with rungs := [{ r with stage := 2 }] } }) ∧
        (r.stage = 1 → clusterOf (cellNo c) ∈ r.tests → s.deadCells = [] → alive → completes (.partitionRungTested p [(c, test)] []) s fun t =>
          t.deadCells = [cellNo c] ∧ t.rcv.rungs = [{ r with stage := 2 }] ∧ t.f Reg.BUP_DEAD_CELLS = 1 ∧
          raisesAt s t 0xE04 (c.p.val + 256 * c.c.val + 65536 * c.k.val) test) ∧
        (∀ m0, r.stage = 2 → s.manOf p.val = some m0 → completes (.partitionRungReload p) s fun t =>
          (∀ m, s.checkHalf p.val m0.half = .ok m →
            (t.part p.val).man = some m ∧ t.rcv.rungs = [{ r with stage := 3, wroteAt := some (beat + 3) }] ∧
            raises s t 0xF04 (3 + 256 * p.val) ((beat + 1 - r.start) % 2 ^ 32) ((beat + 1) % 2 ^ 32) ((beat + 1) / 2 ^ 32)) ∧
          (∀ e, s.checkHalf p.val m0.half = .error e → m0.locked = false →
            t.rcv.rungs = [{ r with stage := 3, wroteAt := some (beat + 3), empty := true }])) ∧
        (∀ e, r.stage = 3 → r.wroteAt = some e →
          (beat < e → quiet (.partitionRungRelease p)) ∧
          (e ≤ beat → completes (.partitionRungRelease p) s fun t => t.rcv.rungs = [] ∧ (t.part p.val).held = false ∧
            t.f (Reg.RCV_PART_STATE_PSTATE p.val) = (if r.empty then 2 else 0) ∧
            (r.empty = true → t.f (Reg.MAN_STATUS_STATE p.val) = 0 ∧ (t.part p.val).man = none) ∧
            (r.empty = false → ∀ m, s.manOf p.val = some m → ∀ d ∈ m.progs, t.prog p.val d.prog =
              { from_ := beat, paused := (s.prog p.val d.prog).paused, pausedBy := (s.prog p.val d.prog).pausedBy }))))) ∧
    (s.mstate ≠ 1 → s.mstate ≠ 2 → v.toNat / 2 ^ 31 = 1 → completes (.rungRequest .host v) s fun t => regsOnly s t ∧
      regsBut s t [0x130010C] ∧ raisesAt s t 0xF08 0x1000008 v.toNat) ∧
    (s.mstate = 1 ∨ s.mstate = 2 → v.toNat % 8 = 0 ∨ 4 ≤ v.toNat % 8 → completes (.rungRequest .host v) s fun t => regsOnly s t ∧
      regsBut s t [0x130010C] ∧ raisesAt s t 0xF08 0x1000008 v.toNat) ∧
    (s.mstate = 1 ∨ s.mstate = 2 → v.toNat / 2 ^ 31 = 1 → v.toNat % 8 = 2 → v.toNat / 256 % 256 < 66 → s.rcv.rungs = [] →
      completes (.rungRequest .host v) s fun t => fabricKept s t ∧ t.f Reg.RCV_REQ_RUNG = 2 ∧
        t.f Reg.RCV_REQ_UNIT = v.toNat / 256 % 256 ∧
        ∃ g, t.rcv.faults = s.rcv.faults ++ [g] ∧ g.reason = 0x17 ∧ g.rung = 2 ∧ g.unit = v.toNat / 256 % 256 ∧ g.beat = beat)

/-! ### Grid control -/

/-- Step telemetry and forecasts: a well-formed record is written to its slot, byte for byte, and becomes its target's last, a
malformed one is counted and written nowhere; a record older than 20,000 beats sets the target's stale bit with event 0x040E and a
fresh one clears it; 100 forecast errors in a row flag the forecast degraded, 1,000 good ones clear the flag, with event 0x0409. -/
def Obligations.StepTelemetryAndForecasts : Prop :=
  ∀ (s : State) (x : Fin 256) (rec : Bytes),
    let quiet (i : Instr) : Prop := completes i s fun t => t = s
    let a := s.grd.telemAddr + 32 * x.val
    let old (r : Bytes) := 20000 < (s.beat.toNat % 2 ^ 32 + 2 ^ 32 - Bits.le r 20 4) % 2 ^ 32
    let bad := Bits.byteAt rec 3 ≠ 0 ∨ Bits.le rec 28 4 ≠ 0 ∨ 4 < (Bits.byteAt rec 2).toNat ∨ Bits.le rec 0 2 ≠ x.val
    let stale (u : State) := (u.rd (0x500070 + 4 * (x.val / 32))).toNat / 2 ^ (x.val % 32) % 2 = 1
    let last := s.grd.telem.get x.val []
    let flagged (t : State) (v : Nat) : Prop := t.f Reg.GRD_STATE_FCST_DEGRADED = v ∧ raisesAt s t 0x409 v s.grd.errW ∧
      (s.grd.fcstAddr = 0 → t.mem = s.mem) ∧
      (s.grd.fcstAddr ≠ 0 → (t.rdByte (s.grd.fcstAddr + 4)).toNat % 2 = v ∧ (t.rdByte (s.grd.fcstAddr + 4)).toNat / 2 = (s.rdByte (s.grd.fcstAddr + 4)).toNat / 2 ∧
        ∀ b, b ≠ s.grd.fcstAddr + 4 → t.rdByte b = s.rdByte b)
    (s.grd.telemAddr = 0 ∨ rec.length ≠ 32 → quiet (.telemetryRecord x rec)) ∧
    (s.grd.telemAddr ≠ 0 → rec.length = 32 →
      (bad → completes (.telemetryRecord x rec) s fun t => regsOnly s t ∧ regsBut s t [0x50011C] ∧ counts s t 0x50011C ∧ t.evl = s.evl) ∧
      (¬ bad → completes (.telemetryRecord x rec) s fun t =>
        (∀ i, i < 32 → t.rdByte (a + i) = Bits.byteAt rec i) ∧ (∀ b, b < a ∨ a + 32 ≤ b → t.rdByte b = s.rdByte b) ∧
        t.grd.telem.get x.val [] = rec ∧ t.cells = s.cells ∧ t.net = s.net ∧
        (stale s ∧ ¬ old rec → ¬ stale t ∧ raisesAt s t 0x40E x.val (Bits.le rec 20 4)) ∧
        (¬ (stale s ∧ ¬ old rec) → t.regs = s.regs ∧ t.evl = s.evl))) ∧
    (last ≠ [] → old last → ¬ stale s → completes (.targetStale x) s fun t => stale t ∧ counts s t 0x50011C ∧ regsOnly s t ∧
      regsBut s t [0x50011C, 0x500070 + 4 * (x.val / 32), 0x130010C] ∧ raisesAt s t 0x40E (x.val + 256) (Bits.le last 20 4)) ∧
    (last = [] ∨ ¬ old last ∨ stale s → quiet (.targetStale x)) ∧
    (s.gstate ≠ 0 → 100 ≤ s.grd.errRun → s.f Reg.GRD_STATE_FCST_DEGRADED = 0 → completes .forecastDegraded s fun t =>
      flagged t 1 ∧ counts s t 0x500118 ∧ regsBut s t [0x500000, 0x500118, 0x130010C]) ∧
    (s.gstate = 0 ∨ s.grd.errRun < 100 ∨ s.f Reg.GRD_STATE_FCST_DEGRADED = 1 → quiet .forecastDegraded) ∧
    (1000 ≤ s.grd.okRun → s.f Reg.GRD_STATE_FCST_DEGRADED = 1 → completes .forecastRestored s fun t =>
      flagged t 0 ∧ regsBut s t [0x500000, 0x130010C]) ∧
    (s.grd.okRun < 1000 ∨ s.f Reg.GRD_STATE_FCST_DEGRADED = 0 → quiet .forecastRestored)

/-- Grid control's triggers: loss and return of the grid, host lost, precharge, the cap, the backstop's release, RAMP YIELD, coolant and
neighbour faults, the orphan table and stale dispatch each act on their condition, with their event and the state stated for each, where
the module is IN_SERVICE with GRD on and no higher-ranked trigger holds; and, where it says so, change nothing where the condition
does not hold. The return of the grid is logged once per loss that was logged. Requests are the host's. -/
def Obligations.GridTriggers : Prop :=
  ∀ s : State,
    let g := s.grd
    let beat := s.beat.toNat
    let quiet (i : Instr) : Prop := completes i s fun t => t = s
    let one (F : Fld) : Prop := s.f F = 1
    let dest (t : State) (new rank : Nat) : Prop := t.gstate = new ∧ fabricKept s t ∧ regsBut s t [0x500000, 0x130010C] ∧
      raisesAt s t 0x401 (s.gstate + 16 * new + 256 * rank) ((t.rd 0x500000).toNat / 256 % 1024)
    let returned := s.lf Reg.GRD_THRESH_RETURN_MS * 1000 ≤ g.presRun
    let restart (t : State) (log : Bool) : Prop := t.gstate = 1 ∧ t.f Reg.GRD_STATE_WAIT_GRID = 0 ∧ t.f Reg.GRD_STATE_PRE_FAIL = 0 ∧
      t.grd = { g with preAt := beat, preRun := 0, disabled := false, lossLogged := log }
    let back (t : State) : Prop := (g.lossLogged = true → raisesAt s t 0x406 0 g.lostMask) ∧ t.grd.lossLogged = false
    let nbr (t : State) (src : Nat) : Prop := t.f Reg.GRD_STATE_NEIGHBOUR = 1 ∧ t.grd = { g with nbrSrc := src, quiet := 0 } ∧
      raisesAt s t 0x405 (1 + 2 * src) s.shortfall ∧ fabricKept s t
    let cool (t : State) (host : Bool) : Prop := t.f Reg.GRD_STATE_COOLANT = 1 ∧ fabricKept s t ∧
      t.grd = { g with coolAt := beat, coolHost := host, coolDone := false } ∧ raisesAt s t 0x404 (1 + 2 * Bits.ofBool host) 0
    (s.mstate = 3 → s.gstate ≠ 0 → 3 ≤ g.lostRun →
      (s.gstate = 2 ∨ s.gstate = 3 ∨ s.gstate = 5 → completes .gridLost s fun t => t.gstate = 4 ∧ t.grd.refUw = 0 ∧ t.rd 0x500040 = 0 ∧
        counts s t 0x50010C ∧ raisesAt s t 0x406 1 g.lostMask ∧ fabricKept s t) ∧
      (s.gstate = 1 → s.f Reg.GRD_STATE_WAIT_GRID = 0 → completes .gridLost s fun t => t.gstate = 1 ∧ t.f Reg.GRD_STATE_WAIT_GRID = 1 ∧
        t.f Reg.GRD_STATE_PRE_FAIL = 0 ∧ t.grd = { g with disabled := true, lossLogged := true } ∧ raisesAt s t 0x406 1 g.lostMask)) ∧
    (s.mstate ≠ 3 ∨ s.gstate = 0 ∨ g.lostRun < 3 ∨ s.gstate = 4 ∨ s.gstate = 6 → quiet .gridLost) ∧
    (s.ranked 4 = true → returned →
      (s.gstate = 4 → s.f Reg.GRD_STATE_STOPPING = 0 → completes .gridPresent s fun t =>
        t.gstate = (if one Reg.GRD_STATE_HOST_LOST then 5 else 2) ∧ back t ∧ fabricKept s t) ∧
      (s.gstate = 1 → one Reg.GRD_STATE_WAIT_GRID → completes .gridPresent s fun t => restart t false ∧ back t)) ∧
    (s.mstate = 3 → s.gstate = 4 → one Reg.GRD_STATE_STOPPING → returned → completes .gridPresent s fun t => t.gstate = 4 ∧ back t ∧
      regsOnly s { t with grd := g } ∧ regsBut s t [0x130010C]) ∧
    (s.ranked 5 = true → s.gstate = 2 ∨ s.gstate = 3 → s.f Reg.GRD_STATE_HOST_LOST = 0 → s.f Reg.HIF_STATUS_HOST_LOST = 0 → s.hostCause ≠ 0 →
      completes .hostLost s fun t => t.gstate = 5 ∧ t.f Reg.GRD_STATE_HOST_LOST = 1 ∧ t.grd.orphanAt = beat ∧ t.grd.orphanOn = false ∧
        t.bud.orphanRec = s.bud.inForce ∧ fabricKept s t) ∧
    (¬ returned → quiet .gridPresent) ∧
    (s.ranked 8 = true → s.gstate = 1 →
      (1000 ≤ g.preRun → s.rd 0x500048 ≠ 0 → completes .prechargeComplete s fun t => dest t 2 8) ∧
      (g.preRun < 1000 → s.f Reg.GRD_STATE_PRE_FAIL = 0 → s.f Reg.GRD_STATE_WAIT_GRID = 0 →
        g.preAt + s.f Reg.GRD_CFG_PRE_TIMEOUT_S * 1000000 ≤ beat → completes .prechargeTimeout s fun t =>
          t.f Reg.GRD_STATE_PRE_FAIL = 1 ∧ t.gstate = 1 ∧ t.grd = { g with disabled := true } ∧ regsBut s t [0x500000, 0x130010C] ∧
          raisesAt s t 0x40B (g.busMv / 100).toNat (s.rd 0x500048).toNat) ∧
      (one Reg.GRD_STATE_PRE_FAIL → writesAtOnce s → completes (.preRetry .host) s fun t => restart t g.lossLogged ∧ t.evl = s.evl)) ∧
    (s.gstate ≠ 1 ∨ g.preRun < 1000 → quiet .prechargeComplete) ∧
    (s.gstate ≠ 1 ∨ one Reg.GRD_STATE_PRE_FAIL ∨ one Reg.GRD_STATE_WAIT_GRID → quiet .prechargeTimeout) ∧
    (writesAtOnce s → s.gstate ≠ 1 ∨ s.f Reg.GRD_STATE_PRE_FAIL = 0 → quiet (.preRetry .host)) ∧
    (s.ranked 7 = true → s.gstate = 3 → 10 ≤ g.under99 → completes .capReleases s fun t => dest t 2 7) ∧
    (s.gstate ≠ 3 ∨ g.under99 < 10 → quiet .capReleases) ∧
    (s.bud.backstop ≠ 0 → 1000 ≤ g.availRun → completes .backstopRelease s fun t => t.bud.backstop = 0 ∧ linesFollow s t) ∧
    (s.bud.backstop = 0 ∨ g.availRun < 1000 → quiet .backstopRelease) ∧
    (s.mstate = 3 → s.gstate ≠ 0 → s.gstate ≠ 6 → 10 ≤ g.highRun → s.f Reg.GRD_STATE_RAMP_YIELD = 0 → completes .rampYieldSet s fun t =>
      t.f Reg.GRD_STATE_RAMP_YIELD = 1 ∧ t.grd = { g with yieldAt := beat, steepest := 0 } ∧ regsBut s t [0x500000] ∧ t.evl = s.evl) ∧
    (g.highRun < 10 ∨ one Reg.GRD_STATE_RAMP_YIELD → quiet .rampYieldSet) ∧
    (one Reg.GRD_STATE_RAMP_YIELD → 1000 ≤ g.calmRun → s.mstate ≠ 4 → completes .rampYieldClear s fun t => regsOnly s t ∧
      t.f Reg.GRD_STATE_RAMP_YIELD = 0 ∧ regsBut s t [0x500000, 0x130010C] ∧ raisesAt s t 0x402 (beat - g.yieldAt) g.steepest) ∧
    (g.calmRun < 1000 ∨ s.f Reg.GRD_STATE_RAMP_YIELD = 0 → quiet .rampYieldClear) ∧
    (s.mstate = 3 → s.gstate ≠ 0 → s.f Reg.GRD_STATE_COOLANT = 0 →
      (10 ≤ g.coolLow → completes .coolantFault s fun t => cool t false) ∧
      (g.coolLow < 10 → one Reg.GRD_CTL_COOLANT_REQ → completes .coolantFault s fun t => cool t true) ∧
      (writesAtOnce s → completes (.coolantReq .host true) s fun t => cool t true ∧ t.f Reg.GRD_CTL_COOLANT_REQ = 1)) ∧
    (g.coolLow < 10 → s.f Reg.GRD_CTL_COOLANT_REQ = 0 → quiet .coolantFault) ∧
    (writesAtOnce s → completes (.coolantReq .host false) s fun t => regsOnly s t ∧ regsBut s t [0x500004] ∧ t.f Reg.GRD_CTL_COOLANT_REQ = 0 ∧
      t.evl = s.evl) ∧
    (one Reg.GRD_STATE_COOLANT → g.coolDone = false → g.coolAt + 10000 ≤ beat → s.mstate = 3 → s.gstate ≠ 0 →
      completes .coolantThrottle s fun t => t.grd.coolDone = true ∧ linesFollow s t ∧
        (¬ (g.coolAt ≤ s.bud.ackSurvival ∧ s.bud.ackSurvival ≠ 0) → t.bud.coolant = 2 ^ 256 - 1) ∧
        (g.coolAt ≤ s.bud.ackSurvival → s.bud.ackSurvival ≠ 0 → ∀ x, x < 256 → (Bits.bit t.bud.coolant x = true ↔
          s.tgtOn x = true ∧ ((10 * s.lf (Reg.BUD_TGT_SURVIVAL_W x) : Nat) : Int) < s.drawW x))) ∧
    (s.f Reg.GRD_STATE_COOLANT = 0 ∨ g.coolDone = true ∨ beat < g.coolAt + 10000 → quiet .coolantThrottle) ∧
    (one Reg.GRD_STATE_COOLANT → 1000000 ≤ g.coolHigh → s.f Reg.GRD_CTL_COOLANT_REQ = 0 → s.mstate ≠ 4 → completes .coolantClear s fun t =>
      t.f Reg.GRD_STATE_COOLANT = 0 ∧ t.bud.coolant = 0 ∧ linesFollow s t ∧ raisesAt s t 0x404 (2 * Bits.ofBool g.coolHost) 0) ∧
    (s.f Reg.GRD_STATE_COOLANT = 0 ∨ g.coolHigh < 1000000 ∨ one Reg.GRD_CTL_COOLANT_REQ → quiet .coolantClear) ∧
    (s.mstate = 3 → s.gstate ≠ 0 → s.f Reg.GRD_STATE_NEIGHBOUR = 0 →
      (10 ≤ g.shelfLow → completes .neighbourFault s fun t => nbr t 0) ∧
      (g.shelfLow < 10 → one Reg.GRD_CTL_NEIGHBOUR_REQ → completes .neighbourFault s fun t => nbr t 1) ∧
      (g.shelfLow < 10 → s.f Reg.GRD_CTL_NEIGHBOUR_REQ = 0 → 10 ≤ g.shareRun → completes .neighbourFault s fun t => nbr t 2) ∧
      (writesAtOnce s → completes (.neighbourReq .host true) s fun t => nbr t 1 ∧ t.f Reg.GRD_CTL_NEIGHBOUR_REQ = 1)) ∧
    (g.shelfLow < 10 → s.f Reg.GRD_CTL_NEIGHBOUR_REQ = 0 → g.shareRun < 10 → quiet .neighbourFault) ∧
    (writesAtOnce s → completes (.neighbourReq .host false) s fun t => regsOnly s t ∧ regsBut s t [0x500004] ∧
      t.f Reg.GRD_CTL_NEIGHBOUR_REQ = 0 ∧ t.evl = s.evl) ∧
    (one Reg.GRD_STATE_NEIGHBOUR → 1000000 ≤ g.quiet → s.mstate ≠ 4 → completes .neighbourClear s fun t => regsOnly s t ∧
      t.f Reg.GRD_STATE_NEIGHBOUR = 0 ∧ regsBut s t [0x500000, 0x130010C] ∧ raisesAt s t 0x405 (2 * g.nbrSrc) s.shortfall) ∧
    (s.f Reg.GRD_STATE_NEIGHBOUR = 0 ∨ g.quiet < 1000000 → quiet .neighbourClear) ∧
    (s.gstate = 5 → g.orphanOn = false → g.orphanAt + 5000000 ≤ beat → completes .orphanTable s fun t =>
      t.grd = { g with orphanOn := true } ∧ regsBut s t [0x130010C] ∧ raisesAt s t 0x408 0 0) ∧
    (s.gstate ≠ 5 ∨ g.orphanOn = true ∨ beat < g.orphanAt + 5000000 → quiet .orphanTable) ∧
    (s.mstate = 3 → s.gstate ≠ 0 → 10 ≤ g.missed → s.f Reg.GRD_STATE_DISPATCH_STALE = 0 → completes .dispatchStale s fun t => regsOnly s t ∧
      t.f Reg.GRD_STATE_DISPATCH_STALE = 1 ∧ regsBut s t [0x500000, 0x130010C] ∧ raisesAt s t 0x40A g.missed 0) ∧
    (g.missed < 10 ∨ s.f Reg.GRD_STATE_DISPATCH_STALE = 1 → quiet .dispatchStale)

/-! ### Rack budgets -/

/-- Budgets, throttle lines and the rack sequence: every publication boundary takes the staged fields, once; where the block runs, the last
record committed in the 1,000 beats before it comes into force under the next SEQ and is delivered with each target's budget, or a miss
is counted and the record in force is delivered again; acknowledgements move ACK_SEQ, and the first after the host is regained ends the
host's loss for grid control, or are counted as bad; START, STOP, the first stage's start, the stage gates, the timeout and the stop's
steps move the sequence, with their events; THR_FORCE and the stop source move the lines; where it says so nothing changes. Requests
are the host's. -/
def Obligations.BudgetsAndSequence : Prop :=
  ∀ (s : State) (v : BitVec 16) (d : Bytes),
    let beat := s.beat.toNat
    let k := s.seqStage
    let quiet (i : Instr) : Prop := completes i s fun t => t = s
    let due := s.bud.pend.filter fun e => decide (beat < e.1 + 1000 ∧ e.1 < beat)
    let n := (s.f Reg.BUD_PUB_SEQ_SEQ + 1) % 2 ^ 32
    let ack := Bits.le d 0 4
    let word (c : Nat) := (Bits.setFld (s.latest 0x600030) 0 2 c).toNat
    let refused (i : Instr) (off x : Nat) : Prop := completes i s fun t => regsOnly s t ∧ regsBut s t [0x130010C] ∧ raisesAt s t 0x506 off x
    let beyond (x : Nat) := ((s.minW x : Nat) : Int) < s.drawW x
    let stop := s.bud.stopReq = true ∨ s.f Reg.GRD_STATE_STOPPING = 1
    (beat % 1000 = 0 → s.bud.at_ ≠ some beat → completes .publicationBoundary s (fun t => fabricKept s t ∧ t.bud.at_ = some beat ∧
      (∀ r, 0x600000 ≤ r → r < 0x603000 → t.live.get r (resetWord r) = s.rd r) ∧
      t.bud.pend = (s.bud.pend.filter fun e => decide (beat ≤ e.1)) ∧ (s.budRuns = false → t.bud.inForce = s.bud.inForce ∧ t.regs = s.regs))) ∧
    (s.budRuns = true → beat % 1000 = 0 → s.bud.at_ ≠ some beat →
      (∀ e, due.getLast? = some e → e.2.length = 4160 → completes .publicationBoundary s fun t =>
        t.bud.inForce = e.2 ∧ counts s t 0x600100 ∧ t.f Reg.BUD_PUB_SEQ_SEQ = n ∧
        (t.rd 0x600108).toNat = min (2 ^ 32 - 1) ((s.rd 0x600108).toNat + (due.length - 1)) ∧
        (s.mstate = 3 → s.hostUp = true → ∃ w r, t.outs = s.outs ++ .hostWrite (s.rd64 0x600010 + 8192 * (n % 2)) w :: r ∧
          w.length = 4160 ∧ Bits.le w 0 4 = n ∧ Bits.le w 8 8 = beat ∧
          ∀ x, x < 256 → Bits.le w (64 + 16 * x) 4 = t.budgetW x % 2 ^ 32) ∧
        (s.mstate = 3 → s.hostUp = false → counts s t 0x600114 ∧ t.outs = s.outs) ∧ (s.mstate = 4 → t.outs = s.outs)) ∧
      (due = [] → completes .publicationBoundary s fun t => counts s t 0x600104 ∧ t.bud.inForce = s.bud.inForce ∧
        t.f Reg.BUD_PUB_SEQ_SEQ = (if s.bud.inForce = [] then s.f Reg.BUD_PUB_SEQ_SEQ else n)) ∧
      (s.seqState = 1 ∨ s.seqState = 2 ∨ s.seqState = 4 → stop → completes .publicationBoundary s fun t =>
        t.seqState = 3 ∧ t.seqStage = (s.bud.enabled - 1) % 8 ∧ t.bud.stopAt = beat) ∧
      (s.seqState = 0 → s.bud.start = true → s.gridUp = true → completes .publicationBoundary s fun t =>
        t.seqState = 1 ∧ t.seqStage = 0 ∧ t.bud.enabled = 1 ∧ t.bud.released = 0 ∧ t.bud.stageAt = beat) ∧
      (s.seqState = 1 → ¬ stop → (s.stage 0x600000 0x603000).gate k = true → completes .publicationBoundary s fun t =>
        (k < 4 → t.seqState = 1 ∧ t.seqStage = k + 1 ∧ t.bud.enabled = k + 2 ∧ t.bud.released = k + 1) ∧
        (4 ≤ k → t.seqState = 2 ∧ t.seqStage = k ∧ t.bud.released = 5))) ∧
    (beat % 1000 ≠ 0 ∨ s.bud.at_ = some beat → quiet .publicationBoundary) ∧
    (d.length ≠ 8 → quiet (.budgetAck d)) ∧
    (d.length = 8 →
      (s.f Reg.BUD_PUB_SEQ_SEQ < ack ∨ ack < s.f Reg.BUD_ACK_SEQ_SEQ ∨ Bits.le d 4 4 ≠ 0 → completes (.budgetAck d) s fun t =>
        regsOnly s t ∧ regsBut s t [0x600110, 0x130010C] ∧ counts s t 0x600110 ∧ raisesAt s t 0x503 ack (s.f Reg.BUD_PUB_SEQ_SEQ)) ∧
      (ack ≤ s.f Reg.BUD_PUB_SEQ_SEQ → s.f Reg.BUD_ACK_SEQ_SEQ ≤ ack → Bits.le d 4 4 = 0 → completes (.budgetAck d) s fun t =>
        t.f Reg.BUD_ACK_SEQ_SEQ = ack ∧ fabricKept s t ∧ t.bud.pubs = (s.bud.pubs.filter fun p => decide (ack < p.seq)) ∧
        (s.f Reg.GRD_STATE_HOST_LOST = 1 → s.grd.regained = true → s.mstate ≠ 4 → s.gstate ≠ 5 ∨ s.ranked 6 = true →
          t.f Reg.GRD_STATE_HOST_LOST = 0 ∧ t.grd.orphanOn = false ∧ t.gstate = if s.gstate = 5 then 2 else s.gstate))) ∧
    (writesAtOnce s →
      (s.seqState = 0 ∨ s.seqState = 4 → completes (.seqStart .host) s fun t => t = { s with bud := { s.bud with start := true } }) ∧
      (s.seqState ≠ 0 → s.seqState ≠ 4 → refused (.seqStart .host) 0x600030 (word 1)) ∧
      (s.seqState = 1 ∨ s.seqState = 2 ∨ s.seqState = 4 → completes (.seqStop .host) s fun t =>
        t = { s with bud := { s.bud with stopReq := true } }) ∧
      (s.seqState = 0 ∨ s.seqState = 3 → refused (.seqStop .host) 0x600030 (word 2)) ∧
      completes (.thrForce .host v) s fun t => t.f Reg.BUD_THR_FORCE_FORCE = v.toNat ∧ linesFollow (s.setF Reg.BUD_THR_FORCE_FORCE v.toNat) t) ∧
    (s.mstate = 4 → refused (.seqStart .host) 0x600030 (word 1) ∧ refused (.seqStop .host) 0x600030 (word 2) ∧
      refused (.thrForce .host v) 0x600040 v.toNat) ∧
    (s.budRuns = true → beat % 1000 = 0 → s.seqState = 1 → s.gridUp = true → s.gate k = false → s.lf Reg.BUD_SEQ_CTL_SEQ_TIMEOUT_S * 1000000 ≤ s.bud.ran →
      completes .stageTimeout s fun t => regsOnly s t ∧ t.f Reg.BUD_SEQ_STATE_FAIL = 1 ∧ t.seqState = 4 ∧ t.seqStage = k ∧
        regsBut s t [0x600034, 0x130010C] ∧ raisesAt s t 0x507 k ((s.stageTargets k).filter fun x => decide (beyond x)).length) ∧
    (s.budRuns = false ∨ beat % 1000 ≠ 0 ∨ s.seqState ≠ 1 ∨ s.gate k = true → quiet .stageTimeout) ∧
    (s.budRuns = true → beat % 1000 = 0 → s.seqState = 3 → s.bud.assertAt = none → s.bud.stopAt + s.bud.stopNeed ≤ beat → completes .stopAssert s fun t =>
      t.bud.assertAt = some beat ∧ linesFollow s t ∧ ∀ x, Bits.bit t.bud.stop x = true ↔ x ∈ s.stageTargets k ∧ beyond x) ∧
    (s.budRuns = false ∨ beat % 1000 ≠ 0 ∨ s.seqState ≠ 3 ∨ s.bud.assertAt ≠ none ∨ beat < s.bud.stopAt + s.bud.stopNeed → quiet .stopAssert) ∧
    (s.budRuns = true → beat % 1000 = 0 → s.seqState = 3 → s.stageStops = true → completes .stageStopped s fun t => t.bud.stop = 0 ∧ t.bud.enabled = k ∧
      fabricKept s t ∧ (0 < k → t.seqState = 3 ∧ t.seqStage = k - 1 ∧ t.bud.stopAt = beat ∧ t.gstate = s.gstate) ∧
      (k = 0 → t.seqState = 0 ∧ t.seqStage = 0 ∧ (s.gstate = 4 → s.f Reg.GRD_STATE_STOPPING = 1 → s.mstate = 3 →
        t.gstate = 1 ∧ t.f Reg.GRD_STATE_STOPPING = 0 ∧ t.grd.preAt = beat))) ∧
    (s.budRuns = false ∨ beat % 1000 ≠ 0 ∨ s.seqState ≠ 3 ∨ s.stageStops = false → quiet .stageStopped)

/-! ### Cell monitoring -/

/-- The monitor controller: a sweep's command leaves at its lead, on every port or once along the chain, and the sweep completes at K,
with every mapped unit FRESH or aged and 99 letters in the deterministic class; a frame counts only for the unit mapped to its port,
and only with its length, type and CRC-32C, and on the chain its tag; any other is counted with event 0x0809 and the cause. CONFIG
replies, FAULT frames, reference checks and the diagnosis steps of an interior tap move the unit and string state by their rules; a
command formed for a unit waits for its port or leaves; the host's requests and releases and the balance window act on their unit, or
refuse with their event. -/
def Obligations.CellMonitoring : Prop :=
  ∀ (s : State) (port c : Fin 96) (data : Bytes) (st : Fin 8) (bc : BitVec 7) (bj : BitVec 5) (mask : BitVec 18) (d : Diag)
      (m m0 : Int × Int × Int),
    let beat := s.beat.toNat
    let u := s.cmu c.val
    let str := c.val / 12
    let fr := s.inner data
    let quiet (i : Instr) : Prop := completes i s fun t => t = s
    let heardOnly (i : Instr) : Prop := completes i s fun t => t = s.hear port.val data
    let ends (i : Instr) : Prop := completes i s fun t => t = (s.hear port.val data).portFree c.val
    let frames (P : Instr → Nat → Nat → Prop) : Prop := P (.sweepRecord port data) 0x81 64 ∧ P (.configReply port data) 0x82 16 ∧
      P (.faultFrame port data) 0x83 16 ∧ P (.diagReply port data) 0x84 16 ∧ P (.refReply port data) 0x85 16
    let bad (i : Instr) (cause : Nat) : Prop := completes i s fun t => counts s t 0x900808 ∧ regsBut s t [0x900808, 0x130010C] ∧
      t.mon = s.mon ∧ fabricKept s t ∧ raisesAt s t 0x809 (port.val + 256 * Bits.ofBool s.radio + 512 * cause) (Bits.byteAt fr 0).toNat
    let whole (type n : Nat) : Prop := Bits.crcOk fr 0 (n - 4) = true ∧ fr.length = n ∧ (Bits.byteAt fr 0).toNat = type
    let from_ (type n : Nat) : Prop := s.cmuAt port.val = some c.val ∧ s.tagOk port.val data = true ∧ whole type n ∧
      (Bits.byteAt fr 2).toNat = c.val
    let cs := s.f (Reg.MON_CMU_STATUS_CSTATE c.val)
    let cause (u : State) (k : Nat) := u.f (Reg.MON_STRING_CAUSE k)
    let sends (t : State) (type : Nat) : Prop := s.mon.queued = [] → (∃ q, t.mon.queued = [q] ∧ q.c = c.val ∧ q.type = type) ∨
      (t.mon.queued = [] ∧ ∃ b, t.twn.formed = s.twn.formed ++ [(u.port, b)] ∧
        (s.radio = false → (Bits.byteAt b 0).toNat = type ∧ (Bits.byteAt b 1).toNat = u.seq % 256))
    let lead := if s.radio then 5000 * s.mon.chain else 50
    let L := beat + lead
    let starts := s.overlap = false ∧ s.mon.cfg ≠ [] ∧ L % (max 1 (s.lf Reg.MON_CFG_SWEEP_MS) * 1000) = 0 ∧ s.mon.lastL ≠ L
    let same := (fr.drop 4).take 6 = (s.mon.cfg.drop 4).take 4 ++ Bits.toLe 2 (s.f Reg.MON_TIMING_COMM_TO_MS)
    let diff : Int := (Bits.le fr 4 4 : Int) - Bits.le fr 8 4
    let pass := diff.natAbs * 10 ≤ s.lf Reg.MON_REF_CFG_REF_TOL_UV
    let dev : Int := 10 * s.lf Reg.MON_DIAG_CFG_DEV_MV
    let good (x : Int) : Prop := (x - d.ref).natAbs ≤ dev ∧ 10 * (Bits.le s.mon.cfg 10 2 : Int) ≤ x ∧ x ≤ 10 * (Bits.le s.mon.cfg 8 2 : Int)
    let fol : Int := 10 * s.lf Reg.MON_DIAG_CFG_FOLLOW_MV
    let moved := fol ≤ (m.1 - m0.1).natAbs ∧ fol ≤ (m.2.1 - m0.2.1).natAbs ∧
      ((0 < m.1 - m0.1 ∧ m.2.1 - m0.2.1 < 0) ∨ (m.1 - m0.1 < 0 ∧ 0 < m.2.1 - m0.2.1))
    let sums := (m0.1 + m0.2.1 - m0.2.2).natAbs ≤ 10 * s.lf Reg.MON_DIAG_CFG_SUM_TOL_MV ∧ (m0.2.2 - 2 * d.ref).natAbs ≤ dev
    let shows (t : State) (v : Nat) : Prop := t.rd 0x900600 = BitVec.ofNat 32 (c.val + 256 * d.tap + 8192 * v + 65536 * d.attempt) ∧
      counts s t 0x900810 ∧ (u.asks = [] → (t.cmu c.val).diag = none ∧ t.f (Reg.MON_CMU_STATUS_DIAG c.val) = 0)
    -- sweeps
    (starts → completes .sweepCommand s fun t => t.mon.lastL = L ∧ fabricKept s t ∧
      (∀ r, 0x900000 ≤ r → r < 0x900010 → t.live.get r (resetWord r) = s.rd r) ∧
      t.mon.sweeps = s.mon.sweeps ++ [⟨L, if s.radio then L + 5000 * (1 + s.mon.chain * (s.mon.chain + 1) / 2)
        else L + t.lf Reg.MON_TIMING_SETTLE_US + (t.lf Reg.MON_CFG_WIN + 1) * 10 + 64⟩] ∧
      (s.radio = false → ∀ e ∈ s.mon.cmus, e.1 < 96 → e.2.mapped = true → ∃ b, ((s.cmu e.1).port, b) ∈ t.twn.formed ∧
        (Bits.byteAt b 0).toNat = 1 ∧ Bits.le b 6 4 = L % 2 ^ 32) ∧
      (s.radio = true → ∃ b, (s.mon.chain - 1, b) ∈ t.twn.formed ∧ (Bits.byteAt b 2).toNat = 1 ∧ Bits.le b 8 4 = L % 2 ^ 32)) ∧
    (¬ starts → quiet .sweepCommand) ∧
    ((∀ w ∈ s.mon.sweeps.head?, beat < w.K) → quiet .sweepComplete) ∧
    (∀ w r, s.mon.sweeps = w :: r → w.K ≤ beat → s.mon.cmus.sorted = true → (∀ e ∈ s.mon.cmus, e.1 < 96) → completes .sweepComplete s fun t =>
      t.mon.sweeps = r ∧ counts s t 0x900800 ∧ t.f Reg.MON_SWEEP_SEQ_SEQ = (s.f Reg.MON_SWEEP_SEQ_SEQ + 2) % 2 ^ 32 ∧
      (∃ ls, t.net = s.net ++ ls ∧ ls.length = 99 ∧ ∀ l ∈ ls, l.op = .put ∧ l.det = true) ∧
      (u.mapped = true →
        (∀ b, u.got = some (w.L % 2 ^ 32, b) → (t.cmu c.val).fresh = true ∧ t.f (Reg.MON_CMU_STATUS_AGE c.val) = 0 ∧
          t.f (Reg.MON_CMU_STATUS_CSTATE c.val) = (if cs = 3 then 2 else cs)) ∧
        ((∀ b, u.got ≠ some (w.L % 2 ^ 32, b)) → (t.cmu c.val).fresh = false ∧
          t.f (Reg.MON_CMU_STATUS_AGE c.val) = min 255 (s.f (Reg.MON_CMU_STATUS_AGE c.val) + 1) ∧
          t.f (Reg.MON_CMU_STATUS_CSTATE c.val) = (if cs = 2 then 3 else if cs = 3 ∧ 2 ≤ s.f (Reg.MON_CMU_STATUS_MISS c.val) then 4 else cs)))) ∧
    -- frames
    (s.cmuAt port.val = none → frames fun i _ _ => heardOnly i) ∧
    (s.cmuAt port.val = some c.val → frames fun i type n => (s.tagOk port.val data = false → bad i 1) ∧
      (s.tagOk port.val data = true → (¬ whole type n → bad i 0) ∧ (whole type n → (Bits.byteAt fr 2).toNat ≠ c.val → bad i 2))) ∧
    (from_ 0x81 64 → ((∀ w ∈ s.mon.sweeps, w.L % 2 ^ 32 ≠ Bits.le fr 4 4) → heardOnly (.sweepRecord port data)) ∧
      (∀ w ∈ s.mon.sweeps, w.L % 2 ^ 32 = Bits.le fr 4 4 → completes (.sweepRecord port data) s fun t =>
        t.cmu c.val = { u with got := some (Bits.le fr 4 4, Bits.fit fr 64) } ∧ t.regs = s.regs ∧ fabricKept s t)) ∧
    (from_ 0x82 16 →
      (same → cs = 1 ∨ cs = 4 → completes (.configReply port data) s fun t => t.f (Reg.MON_CMU_STATUS_CSTATE c.val) = 2 ∧
        t.f (Reg.MON_CMU_STATUS_MISS c.val) = 0 ∧ regsBut s t [0x900100 + 4 * c.val, 0x130010C] ∧ fabricKept s t ∧
        raisesAt s t 0x801 (c.val + 256 * cs + 4096 * 2) 0) ∧
      (¬ same → cs = 2 ∨ cs = 3 → completes (.configReply port data) s fun t => t.f (Reg.MON_CMU_STATUS_CSTATE c.val) = 1 ∧
        Bits.bit (cause t str) 2 = true ∧ regsBut s t [0x900100 + 4 * c.val, 0x900500 + 4 * str, 0x130010C] ∧ fabricKept s t) ∧
      (¬ (same ∧ (cs = 1 ∨ cs = 4)) → ¬ (¬ same ∧ (cs = 2 ∨ cs = 3)) → ends (.configReply port data))) ∧
    (from_ 0x83 16 → completes (.faultFrame port data) s fun t => counts s t 0x90080C ∧ sends t 5 ∧
      (s.mon.queued = [] → s.overlap = false → s.radio = true ∨ u.lineAt ≤ beat → t.mon.queued = []) ∧ fabricKept s t ∧
      (t.cmu c.val).named = u.named ||| Bits.le fr 4 3 % 2 ^ 18 ||| Bits.le fr 7 3 % 2 ^ 18 ∧ Bits.bit (cause t str) 0 = true ∧
      (Bits.bit (cause s str) 0 = false → t.f (Reg.MON_STRING_ISO str) = 1 ∧ raisesAt s t 0x804 (str + 256 * cause s str) (cause s str + 1)) ∧
      (Bits.bit (cause s str) 0 = true → raisesAt s t 0x802 (c.val + 256 * (Bits.byteAt fr 1).toNat + 65536 * str)
        ((Bits.le fr 4 3 % 2 ^ 18 ||| Bits.le fr 7 3 % 2 ^ 18) + 2 ^ 18 * Bits.ofBool (decide (Bits.le fr 4 3 % 2 ^ 18 ≠ 0)) +
          2 ^ 19 * Bits.ofBool (decide (Bits.le fr 7 3 % 2 ^ 18 ≠ 0))))) ∧
    -- reference checks
    (s.mon.cfg ≠ [] → beat % (max 1 (s.lf Reg.MON_REF_CFG_REFCHK_S) * 1000000) = 0 → s.mon.refAt ≠ some beat →
      completes .refCheckDue s fun t => t.mon.refAt = some beat ∧ t.regs = s.regs ∧ fabricKept s t ∧
        ∀ e ∈ s.mon.cmus, e.1 < 96 → e.2.mapped = true → s.cmuState e.1 = 2 → (t.cmu e.1).refAsked = some true ∧
          (t.cmu e.1).refFails = e.2.refFails) ∧
    (s.mon.cfg = [] ∨ beat % (max 1 (s.lf Reg.MON_REF_CFG_REFCHK_S) * 1000000) ≠ 0 ∨ s.mon.refAt = some beat → quiet .refCheckDue) ∧
    (from_ 0x85 16 → (u.refAsked = none → ends (.refReply port data)) ∧
      (∀ regular, u.refAsked = some regular →
        (¬ pass → u.refFails = 0 → completes (.refReply port data) s fun t => sends t 4 ∧ t.regs = s.regs ∧
          (t.cmu c.val).refAsked = some false ∧ (t.cmu c.val).refFails = 1) ∧
        (¬ pass → 1 ≤ u.refFails → s.f (Reg.MON_CMU_STATUS_REF_FAIL c.val) = 0 → completes (.refReply port data) s fun t =>
          t.f (Reg.MON_CMU_STATUS_REF_FAIL c.val) = 1 ∧ counts s t 0x90081C ∧ Bits.bit (cause t str) 3 = true ∧
          (t.cmu c.val).refAsked = none ∧ raisesAt s t 0x806 (c.val + 256) (Bits.uint 32 diff)) ∧
        (pass → s.f (Reg.MON_CMU_STATUS_REF_FAIL c.val) = 1 → 2 ≤ u.refPasses → regular = true → completes (.refReply port data) s fun t =>
          t.f (Reg.MON_CMU_STATUS_REF_FAIL c.val) = 0 ∧ (t.cmu c.val).refAsked = none ∧ raisesAt s t 0x806 c.val (Bits.uint 32 diff)) ∧
        (pass → s.f (Reg.MON_CMU_STATUS_REF_FAIL c.val) = 0 → completes (.refReply port data) s fun t => t.regs = s.regs ∧
          (t.cmu c.val).refAsked = none ∧ (t.cmu c.val).refFails = 0))) ∧
    -- diagnoses
    (from_ 0x84 16 → (u.diag = none → ends (.diagReply port data)) ∧
      (u.diag = some d →
        (d.again = true ∨ (Bits.byteAt fr 11).toNat ≠ d.tap ∨ (Bits.byteAt fr 10).toNat ≠ Bits.ofBool d.off.isSome →
          ends (.diagReply port data)) ∧
        (d.again = false → (Bits.byteAt fr 11).toNat = d.tap → (Bits.byteAt fr 10).toNat = Bits.ofBool d.off.isSome →
          m = ((Bits.le fr 4 2 : Int), (Bits.le fr 6 2 : Int), (Bits.le fr 8 2 : Int)) → 1 ≤ d.tap → d.tap ≤ 17 →
          (d.off = none → good m.1 → good m.2.1 → Bits.bit (s.f (Reg.MON_SENSE_OPEN c.val)) d.tap = false →
            completes (.diagReply port data) s fun t => shows t 0) ∧
          (d.off = none → ¬ (good m.1 ∧ good m.2.1) → completes (.diagReply port data) s fun t =>
            (t.cmu c.val).diag = some { d with off := some m } ∧ t.regs = s.regs ∧ sends t 3) ∧
          (d.off = some m0 →
            (sums → moved → completes (.diagReply port data) s fun t => shows t 1 ∧ counts s t 0x900814 ∧
              Bits.bit (t.f (Reg.MON_SENSE_OPEN c.val)) d.tap = true ∧ Bits.bit (cause t str) 4 = true) ∧
            (¬ sums → completes (.diagReply port data) s fun t => shows t 2 ∧ counts s t 0x900818 ∧ Bits.bit (cause t str) 1 = true) ∧
            (sums → ¬ moved → good m0.1 → good m0.2.1 → completes (.diagReply port data) s fun t => shows t 0 ∧
              Bits.bit (t.f (Reg.MON_SENSE_OPEN c.val)) d.tap = false) ∧
            (sums → ¬ moved → ¬ (good m0.1 ∧ good m0.2.1) →
              (d.attempt = 3 → completes (.diagReply port data) s fun t => shows t 2 ∧ counts s t 0x900818) ∧
              (d.attempt ≠ 3 → completes (.diagReply port data) s fun t =>
                (t.cmu c.val).diag = some { d with again := true } ∧
                t.rd 0x900600 = BitVec.ofNat 32 (c.val + 256 * d.tap + 8192 * 3 + 65536 * d.attempt))))))) ∧
    (writesAtOnce s →
      (95 < bc.toNat ∨ 17 < bj.toNat → completes (.diagRequest .host bc bj) s fun t => regsOnly s t ∧ regsBut s t [0x130010C] ∧
        raisesAt s t 0x808 0x900010 (bc.toNat + 256 * bj.toNat + 65536)) ∧
      (bc.toNat = c.val → bj.toNat ≤ 17 → completes (.diagRequest .host bc bj) s fun t =>
        t.f Reg.MON_DIAG_CMD_CMU = bc.toNat ∧ t.f Reg.MON_DIAG_CMD_CELL = bj.toNat ∧ fabricKept s t ∧
        (u.mapped = false → regsOnly s t ∧ t.evl = s.evl) ∧
        (u.mapped = true → u.diag.isSome = true ∨ cs ≠ 2 → t.cmu c.val = { u with asks := u.asks ++ [bj.toNat] }) ∧
        (u.mapped = true → u.diag = none → u.asks = [] → cs = 2 → t.f (Reg.MON_CMU_STATUS_DIAG c.val) = 1 ∧
          ∃ e, (t.cmu c.val).diag = some e ∧ e.cell = bj.toNat ∧ e.attempt = 1 ∧ e.off = none ∧ e.asked = true)) ∧
      (s.isoRefusal st.val = 0 → completes (.isoRelease .host st) s fun t => cause t st.val % 4 = 0 ∧ fabricKept s t ∧
        cause t st.val / 4 = cause s st.val / 4 ∧ regsBut s t [0x900500 + 4 * st.val, 0x130010C] ∧
        (cause s st.val % 4 ≠ 0 → t.f (Reg.MON_STRING_ISO st.val) = 0) ∧ (cause s st.val % 4 = 0 → raisesAt s t 0x807 st.val 0)) ∧
      (s.isoRefusal st.val ≠ 0 → completes (.isoRelease .host st) s fun t => regsOnly s t ∧ regsBut s t [0x130010C] ∧
        raisesAt s t 0x807 (st.val + 256 * s.isoRefusal st.val) 0)) ∧
    (completes (.balanceWindow c mask) s fun t => t = { s with mon := t.mon } ∧ t.cmu c.val = { u with bal := mask.toNat } ∧
      ∀ x, x ≠ c.val → t.cmu x = s.cmu x)

/-! ### Storage state -/

/-- Storage strings: presence starts an authentication; its loss, in any state but UNUSED and once per run, leaves the string ABSENT with
its charge not valid; a response that passes restores or starts the pack's charge, and one that fails, or none in time, takes the next
attempt or FAILED; the host's REAUTH, the pack's replies, rest anchors, lost charge and the record period act on their condition, and
where it says so nothing changes; a verified string's record goes to the slot not in force under the next SEQ. -/
def Obligations.StorageStrings : Prop :=
  ∀ (s : State) (i : Fin 8) (port c : Fin 96) (data : Bytes),
    let fr := s.inner data
    let beat := s.beat.toNat
    let st := i.val
    let v := s.string st
    let is (n : Nat) : Prop := s.sstate st = n
    let quiet (x : Instr) : Prop := completes x s fun t => t = s
    let att (u : State) := u.f (Reg.SST_STRING_STATUS_ATTEMPT st)
    let moves (t : State) (new : Nat) : Prop := t.sstate st = new ∧
      raisesAt s t 0x901 (st + 16 * s.sstate st + 256 * new) (s.cycles st)
    let written (t : State) : Prop := counts s t 0xA00404 ∧ ∀ r b, s.inForce (recBase st) = some (r, b) →
      t.slotBytes (recBase st) r = s.slotBytes (recBase st) r ∧ slotValid (t.slotBytes (recBase st) (1 - r)) = true ∧
      Bits.le (t.slotBytes (recBase st) (1 - r)) 0 4 = (Bits.le b 0 4 + 1) % 2 ^ 32
    let challenged (t : State) (n : Nat) : Prop := t.sstate st = 2 ∧ att t = n ∧ (t.string st).authAt = beat ∧
      (s.f Reg.TWN_CFG_MODE = 0 → s.f Reg.SEC_STATUS_ENTROPY_FAIL = 0 → (t.string st).challenge.length = 48 ∧
        Bits.le (t.string st).challenge 32 8 = beat ∧ (Bits.byteAt (t.string st).challenge 40).toNat = st)
    let fails (x : Instr) (cause : Nat) : Prop := completes x s fun t => counts s t 0xA00400 ∧ fabricKept s t ∧
      (att s < 3 → challenged t (att s + 1)) ∧
      (att s = 3 → t.sstate st = 5 ∧ t.f (Reg.SST_STRING_STATUS_AUTH_FAILED st) = 1 ∧ raisesAt s t 0x902 (st + 16 * cause) (Bits.le v.msg 0 4))
    let r := v.msg.take 96
    let mine (b : Bytes) : Prop := ∃ k, s.inForce (recBase st) = some (k, b) ∧ (b.drop 8).take 16 = r.take 16
    let pass := Instr.passReply port data
    let whole : Prop := Bits.crcOk fr 0 12 = true ∧ fr.length = 16 ∧ (Bits.byteAt fr 0).toNat = 0x86
    let valid : Prop := s.cmuAt port.val = some c.val ∧ s.tagOk port.val data = true ∧ whole ∧ (Bits.byteAt fr 2).toNat = c.val
    let ends : Prop := completes pass s fun t => t = (s.hear port.val data).portFree c.val
    let pulls (t : State) : Prop := s.mon.queued = [] →
      (∃ q, t.mon.queued = [q] ∧ q.c = 12 * st ∧ q.type = 6) ∨
      (t.mon.queued = [] ∧ ∃ b, t.twn.formed = s.twn.formed ++ [((s.cmu (12 * st)).port, b)] ∧ (s.radio = false → (Bits.byteAt b 0).toNat = 6))
    let asked := (v.challenge ≠ [] ∨ v.incOld ≠ none) ∧ v.complete = false ∧ v.bad = false
    let ctl := (Bits.byteAt fr 6).toNat
    let answered := v.complete = true ∨ v.bad = true
    (is 1 → 1000 ≤ v.presRun → completes (.presenceDetected i) s fun t => moves t 2 ∧ challenged t 1 ∧ fabricKept s t) ∧
    (¬ is 1 ∨ v.presRun < 1000 → quiet (.presenceDetected i)) ∧
    (¬ is 0 → 10 ≤ v.absRun → v.gone = false → completes (.presenceLost i) s fun t => t.sstate st = 1 ∧ (¬ is 1 → moves t 1) ∧
      (v.record ≠ [] ∨ (s.inForce (recBase st)).isSome = true → written t) ∧ (t.string st).gone = true ∧ fabricKept s t ∧
      t.f (Reg.SST_STRING_STATUS_D_VALID st) = 0 ∧ (t.string st).challenge = [] ∧ (t.string st).incOld = none ∧ (t.string st).restAt = none) ∧
    (is 0 ∨ v.absRun < 10 ∨ v.gone = true → quiet (.presenceLost i)) ∧
    (¬ is 2 ∨ v.challenge = [] ∨ ¬ answered → quiet (.response i)) ∧
    (is 2 → v.challenge ≠ [] → answered → completes (.response i) s fun t => fabricKept s t ∧
      ((∃ cause, s.responseKey st = .inl cause ∧ fails (.response i) cause) ∨
       (∃ key, s.responseKey st = .inr key ∧ (t.string st).record = r ∧ t.f (Reg.SST_STRING_STATUS_AUTH_FAILED st) = 0 ∧
         (r.take 16, key) ∈ t.sst.keys ∧ t.f (Reg.SST_SOC_C_PRESENT st) = t.cPresent st % 2 ^ 32 ∧
         (∀ b, mine b → t.cycles st = max (Bits.le b 24 4) (Bits.le r 20 4) ∧ (t.string st).d = BitVec.ofNat 64 (Bits.le b 36 8) ∧
           (t.string st).thru = BitVec.ofNat 64 (Bits.le b 28 8) ∧ t.sstate st = (if Bits.bit (Bits.byteAt b 5).toNat 0 then 4 else 3)) ∧
         ((∀ b, ¬ mine b) → t.cycles st = Bits.le r 20 4 ∧ (t.string st).thru = 0 ∧ t.f (Reg.SST_STRING_STATUS_D_VALID st) = 0 ∧
           t.f (Reg.SST_STRING_STATUS_INC_PENDING st) = 0 ∧ t.sstate st = 3 ∧ written t)))) ∧
    (is 2 → v.authAt + s.lf Reg.SST_TIMING_AUTH_TO_S * 1000000 ≤ beat → fails (.authTimeout i) 3) ∧
    (¬ is 2 ∨ beat < v.authAt + s.lf Reg.SST_TIMING_AUTH_TO_S * 1000000 → quiet (.authTimeout i)) ∧
    (writesAtOnce s → (is 5 → completes (.reauth .host i) s fun t => moves t 2 ∧ challenged t 1 ∧ fabricKept s t) ∧
      (¬ is 5 → quiet (.reauth .host i))) ∧
    (s.cmuAt port.val = none → completes pass s fun t => t = s.hear port.val data) ∧
    (valid →
      (c.val % 12 ≠ 0 → ends) ∧
      (c.val = 12 * st → (¬ asked → ends) ∧
        (asked → (Bits.bit ctl 5 = true → completes pass s fun t => pulls t ∧ t.string st = v ∧ t.regs = s.regs) ∧
          (Bits.bit ctl 5 = false →
            (Bits.le fr 4 2 ≠ v.msg.length ∨ 5 < ctl % 16 → completes pass s fun t => t.string st = { v with bad := true } ∧
              t.regs = s.regs ∧ t.twn.formed = s.twn.formed ∧ t.mon.queued = s.mon.queued) ∧
            (Bits.le fr 4 2 = v.msg.length → ctl % 16 ≤ 5 → completes pass s fun t => t.regs = s.regs ∧
              t.string st = { v with msg := v.msg ++ (fr.drop 7).take (ctl % 16), complete := Bits.bit ctl 4 } ∧
              (Bits.bit ctl 4 = true → t.twn.formed = s.twn.formed ∧ t.mon.queued = s.mon.queued) ∧
              (Bits.bit ctl 4 = false → pulls t)))))) ∧
    (s.cmuAt port.val = some c.val → s.tagOk port.val data = false ∨ ¬ whole → completes pass s fun t => counts s t 0x900808 ∧
      t.sst = s.sst) ∧
    (v.incOld = none ∨ v.challenge ≠ [] ∨ ¬ answered → quiet (.incrementReply i)) ∧
    (∀ old, v.incOld = some old → v.challenge = [] → answered → completes (.incrementReply i) s fun t => fabricKept s t ∧
      (t.string st).incOld = none ∧ (t.string st).msg = [] ∧
      (v.complete = true → Bits.le v.msg 0 4 = old + 1 → t.f (Reg.SST_STRING_STATUS_INC_PENDING st) = 0 ∧
        (s.f (Reg.SST_STRING_STATUS_INC_PENDING st) = 1 → v.record ≠ [] → written t)) ∧
      (v.complete = false ∨ Bits.le v.msg 0 4 ≠ old + 1 → t.regs = s.regs)) ∧
    (is 4 → 1000 ≤ v.miss → completes (.chargeLost i) s fun t => moves t 3 ∧ t.f (Reg.SST_STRING_STATUS_D_VALID st) = 0 ∧
      (t.string st).restAt = none ∧ fabricKept s t ∧ (s.f (Reg.SST_STRING_STATUS_D_VALID st) = 1 → v.record ≠ [] → written t)) ∧
    (¬ is 4 ∨ v.miss < 1000 → quiet (.chargeLost i)) ∧
    (∀ b l mean, v.restAt = some b → v.full = some (l, mean) →
      let d := s.cPc st * (10000 - s.socOcv mean) / 10000
      let far := is 4 ∧ s.cPc st < ((d : Int) - v.d.toNat).natAbs * 50
      (is 3 ∨ is 4 → b + s.lf Reg.SST_CFG_REST_S * 1000000 ≤ beat → b ≤ l → completes (.restAnchor i) s fun t => t.sstate st = 4 ∧
        (t.string st).d = BitVec.ofNat 64 d ∧ t.f (Reg.SST_STRING_STATUS_D_VALID st) = 1 ∧ t.f (Reg.SST_STRING_STATUS_EMPTY_DISAGREE st) = 0 ∧
        (t.string st).restAt = some beat ∧ (v.record ≠ [] → written t) ∧ fabricKept s t ∧ (far → counts s t 0xA00408) ∧
        (far ∨ s.f (Reg.SST_STRING_STATUS_EMPTY_DISAGREE st) = 1 →
          raisesAt s t 0x904 (st + 256 * (v.d.toNat / 3600000000000)) (d / 3600000000000))) ∧
      ((¬ is 3 ∧ ¬ is 4) ∨ beat < b + s.lf Reg.SST_CFG_REST_S * 1000000 ∨ l < b → quiet (.restAnchor i))) ∧
    (v.restAt = none ∨ v.full = none → quiet (.restAnchor i)) ∧
    (is 4 → v.recAt + s.lf Reg.SST_TIMING_REC_PERIOD_S * 1000000 ≤ beat → v.record ≠ [] → completes (.recordPeriod i) s fun t => written t ∧
      (t.string st).recAt = beat ∧ fabricKept s t ∧ t.evl = s.evl) ∧
    (¬ is 4 ∨ beat < v.recAt + s.lf Reg.SST_TIMING_REC_PERIOD_S * 1000000 → quiet (.recordPeriod i))

/-! ### The energy ledger -/

/-- The ledger: requests open and close entries, written to every copy in service, or are refused and counted; estimates reach their
window; a slot's distribution, from its boundary, moves METERED by what was measured; the franker signs the oldest batch, whose record
goes to the batch store, and makes keys, each while it serves that class of request (R321); batches and refusals go to the host's rings while it can be written and there is room; the
host's ring HEADs free their records or are refused past TAIL; a copy is made again from the other one. -/
def Obligations.EnergyLedger : Prop :=
  ∀ (s : State) (rec : Bytes) (bad0 bad1 : Bool) (us0 us1 : List (BitVec 24)) (off : BitVec 16) (v : Word) (copy : Bool),
    let beat := s.beat.toNat
    let g := s.ldg
    let runs := s.ldgRuns = true
    let quiet (i : Instr) : Prop := completes i s fun t => t = s
    let both (P : Instr → Prop) : Prop := P (.openReq rec bad0 bad1) ∧ P (.close rec bad0 bad1)
    let bad := Bits.ofBool bad0 + 2 * Bits.ofBool bad1
    let reads (b : Bytes) : Prop := s.readEntry (Bits.le rec 4 4) (badOf bad) = (s, b)
    let distribute := Instr.distribute us0 us1
    let e := Bits.le rec 4 4
    let q := Bits.le rec 2 2
    let op := (Bits.byteAt rec 0).toNat
    let slot := beat / 1000
    let waits : Prop := s.engineReset 64 = true ∨ g.waiting ≠ []
    let serves_ := runs ∧ ¬ waits ∧ rec.length = 32
    let refused (i : Instr) (st : Nat) : Prop := completes i s fun t => counts s t 0xB00408 ∧ regsBut s t [0xB00408, 0xB00434, 0x130010C] ∧
      fabricKept s t ∧ raisesAt s t 0xA01 e (st + 65536 * op) ∧
      (g.refusals.length < 4096 → ∃ r, t.ldg.refusals = g.refusals ++ [r] ∧ r.length = 672 ∧ Bits.le r 0 2 = 2 ∧ Bits.le r 2 2 = st ∧
        (r.drop 16).take 32 = rec) ∧
      (4096 ≤ g.refusals.length → t.ldg = g ∧ counts s t 0xB00434)
    let plain := (op = 1 ∨ op = 2) ∧ Bits.byteAt rec 1 = 0 ∧ (∀ b ∈ rec.drop 18, b = 0) ∧ Bits.le rec 16 2 ≠ 0 ∧ q ≤ 4095 ∧ e ≤ 16777215 ∧
      s.qEn q = true ∧ s.qOver q = false
    let entryByte (t : State) (p i : Nat) := (t.rdByte (entryAddr p e + i)).toNat
    let stored (t : State) (i x : Nat) : Prop := ∀ p, p < 2 → s.copyState p ≠ 1 → s.held p = false → entryByte t p i = x
    let elsewhere (t : State) : Prop := ∀ a, (∀ p, p < 2 → a < entryAddr p e ∨ entryAddr p e + 64 ≤ a) → t.rdByte a = s.rdByte a
    let n := g.next
    let m := (s.slotNws n).fdiv 1000000000
    let out (base k : Nat) (size tail : Nat) (t : State) (d : Bytes) : Prop :=
      ∃ r, t.outs = s.outs ++ .hostWrite (s.rd64 base + k * (tail % size)) d :: r
    let rx := 2 ^ s.f Reg.LDG_RX_SIZE_LOG2
    let rt := s.f Reg.LDG_RX_TAIL_TAIL
    let rh := s.f Reg.LDG_RX_HEAD_HEAD
    let bx := 2 ^ s.f Reg.LDG_BX_SIZE_LOG2
    let bt := s.f Reg.LDG_BX_TAIL_TAIL
    let bh := s.f Reg.LDG_BX_HEAD_HEAD
    let late (i : Instr) (o : Nat) : Prop := completes i s fun t => regsOnly s t ∧ regsBut s t [0x130010C] ∧ raisesAt s t 0xA09 o v.toNat
    let c := Bits.ofBool copy
    let current : Prop := ∀ b ∈ g.closed, b.sig.isSome = true ∨ b.holdup = true ∨ b.key = s.f Reg.SEC_EPOCH_EPOCH ∨ b.key ∈ s.sec.keys
    -- requests and estimates
    both (fun i => (¬ runs → quiet i) ∧
      (runs → waits → completes i s fun t => t = { s with ldg := { g with waiting := g.waiting ++ [.request rec bad] } }) ∧
      (runs → ¬ waits → rec.length ≠ 32 → completes i s fun t => regsOnly s t ∧ regsBut s t [0xB0040C] ∧ counts s t 0xB0040C) ∧
      (serves_ → (s.ldgHalted = true → refused i 2) ∧
        (s.ldgHalted = false → ¬ plain → (∀ b, reads b → refused i 0x30)) ∧
        (s.ldgHalted = false → plain → ∀ b, reads b →
          (op = 1 → entState b ≠ 0 → refused i 0x22) ∧
          (op = 2 → entState b = 0 ∨ entState b = 2 → refused i 0x30) ∧
          (op = 1 → entState b = 0 → (g.opens.filter fun x => decide (x.1 = slot)).length < 2048 → completes i s fun t =>
            t.ldg.opens = g.opens ++ [(slot, e)] ∧ counts s t 0xB00400 ∧ regsBut s t [0xB00400] ∧ elsewhere t ∧ t.evl = s.evl ∧
            stored t 56 1 ∧ (∀ j, j < 8 → stored t j (Bits.byteAt rec (8 + j)).toNat) ∧
            (∀ j, j < 2 → stored t (52 + j) (Bits.byteAt rec (2 + j)).toNat) ∧ (∀ j, j < 2 → stored t (54 + j) (Bits.byteAt rec (16 + j)).toNat)) ∧
          (op = 2 → entState b = 1 → b.take 8 = (rec.drop 8).take 8 → entQueue b = q → entWeight b = Bits.le rec 16 2 → s.storeFull = false →
            (g.closes.filter fun x => decide (x.1 = slot)).length < 2048 → completes i s fun t =>
              t.ldg.closes = g.closes ++ [(slot, e)] ∧ counts s t 0xB00404 ∧ regsBut s t [0xB00404, 0xB00010] ∧ elsewhere t ∧
              t.evl = s.evl ∧ stored t 56 2)))) ∧
    (¬ runs → quiet (.estimate off rec)) ∧
    (runs → waits → completes (.estimate off rec) s fun t =>
      t = { s with ldg := { g with waiting := g.waiting ++ [.estimate off.toNat rec] } }) ∧
    (runs → ¬ waits → completes (.estimate off rec) s fun t => t = { s with ldg := t.ldg } ∧
      ∀ a, a < 65536 → t.ldg.ests.get a 0 = (if off.toNat ≤ a ∧ a < off.toNat + rec.length then Bits.byteAt rec (a - off.toNat) else g.ests.get a 0)) ∧
    -- distribution and franking
    (¬ runs ∨ beat < 1000 * (n + 2) ∨ s.engineReset 64 = true → quiet distribute) ∧
    (runs → 1000 * (n + 2) ≤ beat → s.engineReset 64 = false → completes distribute s fun t => t.ldg.next = n + 1 ∧
      t.rd64 0xB00018 = n % 2 ^ 64 ∧ t.rd64 0xB00200 = Bits.uint 64 (s.total 0xB00200 + m) ∧
      (t.ldg.rem_ : Int) = (s.slotNws n).fmod 1000000000 ∧ t.cells = s.cells ∧ t.net = s.net) ∧
    (s.mstate = 4 ∨ s.frankerFor 1 = false ∨ (∀ b ∈ g.closed, b.sig.isSome = true ∨ b.holdup = true) → quiet .rootFranked) ∧
    (∀ b, s.mstate ≠ 4 → s.frankerFor 1 = true → g.closed.find? (fun x => x.sig.isNone && !x.holdup) = some b →
      (b.key ∉ s.sec.keys → quiet .rootFranked) ∧
      (b.key ∈ s.sec.keys → completes .rootFranked s fun t =>
        let sig := sign (b.key + 1) (digest b.hdr)
        t.cells = s.cells ∧ t.net = s.net ∧ regsBut s t [0x130010C] ∧
        t.ldg.closed = (g.closed.map fun x => if x.key = b.key ∧ x.hdr = b.hdr then { x with sig := some sig } else x) ∧
        (∀ j, j < 2048 → t.rdByte (batchAt b.place + j) = Bits.byteAt ({ b with sig := some sig } : Batch).bytes j) ∧
        (∀ a, (a < batchAt b.place ∨ batchAt b.place + 2048 ≤ a) → t.rdByte a = s.rdByte a) ∧
        (1000 < beat - b.beat ∨ b.early = true → raisesAt s t 0xA0A (Bits.le b.hdr 8 4) (beat - b.beat)) ∧
        (beat - b.beat ≤ 1000 → b.early = false → t.evl = s.evl))) ∧
    (¬ runs ∨ s.f Reg.SEC_STATUS_ENTROPY_FAIL = 1 ∨ s.frankerFor 2 = false → quiet .ledgerKeyReady) ∧
    (runs → s.f Reg.SEC_STATUS_ENTROPY_FAIL = 0 → s.frankerFor 2 = true →
      (∀ b, g.closed.find? (fun x => x.sig.isNone && !x.holdup && decide (x.key ≠ s.f Reg.SEC_EPOCH_EPOCH) && !s.sec.keys.contains x.key) = some b →
        completes .ledgerKeyReady s fun t => t.sec.keys = s.sec.keys ++ [b.key] ∧ t.sec.ready = s.sec.ready ∧
          t.sec.nextReady = s.sec.nextReady ∧ counts s t 0xE0010C ∧ fabricKept s t) ∧
      (current → s.sec.ready = none → completes .ledgerKeyReady s fun t => t.sec.ready.isSome = true ∧
        t.sec.keys = s.sec.keys ++ [s.f Reg.SEC_EPOCH_EPOCH] ∧ counts s t 0xE0010C ∧ fabricKept s t) ∧
      (current → s.sec.ready ≠ none → completes .ledgerKeyReady s fun t => t.sec.ready = s.sec.ready ∧
        t.sec.nextReady.isSome = true ∧ t.sec.nextAt = beat ∧ t.sec.keys = s.sec.keys ++ [(s.f Reg.SEC_EPOCH_EPOCH + 1) % 2 ^ 32] ∧
        counts s t 0xE0010C ∧ regsBut s t [0xE0010C] ∧ fabricKept s t)) ∧
    -- the host's rings
    (g.closed = [] ∨ s.delivers = false → quiet .batchDelivery) ∧
    (∀ b rest, g.closed = b :: rest → s.delivers = true →
      (b.sig = none → quiet .batchDelivery) ∧ (b.given = false → bx ≤ ringUsed bt bh → quiet .batchDelivery) ∧
      (b.sig ≠ none → b.given = false → ringUsed bt bh < bx → completes .batchDelivery s fun t => fabricKept s t ∧
        out 0xB00058 2048 bx bt t b.bytes ∧ t.f Reg.LDG_BX_TAIL_TAIL = (bt + 1) % 2 ^ 32 ∧
        (s.held 0 = false → s.held 1 = false → b.sent ≤ b.leaves.length → ringUsed rt rh + (b.leaves.length - b.sent) ≤ rx →
          t.ldg.closed = rest ∧ t.f Reg.LDG_RX_TAIL_TAIL = (rt + (b.leaves.length - b.sent)) % 2 ^ 32 ∧
          t.ldg.ring = g.ring ++ List.replicate (b.leaves.length - b.sent) true))) ∧
    (g.refusals = [] ∨ s.delivers = false ∨ rx ≤ ringUsed rt rh → quiet .refusalDelivery) ∧
    (∀ r rest, g.refusals = r :: rest → s.delivers = true → ringUsed rt rh < rx → completes .refusalDelivery s fun t =>
      t.ldg.refusals = rest ∧ t.outs = s.outs ++ [.hostWrite (s.rd64 0xB00040 + 672 * (rt % rx)) r] ∧
      t.f Reg.LDG_RX_TAIL_TAIL = (rt + 1) % 2 ^ 32 ∧ t.ldg.ring = g.ring ++ [false] ∧ fabricKept s t) ∧
    (writesAtOnce s →
      (ringUsed rt rh < ringUsed v.toNat rh → late (.ldgRxHead .host v) 0xB00050) ∧
      (ringUsed v.toNat rh ≤ ringUsed rt rh → completes (.ldgRxHead .host v) s fun t => t.f Reg.LDG_RX_HEAD_HEAD = v.toNat ∧ fabricKept s t ∧
        t.ldg.ring = g.ring.drop (ringUsed v.toNat rh) ∧ t.evl = s.evl ∧
        t.f Reg.LDG_STORE_USED_USED = s.f Reg.LDG_STORE_USED_USED - ((g.ring.take (ringUsed v.toNat rh)).filter id).length) ∧
      (ringUsed bt bh < ringUsed v.toNat bh → late (.ldgBxHead .host v) 0xB00068) ∧
      (ringUsed v.toNat bh ≤ ringUsed bt bh → completes (.ldgBxHead .host v) s fun t => t.f Reg.LDG_BX_HEAD_HEAD = v.toNat ∧ t.evl = s.evl ∧
        regsOnly s t ∧ regsBut s t [0xB00068])) ∧
    (s.mstate = 4 → late (.ldgRxHead .host v) 0xB00050 ∧ late (.ldgBxHead .host v) 0xB00068) ∧
    (runs → s.copyState c = 2 → s.copyState (1 - c) = 0 → s.ldgHalted = false → completes (.copyResilvered copy) s fun t =>
      t.copyState c = 0 ∧ regsBut s t [0xB00010, 0x130010C] ∧ raisesAt s t 0xA04 c 0 ∧
      (∀ a, entryAddr c 0 ≤ a → a < entryAddr c 0 + 0x40000000 → t.rdByte a = s.rdByte (a - entryAddr c 0 + entryAddr (1 - c) 0)) ∧
      (∀ a, a < entryAddr c 0 ∨ entryAddr c 0 + 0x40000000 ≤ a → t.rdByte a = s.rdByte a)) ∧
    (¬ runs ∨ s.copyState c ≠ 2 ∨ s.copyState (1 - c) ≠ 0 ∨ s.ldgHalted = true → quiet (.copyResilvered copy))

/-! ### Security and attestation -/

/-- Security commands of the host (RegisterWrites: the side-band's are its REG_WRITE): GO while one runs shows NOT_READY and counts a
refusal with event 0x0D04; else the command runs to its completion with its status, counted as refused with event 0x0D04 and with no
effect on fuses and keys where the status is not OK, and with its effect where it is; the first enrolment is OK in NOT_READY. Completion
shows the status and renews the nonce, as does a GO refused while one runs; where a signature is verified it comes while the franker
serves it (R321). Attestation answers one message each, with SPDM's codes (the model's choice, log entry 22),
signed by the identity key where it signs; in RMA only GET_VERSION is answered, and while entropy fails nothing that draws it is. -/
def Obligations.SecurityAndAttestation : Prop :=
  ∀ (s : State) (slot auth : Fin 4) (v : BitVec 6) (fail : Bool) (cs : BitVec 4) (off len : BitVec 16) (nonce : Bytes) (idx : Byte),
    let quiet (i : Instr) : Prop := completes i s fun t => t = s
    let key := s.keyBuf 0 1793
    let go (i : Instr) (op : Nat) (eff : State → Prop) : Prop :=
      let st := s.secStatus op slot.val v.toNat auth.val
      let verifies := decide (s.f Reg.SEC_STATUS_ENTROPY_FAIL ≠ 1) && !decide (op = 1 ∧ s.f Reg.SEC_STATUS_OWNER_EN = 0)
      (s.f Reg.SEC_CMD_RESULT_BUSY = 1 → completes i s fun t => t.f Reg.SEC_CMD_RESULT_STATUS = 0x30 ∧
        t = { s with regs := t.regs, evl := t.evl, sec := { s.sec with nonce := s.sec.draws, draws := s.sec.draws + 1 } } ∧
        t.f Reg.SEC_CMD_RESULT_BUSY = 1 ∧ counts s t 0xE00104 ∧ regsBut s t [0xE00008, 0xE00104, 0x130010C] ∧
        raisesAt s t 0xD04 (op + 16 * slot.val) 0x30) ∧
      (s.f Reg.SEC_CMD_RESULT_BUSY = 0 → (s.f Reg.SEC_STATUS_ENTROPY_FAIL = 1 → st = 0x30) ∧ completes i s fun t => fabricKept s t ∧
        t.f Reg.SEC_CMD_RESULT_BUSY = 1 ∧ t.f Reg.SEC_CMD_RESULT_STATUS = s.f Reg.SEC_CMD_RESULT_STATUS ∧ t.sec.result = st ∧
        t.rd 0xE00004 = BitVec.ofNat 32 (op + 16 * slot.val + 64 * v.toNat + 4096 * auth.val) ∧ (st = 0x21 → counts s t 0xE00100) ∧
        t.sec.verifies = verifies ∧ (st ≠ 0 → t.sec = { s.sec with result := st, verifies := verifies } ∧ t.rd 0xE00000 = s.rd 0xE00000 ∧ counts s t 0xE00104 ∧
          raisesAt s t 0xD04 (op + 16 * slot.val) st) ∧
        (st = 0 → eff t))
    let id (a : Nat) (t : State) : Prop := t.rdBytes (a + 32 * slot.val) 8 = Bits.fit (keyId key) 32
    let shows (i : Instr) (req : Bytes) (n : Nat) (m : Bytes) : Prop := completes i s fun t => t = { s with
      free := s.free + n, outs := s.outs ++ [.spdm m], sec := { s.sec with transcript := s.sec.transcript ++ req ++ m } }
    let errs (i : Instr) (code : Nat) : Prop := completes i s fun t => t = { s with outs := s.outs ++ [.spdm [0x12, 0x7F, BitVec.ofNat 8 code, 0]] }
    let rma := s.f Reg.SEC_STATUS_DEBUG = 2
    let fails := s.f Reg.SEC_STATUS_ENTROPY_FAIL = 1
    let signed (i : Instr) (req : Bytes) (code p1 p2 : Nat) (body : Bytes) : Prop := completes i s fun t =>
      let m := [0x12, BitVec.ofNat 8 code, BitVec.ofNat 8 p1, BitVec.ofNat 8 p2] ++ body
      t.outs = s.outs ++ [.spdm (m ++ Bits.fit (sign 0 (digest (s.sec.transcript ++ req ++ m))) 1536)] ∧
      t.sec = { s.sec with transcript := [], draws := s.sec.draws + 1 } ∧ counts s t 0xE00108 ∧ regsBut s t [0xE00108] ∧ fabricKept s t ∧ t.evl = s.evl
    let fresh := Config.shake256 (Config.entropy s.sec.draws ++ nonce) 32
    let version : Bytes := [0x12, 4, 0, 0, 0, 1, 0, 0x12]
    let ext (id : Nat) : Bytes := [4, 4] ++ Bits.toLe 2 id ++ Bits.toLe 4 (s.rd 0xD0001C).toNat
    let algorithms : Bytes := [0x12, 0x63, 0, 0] ++ Bits.toLe 2 52 ++ [1, 0] ++ Bits.zeros 24 ++ [1, 1, 0, 0] ++ ext 1 ++ ext 2
    let asked : Bytes := [0x12, 0xE0, 1, idx] ++ nonce ++ [0]
    let block (m : Nat) : Bytes := [BitVec.ofNat 8 m, 1] ++ Bits.toLe 2 67 ++ [0] ++ Bits.toLe 2 64 ++ s.rdBytes (0xE03000 + 64 * m) 16
    -- commands
    go (.enrollOwner .host slot auth v) 1 (fun t => Bits.bit (t.f Reg.SEC_STATUS_OWNER_EN) slot.val = true ∧
      t.sec.owners.get slot.val [] = key ∧ id 0xE02000 t ∧ raisesAt s t 0xD02 slot.val (Bits.le (keyId key) 0 4)) ∧
    (s.f Reg.SEC_STATUS_OWNER_EN = 0 → s.f Reg.SEC_STATUS_ENTROPY_FAIL = 0 →
      s.secStatus 1 slot.val v.toNat auth.val = (if s.mstate = 1 then 0 else 0x20)) ∧
    go (.revokeOwner .host slot auth v) 2 (fun t => Bits.bit (t.f Reg.SEC_STATUS_OWNER_REV) slot.val = true ∧
      t.sec.owners = s.sec.owners ∧ raisesAt s t 0xD03 slot.val auth.val) ∧
    go (.advanceSvn .host slot auth v) 3 (fun t => t.f Reg.SEC_STATUS_SVN_MIN = v.toNat ∧ s.f Reg.SEC_STATUS_SVN_MIN < v.toNat ∧
      raisesAt s t 0xD05 v.toNat (s.f Reg.SEC_STATUS_SVN_MIN)) ∧
    go (.setPackIssuer .host slot auth v) 4 (fun t => Bits.bit (t.f Reg.SEC_STATUS_PACK_EN) slot.val = true ∧
      t.sec.packs.get slot.val [] = key ∧ id 0xE02100 t ∧ raisesAt s t 0xD06 (slot.val + 256) (Bits.le (keyId key) 0 4)) ∧
    go (.clearPackIssuer .host slot auth v) 5 (fun t => Bits.bit (t.f Reg.SEC_STATUS_PACK_EN) slot.val = false ∧
      t.sec.packs.get slot.val [] = [] ∧ t.rdBytes (0xE02100 + 32 * slot.val) 8 = Bits.zeros 32 ∧ raisesAt s t 0xD06 slot.val 0) ∧
    go (.rotateLedger .host slot auth v) 6 (fun t => t.sec.rotate = true ∧ s.f Reg.LDG_STATUS_RUN = 1 ∧ t.rd 0xE00000 = s.rd 0xE00000) ∧
    go (.enterRma .host slot auth v) 7 (fun t => t.f Reg.SEC_STATUS_DEBUG = 2 ∧ t.f Reg.SEC_STATUS_ID_OK = 0 ∧ s.mstate = 1 ∧ raisesAt s t 0xD09 0 0) ∧
    (s.f Reg.SEC_CMD_RESULT_BUSY = 1 → s.sec.verifies = false ∨ s.frankerFor 3 = true → completes .secCommandComplete s fun t =>
      t.f Reg.SEC_CMD_RESULT_BUSY = 0 ∧ t.f Reg.SEC_CMD_RESULT_STATUS = s.sec.result % 2 ^ 16 ∧ t.evl = s.evl ∧ fabricKept s t ∧
      t.sec = { s.sec with
        nonce := s.sec.draws, draws := s.sec.draws + 1, serving := if s.sec.verifies then 0 else s.sec.serving
        done := s.sec.done + Bits.ofBool s.sec.verifies } ∧ regsBut s t [0xE00008] ∧
      ∀ j, j < 8 → t.peek (0xE00020 + 4 * j) = BitVec.ofNat 32 (Bits.le (Config.shake256 (Config.entropy s.sec.draws) 32) (4 * j) 4)) ∧
    (s.f Reg.SEC_CMD_RESULT_BUSY = 0 ∨ (s.sec.verifies = true ∧ s.frankerFor 3 = false) → quiet .secCommandComplete) ∧
    (s.f Reg.SEC_STATUS_ENTROPY_FAIL ≠ Bits.ofBool fail → completes (.entropyHealthChange fail) s fun t => regsOnly s t ∧
      t.f Reg.SEC_STATUS_ENTROPY_FAIL = Bits.ofBool fail ∧ regsBut s t [0xE00000, 0x130010C] ∧ raisesAt s t 0xD08 (Bits.ofBool fail) 0) ∧
    (s.f Reg.SEC_STATUS_ENTROPY_FAIL = Bits.ofBool fail → quiet (.entropyHealthChange fail)) ∧
    -- attestation
    (completes .getVersion s fun t => t = { s with
      outs := s.outs ++ [.spdm version], sec := { s.sec with transcript := [0x10, 0x84, 0, 0] ++ version, negotiated := false } }) ∧
    (rma → errs .getCapabilities 7 ∧ errs (.negotiateAlgorithms true true) 7 ∧ errs .getDigests 7 ∧ errs (.getCertificate cs off len) 7 ∧
      errs (.challenge cs nonce) 7 ∧ errs (.getMeasurements idx nonce) 7) ∧
    (¬ rma →
      shows .getCapabilities ([0x12, 0xE1, 0, 0] ++ s.freeBytes 4) 4 ([0x12, 0x61, 0, 0, 0, 0, 0, 0] ++ Bits.toLe 4 0x16 ++ Bits.zeros 8) ∧
      (∀ a b, (a && b) = false → errs (.negotiateAlgorithms a b) 0x0C) ∧
      (completes (.negotiateAlgorithms true true) s fun t => t = { s with
        free := s.free + 11, outs := s.outs ++ [.spdm algorithms], sec := { s.sec with
          negotiated := true, transcript := s.sec.transcript ++ ([0x12, 0xE3, 0, 0] ++ s.freeBytes 11) ++ algorithms } }) ∧
      shows .getDigests [0x12, 0x81, 0, 0] 0 ([0x12, 1, 0, 3] ++ (digest (s.chain 0) ++ digest (s.chain 1))) ∧
      (1 < cs.toNat → errs (.getCertificate cs off len) 1) ∧
      (cs.toNat ≤ 1 → let c := s.chain cs.toNat
        let part := (c.drop off.toNat).take len.toNat
        shows (.getCertificate cs off len) ([0x12, 0x82, BitVec.ofNat 8 cs.toNat, 0] ++ Bits.toLe 2 off.toNat ++ Bits.toLe 2 len.toNat) 0 ([0x12, 2, BitVec.ofNat 8 cs.toNat, 0] ++
          (Bits.toLe 2 part.length ++ Bits.toLe 2 (c.length - off.toNat - part.length) ++ part))) ∧
      (fails → errs (.challenge cs nonce) 0x42 ∧ errs (.getMeasurements idx nonce) 0x42) ∧
      (¬ fails →
        (1 < cs.toNat → errs (.challenge cs nonce) 1) ∧
        (cs.toNat ≤ 1 → signed (.challenge cs nonce) ([0x12, 0x83, BitVec.ofNat 8 cs.toNat, 0] ++ nonce) 3 cs.toNat 3
          (digest (s.chain cs.toNat) ++ fresh ++ [0, 0])) ∧
        (idx = 0 → signed (.getMeasurements idx nonce) asked 0x60 37 0 ([0, 0, 0, 0] ++ fresh ++ [0, 0])) ∧
        (idx = 255 → signed (.getMeasurements idx nonce) asked 0x60 0 0 (let m := measIndices.flatMap block
          [37] ++ Bits.toLe 3 m.length ++ m ++ fresh ++ [0, 0])) ∧
        ((1 ≤ idx.toNat ∧ idx.toNat ≤ 5) ∨ (16 ≤ idx.toNat ∧ idx.toNat ≤ 47) →
          signed (.getMeasurements idx nonce) asked 0x60 0 0 (let m := block idx.toNat
            [1] ++ Bits.toLe 3 m.length ++ m ++ fresh ++ [0, 0])) ∧
        ((6 ≤ idx.toNat ∧ idx.toNat ≤ 15) ∨ (48 ≤ idx.toNat ∧ idx.toNat ≤ 254) → errs (.getMeasurements idx nonce) 1)))

/-! ### Bring-up and retraining -/

/-- Bring-up: each step's work acts only while its step runs, and ends it with the status and reason of its outcome; the end of a step
shows them with event 0x0E01 (a memory test's beside its own) and, where no trigger of a higher rank holds, brings what the step is
for: step 2 the firmware, step 3 the released beat counter, step 9 READY from NOT_READY and from no other state, step 10 IN_SERVICE of a
module without a twin; a limit reached ends a step with reason 15; a failure that only a power-on or new firmware cures fails the step again
(R337). Step 8 sends REF on every port or chain position. Retraining takes the channels in turn, serves what waited for one and counts each
result; the units that a lost PLL clocks stop. -/
def Obligations.BringUpAndRetraining : Prop :=
  ∀ (s : State) (ok ok2 : Bool) (tj : BitVec 12) (failed cut : BitVec 32) (fails : List (Nat × Word)) (repairs : List (Nat × Nat))
      (cells : List (CellId × Nat)) (clusters : List (Nat × Nat)) (bad : List Nat) (found : Topology) (pll : Pll),
    let beat := s.beat.toNat
    let n := s.f Reg.BUP_RESULT_STEP
    let busy := s.f Reg.BUP_RESULT_BUSY = 1
    let quiet (i : Instr) : Prop := completes i s fun t => t = s
    let work (k : Nat) (i : Instr) (P : State → Prop) : Prop := (s.working k = true → completes i s P) ∧ (s.working k = false → quiet i)
    let ends (t : State) (st r : Nat) : Prop := t.bup.outcome = some (st, r)
    let only (t : State) (st r : Nat) : Prop := t = { s with bup := { s.bup with outcome := some (st, r), stuck := t.bup.stuck } } ∧
      t.bup.stuck = s.bup.stuck ++ if r = 1 then [1] else []
    let stuck (r : Nat) : Prop := r ∈ s.bup.stuck
    let rma := s.f Reg.SEC_STATUS_DEBUG = 2
    let topo := s.topo
    let image := (s.seqImage.length + 63) / 64 % 2 ^ 16 + 2 ^ 16 * (s.f Reg.PM_BUILD_LO % 2 ^ 16)
    let a := s.hif.pmBank
    let fault (b : Nat) : Nat := fwFault (s.sec.banks.get b []) 1 (s.f Reg.SEC_STATUS_SVN_MIN)
    let live (t : State) (p : Nat) := t.live? p = true
    let ended (i : Instr) (st r : Nat) (P : State → Prop) : Prop := completes i s fun t =>
      t.f Reg.BUP_RESULT_BUSY = 0 ∧ t.f Reg.BUP_RESULT_STATUS = st % 2 ^ 16 ∧ t.f Reg.BUP_RESULT_REASON = r % 2 ^ 8 ∧ t.bup.outcome = none ∧
      t.bup.last = (if st = 0 ∧ n ≤ 9 then n else s.bup.last) ∧ (n ≠ 5 → raisesAt s t 0xE01 (n + 256 * r) st) ∧ P t
    let brings (st : Nat) (t : State) : Prop :=
      (st ≠ 0 → t.mstate = s.mstate ∧ t.released = s.released) ∧
      (st = 0 → (n = 2 → t.f Reg.PM_STATUS_CORES = 15 ∧ t.f Reg.PM_STATUS_FW_RUN = 1) ∧
        (n = 3 → t.released = true ∧ t.beat = 0 ∧ t.cycle = 0 ∧ t.f Reg.CLK_STATUS_RUN = 1) ∧ (n = 9 → s.mstate ≠ 1 → t.mstate = s.mstate) ∧
        (n = 9 → s.mstate = 1 → ¬ rma → s.outranks 6 = false → t.mstate = 2) ∧ (n = 9 → s.mstate = 1 → rma → t.mstate = 1) ∧
        (n = 10 → s.mstate = 2 → s.f Reg.TWN_CFG_MODE = 0 → s.outranks 6 = false → t.mstate = 3 ∧ t.gstate = 1))
    let limit := if n = 10 then 1000 else stepLimit n * 1000000
    let c := s.bup.nextCh
    let turn := s.released = true ∧ s.f Reg.BUP_RETRAIN_EN = 1 ∧ s.mstate ≠ 1 ∧ s.bup.channel = none ∧
      s.bup.turnAt + s.lf Reg.BUP_RETRAIN_INTERVAL_MS * 1000 ≤ beat ∧ (4 ≤ c ∨ beat % 1000 = 400)
    -- steps 1 to 4
    work 1 (.fuseRomCheck ok ok2) (fun t => (ok = false ∨ stuck 1 → only t 0x30 1) ∧
      (ok = true → ¬ stuck 1 → ok2 = false ∨ stuck 2 → ends t 0x30 2 ∧ t.bup.stuck = s.bup.stuck ++ [2]) ∧
      (ok = true → ok2 = true → ¬ stuck 1 → ¬ stuck 2 → (identityOk = true → ¬ rma → ends t 0 0 ∧ t.f Reg.SEC_STATUS_ID_OK = 1) ∧
        (identityOk = false ∨ rma → ends t 0x21 3 ∧ t.f Reg.SEC_STATUS_ID_OK = 0 ∧ counts s t 0xE00100 ∧ raisesAt s t 0xD01 0 0))) ∧
    work 2 .firmwareVerify (fun t =>
      (fault a = 0 → ends t 0 0 ∧ (a ≤ 1 → t.f Reg.HIF_FW_STATUS_PM_BANK = a) ∧ t.evl = s.evl) ∧
      (fault a ≠ 0 → raisesAt s t 0xD01 (1 + 65536 * fault a) a ∧
        (fault (1 - a) = 0 → ends t 0 0 ∧ t.f Reg.HIF_FW_STATUS_PM_BANK = 1 - a ∧ counts s t 0xE00100) ∧
        (fault (1 - a) ≠ 0 → ends t 0x21 4))) ∧
    work 3 (.clocksStart ok ok2 tj) (fun t => t.f Reg.MPW_TJ_TJ_MAX = tj.toNat ∧ t.f Reg.MPW_TJ_SENSOR < 40 ∧ t.evl = s.evl ∧ t.released = s.released ∧
      (10 * s.f Reg.MPW_THERM_T_THR ≤ tj.toNat → ends t 0x30 5) ∧
      (tj.toNat < 10 * s.f Reg.MPW_THERM_T_THR → t.f Reg.CLK_STATUS_FAB_LOCK = Bits.ofBool ok ∧ t.f Reg.CLK_STATUS_LINK_LOCK = Bits.ofBool ok2 ∧
        ends t (if ok && ok2 then 0 else 0x30) (if ok && ok2 then 0 else 6))) ∧
    work 4 (.lpddr5Training ok) (fun t => (ok = true → ends t 0 0 ∧ t.f Reg.CLK_STATUS_MEM_LOCK = 1) ∧ (ok = false → ends t 0x30 7 ∧
      t = { s with regs := t.regs, bup := t.bup, free := t.free } ∧ regsBut s t [0x1400000])) ∧
    -- steps 5 to 7
    work 5 (.memoryTest failed cut fails repairs) (fun t => t.bup.dram = true ∧
      (∀ x, 2 ^ 47 ≤ x → x < 3 * 2 ^ 46 → t.rdByte x = 0xFF) ∧
      (∀ p, p < 32 → (Bits.bit (t.f Reg.BUP_DRAM_FAIL_FAIL) p = true ↔ Bits.bit failed.toNat p = true ∨
        Bits.bit (s.f Reg.BUP_DRAM_FAIL_FAIL) p = true ∨ ∃ e ∈ fails, e.1 % 32 = p)) ∧
      (∀ p, p < 32 → (Bits.bit (t.f Reg.BUP_PART_AVAIL_AVAIL) p = true ↔ Bits.bit (t.f Reg.BUP_DRAM_FAIL_FAIL) p = false ∧
        Bits.bit cut.toNat p = false)) ∧
      (cut ≠ 0 → ends t 0x30 15) ∧ (cut = 0 → t.f Reg.BUP_DRAM_FAIL_FAIL % 4 ≠ 0 ∨ stuck 8 → ends t 0x30 8 ∧ 8 ∈ t.bup.stuck) ∧
      (cut = 0 → t.f Reg.BUP_DRAM_FAIL_FAIL % 4 = 0 → ¬ stuck 8 → ends t 0 0)) ∧
    work 6 (.cellBist cells clusters) (fun t => (ends t 0 0 ∨ ends t 0x30 9) ∧ (∀ x ∈ s.deadCells, x ∈ t.deadCells) ∧
      (ends t 0 0 → ∀ e ∈ cells, s.unavailable e.1.p.val = false → cellNo e.1 ∈ t.deadCells) ∧
      (s.deadCells.length + cells.length ≤ 8192 → ¬ stuck 9 → ends t 0 0) ∧ (stuck 9 → ends t 0x30 9) ∧
      (∀ e ∈ clusters, e.1 < 640 → s.unavailable (e.1 / 20) = false → s.cstate e.1 ≠ 3 → e.1 ∈ t.deadClusters)) ∧
    work 7 (.firmwareBroadcast bad) (fun t =>
      { type := 4, src := 0x8000, effect := beat + 2, param := image } ∈ t.circs ∧ (∀ k ∈ s.circs, k ∈ t.circs) ∧
      (∀ x ∈ bad, x < 640 → s.unavailable (x / 20) = false → s.cstate x ≠ 3 → x ∈ t.deadClusters) ∧
      ((∃ p, p < 32 ∧ Bits.bit (s.rd 0xF0100C).toNat p = true ∧ ¬ live t p) → ends t 0x30 10) ∧
      ((∀ p, p < 32 → Bits.bit (s.rd 0xF0100C).toNat p = true → live t p) → ends t 0 0)) ∧
    -- steps 8 to 10
    work 8 (.topologyDiscovery found) (fun t =>
      (s.diffs topo found = [] → ends t 0 0 ∧ t.rd 0xF02000 = 0) ∧
      (s.diffs topo found ≠ [] → ends t 0x31 11 ∧ t.rd 0xF02000 = BitVec.ofNat 32 (min 511 (s.diffs topo found).length)) ∧
      (topoBad topo = false → Bits.byteAt topo 7 = 0 → ∀ i, i < 96 → ∃ b, (i, b) ∈ t.twn.formed ∧ b.length = 26 ∧
        (Bits.byteAt b 0).toNat = 4 ∧ Bits.crcOk b 0 22 = true) ∧
      (topoBad topo = false → Bits.byteAt topo 7 = 1 → ∀ i, i < (Bits.byteAt topo 17).toNat → ∃ b, (i, b) ∈ t.twn.formed ∧
        (Bits.byteAt b 0).toNat = i ∧ (Bits.byteAt b 2).toNat = 4) ∧
      t.f Reg.TWN_STATUS_LINK = (if s.f Reg.TWN_CFG_MODE = 1 ∧ found.twinTrained = true ∧ found.twinLatency ≤ 200 then 1 else 0) ∧
      (s.f Reg.TWN_CFG_MODE = 0 → t.beat = s.beat) ∧
      (s.f Reg.TWN_CFG_MODE = 1 → found.twinTrained = true → s.f Reg.TWN_STATUS_MODULE = 1 → t.beat = found.peerBeat)) ∧
    (s.working 9 = true → s.bup.loading = false → completes .manifestLoad s fun t => t.bup.loading = true ∧ t.mem = s.mem ∧ t.cells = s.cells ∧
      ∀ p ∈ s.selected9, s.unavailable p = false → s.f (Reg.MAN_STATUS_STATE p) = 0 ∨ s.f (Reg.MAN_STATUS_STATE p) = 3 →
        (s.part p).deciding = false → (s.part p).swapAt = none → t.f (Reg.MAN_STATUS_STATE p) = 1 ∧
          (t.part p).candHalf = Bits.bit (s.f Reg.BUP_MAN_HALF_HALF) p) ∧
    (s.working 9 = false ∨ s.bup.loading = true → quiet .manifestLoad) ∧
    work 10 .prechargeEnable (fun t =>
      (s.f Reg.MAN_SHELF_VALID = 0 → only t 0x30 13) ∧ (s.f Reg.MAN_SHELF_VALID = 1 → s.f Reg.GLB_SAFE_CMD_SAFE_REQ = 1 → only t 0x30 14) ∧
      (s.f Reg.MAN_SHELF_VALID = 1 → s.f Reg.GLB_SAFE_CMD_SAFE_REQ = 0 → only t 0 0)) ∧
    -- the end of a step
    (¬ busy → quiet .stepEnd) ∧ (s.bup.outcome = none → n ≠ 9 ∨ s.loadsEnded = false → quiet .stepEnd) ∧
    (busy → (∀ st r, s.bup.outcome = some (st, r) → ended .stepEnd st r (brings st)) ∧
      (s.bup.outcome = none → n = 9 → s.loadsEnded = true → ended .stepEnd s.loadsOutcome.1 s.loadsOutcome.2 (brings s.loadsOutcome.1)) ∧
      (s.bup.outcome = none → s.released = false ∨ s.bup.began + limit ≤ beat → ended .stepTimeout 0x30 15 fun t =>
        t.mstate = s.mstate ∧ t.released = s.released ∧ (n = 5 → t.f Reg.BUP_PART_AVAIL_AVAIL = 0)) ∧
      (s.bup.outcome ≠ none ∨ (s.released = true ∧ beat < s.bup.began + limit) → quiet .stepTimeout)) ∧
    (¬ busy → quiet .stepTimeout) ∧
    -- retraining and the PLLs
    (turn → completes .retrainTurn s fun t => t.regs = s.regs ∧ fabricKept s t ∧
      t.bup = { s.bup with turnAt := beat, channel := some c, nextCh := (c + 1) % 64 }) ∧
    (¬ turn → quiet .retrainTurn) ∧
    (s.bup.channel = none → quiet (.retrainDone ok)) ∧
    (∀ ch off n, s.bup.channel = some ch → s.bup.waits = [.read off n] → s.bar4Open (off / 2 ^ 33) = true → off < 2 ^ 38 →
      off % 2 ^ 33 + n ≤ 2 ^ 33 → completes (.retrainDone true) s fun t => t.bup.waits = [] ∧ t.mem = s.mem ∧ t.outs = s.outs ++
        [.completion ((List.range n).map fun j => s.rdByte (2 ^ 47 + off / 2 ^ 33 * 2 ^ 41 + off % 2 ^ 33 + j))]) ∧
    (∀ ch, s.bup.channel = some ch → ch < 64 → s.bup.waits = [] →
      (completes (.retrainDone true) s fun t => counts s t 0xF00104 ∧ t.bup.channel = none ∧ t.bup.failRuns.get ch 0 = 0 ∧ t.evl = s.evl ∧
        t.f Reg.BUP_RETRAIN_STATUS_CHANNEL = ch ∧ t.f Reg.BUP_RETRAIN_STATUS_FAIL_RUN = 0 ∧ regsBut s t [0xF00034, 0xF00104]) ∧
      (let run := min 255 (s.bup.failRuns.get ch 0 + 1)
       completes (.retrainDone false) s fun t => counts s t 0xF00108 ∧ t.bup.channel = none ∧ t.bup.failRuns.get ch 0 = run ∧
        t.f Reg.BUP_RETRAIN_STATUS_CHANNEL = ch ∧ t.f Reg.BUP_RETRAIN_STATUS_FAIL_RUN = run ∧ raisesAt s t 0xE07 ch run ∧
        (run < 3 → t.rcv = s.rcv) ∧
        (3 ≤ run → s.underRung 3 (ch / 2) = false → ∃ f, t.rcv.faults = s.rcv.faults ++ [f] ∧ f.reason = 0x15 ∧ f.beat = beat))) ∧
    (s.released = true → completes (.pllLockLoss pll) s fun t =>
      t = { s with regs := t.regs, rcv := { s.rcv with stopped := s.rcv.stopped ++ [pll] } } ∧ regsBut s t [Reg.CLK_LOCK_LOSS_CNT_COUNT.off] ∧
      counts s t Reg.CLK_LOCK_LOSS_CNT_COUNT.off ∧ t.evl = s.evl) ∧
    (s.released = false → quiet (.pllLockLoss pll))

/-! ### Twin operation -/

/-- The twin pair: a complete frame of the coming boundary is taken once, with its ACTIVE, its state and, in a standby of an active peer,
grid control's state (whether the peer had a rung or swap, which clears SYNC, is a free value, log entry 42); while step 8 runs a frame
shows the peer alone; a standby whose active asks for a switch takes control at the boundary of R384; a lost link clears SYNC and brings a takeover by the standby of an active peer; a mirrored letter or write alone
in the list takes effect at N + 3; the self-check's items meet the peer's and the mismatch is decided one way, before any other change of
control; SYNC, return of control,
the host's switch requests with their refusals and the reference lock follow their conditions. Where no trigger of a higher rank holds,
taking control writes the new EPOCH, the cause and the beat, and enters IN_SERVICE. -/
def Obligations.TwinOperation : Prop :=
  ∀ (s : State) (frame : Bytes) (ok : Bool) (phase : BitVec 8) (n cyc : Nat) (l : Letter) (v : Word),
    let beat := s.beat.toNat
    let w := s.twn
    let quiet (i : Instr) : Prop := completes i s fun t => t = s
    let one (F : Fld) : Prop := s.f F = 1
    let standby := s.mstate = 4
    let runs := s.twinRuns = true
    let first := s.outranks 6 = false
    let miss := (s.rd 0x110010C).toNat
    let takes (t : State) (peer : Bytes) (cause : Nat) : Prop :=
      let e := if peer = [] then 1 else (Bits.le peer 4 2 + 1) % 65536
      t.mstate = 3 ∧ t.f Reg.TWN_STATUS_EPOCH = e ∧ t.f Reg.TWN_LAST_TAKE_CAUSE = cause ∧ t.f Reg.TWN_LAST_TAKE_EPOCH = e ∧
      t.f Reg.TWN_LAST_BEAT_BEAT = beat % 2 ^ 32 ∧ counts s t 0x1100100 ∧ t.twn.flip = some (beat + 1, true)
    let src := (Bits.byteAt frame 6).toNat
    let comes := s.power = true ∧ runs ∧ ok = true ∧ w.got = false ∧ frame.length = 3072 ∧ Bits.le frame 0 4 = (beat + 1) % 2 ^ 32
    let follows := standby ∧ src / 2 % 2 = 1
    let joins := s.power = true ∧ one Reg.TWN_CFG_MODE ∧ s.twnRuns = false ∧ s.f Reg.BUP_RESULT_BUSY = 1 ∧ s.f Reg.BUP_RESULT_STEP = 8 ∧
      ok = true ∧ frame.length = 3072
    let oldEpoch : Prop := w.peer = [] ∨ s.ldgRuns = false ∨ s.receiptEpoch = Bits.le frame 12 4
    let seen := (Bits.byteAt w.peer 6).toNat
    let switches := standby ∧ seen / 2 % 2 = 1 ∧ seen / 8 % 2 = 1 ∧ one Reg.TWN_STATUS_SYNC ∧ one Reg.TWN_STATUS_LINK ∧
      (beat + 1) % 1000 = 0 ∧ w.judge = none
    let g := Bits.le frame 8 4
    let due := w.mirror.any (fun e => decide (e.1 + 3 ≤ beat)) = true ∨ ∃ st, st < 8 ∧ (s.string st).waitDraw.any (fun k => decide (k + 3 ≤ beat)) = true
    let noWait := ∀ st, st < 8 → (s.string st).waitDraw.any (fun k => decide (k + 3 ≤ beat)) = false
    let clean := s.lf Reg.TWN_CFG_CLEAN_S
    let returns := standby ∧ runs ∧ s.f Reg.TWN_CFG_PREF = s.f Reg.TWN_STATUS_MODULE ∧ one Reg.TWN_STATUS_SYNC ∧ 0 < clean ∧
      clean ≤ (s.rd 0x110000C).toNat ∧ one Reg.TWN_STATUS_PEER_ACTIVE ∧ s.f Reg.TWN_STATUS_PEER_MSTATE = 3 ∧ (beat + 1) % 1000 = 0 ∧ w.judge = none
    let synced := standby ∧ runs ∧ one Reg.TWN_STATUS_LINK ∧ s.f Reg.TWN_STATUS_SYNC = 0 ∧ s.lf Reg.TWN_CFG_RESYNC_MS * 1000 ≤ w.matched
    let refused (c : Nat) : Prop := completes (.switch .host) s fun t => regsOnly s t ∧ regsBut s t [0x130010C] ∧ raisesAt s t 0x1005 c 0
    let peerSync := Bits.bit (Bits.byteAt w.peer 6).toNat 2 = true
    -- frames and the link
    (comes → completes (.twinFrame frame ok) s fun t => t.twn.peer = frame ∧ t.twn.got = true ∧ t.beat = s.beat ∧
      t.f Reg.TWN_STATUS_PEER_ACTIVE = src / 2 % 2 ∧ t.f Reg.TWN_STATUS_PEER_MSTATE = (Bits.byteAt frame 7).toNat % 16 ∧
      t.mstate = s.mstate ∧ t.cells = s.cells ∧
      (¬ follows → fabricKept s t ∧ regsBut s t [0x1100008] ∧ t.twn.mirror = w.mirror ∧ t.evl = s.evl) ∧
      (follows → t.rd 0x500000 = BitVec.ofNat 32 (g % 16 + 256 * (g / 16 % 1024)) ∧
        (oldEpoch → t.mem = s.mem ∧ (t.f Reg.TWN_STATUS_SYNC = s.f Reg.TWN_STATUS_SYNC → t.evl = s.evl)) ∧
        (t.f Reg.TWN_STATUS_SYNC ≠ s.f Reg.TWN_STATUS_SYNC → one Reg.TWN_STATUS_SYNC ∧ t.f Reg.TWN_STATUS_SYNC = 0 ∧
          (oldEpoch → raisesAt s t 0x1003 6 0)))) ∧
    (joins → completes (.twinFrame frame ok) s fun t => t = { s with regs := t.regs, twn := { w with peer := frame } } ∧
      t.f Reg.TWN_STATUS_PEER_ACTIVE = src / 2 % 2 ∧ t.f Reg.TWN_STATUS_PEER_MSTATE = (Bits.byteAt frame 7).toNat % 16 ∧
      regsBut s t [0x1100008]) ∧
    (¬ comes → ¬ joins → quiet (.twinFrame frame ok)) ∧
    (switches → first → takes s.switchTake w.peer 4 ∧ counts s s.switchTake 0x1100114) ∧ (¬ switches → s.switchTake = s) ∧
    (runs → one Reg.TWN_STATUS_LINK → 2 ≤ w.missRun → completes .twinLinkLost s fun t => t.f Reg.TWN_STATUS_LINK = 0 ∧
      t.f Reg.TWN_STATUS_SYNC = 0 ∧ t.twn.judge = none ∧ raisesAt s t 0x1004 1 miss ∧
      (standby → one Reg.TWN_STATUS_PEER_ACTIVE → s.f Reg.TWN_STATUS_PEER_MSTATE ≠ 5 → first → takes t w.peer 1) ∧
      (¬ (standby ∧ one Reg.TWN_STATUS_PEER_ACTIVE ∧ s.f Reg.TWN_STATUS_PEER_MSTATE ≠ 5) → t.mstate = s.mstate ∧ fabricKept s t)) ∧
    (¬ (runs ∧ one Reg.TWN_STATUS_LINK ∧ 2 ≤ w.missRun) → quiet .twinLinkLost) ∧
    -- mirrored inputs
    (¬ due → quiet .mirroredInject) ∧
    (n + 3 ≤ beat → noWait →
      (w.mirror = [(n, .letter l cyc)] → completes .mirroredInject s fun t => t.twn.mirror = [] ∧ t.regs = s.regs ∧
        t.net = s.net ++ [{ l with issued := 1250 * (n + 3) + cyc }]) ∧
      (w.mirror = [(n, .write 0x500010 v)] → completes .mirroredInject s fun t => t.twn.mirror = [] ∧ regsBut s t [0x500010] ∧
        t.rd 0x500010 = (s.rd 0x500010 &&& 0xFFF80000#32) ||| (v &&& 0x7FFFF#32) ∧ t.net = s.net)) ∧
    -- mismatches
    (w.judge = none → quiet .selfCheck ∧ quiet .takeoverDecision) ∧
    (∀ j own peer, w.judge = some (j, own, peer) →
      (w.mism = false → own.isSome = true → quiet .selfCheck) ∧
      (w.mism = true ∨ own = none → completes .selfCheck s fun t => t = { s with twn := t.twn } ∧ t.twn.mism = false ∧
        t.twn.judge = some (j, some (orItems (own.getD 0) s.selfItems), peer)) ∧
      (own = none ∨ peer = none ∨ beat ≤ j → quiet .takeoverDecision) ∧
      (∀ a b, own = some a → peer = some b → j < beat →
        let up := one Reg.TWN_STATUS_SYNC ∧ standby ∧ b ≠ 0 ∧ a = 0
        let down := peerSync ∧ s.mstate = 3 ∧ a ≠ 0 ∧ b = 0
        (up → first → completes .takeoverDecision s fun t => takes t w.peer 2 ∧ raisesAt s t 0x1002 (2 * a + 32 * b + 512) ((j - 3) % 2 ^ 32)) ∧
        (down → first → completes .takeoverDecision s fun t => t.mstate = 4 ∧ t.twn.flip = some (beat + 1, false) ∧
          raisesAt s t 0x1002 (2 * a + 32 * b + 512) ((j - 3) % 2 ^ 32)) ∧
        (¬ up → ¬ down → completes .takeoverDecision s fun t => t.mstate = s.mstate ∧ t.twn.judge = none ∧ t.f Reg.TWN_STATUS_SYNC = 0 ∧
          fabricKept s t ∧ raisesAt s t 0x1002 (2 * a + 32 * b) ((j - 3) % 2 ^ 32)))) ∧
    -- synchronism and control
    (synced → completes .syncSet s fun t => regsOnly s t ∧ t.f Reg.TWN_STATUS_SYNC = 1 ∧ regsBut s t [0x1100008, 0x130010C] ∧
      raisesAt s t 0x1003 1 0) ∧
    (¬ synced → quiet .syncSet) ∧
    (returns → first → completes .returnOfControl s fun t => takes t w.peer 3 ∧ counts s t 0x1100114) ∧
    (¬ returns → quiet .returnOfControl) ∧
    (s.mstate ≠ 3 ∨ ¬ runs → refused 0) ∧
    (s.mstate = 3 → runs → (¬ peerSync ∨ s.f Reg.TWN_STATUS_LINK = 0 → refused 1) ∧
      (peerSync → one Reg.TWN_STATUS_LINK → (s.f Reg.TWN_STATUS_PEER_MSTATE = 5 → refused 2) ∧
        (s.f Reg.TWN_STATUS_PEER_MSTATE ≠ 5 → completes (.switch .host) s fun t => t = { s with twn := { w with asked := some beat } }))) ∧
    (∀ a, w.asked = some a → (a + 1000 ≤ beat → completes .switchTimeout s fun t => t.twn = { w with asked := none } ∧
      regsBut s t [0x130010C] ∧ fabricKept s t ∧ raisesAt s t 0x1005 3 0) ∧ (beat < a + 1000 → quiet .switchTimeout)) ∧
    (w.asked = none → quiet .switchTimeout) ∧
    (one Reg.TWN_CFG_MODE → s.mstate ≠ 3 → completes (.twinLock phase) s fun t => t = { s with regs := t.regs } ∧
      t.f Reg.CLK_STATUS_TWIN_LOCK = 1 ∧ t.f Reg.CLK_STATUS_REF_SRC = 1 ∧ t.f Reg.CLK_TWIN_PHASE_OFFSET = phase.toNat ∧
      regsBut s t [0x1400000, 0x1400008]) ∧
    (s.f Reg.TWN_CFG_MODE = 0 ∨ s.mstate = 3 → quiet (.twinLock phase))

/-! ### Collections and the event log -/

/-- The event log and collections: the front of the queue, or behind it one of the same cycle from a block with lower codes, is written as
a repeat of the last record, as the record at TAIL or counted at a full log, with SEV bit 3 in HOLDUP, and an event 0x1103 follows a run
of drops; the host's clear needs the key and ends with event 0x1102 as record 0, of which a log that HOLDUP has closed takes none;
collections fall due, are requested by the host, wait for the one in progress, and complete with their number, their late units and the
next one. -/
def Obligations.EventLogAndCollections : Prop :=
  ∀ (s : State) (v late : Word),
    let beat := s.beat.toNat
    let quiet (i : Instr) : Prop := completes i s fun t => t = s
    let l := s.evl
    let tail := s.tail
    let last := s.lastRec
    let e := beat + 2
    let n := s.cnt.next
    let due := s.released = true ∧ s.lf Reg.CNT_CFG_PERIOD_MS ≠ 0 ∧ e % (s.lf Reg.CNT_CFG_PERIOD_MS * 1000) = 0 ∧ s.cnt.dueAt ≠ some e
    let issued (t : State) : Prop := t.cnt.cur = some (n, e, false) ∧ t.cnt.next = (n + 1) % 2 ^ 32 ∧ t.f Reg.CNT_STATUS_BUSY = 1 ∧
      t.circs = insertCirc { type := 1, src := 0x8000, effect := e, param := n } s.circs ∧ t.mem = s.mem ∧ t.net = s.net
    let pends (t : State) : Prop := t.f Reg.CNT_STATUS_PENDING = 1 ∧ t.cnt.cur = s.cnt.cur ∧ regsBut s t [0x1200008] ∧ fabricKept s t ∧ t.evl = l
    let m := late.toNat &&& lateMask
    (s.f Reg.EVL_STATUS_CLEARING = 1 ∨ l.queue = [] → quiet .eventRecordWrite) ∧
    (∀ q x r, firstEv q = some (x, r) → ∃ before after, q = before ++ x :: after ∧ r = before ++ after ∧
      ∀ y ∈ before, y.cycle = x.cycle ∧ x.code / 256 < y.code / 256) ∧
    (∀ x r, s.f Reg.EVL_STATUS_CLEARING = 0 → firstEv l.queue = some (x, r) →
      let sev := severity x.code + (if s.mstate = 6 ∨ x.hold = true then 8 else 0)
      let same := last.mark = 0xA5 ∧ last.code = x.code ∧ last.sev = sev ∧ last.src = x.src ∧ last.p0 = x.p0 ∧ last.rep < 65535
      completes .eventRecordWrite s fun t => fabricKept s t ∧
        (l.dropped.1 = 0 → t.evl.queue = r) ∧
        (l.dropped.1 ≠ 0 → t.evl.dropped = (0, 0) ∧ ∃ y, t.evl.queue = r ++ [y] ∧ y.code = 0x1103 ∧
          y.p0 = BitVec.ofNat 32 l.dropped.1 ∧ y.p1 = BitVec.ofNat 32 l.dropped.2) ∧
        (same → t.tail = tail ∧ counts s t 0x1300104 ∧ t.evl.recs.get (tail - 1) {} = { last with rep := last.rep + 1 }) ∧
        (¬ same → 131072 ≤ tail → t.tail = tail ∧ counts s t 0x1300108 ∧ t.evl.recs = l.recs) ∧
        (¬ same → tail < 131072 → t.tail = tail + 1 ∧ counts s t 0x1300100 ∧ (tail = 131071 → t.f Reg.EVL_STATUS_FULL = 1) ∧
          t.evl.recs.get tail {} = { code := x.code, sev := sev, mark := 0xA5, rep := 0, src := x.src, ops := s.f Reg.EVL_OPS_OP_SECONDS
                                     pons := s.f Reg.EVL_PWR_POWER_ONS, p0 := x.p0, p1 := x.p1, p2 := x.p2, p3 := x.p3 } ∧
          ∀ k, k ≠ tail → t.evl.recs.get k {} = l.recs.get k {})) ∧
    (v = 0xE71C0350 → s.f Reg.EVL_STATUS_CLEARING = 0 → completes (.logClear .host v) s fun t => t.f Reg.EVL_STATUS_CLEARING = 1 ∧
      t.evl.recs = l.recs ∧ t.evl.queue = l.queue ∧ regsBut s t [0x1300004] ∧ fabricKept s t) ∧
    (v ≠ 0xE71C0350 ∨ s.f Reg.EVL_STATUS_CLEARING = 1 → completes (.logClear .host v) s fun t => regsOnly s t ∧ regsBut s t [0x130010C] ∧
      raisesAt s t 0x1104 0x1300008 v.toNat) ∧
    (s.f Reg.EVL_STATUS_CLEARING = 1 → l.closed = true → completes .logClearDone s fun t => t.tail = 0 ∧ t.f Reg.EVL_STATUS_CLEARING = 0 ∧
      t.evl.recs = [] ∧ t.evl.queue = l.queue ∧ t.evl.missed.1 = l.missed.1 + 1 ∧ fabricKept s t) ∧
    (s.f Reg.EVL_STATUS_CLEARING = 1 → l.closed = false → completes .logClearDone s fun t => t.tail = 1 ∧ t.f Reg.EVL_STATUS_CLEARING = 0 ∧
      t.f Reg.EVL_STATUS_FULL = 0 ∧ t.f Reg.EVL_STATUS_CLEARS = (s.f Reg.EVL_STATUS_CLEARS + 1) % 65536 ∧ t.evl.queue = l.queue ∧
      fabricKept s t ∧ (∀ k, 1 ≤ k → t.evl.recs.get k {} = {}) ∧
      let r := t.evl.recs.get 0 {}
      r.code = 0x1102 ∧ r.mark = 0xA5 ∧ r.p0 = BitVec.ofNat 32 l.before.1 ∧ r.p1 = BitVec.ofNat 32 l.before.2) ∧
    (s.f Reg.EVL_STATUS_CLEARING = 0 → quiet .logClearDone) ∧
    (due → (s.cnt.cur = none → completes .collectionDue s fun t => issued t ∧ t.cnt.dueAt = some e) ∧
      (s.cnt.cur ≠ none → completes .collectionDue s fun t => pends t ∧ t.cnt.dueAt = some e)) ∧
    (¬ due → quiet .collectionDue) ∧
    (s.released = false ∨ s.mstate = 6 → completes (.collectionRequest .host) s fun t => regsOnly s t ∧ regsBut s t [0x130010C] ∧
      raisesAt s t 0x1104 0x1200000 1) ∧
    (s.released = true → s.mstate ≠ 6 → (s.cnt.cur = none → completes (.collectionRequest .host) s issued) ∧
      (s.cnt.cur ≠ none → completes (.collectionRequest .host) s pends)) ∧
    (s.cnt.cur.any (·.2.2) = false → quiet (.collectionComplete late)) ∧
    (∀ k b, s.cnt.cur = some (k, b, true) →
      ((m ≠ 0 ∧ beat < b + 4) ∨ (m = 0 ∧ b + 4 < beat) → quiet (.collectionComplete late)) ∧
      ((m ≠ 0 ∧ b + 4 ≤ beat) ∨ (m = 0 ∧ beat ≤ b + 4) → completes (.collectionComplete late) s fun t => t.f Reg.CNT_DONE_NUM = k % 2 ^ 32 ∧ t.f Reg.CNT_LATE_LATE = m ∧
        t.f Reg.CNT_STATUS_VALID = 1 ∧ t.f Reg.CNT_STATUS_LATE = (if m = 0 then 0 else 1) ∧ counts s t 0x1200100 ∧ t.rd64 0x1200010 = b % 2 ^ 64 ∧
        t.rd (bankBase k) = BitVec.ofNat 32 k ∧ t.rd (bankBase k + 16) = BitVec.ofNat 32 m ∧
        (m ≠ 0 → counts s t 0x1200104 ∧ raisesAt s t 0x1101 k m) ∧ (m = 0 → t.evl = l) ∧ t.f Reg.CNT_STATUS_PENDING = 0 ∧
        (s.f Reg.CNT_STATUS_PENDING = 0 → t.f Reg.CNT_STATUS_BUSY = 0 ∧ t.cnt.cur = none ∧ fabricKept s t) ∧
        (s.f Reg.CNT_STATUS_PENDING = 1 → issued t)))

/-! ### Beats and register writes -/

/-- A beat boundary moves the beat counter on by one and the pins' runs with it, where the module has power and the counter is released;
where it has not, nothing changes. -/
def Obligations.BeatBoundary : Prop :=
  ∀ (s : State) (coolantN shelfN : Bool) (tj : List (BitVec 12)),
    (s.power = true → s.released = true → completes (.beatBoundary coolantN shelfN tj) s fun t =>
      t.beat = s.beat + 1 ∧ t.cycle = 0 ∧ t.grd.coolLow = (if coolantN then 0 else s.grd.coolLow + 1) ∧
      t.grd.coolHigh = (if coolantN then s.grd.coolHigh + 1 else 0) ∧ t.grd.shelfLow = if shelfN then 0 else s.grd.shelfLow + 1) ∧
    (s.power = false ∨ s.released = false → completes (.beatBoundary coolantN shelfN tj) s fun t => t = s)

/-- Writes of registers, by the host and by the side-band, of every register but RCV_REQ and MAN_LOAD_CTL (which RungsEnd and
ManifestLoads cover): a reserved offset ignores them, with an event where the block reports it, a locked field, an in-step register of a STANDBY
and a value out of range or against a relation refuse them whole with their block's event; a twin pair's active keeps an in-step write
for a later beat; an accepted one of a register that starts no operation sets the writable bits, clears RW1C bits written 1, and
changes nothing else, with its block's event where it would change a read-only bit of SEC or EVL. The side-band answers the status:
LOCKED_WRITE, OK with event 0x0C0A, or, where the write is ignored (a reserved or RO offset, a value out of range, a command that cannot
be), a free status and no event 0x0C0A (the model's choices, log entries 31, 43, 44 and 56); it answers LOCKED_WRITE of the host interface's block and NOT_READY of a block that does not serve or under a wrong
IANA number. A host write of part of a register is one of the whole with the other bytes as last accepted and no 1 for an RW1C bit (log
entry 55), and one of 8 bytes is two. Each command that is a register write is, on the side-band path, the REG_WRITE of its value. -/
def Obligations.RegisterWrites : Prop :=
  ∀ (s : State) (off : BitVec 25) (data : Bytes) (iana v : Word),
    let o := off.toNat / 4 * 4
    let word := s.lanes off.toNat data
    let host := Instr.registerWrite off data
    let side := Instr.regWrite (s.rd 0xD0001C) off v
    let says_ (st : Nat) : Prop := completes side s fun t => t = { s with outs := s.outs ++ [.sideband st []] }
    let ordinary := o ∉ [0x104, 0x200010, 0x500004, 0x500018, 0x600000, 0x600030, 0x600040, 0x800004, 0x800014, 0x900010, 0x900014, 0xA00018,
        0xB00050, 0xB00068, 0xD00004, 0xD00010, 0xE00004, 0xF00000, 0x1000008, 0x1100004, 0x1200000, 0x1300008] ∧
      inRow o 0x400000 4 32 = false ∧ inRow o 0x700000 4 512 = false ∧ inRow o 0xD01000 4 64 = false ∧ inRow o 0xD80000 4 1024 = false
    let write (i : Instr) (x : Word) (ack : Bool) : Prop :=
      let answers (t : State) (st : Nat) : Prop := t.outs = s.outs ++ (if ack then [.sideband st []] else [])
      let refused (st : Nat) : Prop := completes i s fun t => regsBut s t [0x130010C] ∧ fabricKept s t ∧ answers t st ∧
        (ack = false → regsOnly s t) ∧ ((refusalOf o).1 ≠ 0 → raisesAt s t (refusalOf o).1 o x.toNat)
      (rowOf o = none →
        (reportedRo.any (fun e => inRow o e.1 4 e.2) = false → completes i s fun t => (ack = false → t = s) ∧
          (ack = true → t = { s with outs := s.outs ++ [.sideband s.freeStatus []], free := s.free + 1 })) ∧
        (reportedRo.any (fun e => inRow o e.1 4 e.2) = true → refused s.freeStatus)) ∧
      ∀ r, rowOf o = some r → o ≠ 0x1000008 → inRow o 0x400000 4 32 = false →
        ((inStepOff o = true ∧ s.mstate = 4) ∨ s.locked r o x = true → refused 0x20) ∧
        (¬ ((inStepOff o = true ∧ s.mstate = 4) ∨ s.locked r o x = true) →
          (outOfRange o x = true ∨ s.relationBad o x = true → refused s.freeStatus) ∧
          (outOfRange o x = false → s.relationBad o x = false →
            (s.ignores o x.toNat = true → ack = true → completes i s fun t =>
              ∃ q, t.evl.queue = s.evl.queue ++ q ∧ ∀ e ∈ q, e.code ≠ 0xC0A) ∧
            (s.ignores o x.toNat = false → inStepOff o = true → s.twinActive = true → completes i s fun t => regsBut s t [0x130010C] ∧
              answers t 0 ∧ (ack = false → t.evl = s.evl) ∧ (ack = true → raisesAt s t 0xC0A o x.toNat) ∧
              ∃ b, t.twn.mirror = s.twn.mirror ++ [(b, .write o x (if ack then .sideband else .host))] ∧ s.beat.toNat ≤ b) ∧
            (ordinary → ¬ (inStepOff o = true ∧ s.twinActive = true) →
              let m := BitVec.ofNat 32 (r.rw + r.rws + r.rwl)
              let old := s.rd o &&& ~~~(x &&& BitVec.ofNat 32 r.rw1c)
              completes i s fun t => regsBut s t [o, 0x130010C] ∧ fabricKept s t ∧ answers t 0 ∧ t.rd o = (old &&& ~~~m) ||| (x &&& m) ∧
                (ack = false → regsOnly s t) ∧
                (s.roTouched r o x = true → raisesAt s t (refusalOf o).1 o x.toNat) ∧
                (s.roTouched r o x = false → (ack = false → t.evl = s.evl) ∧ (ack = true → raisesAt s t 0xC0A o x.toNat)))))
    let via (i : Path → Instr) (at_ : BitVec 25) (x : Nat) : Prop :=
      exec (i .sideband) s = exec (.regWrite (s.rd 0xD0001C) at_ (BitVec.ofNat 32 x)) s
    (s.power = false → completes host s fun t => t = s) ∧
    (s.power = true → data ≠ [] → off.toNat % 4 + data.length ≤ 4 → write host word false) ∧
    (∀ k, k < 4 → data ≠ [] → off.toNat % 4 + data.length ≤ 4 → word.toNat / 2 ^ (8 * k) % 256 =
      if off.toNat % 4 ≤ k ∧ k < off.toNat % 4 + data.length then (data.getD (k - off.toNat % 4) 0).toNat
      else (s.latest o &&& ~~~(BitVec.ofNat 32 (((rowOf o).map (·.rw1c)).getD 0))).toNat / 2 ^ (8 * k) % 256) ∧
    (s.power = true → data.length = 8 → off.toNat % 8 = 0 → ∀ t, exec (.registerWrite off (data.take 4)) s = .next t → t.power = true →
      exec host s = exec (.registerWrite (off + 4) (data.drop 4)) t) ∧
    (iana ≠ s.rd 0xD0001C → completes (.regWrite iana off v) s fun t => t = { s with outs := s.outs ++ [.sideband 0x30 []] }) ∧
    (inHif o = true → says_ 0x20) ∧ (inHif o = false → alwaysOn o = false → s.mainServes = false → says_ 0x30) ∧
    (inHif o = false → alwaysOn o = true ∨ s.mainServes = true → write side v true) ∧
    -- the commands on the side-band path
    (∀ (q f : Bool) (p : Fin 32) (h : BitVec 16) (e : Fin 64) (l : Fin 8) (b : Fin 24) (w8 : BitVec 8) (c : BitVec 7) (j : BitVec 5)
        (slot auth : Fin 4) (d : BitVec 6),
      let sec (i : Path → Fin 4 → Fin 4 → BitVec 6 → Instr) (op : Nat) : Prop :=
        via (fun x => i x slot auth d) 0xE00004 (secWord op slot.val auth.val d.toNat)
      via (.safeReq · q) 0x104 (if q then 1 else 0) ∧ via (.gateEn · v) 0x200010 v.toNat ∧
      via (.manifestStart · p f) (BitVec.ofNat 25 (0x400000 + 4 * p.val)) (1 + 4 * if f then 1 else 0) ∧
      via (.manifestUnload · p) (BitVec.ofNat 25 (0x400000 + 4 * p.val)) (2 + 4 * s.f (Reg.MAN_LOAD_CTL_HALF p.val)) ∧
      via (.preRetry ·) 0x500004 (Bits.setFld (s.latest 0x500004) 2 1 1).toNat ∧
      via (.coolantReq · q) 0x500004 (Bits.setFld (s.latest 0x500004) 0 1 (if q then 1 else 0)).toNat ∧
      via (.neighbourReq · q) 0x500004 (Bits.setFld (s.latest 0x500004) 1 1 (if q then 1 else 0)).toNat ∧
      via (.seqStart ·) 0x600030 (Bits.setFld (s.latest 0x600030) 0 2 1).toNat ∧
      via (.seqStop ·) 0x600030 (Bits.setFld (s.latest 0x600030) 0 2 2).toNat ∧ via (.thrForce · h) 0x600040 h.toNat ∧
      via (.loopClear · e l) (BitVec.ofNat 25 (0x700000 + 4 * (8 * e.val + l.val))) 1 ∧ via (.exit · b) 0x800014 (2 ^ b.val) ∧
      via (.iso · w8) 0x800018 w8.toNat ∧ via (.diagRequest · c j) 0x900010 (c.toNat + 256 * j.toNat + 65536) ∧
      via (.isoRelease · l) 0x900014 (2 ^ l.val) ∧ via (.reauth · l) 0xA00018 (2 ^ l.val) ∧
      via (.ldgRxHead · v) 0xB00050 v.toNat ∧ via (.ldgBxHead · v) 0xB00068 v.toNat ∧
      sec .enrollOwner 1 ∧ sec .revokeOwner 2 ∧ sec .advanceSvn 3 ∧ sec .setPackIssuer 4 ∧ sec .clearPackIssuer 5 ∧
      sec .rotateLedger 6 ∧ sec .enterRma 7 ∧
      via (.rungRequest · v) 0x1000008 v.toNat ∧ via (.switch ·) 0x1100004 1 ∧ via (.collectionRequest ·) 0x1200000 1 ∧
      via (.logClear · v) 0x1300008 v.toNat)

/-! ### The whole machine -/

/-- Every step keeps memory, the KEPT banks and the registers in their canonical forms, whatever command waits in front. -/
def Obligations.CanonicalStatesAreKept : Prop :=
  ∀ s t : State, memoryWf s = true → registersWf s = true → step s = .next t → memoryWf t = true ∧ registersWf t = true

/-- Right after reset: the module is NOT_READY with power, the beat counter is 0 and not released, nothing waits, no cell runs, nothing
is loaded or in flight, memory lists nothing, every register reads its Reset column but for the three that read otherwise from the
release of reset (log entry 3), and the canonical forms hold. -/
def Obligations.ResetState : Prop :=
  let s := State.reset
  memoryWf s = true ∧ registersWf s = true ∧ queueWf s = true ∧ s.pending = [] ∧ s.mstate = 1 ∧ s.f Reg.GLB_STATE_LAST_CAUSE = 7 ∧
  s.power = true ∧ s.beat = 0 ∧ s.released = false ∧ s.mem = [] ∧ s.kept = [] ∧ s.net = [] ∧ s.replies = [] ∧ s.circs = [] ∧
  (∀ n, s.cell n = {}) ∧ (∀ p, p < 32 → s.manOf p = none ∧ s.f (Reg.MAN_STATUS_STATE p) = 0) ∧ (∀ p sl, s.env p sl = {}) ∧
  (∀ r, r ∉ [0x100000, 0xE00000, 0x1400000] → s.rd r = resetWord r) ∧
  s.f Reg.PM_STATUS_CORES = 1 ∧ s.f Reg.CLK_STATUS_REF_OK = 1 ∧ s.f Reg.CLK_STATUS_FAB_LOCK = 0 ∧ s.f Reg.GLB_ID_DEVICE = 0x350 ∧
  s.gstate = 0 ∧ s.seqState = 0 ∧ (∀ b, b < 24 → s.bstate b = 0) ∧ (∀ k, k < 512 → s.lstate k = 0) ∧ (∀ k, k < 640 → s.cstate k = 2) ∧
  s.tail = 0 ∧ s.evl.queue = [] ∧ step s = .next s
end

