-- ==== Sys2Proof/Laws/Tab.lean ====
section
/-! SUPPORT. Laws of sparse tables: what a read after a write gives, and that every operation keeps the canonical form. -/

namespace Sys2Proof.Tab

variable {α : Type}

@[simp] theorem get_nil (k : Nat) (d : α) : Tab.get ([] : Tab α) k d = d := rfl

theorem get_cons (k' : Nat) (v : α) (r : Tab α) (k : Nat) (d : α) :
    Tab.get ((k', v) :: r) k d = if k = k' then v else Tab.get r k d := rfl

theorem get_drop_self (t : Tab α) (k : Nat) (d : α) : (t.drop k).get k d = d := by
  induction t with
  | nil => rfl
  | cons e r ih =>
    obtain ⟨k', v⟩ := e
    by_cases h : k = k' <;> simp [Tab.drop, Tab.get, h, ih]
    · subst h; exact ih

theorem get_drop_ne (t : Tab α) {k j : Nat} (d : α) (h : j ≠ k) : (t.drop k).get j d = t.get j d := by
  induction t with
  | nil => rfl
  | cons e r ih =>
    obtain ⟨k', v⟩ := e
    by_cases h1 : k = k'
    · subst h1; simp [Tab.drop, Tab.get, h, ih]
    · by_cases h2 : j = k' <;> simp [Tab.drop, Tab.get, h1, h2, ih]

theorem get_insert_self (t : Tab α) (k : Nat) (v d : α) : (t.insert k v).get k d = v := by
  induction t with
  | nil => simp [Tab.insert, Tab.get]
  | cons e r ih =>
    obtain ⟨k', v'⟩ := e
    by_cases h1 : k < k'
    · simp [Tab.insert, Tab.get, h1]
    · by_cases h2 : k = k'
      · simp [Tab.insert, Tab.get, h2]
      · simp [Tab.insert, Tab.get, h1, h2, ih]

theorem get_insert_ne (t : Tab α) {k j : Nat} (v d : α) (h : j ≠ k) : (t.insert k v).get j d = t.get j d := by
  induction t with
  | nil => simp [Tab.insert, Tab.get, h]
  | cons e r ih =>
    obtain ⟨k', v'⟩ := e
    by_cases h1 : k < k'
    · simp [Tab.insert, Tab.get, h1, h]
    · by_cases h2 : k = k'
      · subst h2; simp [Tab.insert, Tab.get, h]
      · by_cases h3 : j = k' <;> simp [Tab.insert, Tab.get, h1, h2, h3, ih]

variable [DecidableEq α]

/-- Reading the key just written gives the value written. -/
@[simp] theorem get_put_self (t : Tab α) (k : Nat) (v d : α) : (t.put k v d).get k d = v := by
  unfold Tab.put
  split
  · next h => rw [h]; exact get_drop_self t k d
  · exact get_insert_self t k v d

/-- Reading another key is not changed by a write. -/
theorem get_put_ne (t : Tab α) {k j : Nat} (v d e : α) (h : j ≠ k) : (t.put k v d).get j e = t.get j e := by
  unfold Tab.put
  split
  · exact get_drop_ne t e h
  · exact get_insert_ne t v e h

/-- Reading after a write. -/
theorem get_put (t : Tab α) (k j : Nat) (v d : α) :
    (t.put k v d).get j d = if j = k then v else t.get j d := by
  split
  · next h => rw [h]; simp
  · next h => exact get_put_ne t v d d h

omit [DecidableEq α] in
/-- Keys rise strictly, said of every pair. -/
theorem sorted_iff (t : Tab α) : t.sorted = true ↔ t.Pairwise fun a b => a.1 < b.1 := by
  induction t with
  | nil => simp [Tab.sorted]
  | cons e r ih =>
    obtain ⟨k, v⟩ := e
    cases r with
    | nil => simp [Tab.sorted]
    | cons e' r' =>
      obtain ⟨k', v'⟩ := e'
      have hs : Tab.sorted ((k, v) :: (k', v') :: r') = (decide (k < k') && Tab.sorted ((k', v') :: r')) := rfl
      rw [hs, Bool.and_eq_true, ih, decide_eq_true_eq]
      constructor
      · rintro ⟨h1, h2⟩
        refine List.pairwise_cons.2 ⟨fun x hx => ?_, h2⟩
        rcases List.mem_cons.1 hx with rfl | hx
        · exact h1
        · exact Nat.lt_trans h1 ((List.pairwise_cons.1 h2).1 x hx)
      · intro h
        obtain ⟨h1, h2⟩ := List.pairwise_cons.1 h
        exact ⟨h1 (k', v') (by simp), h2⟩

/-- The canonical form: keys rise strictly and no entry equals its unlisted value. -/
theorem wf_iff (t : Tab α) (d : Nat → α) :
    t.wf d = true ↔ (t.Pairwise fun a b => a.1 < b.1) ∧ ∀ e ∈ t, e.2 ≠ d e.1 := by
  simp [Tab.wf, sorted_iff, List.all_eq_true]

@[simp] theorem wf_nil (d : Nat → α) : Tab.wf ([] : Tab α) d = true := rfl

theorem wf_filter {t : Tab α} {d : Nat → α} (h : t.wf d = true) (p : Nat × α → Bool) :
    Tab.wf (t.filter p) d = true := by
  rw [wf_iff] at *
  exact ⟨h.1.filter _, fun e he => h.2 e (List.mem_filter.1 he).1⟩

theorem wf_outside {t : Tab α} {d : Nat → α} (h : t.wf d = true) (lo hi : Nat) : (t.outside lo hi).wf d = true :=
  wf_filter h _

omit [DecidableEq α] in
theorem drop_eq_filter (t : Tab α) (k : Nat) : t.drop k = t.filter fun e => !decide (k = e.1) := by
  induction t with
  | nil => rfl
  | cons e r ih =>
    obtain ⟨k', v⟩ := e
    by_cases h : k = k'
    · subst h; simp [Tab.drop, ih]
    · simp [Tab.drop, h, ih]

theorem wf_drop {t : Tab α} {d : Nat → α} (h : t.wf d = true) (k : Nat) : (t.drop k).wf d = true := by
  rw [drop_eq_filter]; exact wf_filter h _

omit [DecidableEq α] in
theorem mem_insert {t : Tab α} {k : Nat} {v : α} {e : Nat × α} (h : e ∈ t.insert k v) : e = (k, v) ∨ e ∈ t := by
  induction t with
  | nil => simpa [Tab.insert] using h
  | cons x r ih =>
    obtain ⟨k', v'⟩ := x
    simp only [Tab.insert] at h
    split at h
    · rcases List.mem_cons.1 h with h | h
      · exact .inl h
      · exact .inr h
    · split at h
      · rcases List.mem_cons.1 h with h | h
        · exact .inl h
        · exact .inr (List.mem_cons_of_mem _ h)
      · rcases List.mem_cons.1 h with h | h
        · exact .inr (by simp [h])
        · rcases ih h with h | h
          · exact .inl h
          · exact .inr (List.mem_cons_of_mem _ h)

omit [DecidableEq α] in
theorem pairwise_insert {t : Tab α} (h : t.Pairwise fun a b => a.1 < b.1) (k : Nat) (v : α) :
    (t.insert k v).Pairwise fun a b => a.1 < b.1 := by
  induction t with
  | nil => simp [Tab.insert]
  | cons x r ih =>
    obtain ⟨k', v'⟩ := x
    have h' := List.pairwise_cons.1 h
    simp only [Tab.insert]
    split
    · next hk =>
      refine List.pairwise_cons.2 ⟨fun e he => ?_, h⟩
      rcases List.mem_cons.1 he with rfl | he
      · exact hk
      · exact Nat.lt_trans hk (h'.1 e he)
    · next hk =>
      split
      · next hk2 => exact List.pairwise_cons.2 ⟨fun e he => by simpa [hk2] using h'.1 e he, h'.2⟩
      · next hk2 =>
        refine List.pairwise_cons.2 ⟨fun e he => ?_, ih h'.2⟩
        rcases mem_insert he with rfl | he
        · show k' < k; omega
        · exact h'.1 e he

/-- A write keeps the canonical form. -/
theorem wf_put {t : Tab α} {d : Nat → α} (h : t.wf d = true) (k : Nat) (v : α) : (t.put k v (d k)).wf d = true := by
  unfold Tab.put
  split
  · exact wf_drop h k
  · next hv =>
    rw [wf_iff] at *
    refine ⟨pairwise_insert h.1 k v, fun e he => ?_⟩
    rcases mem_insert he with rfl | he
    · exact hv
    · exact h.2 e he

/-- Replacing a range of one canonical table by that of another keeps the canonical form. -/
theorem wf_copyRange {t u : Tab α} {d : Nat → α} (ht : t.wf d = true) (hu : u.wf d = true) (lo hi : Nat) (hlh : lo ≤ hi) :
    (t.copyRange u lo hi).wf d = true := by
  rw [wf_iff] at *
  refine ⟨?_, fun e he => ?_⟩
  · unfold Tab.copyRange Tab.within
    refine List.pairwise_append.2 ⟨List.pairwise_append.2 ⟨ht.1.filter _, hu.1.filter _, ?_⟩, ht.1.filter _, ?_⟩
    · intro a ha b hb
      have h1 := (List.mem_filter.1 ha).2
      have h2 := (List.mem_filter.1 hb).2
      simp only [decide_eq_true_eq, Bool.and_eq_true] at h1 h2
      omega
    · intro a ha b hb
      have h2 := (List.mem_filter.1 hb).2
      simp only [decide_eq_true_eq] at h2
      rcases List.mem_append.1 ha with ha | ha
      all_goals
        have h1 := (List.mem_filter.1 ha).2
        simp only [decide_eq_true_eq, Bool.and_eq_true] at h1
        omega
  · unfold Tab.copyRange Tab.within at he
    rcases List.mem_append.1 he with he | he
    · rcases List.mem_append.1 he with he | he
      · exact ht.2 e (List.mem_filter.1 he).1
      · exact hu.2 e (List.mem_filter.1 he).1
    · exact ht.2 e (List.mem_filter.1 he).1

omit [DecidableEq α] in
theorem get_filter (t : Tab α) (p : Nat → Bool) (k : Nat) (d : α) :
    Tab.get (t.filter fun e => p e.1) k d = if p k then t.get k d else d := by
  induction t with
  | nil => simp
  | cons e r ih =>
    obtain ⟨k', v⟩ := e
    by_cases h : p k' = true
    · by_cases h2 : k = k'
      · subst h2; simp [Tab.get, h]
      · simp [Tab.get, h, h2, ih]
    · by_cases h2 : k = k'
      · subst h2
        rw [List.filter_cons_of_neg (by simpa using h), ih]; simp [h]
      · rw [List.filter_cons_of_neg (by simpa using h), ih]; simp [Tab.get, h2]

omit [DecidableEq α] in
/-- A key of the removed range reads as unlisted; every other key as before. -/
theorem get_outside (t : Tab α) (lo hi k : Nat) (d : α) :
    (t.outside lo hi).get k d = if lo ≤ k ∧ k < hi then d else t.get k d := by
  unfold Tab.outside
  rw [get_filter t (fun k => !(decide (lo ≤ k) && decide (k < hi)))]
  by_cases h : lo ≤ k ∧ k < hi <;> simp [h]

end Sys2Proof.Tab
end

