-- ==== Sys2Proof/Laws/State.lean ====
section
/-! SUPPORT. What each named update of the state leaves as it was, one lemma per field and per read; and what it changes. -/

namespace Sys2Proof.Machine

open Sys2Proof.Bits

/-! ### wr -/

@[simp] theorem State.wr_pending (s : State) (o : Nat) (w : Word) : (s.wr o w).pending = s.pending := rfl
@[simp] theorem State.wr_beat (s : State) (o : Nat) (w : Word) : (s.wr o w).beat = s.beat := rfl
@[simp] theorem State.wr_released (s : State) (o : Nat) (w : Word) : (s.wr o w).released = s.released := rfl
@[simp] theorem State.wr_cycle (s : State) (o : Nat) (w : Word) : (s.wr o w).cycle = s.cycle := rfl
@[simp] theorem State.wr_power (s : State) (o : Nat) (w : Word) : (s.wr o w).power = s.power := rfl
@[simp] theorem State.wr_live (s : State) (o : Nat) (w : Word) : (s.wr o w).live = s.live := rfl
@[simp] theorem State.wr_latchHost (s : State) (o : Nat) (w : Word) : (s.wr o w).latchHost = s.latchHost := rfl
@[simp] theorem State.wr_latchSide (s : State) (o : Nat) (w : Word) : (s.wr o w).latchSide = s.latchSide := rfl
@[simp] theorem State.wr_mem (s : State) (o : Nat) (w : Word) : (s.wr o w).mem = s.mem := rfl
@[simp] theorem State.wr_kept (s : State) (o : Nat) (w : Word) : (s.wr o w).kept = s.kept := rfl
@[simp] theorem State.wr_cells (s : State) (o : Nat) (w : Word) : (s.wr o w).cells = s.cells := rfl
@[simp] theorem State.wr_clusters (s : State) (o : Nat) (w : Word) : (s.wr o w).clusters = s.clusters := rfl
@[simp] theorem State.wr_deadCells (s : State) (o : Nat) (w : Word) : (s.wr o w).deadCells = s.deadCells := rfl
@[simp] theorem State.wr_deadClusters (s : State) (o : Nat) (w : Word) : (s.wr o w).deadClusters = s.deadClusters := rfl
@[simp] theorem State.wr_net (s : State) (o : Nat) (w : Word) : (s.wr o w).net = s.net := rfl
@[simp] theorem State.wr_replies (s : State) (o : Nat) (w : Word) : (s.wr o w).replies = s.replies := rfl
@[simp] theorem State.wr_circs (s : State) (o : Nat) (w : Word) : (s.wr o w).circs = s.circs := rfl
@[simp] theorem State.wr_routes (s : State) (o : Nat) (w : Word) : (s.wr o w).routes = s.routes := rfl
@[simp] theorem State.wr_envs (s : State) (o : Nat) (w : Word) : (s.wr o w).envs = s.envs := rfl
@[simp] theorem State.wr_acks (s : State) (o : Nat) (w : Word) : (s.wr o w).acks = s.acks := rfl
@[simp] theorem State.wr_parts (s : State) (o : Nat) (w : Word) : (s.wr o w).parts = s.parts := rfl
@[simp] theorem State.wr_progs (s : State) (o : Nat) (w : Word) : (s.wr o w).progs = s.progs := rfl
@[simp] theorem State.wr_rcv (s : State) (o : Nat) (w : Word) : (s.wr o w).rcv = s.rcv := rfl
@[simp] theorem State.wr_runs (s : State) (o : Nat) (w : Word) : (s.wr o w).runs = s.runs := rfl
@[simp] theorem State.wr_loops (s : State) (o : Nat) (w : Word) : (s.wr o w).loops = s.loops := rfl
@[simp] theorem State.wr_stg (s : State) (o : Nat) (w : Word) : (s.wr o w).stg = s.stg := rfl
@[simp] theorem State.wr_mon (s : State) (o : Nat) (w : Word) : (s.wr o w).mon = s.mon := rfl
@[simp] theorem State.wr_sst (s : State) (o : Nat) (w : Word) : (s.wr o w).sst = s.sst := rfl
@[simp] theorem State.wr_sec (s : State) (o : Nat) (w : Word) : (s.wr o w).sec = s.sec := rfl
@[simp] theorem State.wr_grd (s : State) (o : Nat) (w : Word) : (s.wr o w).grd = s.grd := rfl
@[simp] theorem State.wr_bud (s : State) (o : Nat) (w : Word) : (s.wr o w).bud = s.bud := rfl
@[simp] theorem State.wr_ldg (s : State) (o : Nat) (w : Word) : (s.wr o w).ldg = s.ldg := rfl
@[simp] theorem State.wr_mpw (s : State) (o : Nat) (w : Word) : (s.wr o w).mpw = s.mpw := rfl
@[simp] theorem State.wr_hif (s : State) (o : Nat) (w : Word) : (s.wr o w).hif = s.hif := rfl
@[simp] theorem State.wr_bup (s : State) (o : Nat) (w : Word) : (s.wr o w).bup = s.bup := rfl
@[simp] theorem State.wr_twn (s : State) (o : Nat) (w : Word) : (s.wr o w).twn = s.twn := rfl
@[simp] theorem State.wr_cnt (s : State) (o : Nat) (w : Word) : (s.wr o w).cnt = s.cnt := rfl
@[simp] theorem State.wr_evl (s : State) (o : Nat) (w : Word) : (s.wr o w).evl = s.evl := rfl
@[simp] theorem State.wr_outs (s : State) (o : Nat) (w : Word) : (s.wr o w).outs = s.outs := rfl
@[simp] theorem State.wr_free (s : State) (o : Nat) (w : Word) : (s.wr o w).free = s.free := rfl
@[simp] theorem State.wr_beatN (s : State) (o : Nat) (w : Word) : (s.wr o w).beatN = s.beatN := rfl
@[simp] theorem State.wr_lf (s : State) (o : Nat) (w : Word) (G : Fld) : (s.wr o w).lf G = s.lf G := rfl
@[simp] theorem State.wr_rdByte (s : State) (o : Nat) (w : Word) (i : Nat) : (s.wr o w).rdByte i = s.rdByte i := rfl
@[simp] theorem State.wr_cell (s : State) (o : Nat) (w : Word) (i : Nat) : (s.wr o w).cell i = s.cell i := rfl
@[simp] theorem State.wr_cl (s : State) (o : Nat) (w : Word) (i : Nat) : (s.wr o w).cl i = s.cl i := rfl
@[simp] theorem State.wr_part (s : State) (o : Nat) (w : Word) (i : Nat) : (s.wr o w).part i = s.part i := rfl
@[simp] theorem State.wr_prog (s : State) (o : Nat) (w : Word) (i j : Nat) : (s.wr o w).prog i j = s.prog i j := rfl
@[simp] theorem State.wr_env (s : State) (o : Nat) (w : Word) (i j : Nat) : (s.wr o w).env i j = s.env i j := rfl
@[simp] theorem State.wr_manOf (s : State) (o : Nat) (w : Word) (i : Nat) : (s.wr o w).manOf i = s.manOf i := rfl
@[simp] theorem State.wr_held (s : State) (o : Nat) (w : Word) (i : Nat) : (s.wr o w).held i = s.held i := rfl

/-! ### setF -/

@[simp] theorem State.setF_pending (s : State) (F : Fld) (v : Nat) : (s.setF F v).pending = s.pending := rfl
@[simp] theorem State.setF_beat (s : State) (F : Fld) (v : Nat) : (s.setF F v).beat = s.beat := rfl
@[simp] theorem State.setF_released (s : State) (F : Fld) (v : Nat) : (s.setF F v).released = s.released := rfl
@[simp] theorem State.setF_cycle (s : State) (F : Fld) (v : Nat) : (s.setF F v).cycle = s.cycle := rfl
@[simp] theorem State.setF_power (s : State) (F : Fld) (v : Nat) : (s.setF F v).power = s.power := rfl
@[simp] theorem State.setF_live (s : State) (F : Fld) (v : Nat) : (s.setF F v).live = s.live := rfl
@[simp] theorem State.setF_latchHost (s : State) (F : Fld) (v : Nat) : (s.setF F v).latchHost = s.latchHost := rfl
@[simp] theorem State.setF_latchSide (s : State) (F : Fld) (v : Nat) : (s.setF F v).latchSide = s.latchSide := rfl
@[simp] theorem State.setF_mem (s : State) (F : Fld) (v : Nat) : (s.setF F v).mem = s.mem := rfl
@[simp] theorem State.setF_kept (s : State) (F : Fld) (v : Nat) : (s.setF F v).kept = s.kept := rfl
@[simp] theorem State.setF_cells (s : State) (F : Fld) (v : Nat) : (s.setF F v).cells = s.cells := rfl
@[simp] theorem State.setF_clusters (s : State) (F : Fld) (v : Nat) : (s.setF F v).clusters = s.clusters := rfl
@[simp] theorem State.setF_deadCells (s : State) (F : Fld) (v : Nat) : (s.setF F v).deadCells = s.deadCells := rfl
@[simp] theorem State.setF_deadClusters (s : State) (F : Fld) (v : Nat) : (s.setF F v).deadClusters = s.deadClusters := rfl
@[simp] theorem State.setF_net (s : State) (F : Fld) (v : Nat) : (s.setF F v).net = s.net := rfl
@[simp] theorem State.setF_replies (s : State) (F : Fld) (v : Nat) : (s.setF F v).replies = s.replies := rfl
@[simp] theorem State.setF_circs (s : State) (F : Fld) (v : Nat) : (s.setF F v).circs = s.circs := rfl
@[simp] theorem State.setF_routes (s : State) (F : Fld) (v : Nat) : (s.setF F v).routes = s.routes := rfl
@[simp] theorem State.setF_envs (s : State) (F : Fld) (v : Nat) : (s.setF F v).envs = s.envs := rfl
@[simp] theorem State.setF_acks (s : State) (F : Fld) (v : Nat) : (s.setF F v).acks = s.acks := rfl
@[simp] theorem State.setF_parts (s : State) (F : Fld) (v : Nat) : (s.setF F v).parts = s.parts := rfl
@[simp] theorem State.setF_progs (s : State) (F : Fld) (v : Nat) : (s.setF F v).progs = s.progs := rfl
@[simp] theorem State.setF_rcv (s : State) (F : Fld) (v : Nat) : (s.setF F v).rcv = s.rcv := rfl
@[simp] theorem State.setF_runs (s : State) (F : Fld) (v : Nat) : (s.setF F v).runs = s.runs := rfl
@[simp] theorem State.setF_loops (s : State) (F : Fld) (v : Nat) : (s.setF F v).loops = s.loops := rfl
@[simp] theorem State.setF_stg (s : State) (F : Fld) (v : Nat) : (s.setF F v).stg = s.stg := rfl
@[simp] theorem State.setF_mon (s : State) (F : Fld) (v : Nat) : (s.setF F v).mon = s.mon := rfl
@[simp] theorem State.setF_sst (s : State) (F : Fld) (v : Nat) : (s.setF F v).sst = s.sst := rfl
@[simp] theorem State.setF_sec (s : State) (F : Fld) (v : Nat) : (s.setF F v).sec = s.sec := rfl
@[simp] theorem State.setF_grd (s : State) (F : Fld) (v : Nat) : (s.setF F v).grd = s.grd := rfl
@[simp] theorem State.setF_bud (s : State) (F : Fld) (v : Nat) : (s.setF F v).bud = s.bud := rfl
@[simp] theorem State.setF_ldg (s : State) (F : Fld) (v : Nat) : (s.setF F v).ldg = s.ldg := rfl
@[simp] theorem State.setF_mpw (s : State) (F : Fld) (v : Nat) : (s.setF F v).mpw = s.mpw := rfl
@[simp] theorem State.setF_hif (s : State) (F : Fld) (v : Nat) : (s.setF F v).hif = s.hif := rfl
@[simp] theorem State.setF_bup (s : State) (F : Fld) (v : Nat) : (s.setF F v).bup = s.bup := rfl
@[simp] theorem State.setF_twn (s : State) (F : Fld) (v : Nat) : (s.setF F v).twn = s.twn := rfl
@[simp] theorem State.setF_cnt (s : State) (F : Fld) (v : Nat) : (s.setF F v).cnt = s.cnt := rfl
@[simp] theorem State.setF_evl (s : State) (F : Fld) (v : Nat) : (s.setF F v).evl = s.evl := rfl
@[simp] theorem State.setF_outs (s : State) (F : Fld) (v : Nat) : (s.setF F v).outs = s.outs := rfl
@[simp] theorem State.setF_free (s : State) (F : Fld) (v : Nat) : (s.setF F v).free = s.free := rfl
@[simp] theorem State.setF_beatN (s : State) (F : Fld) (v : Nat) : (s.setF F v).beatN = s.beatN := rfl
@[simp] theorem State.setF_lf (s : State) (F : Fld) (v : Nat) (G : Fld) : (s.setF F v).lf G = s.lf G := rfl
@[simp] theorem State.setF_rdByte (s : State) (F : Fld) (v : Nat) (i : Nat) : (s.setF F v).rdByte i = s.rdByte i := rfl
@[simp] theorem State.setF_cell (s : State) (F : Fld) (v : Nat) (i : Nat) : (s.setF F v).cell i = s.cell i := rfl
@[simp] theorem State.setF_cl (s : State) (F : Fld) (v : Nat) (i : Nat) : (s.setF F v).cl i = s.cl i := rfl
@[simp] theorem State.setF_part (s : State) (F : Fld) (v : Nat) (i : Nat) : (s.setF F v).part i = s.part i := rfl
@[simp] theorem State.setF_prog (s : State) (F : Fld) (v : Nat) (i j : Nat) : (s.setF F v).prog i j = s.prog i j := rfl
@[simp] theorem State.setF_env (s : State) (F : Fld) (v : Nat) (i j : Nat) : (s.setF F v).env i j = s.env i j := rfl
@[simp] theorem State.setF_manOf (s : State) (F : Fld) (v : Nat) (i : Nat) : (s.setF F v).manOf i = s.manOf i := rfl
@[simp] theorem State.setF_held (s : State) (F : Fld) (v : Nat) (i : Nat) : (s.setF F v).held i = s.held i := rfl

/-! ### stage -/

@[simp] theorem State.stage_pending (s : State) (lo hi : Nat) : (s.stage lo hi).pending = s.pending := rfl
@[simp] theorem State.stage_beat (s : State) (lo hi : Nat) : (s.stage lo hi).beat = s.beat := rfl
@[simp] theorem State.stage_released (s : State) (lo hi : Nat) : (s.stage lo hi).released = s.released := rfl
@[simp] theorem State.stage_cycle (s : State) (lo hi : Nat) : (s.stage lo hi).cycle = s.cycle := rfl
@[simp] theorem State.stage_power (s : State) (lo hi : Nat) : (s.stage lo hi).power = s.power := rfl
@[simp] theorem State.stage_regs (s : State) (lo hi : Nat) : (s.stage lo hi).regs = s.regs := rfl
@[simp] theorem State.stage_latchHost (s : State) (lo hi : Nat) : (s.stage lo hi).latchHost = s.latchHost := rfl
@[simp] theorem State.stage_latchSide (s : State) (lo hi : Nat) : (s.stage lo hi).latchSide = s.latchSide := rfl
@[simp] theorem State.stage_mem (s : State) (lo hi : Nat) : (s.stage lo hi).mem = s.mem := rfl
@[simp] theorem State.stage_kept (s : State) (lo hi : Nat) : (s.stage lo hi).kept = s.kept := rfl
@[simp] theorem State.stage_cells (s : State) (lo hi : Nat) : (s.stage lo hi).cells = s.cells := rfl
@[simp] theorem State.stage_clusters (s : State) (lo hi : Nat) : (s.stage lo hi).clusters = s.clusters := rfl
@[simp] theorem State.stage_deadCells (s : State) (lo hi : Nat) : (s.stage lo hi).deadCells = s.deadCells := rfl
@[simp] theorem State.stage_deadClusters (s : State) (lo hi : Nat) : (s.stage lo hi).deadClusters = s.deadClusters := rfl
@[simp] theorem State.stage_net (s : State) (lo hi : Nat) : (s.stage lo hi).net = s.net := rfl
@[simp] theorem State.stage_replies (s : State) (lo hi : Nat) : (s.stage lo hi).replies = s.replies := rfl
@[simp] theorem State.stage_circs (s : State) (lo hi : Nat) : (s.stage lo hi).circs = s.circs := rfl
@[simp] theorem State.stage_routes (s : State) (lo hi : Nat) : (s.stage lo hi).routes = s.routes := rfl
@[simp] theorem State.stage_envs (s : State) (lo hi : Nat) : (s.stage lo hi).envs = s.envs := rfl
@[simp] theorem State.stage_acks (s : State) (lo hi : Nat) : (s.stage lo hi).acks = s.acks := rfl
@[simp] theorem State.stage_parts (s : State) (lo hi : Nat) : (s.stage lo hi).parts = s.parts := rfl
@[simp] theorem State.stage_progs (s : State) (lo hi : Nat) : (s.stage lo hi).progs = s.progs := rfl
@[simp] theorem State.stage_rcv (s : State) (lo hi : Nat) : (s.stage lo hi).rcv = s.rcv := rfl
@[simp] theorem State.stage_runs (s : State) (lo hi : Nat) : (s.stage lo hi).runs = s.runs := rfl
@[simp] theorem State.stage_loops (s : State) (lo hi : Nat) : (s.stage lo hi).loops = s.loops := rfl
@[simp] theorem State.stage_stg (s : State) (lo hi : Nat) : (s.stage lo hi).stg = s.stg := rfl
@[simp] theorem State.stage_mon (s : State) (lo hi : Nat) : (s.stage lo hi).mon = s.mon := rfl
@[simp] theorem State.stage_sst (s : State) (lo hi : Nat) : (s.stage lo hi).sst = s.sst := rfl
@[simp] theorem State.stage_sec (s : State) (lo hi : Nat) : (s.stage lo hi).sec = s.sec := rfl
@[simp] theorem State.stage_grd (s : State) (lo hi : Nat) : (s.stage lo hi).grd = s.grd := rfl
@[simp] theorem State.stage_bud (s : State) (lo hi : Nat) : (s.stage lo hi).bud = s.bud := rfl
@[simp] theorem State.stage_ldg (s : State) (lo hi : Nat) : (s.stage lo hi).ldg = s.ldg := rfl
@[simp] theorem State.stage_mpw (s : State) (lo hi : Nat) : (s.stage lo hi).mpw = s.mpw := rfl
@[simp] theorem State.stage_hif (s : State) (lo hi : Nat) : (s.stage lo hi).hif = s.hif := rfl
@[simp] theorem State.stage_bup (s : State) (lo hi : Nat) : (s.stage lo hi).bup = s.bup := rfl
@[simp] theorem State.stage_twn (s : State) (lo hi : Nat) : (s.stage lo hi).twn = s.twn := rfl
@[simp] theorem State.stage_cnt (s : State) (lo hi : Nat) : (s.stage lo hi).cnt = s.cnt := rfl
@[simp] theorem State.stage_evl (s : State) (lo hi : Nat) : (s.stage lo hi).evl = s.evl := rfl
@[simp] theorem State.stage_outs (s : State) (lo hi : Nat) : (s.stage lo hi).outs = s.outs := rfl
@[simp] theorem State.stage_free (s : State) (lo hi : Nat) : (s.stage lo hi).free = s.free := rfl
@[simp] theorem State.stage_beatN (s : State) (lo hi : Nat) : (s.stage lo hi).beatN = s.beatN := rfl
@[simp] theorem State.stage_rd (s : State) (lo hi : Nat) (i : Nat) : (s.stage lo hi).rd i = s.rd i := rfl
@[simp] theorem State.stage_f (s : State) (lo hi : Nat) (G : Fld) : (s.stage lo hi).f G = s.f G := rfl
@[simp] theorem State.stage_b (s : State) (lo hi : Nat) (G : Fld) : (s.stage lo hi).b G = s.b G := rfl
@[simp] theorem State.stage_rdByte (s : State) (lo hi : Nat) (i : Nat) : (s.stage lo hi).rdByte i = s.rdByte i := rfl
@[simp] theorem State.stage_cell (s : State) (lo hi : Nat) (i : Nat) : (s.stage lo hi).cell i = s.cell i := rfl
@[simp] theorem State.stage_cl (s : State) (lo hi : Nat) (i : Nat) : (s.stage lo hi).cl i = s.cl i := rfl
@[simp] theorem State.stage_part (s : State) (lo hi : Nat) (i : Nat) : (s.stage lo hi).part i = s.part i := rfl
@[simp] theorem State.stage_prog (s : State) (lo hi : Nat) (i j : Nat) : (s.stage lo hi).prog i j = s.prog i j := rfl
@[simp] theorem State.stage_env (s : State) (lo hi : Nat) (i j : Nat) : (s.stage lo hi).env i j = s.env i j := rfl
@[simp] theorem State.stage_manOf (s : State) (lo hi : Nat) (i : Nat) : (s.stage lo hi).manOf i = s.manOf i := rfl
@[simp] theorem State.stage_held (s : State) (lo hi : Nat) (i : Nat) : (s.stage lo hi).held i = s.held i := rfl
@[simp] theorem State.stage_cstate (s : State) (lo hi : Nat) (i : Nat) : (s.stage lo hi).cstate i = s.cstate i := rfl
@[simp] theorem State.stage_mstate (s : State) (lo hi : Nat) : (s.stage lo hi).mstate = s.mstate := rfl

/-! ### out -/

@[simp] theorem State.out_pending (s : State) (o : Out) : (s.out o).pending = s.pending := rfl
@[simp] theorem State.out_beat (s : State) (o : Out) : (s.out o).beat = s.beat := rfl
@[simp] theorem State.out_released (s : State) (o : Out) : (s.out o).released = s.released := rfl
@[simp] theorem State.out_cycle (s : State) (o : Out) : (s.out o).cycle = s.cycle := rfl
@[simp] theorem State.out_power (s : State) (o : Out) : (s.out o).power = s.power := rfl
@[simp] theorem State.out_regs (s : State) (o : Out) : (s.out o).regs = s.regs := rfl
@[simp] theorem State.out_live (s : State) (o : Out) : (s.out o).live = s.live := rfl
@[simp] theorem State.out_latchHost (s : State) (o : Out) : (s.out o).latchHost = s.latchHost := rfl
@[simp] theorem State.out_latchSide (s : State) (o : Out) : (s.out o).latchSide = s.latchSide := rfl
@[simp] theorem State.out_mem (s : State) (o : Out) : (s.out o).mem = s.mem := rfl
@[simp] theorem State.out_kept (s : State) (o : Out) : (s.out o).kept = s.kept := rfl
@[simp] theorem State.out_cells (s : State) (o : Out) : (s.out o).cells = s.cells := rfl
@[simp] theorem State.out_clusters (s : State) (o : Out) : (s.out o).clusters = s.clusters := rfl
@[simp] theorem State.out_deadCells (s : State) (o : Out) : (s.out o).deadCells = s.deadCells := rfl
@[simp] theorem State.out_deadClusters (s : State) (o : Out) : (s.out o).deadClusters = s.deadClusters := rfl
@[simp] theorem State.out_net (s : State) (o : Out) : (s.out o).net = s.net := rfl
@[simp] theorem State.out_replies (s : State) (o : Out) : (s.out o).replies = s.replies := rfl
@[simp] theorem State.out_circs (s : State) (o : Out) : (s.out o).circs = s.circs := rfl
@[simp] theorem State.out_routes (s : State) (o : Out) : (s.out o).routes = s.routes := rfl
@[simp] theorem State.out_envs (s : State) (o : Out) : (s.out o).envs = s.envs := rfl
@[simp] theorem State.out_acks (s : State) (o : Out) : (s.out o).acks = s.acks := rfl
@[simp] theorem State.out_parts (s : State) (o : Out) : (s.out o).parts = s.parts := rfl
@[simp] theorem State.out_progs (s : State) (o : Out) : (s.out o).progs = s.progs := rfl
@[simp] theorem State.out_rcv (s : State) (o : Out) : (s.out o).rcv = s.rcv := rfl
@[simp] theorem State.out_runs (s : State) (o : Out) : (s.out o).runs = s.runs := rfl
@[simp] theorem State.out_loops (s : State) (o : Out) : (s.out o).loops = s.loops := rfl
@[simp] theorem State.out_stg (s : State) (o : Out) : (s.out o).stg = s.stg := rfl
@[simp] theorem State.out_mon (s : State) (o : Out) : (s.out o).mon = s.mon := rfl
@[simp] theorem State.out_sst (s : State) (o : Out) : (s.out o).sst = s.sst := rfl
@[simp] theorem State.out_sec (s : State) (o : Out) : (s.out o).sec = s.sec := rfl
@[simp] theorem State.out_grd (s : State) (o : Out) : (s.out o).grd = s.grd := rfl
@[simp] theorem State.out_bud (s : State) (o : Out) : (s.out o).bud = s.bud := rfl
@[simp] theorem State.out_ldg (s : State) (o : Out) : (s.out o).ldg = s.ldg := rfl
@[simp] theorem State.out_mpw (s : State) (o : Out) : (s.out o).mpw = s.mpw := rfl
@[simp] theorem State.out_hif (s : State) (o : Out) : (s.out o).hif = s.hif := rfl
@[simp] theorem State.out_bup (s : State) (o : Out) : (s.out o).bup = s.bup := rfl
@[simp] theorem State.out_twn (s : State) (o : Out) : (s.out o).twn = s.twn := rfl
@[simp] theorem State.out_cnt (s : State) (o : Out) : (s.out o).cnt = s.cnt := rfl
@[simp] theorem State.out_evl (s : State) (o : Out) : (s.out o).evl = s.evl := rfl
@[simp] theorem State.out_free (s : State) (o : Out) : (s.out o).free = s.free := rfl
@[simp] theorem State.out_beatN (s : State) (o : Out) : (s.out o).beatN = s.beatN := rfl
@[simp] theorem State.out_rd (s : State) (o : Out) (i : Nat) : (s.out o).rd i = s.rd i := rfl
@[simp] theorem State.out_f (s : State) (o : Out) (G : Fld) : (s.out o).f G = s.f G := rfl
@[simp] theorem State.out_b (s : State) (o : Out) (G : Fld) : (s.out o).b G = s.b G := rfl
@[simp] theorem State.out_lf (s : State) (o : Out) (G : Fld) : (s.out o).lf G = s.lf G := rfl
@[simp] theorem State.out_rdByte (s : State) (o : Out) (i : Nat) : (s.out o).rdByte i = s.rdByte i := rfl
@[simp] theorem State.out_cell (s : State) (o : Out) (i : Nat) : (s.out o).cell i = s.cell i := rfl
@[simp] theorem State.out_cl (s : State) (o : Out) (i : Nat) : (s.out o).cl i = s.cl i := rfl
@[simp] theorem State.out_part (s : State) (o : Out) (i : Nat) : (s.out o).part i = s.part i := rfl
@[simp] theorem State.out_prog (s : State) (o : Out) (i j : Nat) : (s.out o).prog i j = s.prog i j := rfl
@[simp] theorem State.out_env (s : State) (o : Out) (i j : Nat) : (s.out o).env i j = s.env i j := rfl
@[simp] theorem State.out_manOf (s : State) (o : Out) (i : Nat) : (s.out o).manOf i = s.manOf i := rfl
@[simp] theorem State.out_held (s : State) (o : Out) (i : Nat) : (s.out o).held i = s.held i := rfl
@[simp] theorem State.out_cstate (s : State) (o : Out) (i : Nat) : (s.out o).cstate i = s.cstate i := rfl
@[simp] theorem State.out_mstate (s : State) (o : Out) : (s.out o).mstate = s.mstate := rfl

/-! ### useFree -/

@[simp] theorem State.useFree_pending (s : State) : (s.useFree).pending = s.pending := rfl
@[simp] theorem State.useFree_beat (s : State) : (s.useFree).beat = s.beat := rfl
@[simp] theorem State.useFree_released (s : State) : (s.useFree).released = s.released := rfl
@[simp] theorem State.useFree_cycle (s : State) : (s.useFree).cycle = s.cycle := rfl
@[simp] theorem State.useFree_power (s : State) : (s.useFree).power = s.power := rfl
@[simp] theorem State.useFree_regs (s : State) : (s.useFree).regs = s.regs := rfl
@[simp] theorem State.useFree_live (s : State) : (s.useFree).live = s.live := rfl
@[simp] theorem State.useFree_latchHost (s : State) : (s.useFree).latchHost = s.latchHost := rfl
@[simp] theorem State.useFree_latchSide (s : State) : (s.useFree).latchSide = s.latchSide := rfl
@[simp] theorem State.useFree_mem (s : State) : (s.useFree).mem = s.mem := rfl
@[simp] theorem State.useFree_kept (s : State) : (s.useFree).kept = s.kept := rfl
@[simp] theorem State.useFree_cells (s : State) : (s.useFree).cells = s.cells := rfl
@[simp] theorem State.useFree_clusters (s : State) : (s.useFree).clusters = s.clusters := rfl
@[simp] theorem State.useFree_deadCells (s : State) : (s.useFree).deadCells = s.deadCells := rfl
@[simp] theorem State.useFree_deadClusters (s : State) : (s.useFree).deadClusters = s.deadClusters := rfl
@[simp] theorem State.useFree_net (s : State) : (s.useFree).net = s.net := rfl
@[simp] theorem State.useFree_replies (s : State) : (s.useFree).replies = s.replies := rfl
@[simp] theorem State.useFree_circs (s : State) : (s.useFree).circs = s.circs := rfl
@[simp] theorem State.useFree_routes (s : State) : (s.useFree).routes = s.routes := rfl
@[simp] theorem State.useFree_envs (s : State) : (s.useFree).envs = s.envs := rfl
@[simp] theorem State.useFree_acks (s : State) : (s.useFree).acks = s.acks := rfl
@[simp] theorem State.useFree_parts (s : State) : (s.useFree).parts = s.parts := rfl
@[simp] theorem State.useFree_progs (s : State) : (s.useFree).progs = s.progs := rfl
@[simp] theorem State.useFree_rcv (s : State) : (s.useFree).rcv = s.rcv := rfl
@[simp] theorem State.useFree_runs (s : State) : (s.useFree).runs = s.runs := rfl
@[simp] theorem State.useFree_loops (s : State) : (s.useFree).loops = s.loops := rfl
@[simp] theorem State.useFree_stg (s : State) : (s.useFree).stg = s.stg := rfl
@[simp] theorem State.useFree_mon (s : State) : (s.useFree).mon = s.mon := rfl
@[simp] theorem State.useFree_sst (s : State) : (s.useFree).sst = s.sst := rfl
@[simp] theorem State.useFree_sec (s : State) : (s.useFree).sec = s.sec := rfl
@[simp] theorem State.useFree_grd (s : State) : (s.useFree).grd = s.grd := rfl
@[simp] theorem State.useFree_bud (s : State) : (s.useFree).bud = s.bud := rfl
@[simp] theorem State.useFree_ldg (s : State) : (s.useFree).ldg = s.ldg := rfl
@[simp] theorem State.useFree_mpw (s : State) : (s.useFree).mpw = s.mpw := rfl
@[simp] theorem State.useFree_hif (s : State) : (s.useFree).hif = s.hif := rfl
@[simp] theorem State.useFree_bup (s : State) : (s.useFree).bup = s.bup := rfl
@[simp] theorem State.useFree_twn (s : State) : (s.useFree).twn = s.twn := rfl
@[simp] theorem State.useFree_cnt (s : State) : (s.useFree).cnt = s.cnt := rfl
@[simp] theorem State.useFree_evl (s : State) : (s.useFree).evl = s.evl := rfl
@[simp] theorem State.useFree_outs (s : State) : (s.useFree).outs = s.outs := rfl
@[simp] theorem State.useFree_beatN (s : State) : (s.useFree).beatN = s.beatN := rfl
@[simp] theorem State.useFree_rd (s : State) (i : Nat) : (s.useFree).rd i = s.rd i := rfl
@[simp] theorem State.useFree_f (s : State) (G : Fld) : (s.useFree).f G = s.f G := rfl
@[simp] theorem State.useFree_b (s : State) (G : Fld) : (s.useFree).b G = s.b G := rfl
@[simp] theorem State.useFree_lf (s : State) (G : Fld) : (s.useFree).lf G = s.lf G := rfl
@[simp] theorem State.useFree_rdByte (s : State) (i : Nat) : (s.useFree).rdByte i = s.rdByte i := rfl
@[simp] theorem State.useFree_cell (s : State) (i : Nat) : (s.useFree).cell i = s.cell i := rfl
@[simp] theorem State.useFree_cl (s : State) (i : Nat) : (s.useFree).cl i = s.cl i := rfl
@[simp] theorem State.useFree_part (s : State) (i : Nat) : (s.useFree).part i = s.part i := rfl
@[simp] theorem State.useFree_prog (s : State) (i j : Nat) : (s.useFree).prog i j = s.prog i j := rfl
@[simp] theorem State.useFree_env (s : State) (i j : Nat) : (s.useFree).env i j = s.env i j := rfl
@[simp] theorem State.useFree_manOf (s : State) (i : Nat) : (s.useFree).manOf i = s.manOf i := rfl
@[simp] theorem State.useFree_held (s : State) (i : Nat) : (s.useFree).held i = s.held i := rfl
@[simp] theorem State.useFree_cstate (s : State) (i : Nat) : (s.useFree).cstate i = s.cstate i := rfl
@[simp] theorem State.useFree_mstate (s : State) : (s.useFree).mstate = s.mstate := rfl

/-! ### wrMem -/

@[simp] theorem State.wrMem_pending (s : State) (a : Nat) (d : Bytes) : (s.wrMem a d).pending = s.pending := rfl
@[simp] theorem State.wrMem_beat (s : State) (a : Nat) (d : Bytes) : (s.wrMem a d).beat = s.beat := rfl
@[simp] theorem State.wrMem_released (s : State) (a : Nat) (d : Bytes) : (s.wrMem a d).released = s.released := rfl
@[simp] theorem State.wrMem_cycle (s : State) (a : Nat) (d : Bytes) : (s.wrMem a d).cycle = s.cycle := rfl
@[simp] theorem State.wrMem_power (s : State) (a : Nat) (d : Bytes) : (s.wrMem a d).power = s.power := rfl
@[simp] theorem State.wrMem_regs (s : State) (a : Nat) (d : Bytes) : (s.wrMem a d).regs = s.regs := rfl
@[simp] theorem State.wrMem_live (s : State) (a : Nat) (d : Bytes) : (s.wrMem a d).live = s.live := rfl
@[simp] theorem State.wrMem_latchHost (s : State) (a : Nat) (d : Bytes) : (s.wrMem a d).latchHost = s.latchHost := rfl
@[simp] theorem State.wrMem_latchSide (s : State) (a : Nat) (d : Bytes) : (s.wrMem a d).latchSide = s.latchSide := rfl
@[simp] theorem State.wrMem_kept (s : State) (a : Nat) (d : Bytes) : (s.wrMem a d).kept = s.kept := rfl
@[simp] theorem State.wrMem_cells (s : State) (a : Nat) (d : Bytes) : (s.wrMem a d).cells = s.cells := rfl
@[simp] theorem State.wrMem_clusters (s : State) (a : Nat) (d : Bytes) : (s.wrMem a d).clusters = s.clusters := rfl
@[simp] theorem State.wrMem_deadCells (s : State) (a : Nat) (d : Bytes) : (s.wrMem a d).deadCells = s.deadCells := rfl
@[simp] theorem State.wrMem_deadClusters (s : State) (a : Nat) (d : Bytes) : (s.wrMem a d).deadClusters = s.deadClusters := rfl
@[simp] theorem State.wrMem_net (s : State) (a : Nat) (d : Bytes) : (s.wrMem a d).net = s.net := rfl
@[simp] theorem State.wrMem_replies (s : State) (a : Nat) (d : Bytes) : (s.wrMem a d).replies = s.replies := rfl
@[simp] theorem State.wrMem_circs (s : State) (a : Nat) (d : Bytes) : (s.wrMem a d).circs = s.circs := rfl
@[simp] theorem State.wrMem_routes (s : State) (a : Nat) (d : Bytes) : (s.wrMem a d).routes = s.routes := rfl
@[simp] theorem State.wrMem_envs (s : State) (a : Nat) (d : Bytes) : (s.wrMem a d).envs = s.envs := rfl
@[simp] theorem State.wrMem_acks (s : State) (a : Nat) (d : Bytes) : (s.wrMem a d).acks = s.acks := rfl
@[simp] theorem State.wrMem_parts (s : State) (a : Nat) (d : Bytes) : (s.wrMem a d).parts = s.parts := rfl
@[simp] theorem State.wrMem_progs (s : State) (a : Nat) (d : Bytes) : (s.wrMem a d).progs = s.progs := rfl
@[simp] theorem State.wrMem_rcv (s : State) (a : Nat) (d : Bytes) : (s.wrMem a d).rcv = s.rcv := rfl
@[simp] theorem State.wrMem_runs (s : State) (a : Nat) (d : Bytes) : (s.wrMem a d).runs = s.runs := rfl
@[simp] theorem State.wrMem_loops (s : State) (a : Nat) (d : Bytes) : (s.wrMem a d).loops = s.loops := rfl
@[simp] theorem State.wrMem_stg (s : State) (a : Nat) (d : Bytes) : (s.wrMem a d).stg = s.stg := rfl
@[simp] theorem State.wrMem_mon (s : State) (a : Nat) (d : Bytes) : (s.wrMem a d).mon = s.mon := rfl
@[simp] theorem State.wrMem_sst (s : State) (a : Nat) (d : Bytes) : (s.wrMem a d).sst = s.sst := rfl
@[simp] theorem State.wrMem_sec (s : State) (a : Nat) (d : Bytes) : (s.wrMem a d).sec = s.sec := rfl
@[simp] theorem State.wrMem_grd (s : State) (a : Nat) (d : Bytes) : (s.wrMem a d).grd = s.grd := rfl
@[simp] theorem State.wrMem_bud (s : State) (a : Nat) (d : Bytes) : (s.wrMem a d).bud = s.bud := rfl
@[simp] theorem State.wrMem_ldg (s : State) (a : Nat) (d : Bytes) : (s.wrMem a d).ldg = s.ldg := rfl
@[simp] theorem State.wrMem_mpw (s : State) (a : Nat) (d : Bytes) : (s.wrMem a d).mpw = s.mpw := rfl
@[simp] theorem State.wrMem_hif (s : State) (a : Nat) (d : Bytes) : (s.wrMem a d).hif = s.hif := rfl
@[simp] theorem State.wrMem_bup (s : State) (a : Nat) (d : Bytes) : (s.wrMem a d).bup = s.bup := rfl
@[simp] theorem State.wrMem_twn (s : State) (a : Nat) (d : Bytes) : (s.wrMem a d).twn = s.twn := rfl
@[simp] theorem State.wrMem_cnt (s : State) (a : Nat) (d : Bytes) : (s.wrMem a d).cnt = s.cnt := rfl
@[simp] theorem State.wrMem_evl (s : State) (a : Nat) (d : Bytes) : (s.wrMem a d).evl = s.evl := rfl
@[simp] theorem State.wrMem_outs (s : State) (a : Nat) (d : Bytes) : (s.wrMem a d).outs = s.outs := rfl
@[simp] theorem State.wrMem_free (s : State) (a : Nat) (d : Bytes) : (s.wrMem a d).free = s.free := rfl
@[simp] theorem State.wrMem_beatN (s : State) (a : Nat) (d : Bytes) : (s.wrMem a d).beatN = s.beatN := rfl
@[simp] theorem State.wrMem_rd (s : State) (a : Nat) (d : Bytes) (i : Nat) : (s.wrMem a d).rd i = s.rd i := rfl
@[simp] theorem State.wrMem_f (s : State) (a : Nat) (d : Bytes) (G : Fld) : (s.wrMem a d).f G = s.f G := rfl
@[simp] theorem State.wrMem_b (s : State) (a : Nat) (d : Bytes) (G : Fld) : (s.wrMem a d).b G = s.b G := rfl
@[simp] theorem State.wrMem_lf (s : State) (a : Nat) (d : Bytes) (G : Fld) : (s.wrMem a d).lf G = s.lf G := rfl
@[simp] theorem State.wrMem_cell (s : State) (a : Nat) (d : Bytes) (i : Nat) : (s.wrMem a d).cell i = s.cell i := rfl
@[simp] theorem State.wrMem_cl (s : State) (a : Nat) (d : Bytes) (i : Nat) : (s.wrMem a d).cl i = s.cl i := rfl
@[simp] theorem State.wrMem_part (s : State) (a : Nat) (d : Bytes) (i : Nat) : (s.wrMem a d).part i = s.part i := rfl
@[simp] theorem State.wrMem_prog (s : State) (a : Nat) (d : Bytes) (i j : Nat) : (s.wrMem a d).prog i j = s.prog i j := rfl
@[simp] theorem State.wrMem_env (s : State) (a : Nat) (d : Bytes) (i j : Nat) : (s.wrMem a d).env i j = s.env i j := rfl
@[simp] theorem State.wrMem_manOf (s : State) (a : Nat) (d : Bytes) (i : Nat) : (s.wrMem a d).manOf i = s.manOf i := rfl
@[simp] theorem State.wrMem_held (s : State) (a : Nat) (d : Bytes) (i : Nat) : (s.wrMem a d).held i = s.held i := rfl
@[simp] theorem State.wrMem_cstate (s : State) (a : Nat) (d : Bytes) (i : Nat) : (s.wrMem a d).cstate i = s.cstate i := rfl
@[simp] theorem State.wrMem_mstate (s : State) (a : Nat) (d : Bytes) : (s.wrMem a d).mstate = s.mstate := rfl

/-! ### setCell -/

@[simp] theorem State.setCell_pending (s : State) (n : Nat) (c : Cell) : (s.setCell n c).pending = s.pending := rfl
@[simp] theorem State.setCell_beat (s : State) (n : Nat) (c : Cell) : (s.setCell n c).beat = s.beat := rfl
@[simp] theorem State.setCell_released (s : State) (n : Nat) (c : Cell) : (s.setCell n c).released = s.released := rfl
@[simp] theorem State.setCell_cycle (s : State) (n : Nat) (c : Cell) : (s.setCell n c).cycle = s.cycle := rfl
@[simp] theorem State.setCell_power (s : State) (n : Nat) (c : Cell) : (s.setCell n c).power = s.power := rfl
@[simp] theorem State.setCell_regs (s : State) (n : Nat) (c : Cell) : (s.setCell n c).regs = s.regs := rfl
@[simp] theorem State.setCell_live (s : State) (n : Nat) (c : Cell) : (s.setCell n c).live = s.live := rfl
@[simp] theorem State.setCell_latchHost (s : State) (n : Nat) (c : Cell) : (s.setCell n c).latchHost = s.latchHost := rfl
@[simp] theorem State.setCell_latchSide (s : State) (n : Nat) (c : Cell) : (s.setCell n c).latchSide = s.latchSide := rfl
@[simp] theorem State.setCell_mem (s : State) (n : Nat) (c : Cell) : (s.setCell n c).mem = s.mem := rfl
@[simp] theorem State.setCell_kept (s : State) (n : Nat) (c : Cell) : (s.setCell n c).kept = s.kept := rfl
@[simp] theorem State.setCell_clusters (s : State) (n : Nat) (c : Cell) : (s.setCell n c).clusters = s.clusters := rfl
@[simp] theorem State.setCell_deadCells (s : State) (n : Nat) (c : Cell) : (s.setCell n c).deadCells = s.deadCells := rfl
@[simp] theorem State.setCell_deadClusters (s : State) (n : Nat) (c : Cell) : (s.setCell n c).deadClusters = s.deadClusters := rfl
@[simp] theorem State.setCell_net (s : State) (n : Nat) (c : Cell) : (s.setCell n c).net = s.net := rfl
@[simp] theorem State.setCell_replies (s : State) (n : Nat) (c : Cell) : (s.setCell n c).replies = s.replies := rfl
@[simp] theorem State.setCell_circs (s : State) (n : Nat) (c : Cell) : (s.setCell n c).circs = s.circs := rfl
@[simp] theorem State.setCell_routes (s : State) (n : Nat) (c : Cell) : (s.setCell n c).routes = s.routes := rfl
@[simp] theorem State.setCell_envs (s : State) (n : Nat) (c : Cell) : (s.setCell n c).envs = s.envs := rfl
@[simp] theorem State.setCell_acks (s : State) (n : Nat) (c : Cell) : (s.setCell n c).acks = s.acks := rfl
@[simp] theorem State.setCell_parts (s : State) (n : Nat) (c : Cell) : (s.setCell n c).parts = s.parts := rfl
@[simp] theorem State.setCell_progs (s : State) (n : Nat) (c : Cell) : (s.setCell n c).progs = s.progs := rfl
@[simp] theorem State.setCell_rcv (s : State) (n : Nat) (c : Cell) : (s.setCell n c).rcv = s.rcv := rfl
@[simp] theorem State.setCell_runs (s : State) (n : Nat) (c : Cell) : (s.setCell n c).runs = s.runs := rfl
@[simp] theorem State.setCell_loops (s : State) (n : Nat) (c : Cell) : (s.setCell n c).loops = s.loops := rfl
@[simp] theorem State.setCell_stg (s : State) (n : Nat) (c : Cell) : (s.setCell n c).stg = s.stg := rfl
@[simp] theorem State.setCell_mon (s : State) (n : Nat) (c : Cell) : (s.setCell n c).mon = s.mon := rfl
@[simp] theorem State.setCell_sst (s : State) (n : Nat) (c : Cell) : (s.setCell n c).sst = s.sst := rfl
@[simp] theorem State.setCell_sec (s : State) (n : Nat) (c : Cell) : (s.setCell n c).sec = s.sec := rfl
@[simp] theorem State.setCell_grd (s : State) (n : Nat) (c : Cell) : (s.setCell n c).grd = s.grd := rfl
@[simp] theorem State.setCell_bud (s : State) (n : Nat) (c : Cell) : (s.setCell n c).bud = s.bud := rfl
@[simp] theorem State.setCell_ldg (s : State) (n : Nat) (c : Cell) : (s.setCell n c).ldg = s.ldg := rfl
@[simp] theorem State.setCell_mpw (s : State) (n : Nat) (c : Cell) : (s.setCell n c).mpw = s.mpw := rfl
@[simp] theorem State.setCell_hif (s : State) (n : Nat) (c : Cell) : (s.setCell n c).hif = s.hif := rfl
@[simp] theorem State.setCell_bup (s : State) (n : Nat) (c : Cell) : (s.setCell n c).bup = s.bup := rfl
@[simp] theorem State.setCell_twn (s : State) (n : Nat) (c : Cell) : (s.setCell n c).twn = s.twn := rfl
@[simp] theorem State.setCell_cnt (s : State) (n : Nat) (c : Cell) : (s.setCell n c).cnt = s.cnt := rfl
@[simp] theorem State.setCell_evl (s : State) (n : Nat) (c : Cell) : (s.setCell n c).evl = s.evl := rfl
@[simp] theorem State.setCell_outs (s : State) (n : Nat) (c : Cell) : (s.setCell n c).outs = s.outs := rfl
@[simp] theorem State.setCell_free (s : State) (n : Nat) (c : Cell) : (s.setCell n c).free = s.free := rfl
@[simp] theorem State.setCell_beatN (s : State) (n : Nat) (c : Cell) : (s.setCell n c).beatN = s.beatN := rfl
@[simp] theorem State.setCell_rd (s : State) (n : Nat) (c : Cell) (i : Nat) : (s.setCell n c).rd i = s.rd i := rfl
@[simp] theorem State.setCell_f (s : State) (n : Nat) (c : Cell) (G : Fld) : (s.setCell n c).f G = s.f G := rfl
@[simp] theorem State.setCell_b (s : State) (n : Nat) (c : Cell) (G : Fld) : (s.setCell n c).b G = s.b G := rfl
@[simp] theorem State.setCell_lf (s : State) (n : Nat) (c : Cell) (G : Fld) : (s.setCell n c).lf G = s.lf G := rfl
@[simp] theorem State.setCell_rdByte (s : State) (n : Nat) (c : Cell) (i : Nat) : (s.setCell n c).rdByte i = s.rdByte i := rfl
@[simp] theorem State.setCell_cl (s : State) (n : Nat) (c : Cell) (i : Nat) : (s.setCell n c).cl i = s.cl i := rfl
@[simp] theorem State.setCell_part (s : State) (n : Nat) (c : Cell) (i : Nat) : (s.setCell n c).part i = s.part i := rfl
@[simp] theorem State.setCell_prog (s : State) (n : Nat) (c : Cell) (i j : Nat) : (s.setCell n c).prog i j = s.prog i j := rfl
@[simp] theorem State.setCell_env (s : State) (n : Nat) (c : Cell) (i j : Nat) : (s.setCell n c).env i j = s.env i j := rfl
@[simp] theorem State.setCell_manOf (s : State) (n : Nat) (c : Cell) (i : Nat) : (s.setCell n c).manOf i = s.manOf i := rfl
@[simp] theorem State.setCell_held (s : State) (n : Nat) (c : Cell) (i : Nat) : (s.setCell n c).held i = s.held i := rfl
@[simp] theorem State.setCell_cstate (s : State) (n : Nat) (c : Cell) (i : Nat) : (s.setCell n c).cstate i = s.cstate i := rfl
@[simp] theorem State.setCell_mstate (s : State) (n : Nat) (c : Cell) : (s.setCell n c).mstate = s.mstate := rfl

/-! ### setCl -/

@[simp] theorem State.setCl_pending (s : State) (n : Nat) (c : Cluster) : (s.setCl n c).pending = s.pending := rfl
@[simp] theorem State.setCl_beat (s : State) (n : Nat) (c : Cluster) : (s.setCl n c).beat = s.beat := rfl
@[simp] theorem State.setCl_released (s : State) (n : Nat) (c : Cluster) : (s.setCl n c).released = s.released := rfl
@[simp] theorem State.setCl_cycle (s : State) (n : Nat) (c : Cluster) : (s.setCl n c).cycle = s.cycle := rfl
@[simp] theorem State.setCl_power (s : State) (n : Nat) (c : Cluster) : (s.setCl n c).power = s.power := rfl
@[simp] theorem State.setCl_regs (s : State) (n : Nat) (c : Cluster) : (s.setCl n c).regs = s.regs := rfl
@[simp] theorem State.setCl_live (s : State) (n : Nat) (c : Cluster) : (s.setCl n c).live = s.live := rfl
@[simp] theorem State.setCl_latchHost (s : State) (n : Nat) (c : Cluster) : (s.setCl n c).latchHost = s.latchHost := rfl
@[simp] theorem State.setCl_latchSide (s : State) (n : Nat) (c : Cluster) : (s.setCl n c).latchSide = s.latchSide := rfl
@[simp] theorem State.setCl_mem (s : State) (n : Nat) (c : Cluster) : (s.setCl n c).mem = s.mem := rfl
@[simp] theorem State.setCl_kept (s : State) (n : Nat) (c : Cluster) : (s.setCl n c).kept = s.kept := rfl
@[simp] theorem State.setCl_cells (s : State) (n : Nat) (c : Cluster) : (s.setCl n c).cells = s.cells := rfl
@[simp] theorem State.setCl_deadCells (s : State) (n : Nat) (c : Cluster) : (s.setCl n c).deadCells = s.deadCells := rfl
@[simp] theorem State.setCl_deadClusters (s : State) (n : Nat) (c : Cluster) : (s.setCl n c).deadClusters = s.deadClusters := rfl
@[simp] theorem State.setCl_net (s : State) (n : Nat) (c : Cluster) : (s.setCl n c).net = s.net := rfl
@[simp] theorem State.setCl_replies (s : State) (n : Nat) (c : Cluster) : (s.setCl n c).replies = s.replies := rfl
@[simp] theorem State.setCl_circs (s : State) (n : Nat) (c : Cluster) : (s.setCl n c).circs = s.circs := rfl
@[simp] theorem State.setCl_routes (s : State) (n : Nat) (c : Cluster) : (s.setCl n c).routes = s.routes := rfl
@[simp] theorem State.setCl_envs (s : State) (n : Nat) (c : Cluster) : (s.setCl n c).envs = s.envs := rfl
@[simp] theorem State.setCl_acks (s : State) (n : Nat) (c : Cluster) : (s.setCl n c).acks = s.acks := rfl
@[simp] theorem State.setCl_parts (s : State) (n : Nat) (c : Cluster) : (s.setCl n c).parts = s.parts := rfl
@[simp] theorem State.setCl_progs (s : State) (n : Nat) (c : Cluster) : (s.setCl n c).progs = s.progs := rfl
@[simp] theorem State.setCl_rcv (s : State) (n : Nat) (c : Cluster) : (s.setCl n c).rcv = s.rcv := rfl
@[simp] theorem State.setCl_runs (s : State) (n : Nat) (c : Cluster) : (s.setCl n c).runs = s.runs := rfl
@[simp] theorem State.setCl_loops (s : State) (n : Nat) (c : Cluster) : (s.setCl n c).loops = s.loops := rfl
@[simp] theorem State.setCl_stg (s : State) (n : Nat) (c : Cluster) : (s.setCl n c).stg = s.stg := rfl
@[simp] theorem State.setCl_mon (s : State) (n : Nat) (c : Cluster) : (s.setCl n c).mon = s.mon := rfl
@[simp] theorem State.setCl_sst (s : State) (n : Nat) (c : Cluster) : (s.setCl n c).sst = s.sst := rfl
@[simp] theorem State.setCl_sec (s : State) (n : Nat) (c : Cluster) : (s.setCl n c).sec = s.sec := rfl
@[simp] theorem State.setCl_grd (s : State) (n : Nat) (c : Cluster) : (s.setCl n c).grd = s.grd := rfl
@[simp] theorem State.setCl_bud (s : State) (n : Nat) (c : Cluster) : (s.setCl n c).bud = s.bud := rfl
@[simp] theorem State.setCl_ldg (s : State) (n : Nat) (c : Cluster) : (s.setCl n c).ldg = s.ldg := rfl
@[simp] theorem State.setCl_mpw (s : State) (n : Nat) (c : Cluster) : (s.setCl n c).mpw = s.mpw := rfl
@[simp] theorem State.setCl_hif (s : State) (n : Nat) (c : Cluster) : (s.setCl n c).hif = s.hif := rfl
@[simp] theorem State.setCl_bup (s : State) (n : Nat) (c : Cluster) : (s.setCl n c).bup = s.bup := rfl
@[simp] theorem State.setCl_twn (s : State) (n : Nat) (c : Cluster) : (s.setCl n c).twn = s.twn := rfl
@[simp] theorem State.setCl_cnt (s : State) (n : Nat) (c : Cluster) : (s.setCl n c).cnt = s.cnt := rfl
@[simp] theorem State.setCl_evl (s : State) (n : Nat) (c : Cluster) : (s.setCl n c).evl = s.evl := rfl
@[simp] theorem State.setCl_outs (s : State) (n : Nat) (c : Cluster) : (s.setCl n c).outs = s.outs := rfl
@[simp] theorem State.setCl_free (s : State) (n : Nat) (c : Cluster) : (s.setCl n c).free = s.free := rfl
@[simp] theorem State.setCl_beatN (s : State) (n : Nat) (c : Cluster) : (s.setCl n c).beatN = s.beatN := rfl
@[simp] theorem State.setCl_rd (s : State) (n : Nat) (c : Cluster) (i : Nat) : (s.setCl n c).rd i = s.rd i := rfl
@[simp] theorem State.setCl_f (s : State) (n : Nat) (c : Cluster) (G : Fld) : (s.setCl n c).f G = s.f G := rfl
@[simp] theorem State.setCl_b (s : State) (n : Nat) (c : Cluster) (G : Fld) : (s.setCl n c).b G = s.b G := rfl
@[simp] theorem State.setCl_lf (s : State) (n : Nat) (c : Cluster) (G : Fld) : (s.setCl n c).lf G = s.lf G := rfl
@[simp] theorem State.setCl_rdByte (s : State) (n : Nat) (c : Cluster) (i : Nat) : (s.setCl n c).rdByte i = s.rdByte i := rfl
@[simp] theorem State.setCl_cell (s : State) (n : Nat) (c : Cluster) (i : Nat) : (s.setCl n c).cell i = s.cell i := rfl
@[simp] theorem State.setCl_part (s : State) (n : Nat) (c : Cluster) (i : Nat) : (s.setCl n c).part i = s.part i := rfl
@[simp] theorem State.setCl_prog (s : State) (n : Nat) (c : Cluster) (i j : Nat) : (s.setCl n c).prog i j = s.prog i j := rfl
@[simp] theorem State.setCl_env (s : State) (n : Nat) (c : Cluster) (i j : Nat) : (s.setCl n c).env i j = s.env i j := rfl
@[simp] theorem State.setCl_manOf (s : State) (n : Nat) (c : Cluster) (i : Nat) : (s.setCl n c).manOf i = s.manOf i := rfl
@[simp] theorem State.setCl_held (s : State) (n : Nat) (c : Cluster) (i : Nat) : (s.setCl n c).held i = s.held i := rfl
@[simp] theorem State.setCl_cstate (s : State) (n : Nat) (c : Cluster) (i : Nat) : (s.setCl n c).cstate i = s.cstate i := rfl
@[simp] theorem State.setCl_mstate (s : State) (n : Nat) (c : Cluster) : (s.setCl n c).mstate = s.mstate := rfl

/-! ### setPart -/

@[simp] theorem State.setPart_pending (s : State) (p : Nat) (v : Part) : (s.setPart p v).pending = s.pending := rfl
@[simp] theorem State.setPart_beat (s : State) (p : Nat) (v : Part) : (s.setPart p v).beat = s.beat := rfl
@[simp] theorem State.setPart_released (s : State) (p : Nat) (v : Part) : (s.setPart p v).released = s.released := rfl
@[simp] theorem State.setPart_cycle (s : State) (p : Nat) (v : Part) : (s.setPart p v).cycle = s.cycle := rfl
@[simp] theorem State.setPart_power (s : State) (p : Nat) (v : Part) : (s.setPart p v).power = s.power := rfl
@[simp] theorem State.setPart_regs (s : State) (p : Nat) (v : Part) : (s.setPart p v).regs = s.regs := rfl
@[simp] theorem State.setPart_live (s : State) (p : Nat) (v : Part) : (s.setPart p v).live = s.live := rfl
@[simp] theorem State.setPart_latchHost (s : State) (p : Nat) (v : Part) : (s.setPart p v).latchHost = s.latchHost := rfl
@[simp] theorem State.setPart_latchSide (s : State) (p : Nat) (v : Part) : (s.setPart p v).latchSide = s.latchSide := rfl
@[simp] theorem State.setPart_mem (s : State) (p : Nat) (v : Part) : (s.setPart p v).mem = s.mem := rfl
@[simp] theorem State.setPart_kept (s : State) (p : Nat) (v : Part) : (s.setPart p v).kept = s.kept := rfl
@[simp] theorem State.setPart_cells (s : State) (p : Nat) (v : Part) : (s.setPart p v).cells = s.cells := rfl
@[simp] theorem State.setPart_clusters (s : State) (p : Nat) (v : Part) : (s.setPart p v).clusters = s.clusters := rfl
@[simp] theorem State.setPart_deadCells (s : State) (p : Nat) (v : Part) : (s.setPart p v).deadCells = s.deadCells := rfl
@[simp] theorem State.setPart_deadClusters (s : State) (p : Nat) (v : Part) : (s.setPart p v).deadClusters = s.deadClusters := rfl
@[simp] theorem State.setPart_net (s : State) (p : Nat) (v : Part) : (s.setPart p v).net = s.net := rfl
@[simp] theorem State.setPart_replies (s : State) (p : Nat) (v : Part) : (s.setPart p v).replies = s.replies := rfl
@[simp] theorem State.setPart_circs (s : State) (p : Nat) (v : Part) : (s.setPart p v).circs = s.circs := rfl
@[simp] theorem State.setPart_routes (s : State) (p : Nat) (v : Part) : (s.setPart p v).routes = s.routes := rfl
@[simp] theorem State.setPart_envs (s : State) (p : Nat) (v : Part) : (s.setPart p v).envs = s.envs := rfl
@[simp] theorem State.setPart_acks (s : State) (p : Nat) (v : Part) : (s.setPart p v).acks = s.acks := rfl
@[simp] theorem State.setPart_progs (s : State) (p : Nat) (v : Part) : (s.setPart p v).progs = s.progs := rfl
@[simp] theorem State.setPart_rcv (s : State) (p : Nat) (v : Part) : (s.setPart p v).rcv = s.rcv := rfl
@[simp] theorem State.setPart_runs (s : State) (p : Nat) (v : Part) : (s.setPart p v).runs = s.runs := rfl
@[simp] theorem State.setPart_loops (s : State) (p : Nat) (v : Part) : (s.setPart p v).loops = s.loops := rfl
@[simp] theorem State.setPart_stg (s : State) (p : Nat) (v : Part) : (s.setPart p v).stg = s.stg := rfl
@[simp] theorem State.setPart_mon (s : State) (p : Nat) (v : Part) : (s.setPart p v).mon = s.mon := rfl
@[simp] theorem State.setPart_sst (s : State) (p : Nat) (v : Part) : (s.setPart p v).sst = s.sst := rfl
@[simp] theorem State.setPart_sec (s : State) (p : Nat) (v : Part) : (s.setPart p v).sec = s.sec := rfl
@[simp] theorem State.setPart_grd (s : State) (p : Nat) (v : Part) : (s.setPart p v).grd = s.grd := rfl
@[simp] theorem State.setPart_bud (s : State) (p : Nat) (v : Part) : (s.setPart p v).bud = s.bud := rfl
@[simp] theorem State.setPart_ldg (s : State) (p : Nat) (v : Part) : (s.setPart p v).ldg = s.ldg := rfl
@[simp] theorem State.setPart_mpw (s : State) (p : Nat) (v : Part) : (s.setPart p v).mpw = s.mpw := rfl
@[simp] theorem State.setPart_hif (s : State) (p : Nat) (v : Part) : (s.setPart p v).hif = s.hif := rfl
@[simp] theorem State.setPart_bup (s : State) (p : Nat) (v : Part) : (s.setPart p v).bup = s.bup := rfl
@[simp] theorem State.setPart_twn (s : State) (p : Nat) (v : Part) : (s.setPart p v).twn = s.twn := rfl
@[simp] theorem State.setPart_cnt (s : State) (p : Nat) (v : Part) : (s.setPart p v).cnt = s.cnt := rfl
@[simp] theorem State.setPart_evl (s : State) (p : Nat) (v : Part) : (s.setPart p v).evl = s.evl := rfl
@[simp] theorem State.setPart_outs (s : State) (p : Nat) (v : Part) : (s.setPart p v).outs = s.outs := rfl
@[simp] theorem State.setPart_free (s : State) (p : Nat) (v : Part) : (s.setPart p v).free = s.free := rfl
@[simp] theorem State.setPart_beatN (s : State) (p : Nat) (v : Part) : (s.setPart p v).beatN = s.beatN := rfl
@[simp] theorem State.setPart_rd (s : State) (p : Nat) (v : Part) (i : Nat) : (s.setPart p v).rd i = s.rd i := rfl
@[simp] theorem State.setPart_f (s : State) (p : Nat) (v : Part) (G : Fld) : (s.setPart p v).f G = s.f G := rfl
@[simp] theorem State.setPart_b (s : State) (p : Nat) (v : Part) (G : Fld) : (s.setPart p v).b G = s.b G := rfl
@[simp] theorem State.setPart_lf (s : State) (p : Nat) (v : Part) (G : Fld) : (s.setPart p v).lf G = s.lf G := rfl
@[simp] theorem State.setPart_rdByte (s : State) (p : Nat) (v : Part) (i : Nat) : (s.setPart p v).rdByte i = s.rdByte i := rfl
@[simp] theorem State.setPart_cell (s : State) (p : Nat) (v : Part) (i : Nat) : (s.setPart p v).cell i = s.cell i := rfl
@[simp] theorem State.setPart_cl (s : State) (p : Nat) (v : Part) (i : Nat) : (s.setPart p v).cl i = s.cl i := rfl
@[simp] theorem State.setPart_prog (s : State) (p : Nat) (v : Part) (i j : Nat) : (s.setPart p v).prog i j = s.prog i j := rfl
@[simp] theorem State.setPart_env (s : State) (p : Nat) (v : Part) (i j : Nat) : (s.setPart p v).env i j = s.env i j := rfl
@[simp] theorem State.setPart_cstate (s : State) (p : Nat) (v : Part) (i : Nat) : (s.setPart p v).cstate i = s.cstate i := rfl
@[simp] theorem State.setPart_mstate (s : State) (p : Nat) (v : Part) : (s.setPart p v).mstate = s.mstate := rfl

/-! ### setProg -/

@[simp] theorem State.setProg_pending (s : State) (p x : Nat) (v : Prog) : (s.setProg p x v).pending = s.pending := rfl
@[simp] theorem State.setProg_beat (s : State) (p x : Nat) (v : Prog) : (s.setProg p x v).beat = s.beat := rfl
@[simp] theorem State.setProg_released (s : State) (p x : Nat) (v : Prog) : (s.setProg p x v).released = s.released := rfl
@[simp] theorem State.setProg_cycle (s : State) (p x : Nat) (v : Prog) : (s.setProg p x v).cycle = s.cycle := rfl
@[simp] theorem State.setProg_power (s : State) (p x : Nat) (v : Prog) : (s.setProg p x v).power = s.power := rfl
@[simp] theorem State.setProg_regs (s : State) (p x : Nat) (v : Prog) : (s.setProg p x v).regs = s.regs := rfl
@[simp] theorem State.setProg_live (s : State) (p x : Nat) (v : Prog) : (s.setProg p x v).live = s.live := rfl
@[simp] theorem State.setProg_latchHost (s : State) (p x : Nat) (v : Prog) : (s.setProg p x v).latchHost = s.latchHost := rfl
@[simp] theorem State.setProg_latchSide (s : State) (p x : Nat) (v : Prog) : (s.setProg p x v).latchSide = s.latchSide := rfl
@[simp] theorem State.setProg_mem (s : State) (p x : Nat) (v : Prog) : (s.setProg p x v).mem = s.mem := rfl
@[simp] theorem State.setProg_kept (s : State) (p x : Nat) (v : Prog) : (s.setProg p x v).kept = s.kept := rfl
@[simp] theorem State.setProg_cells (s : State) (p x : Nat) (v : Prog) : (s.setProg p x v).cells = s.cells := rfl
@[simp] theorem State.setProg_clusters (s : State) (p x : Nat) (v : Prog) : (s.setProg p x v).clusters = s.clusters := rfl
@[simp] theorem State.setProg_deadCells (s : State) (p x : Nat) (v : Prog) : (s.setProg p x v).deadCells = s.deadCells := rfl
@[simp] theorem State.setProg_deadClusters (s : State) (p x : Nat) (v : Prog) : (s.setProg p x v).deadClusters = s.deadClusters := rfl
@[simp] theorem State.setProg_net (s : State) (p x : Nat) (v : Prog) : (s.setProg p x v).net = s.net := rfl
@[simp] theorem State.setProg_replies (s : State) (p x : Nat) (v : Prog) : (s.setProg p x v).replies = s.replies := rfl
@[simp] theorem State.setProg_circs (s : State) (p x : Nat) (v : Prog) : (s.setProg p x v).circs = s.circs := rfl
@[simp] theorem State.setProg_routes (s : State) (p x : Nat) (v : Prog) : (s.setProg p x v).routes = s.routes := rfl
@[simp] theorem State.setProg_envs (s : State) (p x : Nat) (v : Prog) : (s.setProg p x v).envs = s.envs := rfl
@[simp] theorem State.setProg_acks (s : State) (p x : Nat) (v : Prog) : (s.setProg p x v).acks = s.acks := rfl
@[simp] theorem State.setProg_parts (s : State) (p x : Nat) (v : Prog) : (s.setProg p x v).parts = s.parts := rfl
@[simp] theorem State.setProg_rcv (s : State) (p x : Nat) (v : Prog) : (s.setProg p x v).rcv = s.rcv := rfl
@[simp] theorem State.setProg_runs (s : State) (p x : Nat) (v : Prog) : (s.setProg p x v).runs = s.runs := rfl
@[simp] theorem State.setProg_loops (s : State) (p x : Nat) (v : Prog) : (s.setProg p x v).loops = s.loops := rfl
@[simp] theorem State.setProg_stg (s : State) (p x : Nat) (v : Prog) : (s.setProg p x v).stg = s.stg := rfl
@[simp] theorem State.setProg_mon (s : State) (p x : Nat) (v : Prog) : (s.setProg p x v).mon = s.mon := rfl
@[simp] theorem State.setProg_sst (s : State) (p x : Nat) (v : Prog) : (s.setProg p x v).sst = s.sst := rfl
@[simp] theorem State.setProg_sec (s : State) (p x : Nat) (v : Prog) : (s.setProg p x v).sec = s.sec := rfl
@[simp] theorem State.setProg_grd (s : State) (p x : Nat) (v : Prog) : (s.setProg p x v).grd = s.grd := rfl
@[simp] theorem State.setProg_bud (s : State) (p x : Nat) (v : Prog) : (s.setProg p x v).bud = s.bud := rfl
@[simp] theorem State.setProg_ldg (s : State) (p x : Nat) (v : Prog) : (s.setProg p x v).ldg = s.ldg := rfl
@[simp] theorem State.setProg_mpw (s : State) (p x : Nat) (v : Prog) : (s.setProg p x v).mpw = s.mpw := rfl
@[simp] theorem State.setProg_hif (s : State) (p x : Nat) (v : Prog) : (s.setProg p x v).hif = s.hif := rfl
@[simp] theorem State.setProg_bup (s : State) (p x : Nat) (v : Prog) : (s.setProg p x v).bup = s.bup := rfl
@[simp] theorem State.setProg_twn (s : State) (p x : Nat) (v : Prog) : (s.setProg p x v).twn = s.twn := rfl
@[simp] theorem State.setProg_cnt (s : State) (p x : Nat) (v : Prog) : (s.setProg p x v).cnt = s.cnt := rfl
@[simp] theorem State.setProg_evl (s : State) (p x : Nat) (v : Prog) : (s.setProg p x v).evl = s.evl := rfl
@[simp] theorem State.setProg_outs (s : State) (p x : Nat) (v : Prog) : (s.setProg p x v).outs = s.outs := rfl
@[simp] theorem State.setProg_free (s : State) (p x : Nat) (v : Prog) : (s.setProg p x v).free = s.free := rfl
@[simp] theorem State.setProg_beatN (s : State) (p x : Nat) (v : Prog) : (s.setProg p x v).beatN = s.beatN := rfl
@[simp] theorem State.setProg_rd (s : State) (p x : Nat) (v : Prog) (i : Nat) : (s.setProg p x v).rd i = s.rd i := rfl
@[simp] theorem State.setProg_f (s : State) (p x : Nat) (v : Prog) (G : Fld) : (s.setProg p x v).f G = s.f G := rfl
@[simp] theorem State.setProg_b (s : State) (p x : Nat) (v : Prog) (G : Fld) : (s.setProg p x v).b G = s.b G := rfl
@[simp] theorem State.setProg_lf (s : State) (p x : Nat) (v : Prog) (G : Fld) : (s.setProg p x v).lf G = s.lf G := rfl
@[simp] theorem State.setProg_rdByte (s : State) (p x : Nat) (v : Prog) (i : Nat) : (s.setProg p x v).rdByte i = s.rdByte i := rfl
@[simp] theorem State.setProg_cell (s : State) (p x : Nat) (v : Prog) (i : Nat) : (s.setProg p x v).cell i = s.cell i := rfl
@[simp] theorem State.setProg_cl (s : State) (p x : Nat) (v : Prog) (i : Nat) : (s.setProg p x v).cl i = s.cl i := rfl
@[simp] theorem State.setProg_part (s : State) (p x : Nat) (v : Prog) (i : Nat) : (s.setProg p x v).part i = s.part i := rfl
@[simp] theorem State.setProg_env (s : State) (p x : Nat) (v : Prog) (i j : Nat) : (s.setProg p x v).env i j = s.env i j := rfl
@[simp] theorem State.setProg_manOf (s : State) (p x : Nat) (v : Prog) (i : Nat) : (s.setProg p x v).manOf i = s.manOf i := rfl
@[simp] theorem State.setProg_held (s : State) (p x : Nat) (v : Prog) (i : Nat) : (s.setProg p x v).held i = s.held i := rfl
@[simp] theorem State.setProg_cstate (s : State) (p x : Nat) (v : Prog) (i : Nat) : (s.setProg p x v).cstate i = s.cstate i := rfl
@[simp] theorem State.setProg_mstate (s : State) (p x : Nat) (v : Prog) : (s.setProg p x v).mstate = s.mstate := rfl

/-! ### setEnv -/

@[simp] theorem State.setEnv_pending (s : State) (p sl : Nat) (v : Env) : (s.setEnv p sl v).pending = s.pending := rfl
@[simp] theorem State.setEnv_beat (s : State) (p sl : Nat) (v : Env) : (s.setEnv p sl v).beat = s.beat := rfl
@[simp] theorem State.setEnv_released (s : State) (p sl : Nat) (v : Env) : (s.setEnv p sl v).released = s.released := rfl
@[simp] theorem State.setEnv_cycle (s : State) (p sl : Nat) (v : Env) : (s.setEnv p sl v).cycle = s.cycle := rfl
@[simp] theorem State.setEnv_power (s : State) (p sl : Nat) (v : Env) : (s.setEnv p sl v).power = s.power := rfl
@[simp] theorem State.setEnv_regs (s : State) (p sl : Nat) (v : Env) : (s.setEnv p sl v).regs = s.regs := rfl
@[simp] theorem State.setEnv_live (s : State) (p sl : Nat) (v : Env) : (s.setEnv p sl v).live = s.live := rfl
@[simp] theorem State.setEnv_latchHost (s : State) (p sl : Nat) (v : Env) : (s.setEnv p sl v).latchHost = s.latchHost := rfl
@[simp] theorem State.setEnv_latchSide (s : State) (p sl : Nat) (v : Env) : (s.setEnv p sl v).latchSide = s.latchSide := rfl
@[simp] theorem State.setEnv_mem (s : State) (p sl : Nat) (v : Env) : (s.setEnv p sl v).mem = s.mem := rfl
@[simp] theorem State.setEnv_kept (s : State) (p sl : Nat) (v : Env) : (s.setEnv p sl v).kept = s.kept := rfl
@[simp] theorem State.setEnv_cells (s : State) (p sl : Nat) (v : Env) : (s.setEnv p sl v).cells = s.cells := rfl
@[simp] theorem State.setEnv_clusters (s : State) (p sl : Nat) (v : Env) : (s.setEnv p sl v).clusters = s.clusters := rfl
@[simp] theorem State.setEnv_deadCells (s : State) (p sl : Nat) (v : Env) : (s.setEnv p sl v).deadCells = s.deadCells := rfl
@[simp] theorem State.setEnv_deadClusters (s : State) (p sl : Nat) (v : Env) : (s.setEnv p sl v).deadClusters = s.deadClusters := rfl
@[simp] theorem State.setEnv_net (s : State) (p sl : Nat) (v : Env) : (s.setEnv p sl v).net = s.net := rfl
@[simp] theorem State.setEnv_replies (s : State) (p sl : Nat) (v : Env) : (s.setEnv p sl v).replies = s.replies := rfl
@[simp] theorem State.setEnv_circs (s : State) (p sl : Nat) (v : Env) : (s.setEnv p sl v).circs = s.circs := rfl
@[simp] theorem State.setEnv_routes (s : State) (p sl : Nat) (v : Env) : (s.setEnv p sl v).routes = s.routes := rfl
@[simp] theorem State.setEnv_acks (s : State) (p sl : Nat) (v : Env) : (s.setEnv p sl v).acks = s.acks := rfl
@[simp] theorem State.setEnv_parts (s : State) (p sl : Nat) (v : Env) : (s.setEnv p sl v).parts = s.parts := rfl
@[simp] theorem State.setEnv_progs (s : State) (p sl : Nat) (v : Env) : (s.setEnv p sl v).progs = s.progs := rfl
@[simp] theorem State.setEnv_rcv (s : State) (p sl : Nat) (v : Env) : (s.setEnv p sl v).rcv = s.rcv := rfl
@[simp] theorem State.setEnv_runs (s : State) (p sl : Nat) (v : Env) : (s.setEnv p sl v).runs = s.runs := rfl
@[simp] theorem State.setEnv_loops (s : State) (p sl : Nat) (v : Env) : (s.setEnv p sl v).loops = s.loops := rfl
@[simp] theorem State.setEnv_stg (s : State) (p sl : Nat) (v : Env) : (s.setEnv p sl v).stg = s.stg := rfl
@[simp] theorem State.setEnv_mon (s : State) (p sl : Nat) (v : Env) : (s.setEnv p sl v).mon = s.mon := rfl
@[simp] theorem State.setEnv_sst (s : State) (p sl : Nat) (v : Env) : (s.setEnv p sl v).sst = s.sst := rfl
@[simp] theorem State.setEnv_sec (s : State) (p sl : Nat) (v : Env) : (s.setEnv p sl v).sec = s.sec := rfl
@[simp] theorem State.setEnv_grd (s : State) (p sl : Nat) (v : Env) : (s.setEnv p sl v).grd = s.grd := rfl
@[simp] theorem State.setEnv_bud (s : State) (p sl : Nat) (v : Env) : (s.setEnv p sl v).bud = s.bud := rfl
@[simp] theorem State.setEnv_ldg (s : State) (p sl : Nat) (v : Env) : (s.setEnv p sl v).ldg = s.ldg := rfl
@[simp] theorem State.setEnv_mpw (s : State) (p sl : Nat) (v : Env) : (s.setEnv p sl v).mpw = s.mpw := rfl
@[simp] theorem State.setEnv_hif (s : State) (p sl : Nat) (v : Env) : (s.setEnv p sl v).hif = s.hif := rfl
@[simp] theorem State.setEnv_bup (s : State) (p sl : Nat) (v : Env) : (s.setEnv p sl v).bup = s.bup := rfl
@[simp] theorem State.setEnv_twn (s : State) (p sl : Nat) (v : Env) : (s.setEnv p sl v).twn = s.twn := rfl
@[simp] theorem State.setEnv_cnt (s : State) (p sl : Nat) (v : Env) : (s.setEnv p sl v).cnt = s.cnt := rfl
@[simp] theorem State.setEnv_evl (s : State) (p sl : Nat) (v : Env) : (s.setEnv p sl v).evl = s.evl := rfl
@[simp] theorem State.setEnv_outs (s : State) (p sl : Nat) (v : Env) : (s.setEnv p sl v).outs = s.outs := rfl
@[simp] theorem State.setEnv_free (s : State) (p sl : Nat) (v : Env) : (s.setEnv p sl v).free = s.free := rfl
@[simp] theorem State.setEnv_beatN (s : State) (p sl : Nat) (v : Env) : (s.setEnv p sl v).beatN = s.beatN := rfl
@[simp] theorem State.setEnv_rd (s : State) (p sl : Nat) (v : Env) (i : Nat) : (s.setEnv p sl v).rd i = s.rd i := rfl
@[simp] theorem State.setEnv_f (s : State) (p sl : Nat) (v : Env) (G : Fld) : (s.setEnv p sl v).f G = s.f G := rfl
@[simp] theorem State.setEnv_b (s : State) (p sl : Nat) (v : Env) (G : Fld) : (s.setEnv p sl v).b G = s.b G := rfl
@[simp] theorem State.setEnv_lf (s : State) (p sl : Nat) (v : Env) (G : Fld) : (s.setEnv p sl v).lf G = s.lf G := rfl
@[simp] theorem State.setEnv_rdByte (s : State) (p sl : Nat) (v : Env) (i : Nat) : (s.setEnv p sl v).rdByte i = s.rdByte i := rfl
@[simp] theorem State.setEnv_cell (s : State) (p sl : Nat) (v : Env) (i : Nat) : (s.setEnv p sl v).cell i = s.cell i := rfl
@[simp] theorem State.setEnv_cl (s : State) (p sl : Nat) (v : Env) (i : Nat) : (s.setEnv p sl v).cl i = s.cl i := rfl
@[simp] theorem State.setEnv_part (s : State) (p sl : Nat) (v : Env) (i : Nat) : (s.setEnv p sl v).part i = s.part i := rfl
@[simp] theorem State.setEnv_prog (s : State) (p sl : Nat) (v : Env) (i j : Nat) : (s.setEnv p sl v).prog i j = s.prog i j := rfl
@[simp] theorem State.setEnv_manOf (s : State) (p sl : Nat) (v : Env) (i : Nat) : (s.setEnv p sl v).manOf i = s.manOf i := rfl
@[simp] theorem State.setEnv_held (s : State) (p sl : Nat) (v : Env) (i : Nat) : (s.setEnv p sl v).held i = s.held i := rfl
@[simp] theorem State.setEnv_cstate (s : State) (p sl : Nat) (v : Env) (i : Nat) : (s.setEnv p sl v).cstate i = s.cstate i := rfl
@[simp] theorem State.setEnv_mstate (s : State) (p sl : Nat) (v : Env) : (s.setEnv p sl v).mstate = s.mstate := rfl

/-! ### What an update changes -/

/-- A register after a write of a register (R11). -/
theorem State.rd_wr (s : State) (o : Nat) (w : Word) (i : Nat) : (s.wr o w).rd i = if i = o then w else s.rd i := by
  unfold State.rd State.wr
  split
  · next h => subst h; simp
  · next h => exact Tab.get_put_ne _ _ _ _ h

@[simp] theorem State.rd_wr_self (s : State) (o : Nat) (w : Word) : (s.wr o w).rd o = w := by simp [State.rd_wr]

theorem State.rd_wr_ne (s : State) (w : Word) {o i : Nat} (h : i ≠ o) : (s.wr o w).rd i = s.rd i := by
  simp [State.rd_wr, h]

/-- A field after a write of a register. -/
theorem State.f_wr (s : State) (o : Nat) (w : Word) (F : Fld) :
    (s.wr o w).f F = if F.off = o then fld w F.lo F.n else s.f F := by
  unfold State.f; rw [State.rd_wr]; split <;> simp_all

/-- A register after a field was set. -/
theorem State.rd_setF (s : State) (G : Fld) (v i : Nat) :
    (s.setF G v).rd i = if i = G.off then setFld (s.rd G.off) G.lo G.n v else s.rd i := State.rd_wr ..

theorem State.rd_setF_ne (s : State) (v : Nat) {G : Fld} {i : Nat} (h : i ≠ G.off) : (s.setF G v).rd i = s.rd i := by
  simp [State.rd_setF, h]

/-- A field set and read again keeps the bits it has (R4). -/
theorem fld_setFld (w : Word) (lo n v : Nat) (h : lo + n ≤ 32) : fld (setFld w lo n v) lo n = v % 2 ^ n := by
  unfold fld setFld
  rw [BitVec.toNat_ofNat]
  have hw := w.isLt
  obtain ⟨m, hm⟩ : ∃ m, 32 = lo + n + m := ⟨32 - (lo + n), by omega⟩
  have e1 : 2 ^ 32 = 2 ^ lo * (2 ^ n * 2 ^ m) := by rw [hm, Nat.pow_add, Nat.pow_add, Nat.mul_assoc]
  have e2 : w.toNat / 2 ^ (lo + n) * 2 ^ (lo + n) = w.toNat / 2 ^ (lo + n) * 2 ^ n * 2 ^ lo := by
    rw [Nat.pow_add, Nat.mul_comm (2 ^ lo), Nat.mul_assoc]
  have hl : w.toNat % 2 ^ lo < 2 ^ lo := Nat.mod_lt _ (Nat.two_pow_pos lo)
  have e3 : w.toNat / 2 ^ (lo + n) * 2 ^ (lo + n) + v % 2 ^ n * 2 ^ lo + w.toNat % 2 ^ lo
 = 2 ^ lo * (w.toNat / 2 ^ (lo + n) * 2 ^ n + v % 2 ^ n) + w.toNat % 2 ^ lo := by
    rw [e2, Nat.mul_add]
    rw [Nat.mul_comm (2 ^ lo) (_ * 2 ^ n), Nat.mul_comm (2 ^ lo) (v % 2 ^ n)]
  rw [e3, e1, Nat.mod_mul, Nat.mul_add_div (Nat.two_pow_pos lo), Nat.mul_add_mod]
  rw [Nat.mod_eq_of_lt hl, Nat.div_eq_of_lt hl, Nat.add_zero]
  have e4 : (w.toNat % 2 ^ lo + 2 ^ lo * ((w.toNat / 2 ^ (lo + n) * 2 ^ n + v % 2 ^ n) % (2 ^ n * 2 ^ m))) / 2 ^ lo
 = (w.toNat / 2 ^ (lo + n) * 2 ^ n + v % 2 ^ n) % (2 ^ n * 2 ^ m) := by
    rw [Nat.add_comm, Nat.mul_add_div (Nat.two_pow_pos lo), Nat.div_eq_of_lt hl, Nat.add_zero]
  rw [e4, Nat.mod_mul_right_mod, Nat.mul_comm _ (2 ^ n), Nat.mul_add_mod, Nat.mod_mod]

/-- The bits of a word with a field set (R4). -/
theorem testBit_setFld (w : Word) (lo n v j : Nat) (hj : j < 32) :
    (setFld w lo n v).toNat.testBit j =
      if lo ≤ j ∧ j < lo + n then v.testBit (j - lo) else w.toNat.testBit j := by
  have e : w.toNat / 2 ^ (lo + n) * 2 ^ (lo + n) + v % 2 ^ n * 2 ^ lo + w.toNat % 2 ^ lo
 = 2 ^ lo * (2 ^ n * (w.toNat / 2 ^ (lo + n)) + v % 2 ^ n) + w.toNat % 2 ^ lo := by
    rw [Nat.mul_add, Nat.pow_add, Nat.mul_comm (w.toNat / _), Nat.mul_assoc, Nat.mul_comm (2 ^ lo) (v % 2 ^ n)]
  unfold setFld
  rw [BitVec.toNat_ofNat, e, Nat.testBit_mod_two_pow, Nat.testBit_two_pow_mul_add _ (Nat.mod_lt _ (Nat.two_pow_pos lo))]
  rw [Nat.testBit_two_pow_mul_add _ (Nat.mod_lt _ (Nat.two_pow_pos n))]
  simp only [hj, decide_true, Bool.true_and]
  by_cases h1 : j < lo
  · have h3 : ¬ (lo ≤ j ∧ j < lo + n) := by omega
    simp [h1, Nat.testBit_mod_two_pow]
  · by_cases h2 : j - lo < n
    · have h3 : lo ≤ j ∧ j < lo + n := by omega
      simp [h1, h2, h3, Nat.testBit_mod_two_pow]
    · have h3 : ¬ (lo ≤ j ∧ j < lo + n) := by omega
      simp only [h1, h2, h3, if_false, Nat.testBit_div_two_pow]
      congr 1; omega

/-- The bits of a field. -/
theorem testBit_fld (w : Word) (lo n i : Nat) : (fld w lo n).testBit i = (decide (i < n) && w.toNat.testBit (i + lo)) := by
  unfold fld; rw [Nat.testBit_mod_two_pow, Nat.testBit_div_two_pow]

/-- A field is not changed by setting a field of the register that lies apart from it (R4). -/
theorem fld_setFld_apart (w : Word) (lo n v lo' n' : Nat) (h' : lo' + n' ≤ 32)
    (ha : lo' + n' ≤ lo ∨ lo + n ≤ lo') : fld (setFld w lo n v) lo' n' = fld w lo' n' := by
  apply Nat.eq_of_testBit_eq
  intro i
  rw [testBit_fld, testBit_fld]
  by_cases hi : i < n'
  · rw [testBit_setFld _ _ _ _ _ (by omega), if_neg (by omega)]
  · simp [hi]

/-- A field set and read again (R4, R408). -/
theorem State.f_setF_self (s : State) (F : Fld) (v : Nat) (h : F.lo + F.n ≤ 32) :
    (s.setF F v).f F = v % 2 ^ F.n := by
  unfold State.f; rw [State.rd_setF]; simp [fld_setFld _ _ _ _ h]

/-- A field of another register, or one that lies apart from it in the register, is not changed. -/
theorem State.f_setF_apart (s : State) (F G : Fld) (v : Nat)
    (h : F.off ≠ G.off ∨ F.lo + F.n ≤ 32 ∧ (F.lo + F.n ≤ G.lo ∨ G.lo + G.n ≤ F.lo)) :
    (s.setF G v).f F = s.f F := by
  unfold State.f; rw [State.rd_setF]
  rcases h with h | ⟨h2, h3⟩
  · simp [h]
  · split
    · next h4 => rw [fld_setFld_apart _ _ _ _ _ _ h2 h3, h4]
    · rfl

theorem State.cell_setCell (s : State) (n : Nat) (c : Cell) (m : Nat) :
    (s.setCell n c).cell m = if m = n then c else s.cell m := Tab.get_put ..

@[simp] theorem State.cell_setCell_self (s : State) (n : Nat) (c : Cell) : (s.setCell n c).cell n = c := by
  simp [State.cell_setCell]

theorem State.cl_setCl (s : State) (n : Nat) (c : Cluster) (m : Nat) :
    (s.setCl n c).cl m = if m = n then c else s.cl m := Tab.get_put ..

@[simp] theorem State.cl_setCl_self (s : State) (n : Nat) (c : Cluster) : (s.setCl n c).cl n = c := by
  simp [State.cl_setCl]

theorem State.part_setPart (s : State) (p : Nat) (v : Part) (q : Nat) :
    (s.setPart p v).part q = if q = p then v else s.part q := Tab.get_put ..

@[simp] theorem State.part_setPart_self (s : State) (p : Nat) (v : Part) : (s.setPart p v).part p = v := by
  simp [State.part_setPart]

theorem State.prog_setProg (s : State) (p x : Nat) (v : Prog) (q y : Nat) :
    (s.setProg p x v).prog q y = if 1024 * q + y = 1024 * p + x then v else s.prog q y := Tab.get_put ..

@[simp] theorem State.prog_setProg_self (s : State) (p x : Nat) (v : Prog) : (s.setProg p x v).prog p x = v := by
  simp [State.prog_setProg]

theorem State.env_setEnv (s : State) (p sl : Nat) (v : Env) (q y : Nat) :
    (s.setEnv p sl v).env q y = if 64 * q + y = 64 * p + sl then v else s.env q y := Tab.get_put ..

@[simp] theorem State.env_setEnv_self (s : State) (p sl : Nat) (v : Env) : (s.setEnv p sl v).env p sl = v := by
  simp [State.env_setEnv]

end Sys2Proof.Machine
end

