-- ==== Sys2Proof/Laws/Memory.lean ====
section
/-! SUPPORT. Laws of memory: a read after a write, and that every operation on memory keeps its canonical form. -/

namespace Sys2Proof.Machine

open Sys2Proof.Bits

theorem Memory.wf_reset : Memory.wf State.reset.mem = true := rfl

/-- Writing bytes keeps the canonical form. -/
theorem Memory.wf_memWrite {m : List Host.Cell} (h : Memory.wf m = true) (a : Nat) (d : Bytes) :
    Memory.wf (memWrite m a d) = true := by
  induction d generalizing m a with
  | nil => exact h
  | cons b r ih => exact ih (Tab.wf_put (d := memDefault) h a b) (a + 1)

theorem Memory.wf_outside {m : List Host.Cell} (h : Memory.wf m = true) (lo hi : Nat) :
    Memory.wf (Tab.outside m lo hi) = true := Tab.wf_outside h lo hi

theorem Memory.wf_copyRange {m u : List Host.Cell} (h : Memory.wf m = true) (hu : Memory.wf u = true) (lo hi : Nat)
    (hlh : lo ≤ hi) : Memory.wf (Tab.copyRange m u lo hi) = true := Tab.wf_copyRange h hu lo hi hlh

/-- The KEPT bank's writes keep its canonical form. -/
theorem wf_keptWrite {m : Tab Byte} (h : m.wf (fun _ => 0) = true) (a : Nat) (d : Bytes) :
    (keptWrite m a d).wf (fun _ => 0) = true := by
  induction d generalizing m a with
  | nil => exact h
  | cons b r ih => exact ih (Tab.wf_put (d := fun _ => (0 : Byte)) h a b) (a + 1)

/-- A byte outside the bytes written reads as before. -/
theorem get_memWrite_outside (m : List Host.Cell) (a : Nat) (d : Bytes) (x : Nat) (h : x < a ∨ a + d.length ≤ x) :
    Tab.get (memWrite m a d) x (memDefault x) = Tab.get m x (memDefault x) := by
  induction d generalizing m a with
  | nil => rfl
  | cons b r ih =>
    simp only [List.length_cons] at h
    rw [memWrite, ih _ _ (by omega), Tab.get_put_ne _ _ _ _ (by omega)]

/-- A byte of those written reads as written. -/
theorem get_memWrite_inside (m : List Host.Cell) (a : Nat) (d : Bytes) (i : Nat) (h : i < d.length) :
    Tab.get (memWrite m a d) (a + i) (memDefault (a + i)) = d[i] := by
  induction d generalizing m a i with
  | nil => simp at h
  | cons b r ih =>
    cases i with
    | zero =>
      rw [memWrite, Nat.add_zero, get_memWrite_outside _ _ _ _ (by omega)]
      simp
    | succ i =>
      have := ih (Tab.put m a b (memDefault a)) (a + 1) i (by simpa using h)
      rw [show a + 1 + i = a + (i + 1) by omega] at this
      simpa [memWrite] using this

/-- A read outside the bytes written gives what it gave before. -/
theorem State.rdByte_wrMem_outside (s : State) (a : Nat) (d : Bytes) (x : Nat) (h : x < a ∨ a + d.length ≤ x) :
    (s.wrMem a d).rdByte x = s.rdByte x := get_memWrite_outside s.mem a d x h

/-- A read of a byte written gives it. -/
theorem State.rdByte_wrMem_inside (s : State) (a : Nat) (d : Bytes) (i : Nat) (h : i < d.length) :
    (s.wrMem a d).rdByte (a + i) = d[i] := get_memWrite_inside s.mem a d i h

/-- Reading bytes depends on memory alone. -/
theorem State.rdMem_congr {s t : State} (h : t.mem = s.mem) (a n : Nat) : t.rdMem a n = s.rdMem a n := by
  induction n generalizing a with
  | zero => rfl
  | succ n ih => simp [State.rdMem, State.rdByte, h, ih]

@[simp] theorem State.rdMem_length (s : State) (a n : Nat) : (s.rdMem a n).length = n := by
  induction n generalizing a with
  | zero => rfl
  | succ n ih => simp [State.rdMem, ih]

theorem State.rdMem_getElem (s : State) (a n i : Nat) (h : i < (s.rdMem a n).length) :
    (s.rdMem a n)[i] = s.rdByte (a + i) := by
  induction n generalizing a i with
  | zero => simp at h
  | succ n ih =>
    cases i with
    | zero => simp [State.rdMem]
    | succ i =>
      have := ih (a + 1) i (by simpa [State.rdMem] using h)
      simp only [State.rdMem, List.getElem_cons_succ, this]
      congr 1; omega

/-- Bytes just written are read back. -/
theorem State.rdMem_wrMem (s : State) (a : Nat) (d : Bytes) : (s.wrMem a d).rdMem a d.length = d := by
  apply List.ext_getElem (by simp)
  intro i h1 h2
  rw [State.rdMem_getElem, State.rdByte_wrMem_inside _ _ _ _ h2]

@[simp] theorem toLe_length (n v : Nat) : (toLe n v).length = n := by
  induction n generalizing v with
  | zero => rfl
  | succ n ih => simp [toLe, ih]

end Sys2Proof.Machine
end

