-- ==== Sys2Proof/Laws/Ops.lean ====
section
/-! SUPPORT. What the shared operations of Machine/Ops.lean do and leave: counters, events, the module state, vectors. -/

namespace Sys2Proof.Machine

open Sys2Proof.Bits

/-! ### Counters and pairs of registers -/

@[simp] theorem State.bump_pending (s : State) (o : Nat) : (s.bump o).pending = s.pending := rfl
@[simp] theorem State.bump_beat (s : State) (o : Nat) : (s.bump o).beat = s.beat := rfl
@[simp] theorem State.bump_released (s : State) (o : Nat) : (s.bump o).released = s.released := rfl
@[simp] theorem State.bump_cycle (s : State) (o : Nat) : (s.bump o).cycle = s.cycle := rfl
@[simp] theorem State.bump_power (s : State) (o : Nat) : (s.bump o).power = s.power := rfl
@[simp] theorem State.bump_live (s : State) (o : Nat) : (s.bump o).live = s.live := rfl
@[simp] theorem State.bump_latchHost (s : State) (o : Nat) : (s.bump o).latchHost = s.latchHost := rfl
@[simp] theorem State.bump_latchSide (s : State) (o : Nat) : (s.bump o).latchSide = s.latchSide := rfl
@[simp] theorem State.bump_mem (s : State) (o : Nat) : (s.bump o).mem = s.mem := rfl
@[simp] theorem State.bump_kept (s : State) (o : Nat) : (s.bump o).kept = s.kept := rfl
@[simp] theorem State.bump_cells (s : State) (o : Nat) : (s.bump o).cells = s.cells := rfl
@[simp] theorem State.bump_clusters (s : State) (o : Nat) : (s.bump o).clusters = s.clusters := rfl
@[simp] theorem State.bump_deadCells (s : State) (o : Nat) : (s.bump o).deadCells = s.deadCells := rfl
@[simp] theorem State.bump_deadClusters (s : State) (o : Nat) : (s.bump o).deadClusters = s.deadClusters := rfl
@[simp] theorem State.bump_net (s : State) (o : Nat) : (s.bump o).net = s.net := rfl
@[simp] theorem State.bump_replies (s : State) (o : Nat) : (s.bump o).replies = s.replies := rfl
@[simp] theorem State.bump_circs (s : State) (o : Nat) : (s.bump o).circs = s.circs := rfl
@[simp] theorem State.bump_routes (s : State) (o : Nat) : (s.bump o).routes = s.routes := rfl
@[simp] theorem State.bump_envs (s : State) (o : Nat) : (s.bump o).envs = s.envs := rfl
@[simp] theorem State.bump_acks (s : State) (o : Nat) : (s.bump o).acks = s.acks := rfl
@[simp] theorem State.bump_parts (s : State) (o : Nat) : (s.bump o).parts = s.parts := rfl
@[simp] theorem State.bump_progs (s : State) (o : Nat) : (s.bump o).progs = s.progs := rfl
@[simp] theorem State.bump_rcv (s : State) (o : Nat) : (s.bump o).rcv = s.rcv := rfl
@[simp] theorem State.bump_runs (s : State) (o : Nat) : (s.bump o).runs = s.runs := rfl
@[simp] theorem State.bump_loops (s : State) (o : Nat) : (s.bump o).loops = s.loops := rfl
@[simp] theorem State.bump_stg (s : State) (o : Nat) : (s.bump o).stg = s.stg := rfl
@[simp] theorem State.bump_mon (s : State) (o : Nat) : (s.bump o).mon = s.mon := rfl
@[simp] theorem State.bump_sst (s : State) (o : Nat) : (s.bump o).sst = s.sst := rfl
@[simp] theorem State.bump_sec (s : State) (o : Nat) : (s.bump o).sec = s.sec := rfl
@[simp] theorem State.bump_grd (s : State) (o : Nat) : (s.bump o).grd = s.grd := rfl
@[simp] theorem State.bump_bud (s : State) (o : Nat) : (s.bump o).bud = s.bud := rfl
@[simp] theorem State.bump_ldg (s : State) (o : Nat) : (s.bump o).ldg = s.ldg := rfl
@[simp] theorem State.bump_mpw (s : State) (o : Nat) : (s.bump o).mpw = s.mpw := rfl
@[simp] theorem State.bump_hif (s : State) (o : Nat) : (s.bump o).hif = s.hif := rfl
@[simp] theorem State.bump_bup (s : State) (o : Nat) : (s.bump o).bup = s.bup := rfl
@[simp] theorem State.bump_twn (s : State) (o : Nat) : (s.bump o).twn = s.twn := rfl
@[simp] theorem State.bump_cnt (s : State) (o : Nat) : (s.bump o).cnt = s.cnt := rfl
@[simp] theorem State.bump_evl (s : State) (o : Nat) : (s.bump o).evl = s.evl := rfl
@[simp] theorem State.bump_outs (s : State) (o : Nat) : (s.bump o).outs = s.outs := rfl
@[simp] theorem State.bump_free (s : State) (o : Nat) : (s.bump o).free = s.free := rfl
@[simp] theorem State.bump_beatN (s : State) (o : Nat) : (s.bump o).beatN = s.beatN := rfl
@[simp] theorem State.bump_lf (s : State) (o : Nat) (G : Fld) : (s.bump o).lf G = s.lf G := rfl
@[simp] theorem State.bump_rdByte (s : State) (o : Nat) (i : Nat) : (s.bump o).rdByte i = s.rdByte i := rfl
@[simp] theorem State.bump_cell (s : State) (o : Nat) (i : Nat) : (s.bump o).cell i = s.cell i := rfl
@[simp] theorem State.bump_cl (s : State) (o : Nat) (i : Nat) : (s.bump o).cl i = s.cl i := rfl
@[simp] theorem State.bump_part (s : State) (o : Nat) (i : Nat) : (s.bump o).part i = s.part i := rfl
@[simp] theorem State.bump_prog (s : State) (o : Nat) (i j : Nat) : (s.bump o).prog i j = s.prog i j := rfl
@[simp] theorem State.bump_env (s : State) (o : Nat) (i j : Nat) : (s.bump o).env i j = s.env i j := rfl
@[simp] theorem State.bump_manOf (s : State) (o : Nat) (i : Nat) : (s.bump o).manOf i = s.manOf i := rfl
@[simp] theorem State.bump_held (s : State) (o : Nat) (i : Nat) : (s.bump o).held i = s.held i := rfl

@[simp] theorem State.bumpBy_pending (s : State) (o n : Nat) : (s.bumpBy o n).pending = s.pending := rfl
@[simp] theorem State.bumpBy_beat (s : State) (o n : Nat) : (s.bumpBy o n).beat = s.beat := rfl
@[simp] theorem State.bumpBy_released (s : State) (o n : Nat) : (s.bumpBy o n).released = s.released := rfl
@[simp] theorem State.bumpBy_cycle (s : State) (o n : Nat) : (s.bumpBy o n).cycle = s.cycle := rfl
@[simp] theorem State.bumpBy_power (s : State) (o n : Nat) : (s.bumpBy o n).power = s.power := rfl
@[simp] theorem State.bumpBy_live (s : State) (o n : Nat) : (s.bumpBy o n).live = s.live := rfl
@[simp] theorem State.bumpBy_latchHost (s : State) (o n : Nat) : (s.bumpBy o n).latchHost = s.latchHost := rfl
@[simp] theorem State.bumpBy_latchSide (s : State) (o n : Nat) : (s.bumpBy o n).latchSide = s.latchSide := rfl
@[simp] theorem State.bumpBy_mem (s : State) (o n : Nat) : (s.bumpBy o n).mem = s.mem := rfl
@[simp] theorem State.bumpBy_kept (s : State) (o n : Nat) : (s.bumpBy o n).kept = s.kept := rfl
@[simp] theorem State.bumpBy_cells (s : State) (o n : Nat) : (s.bumpBy o n).cells = s.cells := rfl
@[simp] theorem State.bumpBy_clusters (s : State) (o n : Nat) : (s.bumpBy o n).clusters = s.clusters := rfl
@[simp] theorem State.bumpBy_deadCells (s : State) (o n : Nat) : (s.bumpBy o n).deadCells = s.deadCells := rfl
@[simp] theorem State.bumpBy_deadClusters (s : State) (o n : Nat) : (s.bumpBy o n).deadClusters = s.deadClusters := rfl
@[simp] theorem State.bumpBy_net (s : State) (o n : Nat) : (s.bumpBy o n).net = s.net := rfl
@[simp] theorem State.bumpBy_replies (s : State) (o n : Nat) : (s.bumpBy o n).replies = s.replies := rfl
@[simp] theorem State.bumpBy_circs (s : State) (o n : Nat) : (s.bumpBy o n).circs = s.circs := rfl
@[simp] theorem State.bumpBy_routes (s : State) (o n : Nat) : (s.bumpBy o n).routes = s.routes := rfl
@[simp] theorem State.bumpBy_envs (s : State) (o n : Nat) : (s.bumpBy o n).envs = s.envs := rfl
@[simp] theorem State.bumpBy_acks (s : State) (o n : Nat) : (s.bumpBy o n).acks = s.acks := rfl
@[simp] theorem State.bumpBy_parts (s : State) (o n : Nat) : (s.bumpBy o n).parts = s.parts := rfl
@[simp] theorem State.bumpBy_progs (s : State) (o n : Nat) : (s.bumpBy o n).progs = s.progs := rfl
@[simp] theorem State.bumpBy_rcv (s : State) (o n : Nat) : (s.bumpBy o n).rcv = s.rcv := rfl
@[simp] theorem State.bumpBy_runs (s : State) (o n : Nat) : (s.bumpBy o n).runs = s.runs := rfl
@[simp] theorem State.bumpBy_loops (s : State) (o n : Nat) : (s.bumpBy o n).loops = s.loops := rfl
@[simp] theorem State.bumpBy_stg (s : State) (o n : Nat) : (s.bumpBy o n).stg = s.stg := rfl
@[simp] theorem State.bumpBy_mon (s : State) (o n : Nat) : (s.bumpBy o n).mon = s.mon := rfl
@[simp] theorem State.bumpBy_sst (s : State) (o n : Nat) : (s.bumpBy o n).sst = s.sst := rfl
@[simp] theorem State.bumpBy_sec (s : State) (o n : Nat) : (s.bumpBy o n).sec = s.sec := rfl
@[simp] theorem State.bumpBy_grd (s : State) (o n : Nat) : (s.bumpBy o n).grd = s.grd := rfl
@[simp] theorem State.bumpBy_bud (s : State) (o n : Nat) : (s.bumpBy o n).bud = s.bud := rfl
@[simp] theorem State.bumpBy_ldg (s : State) (o n : Nat) : (s.bumpBy o n).ldg = s.ldg := rfl
@[simp] theorem State.bumpBy_mpw (s : State) (o n : Nat) : (s.bumpBy o n).mpw = s.mpw := rfl
@[simp] theorem State.bumpBy_hif (s : State) (o n : Nat) : (s.bumpBy o n).hif = s.hif := rfl
@[simp] theorem State.bumpBy_bup (s : State) (o n : Nat) : (s.bumpBy o n).bup = s.bup := rfl
@[simp] theorem State.bumpBy_twn (s : State) (o n : Nat) : (s.bumpBy o n).twn = s.twn := rfl
@[simp] theorem State.bumpBy_cnt (s : State) (o n : Nat) : (s.bumpBy o n).cnt = s.cnt := rfl
@[simp] theorem State.bumpBy_evl (s : State) (o n : Nat) : (s.bumpBy o n).evl = s.evl := rfl
@[simp] theorem State.bumpBy_outs (s : State) (o n : Nat) : (s.bumpBy o n).outs = s.outs := rfl
@[simp] theorem State.bumpBy_free (s : State) (o n : Nat) : (s.bumpBy o n).free = s.free := rfl
@[simp] theorem State.bumpBy_beatN (s : State) (o n : Nat) : (s.bumpBy o n).beatN = s.beatN := rfl
@[simp] theorem State.bumpBy_lf (s : State) (o n : Nat) (G : Fld) : (s.bumpBy o n).lf G = s.lf G := rfl
@[simp] theorem State.bumpBy_rdByte (s : State) (o n : Nat) (i : Nat) : (s.bumpBy o n).rdByte i = s.rdByte i := rfl
@[simp] theorem State.bumpBy_cell (s : State) (o n : Nat) (i : Nat) : (s.bumpBy o n).cell i = s.cell i := rfl
@[simp] theorem State.bumpBy_cl (s : State) (o n : Nat) (i : Nat) : (s.bumpBy o n).cl i = s.cl i := rfl
@[simp] theorem State.bumpBy_part (s : State) (o n : Nat) (i : Nat) : (s.bumpBy o n).part i = s.part i := rfl
@[simp] theorem State.bumpBy_prog (s : State) (o n : Nat) (i j : Nat) : (s.bumpBy o n).prog i j = s.prog i j := rfl
@[simp] theorem State.bumpBy_env (s : State) (o n : Nat) (i j : Nat) : (s.bumpBy o n).env i j = s.env i j := rfl
@[simp] theorem State.bumpBy_manOf (s : State) (o n : Nat) (i : Nat) : (s.bumpBy o n).manOf i = s.manOf i := rfl
@[simp] theorem State.bumpBy_held (s : State) (o n : Nat) (i : Nat) : (s.bumpBy o n).held i = s.held i := rfl

@[simp] theorem State.wr64_pending (s : State) (o v : Nat) : (s.wr64 o v).pending = s.pending := rfl
@[simp] theorem State.wr64_beat (s : State) (o v : Nat) : (s.wr64 o v).beat = s.beat := rfl
@[simp] theorem State.wr64_released (s : State) (o v : Nat) : (s.wr64 o v).released = s.released := rfl
@[simp] theorem State.wr64_cycle (s : State) (o v : Nat) : (s.wr64 o v).cycle = s.cycle := rfl
@[simp] theorem State.wr64_power (s : State) (o v : Nat) : (s.wr64 o v).power = s.power := rfl
@[simp] theorem State.wr64_live (s : State) (o v : Nat) : (s.wr64 o v).live = s.live := rfl
@[simp] theorem State.wr64_latchHost (s : State) (o v : Nat) : (s.wr64 o v).latchHost = s.latchHost := rfl
@[simp] theorem State.wr64_latchSide (s : State) (o v : Nat) : (s.wr64 o v).latchSide = s.latchSide := rfl
@[simp] theorem State.wr64_mem (s : State) (o v : Nat) : (s.wr64 o v).mem = s.mem := rfl
@[simp] theorem State.wr64_kept (s : State) (o v : Nat) : (s.wr64 o v).kept = s.kept := rfl
@[simp] theorem State.wr64_cells (s : State) (o v : Nat) : (s.wr64 o v).cells = s.cells := rfl
@[simp] theorem State.wr64_clusters (s : State) (o v : Nat) : (s.wr64 o v).clusters = s.clusters := rfl
@[simp] theorem State.wr64_deadCells (s : State) (o v : Nat) : (s.wr64 o v).deadCells = s.deadCells := rfl
@[simp] theorem State.wr64_deadClusters (s : State) (o v : Nat) : (s.wr64 o v).deadClusters = s.deadClusters := rfl
@[simp] theorem State.wr64_net (s : State) (o v : Nat) : (s.wr64 o v).net = s.net := rfl
@[simp] theorem State.wr64_replies (s : State) (o v : Nat) : (s.wr64 o v).replies = s.replies := rfl
@[simp] theorem State.wr64_circs (s : State) (o v : Nat) : (s.wr64 o v).circs = s.circs := rfl
@[simp] theorem State.wr64_routes (s : State) (o v : Nat) : (s.wr64 o v).routes = s.routes := rfl
@[simp] theorem State.wr64_envs (s : State) (o v : Nat) : (s.wr64 o v).envs = s.envs := rfl
@[simp] theorem State.wr64_acks (s : State) (o v : Nat) : (s.wr64 o v).acks = s.acks := rfl
@[simp] theorem State.wr64_parts (s : State) (o v : Nat) : (s.wr64 o v).parts = s.parts := rfl
@[simp] theorem State.wr64_progs (s : State) (o v : Nat) : (s.wr64 o v).progs = s.progs := rfl
@[simp] theorem State.wr64_rcv (s : State) (o v : Nat) : (s.wr64 o v).rcv = s.rcv := rfl
@[simp] theorem State.wr64_runs (s : State) (o v : Nat) : (s.wr64 o v).runs = s.runs := rfl
@[simp] theorem State.wr64_loops (s : State) (o v : Nat) : (s.wr64 o v).loops = s.loops := rfl
@[simp] theorem State.wr64_stg (s : State) (o v : Nat) : (s.wr64 o v).stg = s.stg := rfl
@[simp] theorem State.wr64_mon (s : State) (o v : Nat) : (s.wr64 o v).mon = s.mon := rfl
@[simp] theorem State.wr64_sst (s : State) (o v : Nat) : (s.wr64 o v).sst = s.sst := rfl
@[simp] theorem State.wr64_sec (s : State) (o v : Nat) : (s.wr64 o v).sec = s.sec := rfl
@[simp] theorem State.wr64_grd (s : State) (o v : Nat) : (s.wr64 o v).grd = s.grd := rfl
@[simp] theorem State.wr64_bud (s : State) (o v : Nat) : (s.wr64 o v).bud = s.bud := rfl
@[simp] theorem State.wr64_ldg (s : State) (o v : Nat) : (s.wr64 o v).ldg = s.ldg := rfl
@[simp] theorem State.wr64_mpw (s : State) (o v : Nat) : (s.wr64 o v).mpw = s.mpw := rfl
@[simp] theorem State.wr64_hif (s : State) (o v : Nat) : (s.wr64 o v).hif = s.hif := rfl
@[simp] theorem State.wr64_bup (s : State) (o v : Nat) : (s.wr64 o v).bup = s.bup := rfl
@[simp] theorem State.wr64_twn (s : State) (o v : Nat) : (s.wr64 o v).twn = s.twn := rfl
@[simp] theorem State.wr64_cnt (s : State) (o v : Nat) : (s.wr64 o v).cnt = s.cnt := rfl
@[simp] theorem State.wr64_evl (s : State) (o v : Nat) : (s.wr64 o v).evl = s.evl := rfl
@[simp] theorem State.wr64_outs (s : State) (o v : Nat) : (s.wr64 o v).outs = s.outs := rfl
@[simp] theorem State.wr64_free (s : State) (o v : Nat) : (s.wr64 o v).free = s.free := rfl
@[simp] theorem State.wr64_beatN (s : State) (o v : Nat) : (s.wr64 o v).beatN = s.beatN := rfl
@[simp] theorem State.wr64_lf (s : State) (o v : Nat) (G : Fld) : (s.wr64 o v).lf G = s.lf G := rfl
@[simp] theorem State.wr64_rdByte (s : State) (o v : Nat) (i : Nat) : (s.wr64 o v).rdByte i = s.rdByte i := rfl
@[simp] theorem State.wr64_cell (s : State) (o v : Nat) (i : Nat) : (s.wr64 o v).cell i = s.cell i := rfl
@[simp] theorem State.wr64_cl (s : State) (o v : Nat) (i : Nat) : (s.wr64 o v).cl i = s.cl i := rfl
@[simp] theorem State.wr64_part (s : State) (o v : Nat) (i : Nat) : (s.wr64 o v).part i = s.part i := rfl
@[simp] theorem State.wr64_prog (s : State) (o v : Nat) (i j : Nat) : (s.wr64 o v).prog i j = s.prog i j := rfl
@[simp] theorem State.wr64_env (s : State) (o v : Nat) (i j : Nat) : (s.wr64 o v).env i j = s.env i j := rfl
@[simp] theorem State.wr64_manOf (s : State) (o v : Nat) (i : Nat) : (s.wr64 o v).manOf i = s.manOf i := rfl
@[simp] theorem State.wr64_held (s : State) (o v : Nat) (i : Nat) : (s.wr64 o v).held i = s.held i := rfl

@[simp] theorem State.bump64_pending (s : State) (o n : Nat) : (s.bump64 o n).pending = s.pending := rfl
@[simp] theorem State.bump64_beat (s : State) (o n : Nat) : (s.bump64 o n).beat = s.beat := rfl
@[simp] theorem State.bump64_released (s : State) (o n : Nat) : (s.bump64 o n).released = s.released := rfl
@[simp] theorem State.bump64_cycle (s : State) (o n : Nat) : (s.bump64 o n).cycle = s.cycle := rfl
@[simp] theorem State.bump64_power (s : State) (o n : Nat) : (s.bump64 o n).power = s.power := rfl
@[simp] theorem State.bump64_live (s : State) (o n : Nat) : (s.bump64 o n).live = s.live := rfl
@[simp] theorem State.bump64_latchHost (s : State) (o n : Nat) : (s.bump64 o n).latchHost = s.latchHost := rfl
@[simp] theorem State.bump64_latchSide (s : State) (o n : Nat) : (s.bump64 o n).latchSide = s.latchSide := rfl
@[simp] theorem State.bump64_mem (s : State) (o n : Nat) : (s.bump64 o n).mem = s.mem := rfl
@[simp] theorem State.bump64_kept (s : State) (o n : Nat) : (s.bump64 o n).kept = s.kept := rfl
@[simp] theorem State.bump64_cells (s : State) (o n : Nat) : (s.bump64 o n).cells = s.cells := rfl
@[simp] theorem State.bump64_clusters (s : State) (o n : Nat) : (s.bump64 o n).clusters = s.clusters := rfl
@[simp] theorem State.bump64_deadCells (s : State) (o n : Nat) : (s.bump64 o n).deadCells = s.deadCells := rfl
@[simp] theorem State.bump64_deadClusters (s : State) (o n : Nat) : (s.bump64 o n).deadClusters = s.deadClusters := rfl
@[simp] theorem State.bump64_net (s : State) (o n : Nat) : (s.bump64 o n).net = s.net := rfl
@[simp] theorem State.bump64_replies (s : State) (o n : Nat) : (s.bump64 o n).replies = s.replies := rfl
@[simp] theorem State.bump64_circs (s : State) (o n : Nat) : (s.bump64 o n).circs = s.circs := rfl
@[simp] theorem State.bump64_routes (s : State) (o n : Nat) : (s.bump64 o n).routes = s.routes := rfl
@[simp] theorem State.bump64_envs (s : State) (o n : Nat) : (s.bump64 o n).envs = s.envs := rfl
@[simp] theorem State.bump64_acks (s : State) (o n : Nat) : (s.bump64 o n).acks = s.acks := rfl
@[simp] theorem State.bump64_parts (s : State) (o n : Nat) : (s.bump64 o n).parts = s.parts := rfl
@[simp] theorem State.bump64_progs (s : State) (o n : Nat) : (s.bump64 o n).progs = s.progs := rfl
@[simp] theorem State.bump64_rcv (s : State) (o n : Nat) : (s.bump64 o n).rcv = s.rcv := rfl
@[simp] theorem State.bump64_runs (s : State) (o n : Nat) : (s.bump64 o n).runs = s.runs := rfl
@[simp] theorem State.bump64_loops (s : State) (o n : Nat) : (s.bump64 o n).loops = s.loops := rfl
@[simp] theorem State.bump64_stg (s : State) (o n : Nat) : (s.bump64 o n).stg = s.stg := rfl
@[simp] theorem State.bump64_mon (s : State) (o n : Nat) : (s.bump64 o n).mon = s.mon := rfl
@[simp] theorem State.bump64_sst (s : State) (o n : Nat) : (s.bump64 o n).sst = s.sst := rfl
@[simp] theorem State.bump64_sec (s : State) (o n : Nat) : (s.bump64 o n).sec = s.sec := rfl
@[simp] theorem State.bump64_grd (s : State) (o n : Nat) : (s.bump64 o n).grd = s.grd := rfl
@[simp] theorem State.bump64_bud (s : State) (o n : Nat) : (s.bump64 o n).bud = s.bud := rfl
@[simp] theorem State.bump64_ldg (s : State) (o n : Nat) : (s.bump64 o n).ldg = s.ldg := rfl
@[simp] theorem State.bump64_mpw (s : State) (o n : Nat) : (s.bump64 o n).mpw = s.mpw := rfl
@[simp] theorem State.bump64_hif (s : State) (o n : Nat) : (s.bump64 o n).hif = s.hif := rfl
@[simp] theorem State.bump64_bup (s : State) (o n : Nat) : (s.bump64 o n).bup = s.bup := rfl
@[simp] theorem State.bump64_twn (s : State) (o n : Nat) : (s.bump64 o n).twn = s.twn := rfl
@[simp] theorem State.bump64_cnt (s : State) (o n : Nat) : (s.bump64 o n).cnt = s.cnt := rfl
@[simp] theorem State.bump64_evl (s : State) (o n : Nat) : (s.bump64 o n).evl = s.evl := rfl
@[simp] theorem State.bump64_outs (s : State) (o n : Nat) : (s.bump64 o n).outs = s.outs := rfl
@[simp] theorem State.bump64_free (s : State) (o n : Nat) : (s.bump64 o n).free = s.free := rfl
@[simp] theorem State.bump64_beatN (s : State) (o n : Nat) : (s.bump64 o n).beatN = s.beatN := rfl
@[simp] theorem State.bump64_lf (s : State) (o n : Nat) (G : Fld) : (s.bump64 o n).lf G = s.lf G := rfl
@[simp] theorem State.bump64_rdByte (s : State) (o n : Nat) (i : Nat) : (s.bump64 o n).rdByte i = s.rdByte i := rfl
@[simp] theorem State.bump64_cell (s : State) (o n : Nat) (i : Nat) : (s.bump64 o n).cell i = s.cell i := rfl
@[simp] theorem State.bump64_cl (s : State) (o n : Nat) (i : Nat) : (s.bump64 o n).cl i = s.cl i := rfl
@[simp] theorem State.bump64_part (s : State) (o n : Nat) (i : Nat) : (s.bump64 o n).part i = s.part i := rfl
@[simp] theorem State.bump64_prog (s : State) (o n : Nat) (i j : Nat) : (s.bump64 o n).prog i j = s.prog i j := rfl
@[simp] theorem State.bump64_env (s : State) (o n : Nat) (i j : Nat) : (s.bump64 o n).env i j = s.env i j := rfl
@[simp] theorem State.bump64_manOf (s : State) (o n : Nat) (i : Nat) : (s.bump64 o n).manOf i = s.manOf i := rfl
@[simp] theorem State.bump64_held (s : State) (o n : Nat) (i : Nat) : (s.bump64 o n).held i = s.held i := rfl

/-- A saturating counter. -/
theorem State.rd_bumpBy (s : State) (o n i : Nat) :
    (s.bumpBy o n).rd i = if i = o then BitVec.ofNat 32 (satAdd 32 (s.rd o).toNat n) else s.rd i := State.rd_wr ..

theorem State.rd_bump (s : State) (o i : Nat) :
    (s.bump o).rd i = if i = o then BitVec.ofNat 32 (satAdd 32 (s.rd o).toNat 1) else s.rd i := State.rd_wr ..

theorem State.rd_wr64 (s : State) (o v i : Nat) :
    (s.wr64 o v).rd i = if i = o + 4 then BitVec.ofNat 32 (v / 4294967296) else if i = o then BitVec.ofNat 32 v else s.rd i := by
  unfold State.wr64; rw [State.rd_wr, State.rd_wr]

/-! ### Events -/

/-- An event changes no register but the count of dropped events. -/
theorem State.rd_raise (s : State) (code p0 p1 p2 p3 o p : Nat) {i : Nat} (h : i ≠ Reg.EVL_QDROP_CNT) :
    (s.raise code p0 p1 p2 p3 o p).rd i = s.rd i := by
  unfold State.raise; dsimp only
  split
  · show (s.bump _).rd i = _; rw [State.rd_bump, if_neg h]
  · split
    · show (s.bump _).rd i = _; rw [State.rd_bump, if_neg h]
    · rfl

theorem State.rd_ev (s : State) (code p0 p1 o p : Nat) {i : Nat} (h : i ≠ Reg.EVL_QDROP_CNT) :
    (s.ev code p0 p1 o p).rd i = s.rd i := State.rd_raise s code p0 p1 _ _ o p h

theorem State.f_ev (s : State) (code p0 p1 o p : Nat) {F : Fld} (h : F.off ≠ Reg.EVL_QDROP_CNT) :
    (s.ev code p0 p1 o p).f F = s.f F := by unfold State.f; rw [State.rd_ev _ _ _ _ _ _ h]

theorem State.f_raise (s : State) (code p0 p1 p2 p3 o p : Nat) {F : Fld} (h : F.off ≠ Reg.EVL_QDROP_CNT) :
    (s.raise code p0 p1 p2 p3 o p).f F = s.f F := by unfold State.f; rw [State.rd_raise _ _ _ _ _ _ _ _ h]

/-- An event changes the queue of events and the count of dropped ones, and nothing else. -/
theorem State.raise_frame (s : State) (code p0 p1 p2 p3 o p : Nat) :
    s.raise code p0 p1 p2 p3 o p =
      { s with regs := (s.raise code p0 p1 p2 p3 o p).regs, evl := (s.raise code p0 p1 p2 p3 o p).evl } := by
  unfold State.raise; dsimp only
  split
  · rfl
  · split <;> rfl

theorem State.ev_frame (s : State) (code p0 p1 o p : Nat) :
    s.ev code p0 p1 o p = { s with regs := (s.ev code p0 p1 o p).regs, evl := (s.ev code p0 p1 o p).evl } :=
  State.raise_frame ..

/-- An event joins the queue of an open log that has room (R401). -/
theorem State.queue_raise (s : State) (code p0 p1 p2 p3 o p : Nat) (h1 : s.evl.closed = false) (h2 : s.evl.queue.length < 256) :
    (s.raise code p0 p1 p2 p3 o p).evl = { s.evl with queue := s.evl.queue ++
      [{ code := code, src := p * 4096 + o, p0 := BitVec.ofNat 32 p0, p1 := BitVec.ofNat 32 p1
         p2 := BitVec.ofNat 32 p2, p3 := BitVec.ofNat 32 p3
         cycle := if s.released then some s.now else none, hold := decide (s.mstate = 6) }] } := by
  have h3 : ¬ s.evl.queue.length ≥ 256 := by omega
  unfold State.raise; simp only [h1, Bool.false_eq_true, if_false, h3]

/-- Events never leave the queue by an event: what it held it still holds, in front. -/
theorem State.queue_raise_prefix (s : State) (code p0 p1 p2 p3 o p : Nat) :
    ∃ r, (s.raise code p0 p1 p2 p3 o p).evl.queue = s.evl.queue ++ r := by
  unfold State.raise; dsimp only
  split
  · exact ⟨[], by simp⟩
  · split
    · exact ⟨[], by simp⟩
    · exact ⟨_, rfl⟩

@[simp] theorem State.raise_pending (s : State) (code p0 p1 p2 p3 o p : Nat) : (s.raise code p0 p1 p2 p3 o p).pending = s.pending := (congrArg (fun t : State => t.pending) (State.raise_frame s code p0 p1 p2 p3 o p)).trans rfl
@[simp] theorem State.raise_beat (s : State) (code p0 p1 p2 p3 o p : Nat) : (s.raise code p0 p1 p2 p3 o p).beat = s.beat := (congrArg (fun t : State => t.beat) (State.raise_frame s code p0 p1 p2 p3 o p)).trans rfl
@[simp] theorem State.raise_released (s : State) (code p0 p1 p2 p3 o p : Nat) : (s.raise code p0 p1 p2 p3 o p).released = s.released := (congrArg (fun t : State => t.released) (State.raise_frame s code p0 p1 p2 p3 o p)).trans rfl
@[simp] theorem State.raise_cycle (s : State) (code p0 p1 p2 p3 o p : Nat) : (s.raise code p0 p1 p2 p3 o p).cycle = s.cycle := (congrArg (fun t : State => t.cycle) (State.raise_frame s code p0 p1 p2 p3 o p)).trans rfl
@[simp] theorem State.raise_power (s : State) (code p0 p1 p2 p3 o p : Nat) : (s.raise code p0 p1 p2 p3 o p).power = s.power := (congrArg (fun t : State => t.power) (State.raise_frame s code p0 p1 p2 p3 o p)).trans rfl
@[simp] theorem State.raise_live (s : State) (code p0 p1 p2 p3 o p : Nat) : (s.raise code p0 p1 p2 p3 o p).live = s.live := (congrArg (fun t : State => t.live) (State.raise_frame s code p0 p1 p2 p3 o p)).trans rfl
@[simp] theorem State.raise_latchHost (s : State) (code p0 p1 p2 p3 o p : Nat) : (s.raise code p0 p1 p2 p3 o p).latchHost = s.latchHost := (congrArg (fun t : State => t.latchHost) (State.raise_frame s code p0 p1 p2 p3 o p)).trans rfl
@[simp] theorem State.raise_latchSide (s : State) (code p0 p1 p2 p3 o p : Nat) : (s.raise code p0 p1 p2 p3 o p).latchSide = s.latchSide := (congrArg (fun t : State => t.latchSide) (State.raise_frame s code p0 p1 p2 p3 o p)).trans rfl
@[simp] theorem State.raise_mem (s : State) (code p0 p1 p2 p3 o p : Nat) : (s.raise code p0 p1 p2 p3 o p).mem = s.mem := (congrArg (fun t : State => t.mem) (State.raise_frame s code p0 p1 p2 p3 o p)).trans rfl
@[simp] theorem State.raise_kept (s : State) (code p0 p1 p2 p3 o p : Nat) : (s.raise code p0 p1 p2 p3 o p).kept = s.kept := (congrArg (fun t : State => t.kept) (State.raise_frame s code p0 p1 p2 p3 o p)).trans rfl
@[simp] theorem State.raise_cells (s : State) (code p0 p1 p2 p3 o p : Nat) : (s.raise code p0 p1 p2 p3 o p).cells = s.cells := (congrArg (fun t : State => t.cells) (State.raise_frame s code p0 p1 p2 p3 o p)).trans rfl
@[simp] theorem State.raise_clusters (s : State) (code p0 p1 p2 p3 o p : Nat) : (s.raise code p0 p1 p2 p3 o p).clusters = s.clusters := (congrArg (fun t : State => t.clusters) (State.raise_frame s code p0 p1 p2 p3 o p)).trans rfl
@[simp] theorem State.raise_deadCells (s : State) (code p0 p1 p2 p3 o p : Nat) : (s.raise code p0 p1 p2 p3 o p).deadCells = s.deadCells := (congrArg (fun t : State => t.deadCells) (State.raise_frame s code p0 p1 p2 p3 o p)).trans rfl
@[simp] theorem State.raise_deadClusters (s : State) (code p0 p1 p2 p3 o p : Nat) : (s.raise code p0 p1 p2 p3 o p).deadClusters = s.deadClusters := (congrArg (fun t : State => t.deadClusters) (State.raise_frame s code p0 p1 p2 p3 o p)).trans rfl
@[simp] theorem State.raise_net (s : State) (code p0 p1 p2 p3 o p : Nat) : (s.raise code p0 p1 p2 p3 o p).net = s.net := (congrArg (fun t : State => t.net) (State.raise_frame s code p0 p1 p2 p3 o p)).trans rfl
@[simp] theorem State.raise_replies (s : State) (code p0 p1 p2 p3 o p : Nat) : (s.raise code p0 p1 p2 p3 o p).replies = s.replies := (congrArg (fun t : State => t.replies) (State.raise_frame s code p0 p1 p2 p3 o p)).trans rfl
@[simp] theorem State.raise_circs (s : State) (code p0 p1 p2 p3 o p : Nat) : (s.raise code p0 p1 p2 p3 o p).circs = s.circs := (congrArg (fun t : State => t.circs) (State.raise_frame s code p0 p1 p2 p3 o p)).trans rfl
@[simp] theorem State.raise_routes (s : State) (code p0 p1 p2 p3 o p : Nat) : (s.raise code p0 p1 p2 p3 o p).routes = s.routes := (congrArg (fun t : State => t.routes) (State.raise_frame s code p0 p1 p2 p3 o p)).trans rfl
@[simp] theorem State.raise_envs (s : State) (code p0 p1 p2 p3 o p : Nat) : (s.raise code p0 p1 p2 p3 o p).envs = s.envs := (congrArg (fun t : State => t.envs) (State.raise_frame s code p0 p1 p2 p3 o p)).trans rfl
@[simp] theorem State.raise_acks (s : State) (code p0 p1 p2 p3 o p : Nat) : (s.raise code p0 p1 p2 p3 o p).acks = s.acks := (congrArg (fun t : State => t.acks) (State.raise_frame s code p0 p1 p2 p3 o p)).trans rfl
@[simp] theorem State.raise_parts (s : State) (code p0 p1 p2 p3 o p : Nat) : (s.raise code p0 p1 p2 p3 o p).parts = s.parts := (congrArg (fun t : State => t.parts) (State.raise_frame s code p0 p1 p2 p3 o p)).trans rfl
@[simp] theorem State.raise_progs (s : State) (code p0 p1 p2 p3 o p : Nat) : (s.raise code p0 p1 p2 p3 o p).progs = s.progs := (congrArg (fun t : State => t.progs) (State.raise_frame s code p0 p1 p2 p3 o p)).trans rfl
@[simp] theorem State.raise_rcv (s : State) (code p0 p1 p2 p3 o p : Nat) : (s.raise code p0 p1 p2 p3 o p).rcv = s.rcv := (congrArg (fun t : State => t.rcv) (State.raise_frame s code p0 p1 p2 p3 o p)).trans rfl
@[simp] theorem State.raise_runs (s : State) (code p0 p1 p2 p3 o p : Nat) : (s.raise code p0 p1 p2 p3 o p).runs = s.runs := (congrArg (fun t : State => t.runs) (State.raise_frame s code p0 p1 p2 p3 o p)).trans rfl
@[simp] theorem State.raise_loops (s : State) (code p0 p1 p2 p3 o p : Nat) : (s.raise code p0 p1 p2 p3 o p).loops = s.loops := (congrArg (fun t : State => t.loops) (State.raise_frame s code p0 p1 p2 p3 o p)).trans rfl
@[simp] theorem State.raise_stg (s : State) (code p0 p1 p2 p3 o p : Nat) : (s.raise code p0 p1 p2 p3 o p).stg = s.stg := (congrArg (fun t : State => t.stg) (State.raise_frame s code p0 p1 p2 p3 o p)).trans rfl
@[simp] theorem State.raise_mon (s : State) (code p0 p1 p2 p3 o p : Nat) : (s.raise code p0 p1 p2 p3 o p).mon = s.mon := (congrArg (fun t : State => t.mon) (State.raise_frame s code p0 p1 p2 p3 o p)).trans rfl
@[simp] theorem State.raise_sst (s : State) (code p0 p1 p2 p3 o p : Nat) : (s.raise code p0 p1 p2 p3 o p).sst = s.sst := (congrArg (fun t : State => t.sst) (State.raise_frame s code p0 p1 p2 p3 o p)).trans rfl
@[simp] theorem State.raise_sec (s : State) (code p0 p1 p2 p3 o p : Nat) : (s.raise code p0 p1 p2 p3 o p).sec = s.sec := (congrArg (fun t : State => t.sec) (State.raise_frame s code p0 p1 p2 p3 o p)).trans rfl
@[simp] theorem State.raise_grd (s : State) (code p0 p1 p2 p3 o p : Nat) : (s.raise code p0 p1 p2 p3 o p).grd = s.grd := (congrArg (fun t : State => t.grd) (State.raise_frame s code p0 p1 p2 p3 o p)).trans rfl
@[simp] theorem State.raise_bud (s : State) (code p0 p1 p2 p3 o p : Nat) : (s.raise code p0 p1 p2 p3 o p).bud = s.bud := (congrArg (fun t : State => t.bud) (State.raise_frame s code p0 p1 p2 p3 o p)).trans rfl
@[simp] theorem State.raise_ldg (s : State) (code p0 p1 p2 p3 o p : Nat) : (s.raise code p0 p1 p2 p3 o p).ldg = s.ldg := (congrArg (fun t : State => t.ldg) (State.raise_frame s code p0 p1 p2 p3 o p)).trans rfl
@[simp] theorem State.raise_mpw (s : State) (code p0 p1 p2 p3 o p : Nat) : (s.raise code p0 p1 p2 p3 o p).mpw = s.mpw := (congrArg (fun t : State => t.mpw) (State.raise_frame s code p0 p1 p2 p3 o p)).trans rfl
@[simp] theorem State.raise_hif (s : State) (code p0 p1 p2 p3 o p : Nat) : (s.raise code p0 p1 p2 p3 o p).hif = s.hif := (congrArg (fun t : State => t.hif) (State.raise_frame s code p0 p1 p2 p3 o p)).trans rfl
@[simp] theorem State.raise_bup (s : State) (code p0 p1 p2 p3 o p : Nat) : (s.raise code p0 p1 p2 p3 o p).bup = s.bup := (congrArg (fun t : State => t.bup) (State.raise_frame s code p0 p1 p2 p3 o p)).trans rfl
@[simp] theorem State.raise_twn (s : State) (code p0 p1 p2 p3 o p : Nat) : (s.raise code p0 p1 p2 p3 o p).twn = s.twn := (congrArg (fun t : State => t.twn) (State.raise_frame s code p0 p1 p2 p3 o p)).trans rfl
@[simp] theorem State.raise_cnt (s : State) (code p0 p1 p2 p3 o p : Nat) : (s.raise code p0 p1 p2 p3 o p).cnt = s.cnt := (congrArg (fun t : State => t.cnt) (State.raise_frame s code p0 p1 p2 p3 o p)).trans rfl
@[simp] theorem State.raise_outs (s : State) (code p0 p1 p2 p3 o p : Nat) : (s.raise code p0 p1 p2 p3 o p).outs = s.outs := (congrArg (fun t : State => t.outs) (State.raise_frame s code p0 p1 p2 p3 o p)).trans rfl
@[simp] theorem State.raise_free (s : State) (code p0 p1 p2 p3 o p : Nat) : (s.raise code p0 p1 p2 p3 o p).free = s.free := (congrArg (fun t : State => t.free) (State.raise_frame s code p0 p1 p2 p3 o p)).trans rfl
@[simp] theorem State.raise_beatN (s : State) (code p0 p1 p2 p3 o p : Nat) : (s.raise code p0 p1 p2 p3 o p).beatN = s.beatN := (congrArg (fun t : State => t.beatN) (State.raise_frame s code p0 p1 p2 p3 o p)).trans rfl
@[simp] theorem State.raise_lf (s : State) (code p0 p1 p2 p3 o p : Nat) (G : Fld) : (s.raise code p0 p1 p2 p3 o p).lf G = s.lf G := (congrArg (fun t : State => t.lf G) (State.raise_frame s code p0 p1 p2 p3 o p)).trans rfl
@[simp] theorem State.raise_rdByte (s : State) (code p0 p1 p2 p3 o p : Nat) (i : Nat) : (s.raise code p0 p1 p2 p3 o p).rdByte i = s.rdByte i := (congrArg (fun t : State => t.rdByte i) (State.raise_frame s code p0 p1 p2 p3 o p)).trans rfl
@[simp] theorem State.raise_cell (s : State) (code p0 p1 p2 p3 o p : Nat) (i : Nat) : (s.raise code p0 p1 p2 p3 o p).cell i = s.cell i := (congrArg (fun t : State => t.cell i) (State.raise_frame s code p0 p1 p2 p3 o p)).trans rfl
@[simp] theorem State.raise_cl (s : State) (code p0 p1 p2 p3 o p : Nat) (i : Nat) : (s.raise code p0 p1 p2 p3 o p).cl i = s.cl i := (congrArg (fun t : State => t.cl i) (State.raise_frame s code p0 p1 p2 p3 o p)).trans rfl
@[simp] theorem State.raise_part (s : State) (code p0 p1 p2 p3 o p : Nat) (i : Nat) : (s.raise code p0 p1 p2 p3 o p).part i = s.part i := (congrArg (fun t : State => t.part i) (State.raise_frame s code p0 p1 p2 p3 o p)).trans rfl
@[simp] theorem State.raise_prog (s : State) (code p0 p1 p2 p3 o p : Nat) (i j : Nat) : (s.raise code p0 p1 p2 p3 o p).prog i j = s.prog i j := (congrArg (fun t : State => t.prog i j) (State.raise_frame s code p0 p1 p2 p3 o p)).trans rfl
@[simp] theorem State.raise_env (s : State) (code p0 p1 p2 p3 o p : Nat) (i j : Nat) : (s.raise code p0 p1 p2 p3 o p).env i j = s.env i j := (congrArg (fun t : State => t.env i j) (State.raise_frame s code p0 p1 p2 p3 o p)).trans rfl
@[simp] theorem State.raise_manOf (s : State) (code p0 p1 p2 p3 o p : Nat) (i : Nat) : (s.raise code p0 p1 p2 p3 o p).manOf i = s.manOf i := (congrArg (fun t : State => t.manOf i) (State.raise_frame s code p0 p1 p2 p3 o p)).trans rfl
@[simp] theorem State.raise_held (s : State) (code p0 p1 p2 p3 o p : Nat) (i : Nat) : (s.raise code p0 p1 p2 p3 o p).held i = s.held i := (congrArg (fun t : State => t.held i) (State.raise_frame s code p0 p1 p2 p3 o p)).trans rfl

@[simp] theorem State.ev_pending (s : State) (code p0 p1 o p : Nat) : (s.ev code p0 p1 o p).pending = s.pending := (congrArg (fun t : State => t.pending) (State.ev_frame s code p0 p1 o p)).trans rfl
@[simp] theorem State.ev_beat (s : State) (code p0 p1 o p : Nat) : (s.ev code p0 p1 o p).beat = s.beat := (congrArg (fun t : State => t.beat) (State.ev_frame s code p0 p1 o p)).trans rfl
@[simp] theorem State.ev_released (s : State) (code p0 p1 o p : Nat) : (s.ev code p0 p1 o p).released = s.released := (congrArg (fun t : State => t.released) (State.ev_frame s code p0 p1 o p)).trans rfl
@[simp] theorem State.ev_cycle (s : State) (code p0 p1 o p : Nat) : (s.ev code p0 p1 o p).cycle = s.cycle := (congrArg (fun t : State => t.cycle) (State.ev_frame s code p0 p1 o p)).trans rfl
@[simp] theorem State.ev_power (s : State) (code p0 p1 o p : Nat) : (s.ev code p0 p1 o p).power = s.power := (congrArg (fun t : State => t.power) (State.ev_frame s code p0 p1 o p)).trans rfl
@[simp] theorem State.ev_live (s : State) (code p0 p1 o p : Nat) : (s.ev code p0 p1 o p).live = s.live := (congrArg (fun t : State => t.live) (State.ev_frame s code p0 p1 o p)).trans rfl
@[simp] theorem State.ev_latchHost (s : State) (code p0 p1 o p : Nat) : (s.ev code p0 p1 o p).latchHost = s.latchHost := (congrArg (fun t : State => t.latchHost) (State.ev_frame s code p0 p1 o p)).trans rfl
@[simp] theorem State.ev_latchSide (s : State) (code p0 p1 o p : Nat) : (s.ev code p0 p1 o p).latchSide = s.latchSide := (congrArg (fun t : State => t.latchSide) (State.ev_frame s code p0 p1 o p)).trans rfl
@[simp] theorem State.ev_mem (s : State) (code p0 p1 o p : Nat) : (s.ev code p0 p1 o p).mem = s.mem := (congrArg (fun t : State => t.mem) (State.ev_frame s code p0 p1 o p)).trans rfl
@[simp] theorem State.ev_kept (s : State) (code p0 p1 o p : Nat) : (s.ev code p0 p1 o p).kept = s.kept := (congrArg (fun t : State => t.kept) (State.ev_frame s code p0 p1 o p)).trans rfl
@[simp] theorem State.ev_cells (s : State) (code p0 p1 o p : Nat) : (s.ev code p0 p1 o p).cells = s.cells := (congrArg (fun t : State => t.cells) (State.ev_frame s code p0 p1 o p)).trans rfl
@[simp] theorem State.ev_clusters (s : State) (code p0 p1 o p : Nat) : (s.ev code p0 p1 o p).clusters = s.clusters := (congrArg (fun t : State => t.clusters) (State.ev_frame s code p0 p1 o p)).trans rfl
@[simp] theorem State.ev_deadCells (s : State) (code p0 p1 o p : Nat) : (s.ev code p0 p1 o p).deadCells = s.deadCells := (congrArg (fun t : State => t.deadCells) (State.ev_frame s code p0 p1 o p)).trans rfl
@[simp] theorem State.ev_deadClusters (s : State) (code p0 p1 o p : Nat) : (s.ev code p0 p1 o p).deadClusters = s.deadClusters := (congrArg (fun t : State => t.deadClusters) (State.ev_frame s code p0 p1 o p)).trans rfl
@[simp] theorem State.ev_net (s : State) (code p0 p1 o p : Nat) : (s.ev code p0 p1 o p).net = s.net := (congrArg (fun t : State => t.net) (State.ev_frame s code p0 p1 o p)).trans rfl
@[simp] theorem State.ev_replies (s : State) (code p0 p1 o p : Nat) : (s.ev code p0 p1 o p).replies = s.replies := (congrArg (fun t : State => t.replies) (State.ev_frame s code p0 p1 o p)).trans rfl
@[simp] theorem State.ev_circs (s : State) (code p0 p1 o p : Nat) : (s.ev code p0 p1 o p).circs = s.circs := (congrArg (fun t : State => t.circs) (State.ev_frame s code p0 p1 o p)).trans rfl
@[simp] theorem State.ev_routes (s : State) (code p0 p1 o p : Nat) : (s.ev code p0 p1 o p).routes = s.routes := (congrArg (fun t : State => t.routes) (State.ev_frame s code p0 p1 o p)).trans rfl
@[simp] theorem State.ev_envs (s : State) (code p0 p1 o p : Nat) : (s.ev code p0 p1 o p).envs = s.envs := (congrArg (fun t : State => t.envs) (State.ev_frame s code p0 p1 o p)).trans rfl
@[simp] theorem State.ev_acks (s : State) (code p0 p1 o p : Nat) : (s.ev code p0 p1 o p).acks = s.acks := (congrArg (fun t : State => t.acks) (State.ev_frame s code p0 p1 o p)).trans rfl
@[simp] theorem State.ev_parts (s : State) (code p0 p1 o p : Nat) : (s.ev code p0 p1 o p).parts = s.parts := (congrArg (fun t : State => t.parts) (State.ev_frame s code p0 p1 o p)).trans rfl
@[simp] theorem State.ev_progs (s : State) (code p0 p1 o p : Nat) : (s.ev code p0 p1 o p).progs = s.progs := (congrArg (fun t : State => t.progs) (State.ev_frame s code p0 p1 o p)).trans rfl
@[simp] theorem State.ev_rcv (s : State) (code p0 p1 o p : Nat) : (s.ev code p0 p1 o p).rcv = s.rcv := (congrArg (fun t : State => t.rcv) (State.ev_frame s code p0 p1 o p)).trans rfl
@[simp] theorem State.ev_runs (s : State) (code p0 p1 o p : Nat) : (s.ev code p0 p1 o p).runs = s.runs := (congrArg (fun t : State => t.runs) (State.ev_frame s code p0 p1 o p)).trans rfl
@[simp] theorem State.ev_loops (s : State) (code p0 p1 o p : Nat) : (s.ev code p0 p1 o p).loops = s.loops := (congrArg (fun t : State => t.loops) (State.ev_frame s code p0 p1 o p)).trans rfl
@[simp] theorem State.ev_stg (s : State) (code p0 p1 o p : Nat) : (s.ev code p0 p1 o p).stg = s.stg := (congrArg (fun t : State => t.stg) (State.ev_frame s code p0 p1 o p)).trans rfl
@[simp] theorem State.ev_mon (s : State) (code p0 p1 o p : Nat) : (s.ev code p0 p1 o p).mon = s.mon := (congrArg (fun t : State => t.mon) (State.ev_frame s code p0 p1 o p)).trans rfl
@[simp] theorem State.ev_sst (s : State) (code p0 p1 o p : Nat) : (s.ev code p0 p1 o p).sst = s.sst := (congrArg (fun t : State => t.sst) (State.ev_frame s code p0 p1 o p)).trans rfl
@[simp] theorem State.ev_sec (s : State) (code p0 p1 o p : Nat) : (s.ev code p0 p1 o p).sec = s.sec := (congrArg (fun t : State => t.sec) (State.ev_frame s code p0 p1 o p)).trans rfl
@[simp] theorem State.ev_grd (s : State) (code p0 p1 o p : Nat) : (s.ev code p0 p1 o p).grd = s.grd := (congrArg (fun t : State => t.grd) (State.ev_frame s code p0 p1 o p)).trans rfl
@[simp] theorem State.ev_bud (s : State) (code p0 p1 o p : Nat) : (s.ev code p0 p1 o p).bud = s.bud := (congrArg (fun t : State => t.bud) (State.ev_frame s code p0 p1 o p)).trans rfl
@[simp] theorem State.ev_ldg (s : State) (code p0 p1 o p : Nat) : (s.ev code p0 p1 o p).ldg = s.ldg := (congrArg (fun t : State => t.ldg) (State.ev_frame s code p0 p1 o p)).trans rfl
@[simp] theorem State.ev_mpw (s : State) (code p0 p1 o p : Nat) : (s.ev code p0 p1 o p).mpw = s.mpw := (congrArg (fun t : State => t.mpw) (State.ev_frame s code p0 p1 o p)).trans rfl
@[simp] theorem State.ev_hif (s : State) (code p0 p1 o p : Nat) : (s.ev code p0 p1 o p).hif = s.hif := (congrArg (fun t : State => t.hif) (State.ev_frame s code p0 p1 o p)).trans rfl
@[simp] theorem State.ev_bup (s : State) (code p0 p1 o p : Nat) : (s.ev code p0 p1 o p).bup = s.bup := (congrArg (fun t : State => t.bup) (State.ev_frame s code p0 p1 o p)).trans rfl
@[simp] theorem State.ev_twn (s : State) (code p0 p1 o p : Nat) : (s.ev code p0 p1 o p).twn = s.twn := (congrArg (fun t : State => t.twn) (State.ev_frame s code p0 p1 o p)).trans rfl
@[simp] theorem State.ev_cnt (s : State) (code p0 p1 o p : Nat) : (s.ev code p0 p1 o p).cnt = s.cnt := (congrArg (fun t : State => t.cnt) (State.ev_frame s code p0 p1 o p)).trans rfl
@[simp] theorem State.ev_outs (s : State) (code p0 p1 o p : Nat) : (s.ev code p0 p1 o p).outs = s.outs := (congrArg (fun t : State => t.outs) (State.ev_frame s code p0 p1 o p)).trans rfl
@[simp] theorem State.ev_free (s : State) (code p0 p1 o p : Nat) : (s.ev code p0 p1 o p).free = s.free := (congrArg (fun t : State => t.free) (State.ev_frame s code p0 p1 o p)).trans rfl
@[simp] theorem State.ev_beatN (s : State) (code p0 p1 o p : Nat) : (s.ev code p0 p1 o p).beatN = s.beatN := (congrArg (fun t : State => t.beatN) (State.ev_frame s code p0 p1 o p)).trans rfl
@[simp] theorem State.ev_lf (s : State) (code p0 p1 o p : Nat) (G : Fld) : (s.ev code p0 p1 o p).lf G = s.lf G := (congrArg (fun t : State => t.lf G) (State.ev_frame s code p0 p1 o p)).trans rfl
@[simp] theorem State.ev_rdByte (s : State) (code p0 p1 o p : Nat) (i : Nat) : (s.ev code p0 p1 o p).rdByte i = s.rdByte i := (congrArg (fun t : State => t.rdByte i) (State.ev_frame s code p0 p1 o p)).trans rfl
@[simp] theorem State.ev_cell (s : State) (code p0 p1 o p : Nat) (i : Nat) : (s.ev code p0 p1 o p).cell i = s.cell i := (congrArg (fun t : State => t.cell i) (State.ev_frame s code p0 p1 o p)).trans rfl
@[simp] theorem State.ev_cl (s : State) (code p0 p1 o p : Nat) (i : Nat) : (s.ev code p0 p1 o p).cl i = s.cl i := (congrArg (fun t : State => t.cl i) (State.ev_frame s code p0 p1 o p)).trans rfl
@[simp] theorem State.ev_part (s : State) (code p0 p1 o p : Nat) (i : Nat) : (s.ev code p0 p1 o p).part i = s.part i := (congrArg (fun t : State => t.part i) (State.ev_frame s code p0 p1 o p)).trans rfl
@[simp] theorem State.ev_prog (s : State) (code p0 p1 o p : Nat) (i j : Nat) : (s.ev code p0 p1 o p).prog i j = s.prog i j := (congrArg (fun t : State => t.prog i j) (State.ev_frame s code p0 p1 o p)).trans rfl
@[simp] theorem State.ev_env (s : State) (code p0 p1 o p : Nat) (i j : Nat) : (s.ev code p0 p1 o p).env i j = s.env i j := (congrArg (fun t : State => t.env i j) (State.ev_frame s code p0 p1 o p)).trans rfl
@[simp] theorem State.ev_manOf (s : State) (code p0 p1 o p : Nat) (i : Nat) : (s.ev code p0 p1 o p).manOf i = s.manOf i := (congrArg (fun t : State => t.manOf i) (State.ev_frame s code p0 p1 o p)).trans rfl
@[simp] theorem State.ev_held (s : State) (code p0 p1 o p : Nat) (i : Nat) : (s.ev code p0 p1 o p).held i = s.held i := (congrArg (fun t : State => t.held i) (State.ev_frame s code p0 p1 o p)).trans rfl


theorem State.queue_ev_prefix (s : State) (code p0 p1 o p : Nat) :
    ∃ r, (s.ev code p0 p1 o p).evl.queue = s.evl.queue ++ r := State.queue_raise_prefix ..

/-- What no step of a fold changes, the fold does not change. -/
theorem foldl_keeps {α β : Type} (X : State → β) (g : State → α → State) (h : ∀ s e, X (g s e) = X s) (l : List α) (s : State) :
    X (l.foldl g s) = X s := by
  induction l generalizing s with
  | nil => rfl
  | cons e l ih => rw [List.foldl_cons, ih, h]

/-- Setting bytes of registers changes registers alone. -/
theorem State.wrBytes_keeps {β : Type} (X : State → β) (h : ∀ s o w, X (State.wr s o w) = X s) (s : State) (off : Nat) (b : Bytes) (n : Nat) :
    X (s.wrBytes off b n) = X s := by
  induction n generalizing s off b with
  | zero => rfl
  | succ n ih => rw [State.wrBytes, ih, h]


/-! ### Naming a fault, and the module state -/

@[simp] theorem State.wrBytes_pending (s : State) (off : Nat) (b : Bytes) (n : Nat) : (s.wrBytes off b n).pending = s.pending := State.wrBytes_keeps State.pending (fun _ _ _ => rfl) s off b n
@[simp] theorem State.wrBytes_beat (s : State) (off : Nat) (b : Bytes) (n : Nat) : (s.wrBytes off b n).beat = s.beat := State.wrBytes_keeps State.beat (fun _ _ _ => rfl) s off b n
@[simp] theorem State.wrBytes_released (s : State) (off : Nat) (b : Bytes) (n : Nat) : (s.wrBytes off b n).released = s.released := State.wrBytes_keeps State.released (fun _ _ _ => rfl) s off b n
@[simp] theorem State.wrBytes_cycle (s : State) (off : Nat) (b : Bytes) (n : Nat) : (s.wrBytes off b n).cycle = s.cycle := State.wrBytes_keeps State.cycle (fun _ _ _ => rfl) s off b n
@[simp] theorem State.wrBytes_power (s : State) (off : Nat) (b : Bytes) (n : Nat) : (s.wrBytes off b n).power = s.power := State.wrBytes_keeps State.power (fun _ _ _ => rfl) s off b n
@[simp] theorem State.wrBytes_live (s : State) (off : Nat) (b : Bytes) (n : Nat) : (s.wrBytes off b n).live = s.live := State.wrBytes_keeps State.live (fun _ _ _ => rfl) s off b n
@[simp] theorem State.wrBytes_latchHost (s : State) (off : Nat) (b : Bytes) (n : Nat) : (s.wrBytes off b n).latchHost = s.latchHost := State.wrBytes_keeps State.latchHost (fun _ _ _ => rfl) s off b n
@[simp] theorem State.wrBytes_latchSide (s : State) (off : Nat) (b : Bytes) (n : Nat) : (s.wrBytes off b n).latchSide = s.latchSide := State.wrBytes_keeps State.latchSide (fun _ _ _ => rfl) s off b n
@[simp] theorem State.wrBytes_mem (s : State) (off : Nat) (b : Bytes) (n : Nat) : (s.wrBytes off b n).mem = s.mem := State.wrBytes_keeps State.mem (fun _ _ _ => rfl) s off b n
@[simp] theorem State.wrBytes_kept (s : State) (off : Nat) (b : Bytes) (n : Nat) : (s.wrBytes off b n).kept = s.kept := State.wrBytes_keeps State.kept (fun _ _ _ => rfl) s off b n
@[simp] theorem State.wrBytes_cells (s : State) (off : Nat) (b : Bytes) (n : Nat) : (s.wrBytes off b n).cells = s.cells := State.wrBytes_keeps State.cells (fun _ _ _ => rfl) s off b n
@[simp] theorem State.wrBytes_clusters (s : State) (off : Nat) (b : Bytes) (n : Nat) : (s.wrBytes off b n).clusters = s.clusters := State.wrBytes_keeps State.clusters (fun _ _ _ => rfl) s off b n
@[simp] theorem State.wrBytes_deadCells (s : State) (off : Nat) (b : Bytes) (n : Nat) : (s.wrBytes off b n).deadCells = s.deadCells := State.wrBytes_keeps State.deadCells (fun _ _ _ => rfl) s off b n
@[simp] theorem State.wrBytes_deadClusters (s : State) (off : Nat) (b : Bytes) (n : Nat) : (s.wrBytes off b n).deadClusters = s.deadClusters := State.wrBytes_keeps State.deadClusters (fun _ _ _ => rfl) s off b n
@[simp] theorem State.wrBytes_net (s : State) (off : Nat) (b : Bytes) (n : Nat) : (s.wrBytes off b n).net = s.net := State.wrBytes_keeps State.net (fun _ _ _ => rfl) s off b n
@[simp] theorem State.wrBytes_replies (s : State) (off : Nat) (b : Bytes) (n : Nat) : (s.wrBytes off b n).replies = s.replies := State.wrBytes_keeps State.replies (fun _ _ _ => rfl) s off b n
@[simp] theorem State.wrBytes_circs (s : State) (off : Nat) (b : Bytes) (n : Nat) : (s.wrBytes off b n).circs = s.circs := State.wrBytes_keeps State.circs (fun _ _ _ => rfl) s off b n
@[simp] theorem State.wrBytes_routes (s : State) (off : Nat) (b : Bytes) (n : Nat) : (s.wrBytes off b n).routes = s.routes := State.wrBytes_keeps State.routes (fun _ _ _ => rfl) s off b n
@[simp] theorem State.wrBytes_envs (s : State) (off : Nat) (b : Bytes) (n : Nat) : (s.wrBytes off b n).envs = s.envs := State.wrBytes_keeps State.envs (fun _ _ _ => rfl) s off b n
@[simp] theorem State.wrBytes_acks (s : State) (off : Nat) (b : Bytes) (n : Nat) : (s.wrBytes off b n).acks = s.acks := State.wrBytes_keeps State.acks (fun _ _ _ => rfl) s off b n
@[simp] theorem State.wrBytes_parts (s : State) (off : Nat) (b : Bytes) (n : Nat) : (s.wrBytes off b n).parts = s.parts := State.wrBytes_keeps State.parts (fun _ _ _ => rfl) s off b n
@[simp] theorem State.wrBytes_progs (s : State) (off : Nat) (b : Bytes) (n : Nat) : (s.wrBytes off b n).progs = s.progs := State.wrBytes_keeps State.progs (fun _ _ _ => rfl) s off b n
@[simp] theorem State.wrBytes_rcv (s : State) (off : Nat) (b : Bytes) (n : Nat) : (s.wrBytes off b n).rcv = s.rcv := State.wrBytes_keeps State.rcv (fun _ _ _ => rfl) s off b n
@[simp] theorem State.wrBytes_runs (s : State) (off : Nat) (b : Bytes) (n : Nat) : (s.wrBytes off b n).runs = s.runs := State.wrBytes_keeps State.runs (fun _ _ _ => rfl) s off b n
@[simp] theorem State.wrBytes_loops (s : State) (off : Nat) (b : Bytes) (n : Nat) : (s.wrBytes off b n).loops = s.loops := State.wrBytes_keeps State.loops (fun _ _ _ => rfl) s off b n
@[simp] theorem State.wrBytes_stg (s : State) (off : Nat) (b : Bytes) (n : Nat) : (s.wrBytes off b n).stg = s.stg := State.wrBytes_keeps State.stg (fun _ _ _ => rfl) s off b n
@[simp] theorem State.wrBytes_mon (s : State) (off : Nat) (b : Bytes) (n : Nat) : (s.wrBytes off b n).mon = s.mon := State.wrBytes_keeps State.mon (fun _ _ _ => rfl) s off b n
@[simp] theorem State.wrBytes_sst (s : State) (off : Nat) (b : Bytes) (n : Nat) : (s.wrBytes off b n).sst = s.sst := State.wrBytes_keeps State.sst (fun _ _ _ => rfl) s off b n
@[simp] theorem State.wrBytes_sec (s : State) (off : Nat) (b : Bytes) (n : Nat) : (s.wrBytes off b n).sec = s.sec := State.wrBytes_keeps State.sec (fun _ _ _ => rfl) s off b n
@[simp] theorem State.wrBytes_grd (s : State) (off : Nat) (b : Bytes) (n : Nat) : (s.wrBytes off b n).grd = s.grd := State.wrBytes_keeps State.grd (fun _ _ _ => rfl) s off b n
@[simp] theorem State.wrBytes_bud (s : State) (off : Nat) (b : Bytes) (n : Nat) : (s.wrBytes off b n).bud = s.bud := State.wrBytes_keeps State.bud (fun _ _ _ => rfl) s off b n
@[simp] theorem State.wrBytes_ldg (s : State) (off : Nat) (b : Bytes) (n : Nat) : (s.wrBytes off b n).ldg = s.ldg := State.wrBytes_keeps State.ldg (fun _ _ _ => rfl) s off b n
@[simp] theorem State.wrBytes_mpw (s : State) (off : Nat) (b : Bytes) (n : Nat) : (s.wrBytes off b n).mpw = s.mpw := State.wrBytes_keeps State.mpw (fun _ _ _ => rfl) s off b n
@[simp] theorem State.wrBytes_hif (s : State) (off : Nat) (b : Bytes) (n : Nat) : (s.wrBytes off b n).hif = s.hif := State.wrBytes_keeps State.hif (fun _ _ _ => rfl) s off b n
@[simp] theorem State.wrBytes_bup (s : State) (off : Nat) (b : Bytes) (n : Nat) : (s.wrBytes off b n).bup = s.bup := State.wrBytes_keeps State.bup (fun _ _ _ => rfl) s off b n
@[simp] theorem State.wrBytes_twn (s : State) (off : Nat) (b : Bytes) (n : Nat) : (s.wrBytes off b n).twn = s.twn := State.wrBytes_keeps State.twn (fun _ _ _ => rfl) s off b n
@[simp] theorem State.wrBytes_cnt (s : State) (off : Nat) (b : Bytes) (n : Nat) : (s.wrBytes off b n).cnt = s.cnt := State.wrBytes_keeps State.cnt (fun _ _ _ => rfl) s off b n
@[simp] theorem State.wrBytes_evl (s : State) (off : Nat) (b : Bytes) (n : Nat) : (s.wrBytes off b n).evl = s.evl := State.wrBytes_keeps State.evl (fun _ _ _ => rfl) s off b n
@[simp] theorem State.wrBytes_outs (s : State) (off : Nat) (b : Bytes) (n : Nat) : (s.wrBytes off b n).outs = s.outs := State.wrBytes_keeps State.outs (fun _ _ _ => rfl) s off b n
@[simp] theorem State.wrBytes_free (s : State) (off : Nat) (b : Bytes) (n : Nat) : (s.wrBytes off b n).free = s.free := State.wrBytes_keeps State.free (fun _ _ _ => rfl) s off b n
@[simp] theorem State.wrBytes_beatN (s : State) (off : Nat) (b : Bytes) (n : Nat) : (s.wrBytes off b n).beatN = s.beatN := by simp [State.beatN]
@[simp] theorem State.wrBytes_lf (s : State) (off : Nat) (b : Bytes) (n : Nat) (G : Fld) : (s.wrBytes off b n).lf G = s.lf G := by simp [State.lf]
@[simp] theorem State.wrBytes_rdByte (s : State) (off : Nat) (b : Bytes) (n : Nat) (i : Nat) : (s.wrBytes off b n).rdByte i = s.rdByte i := by simp [State.rdByte]
@[simp] theorem State.wrBytes_cell (s : State) (off : Nat) (b : Bytes) (n : Nat) (i : Nat) : (s.wrBytes off b n).cell i = s.cell i := by simp [State.cell]
@[simp] theorem State.wrBytes_cl (s : State) (off : Nat) (b : Bytes) (n : Nat) (i : Nat) : (s.wrBytes off b n).cl i = s.cl i := by simp [State.cl]
@[simp] theorem State.wrBytes_part (s : State) (off : Nat) (b : Bytes) (n : Nat) (i : Nat) : (s.wrBytes off b n).part i = s.part i := by simp [State.part]
@[simp] theorem State.wrBytes_prog (s : State) (off : Nat) (b : Bytes) (n : Nat) (i j : Nat) : (s.wrBytes off b n).prog i j = s.prog i j := by simp [State.prog]
@[simp] theorem State.wrBytes_env (s : State) (off : Nat) (b : Bytes) (n : Nat) (i j : Nat) : (s.wrBytes off b n).env i j = s.env i j := by simp [State.env]
@[simp] theorem State.wrBytes_manOf (s : State) (off : Nat) (b : Bytes) (n : Nat) (i : Nat) : (s.wrBytes off b n).manOf i = s.manOf i := by simp [State.manOf, State.part]
@[simp] theorem State.wrBytes_held (s : State) (off : Nat) (b : Bytes) (n : Nat) (i : Nat) : (s.wrBytes off b n).held i = s.held i := by simp [State.held, State.part]

@[simp] theorem State.histFault_pending (s : State) (a b c d : Nat) : (s.histFault a b c d).pending = s.pending := by simp [State.histFault]
@[simp] theorem State.histFault_beat (s : State) (a b c d : Nat) : (s.histFault a b c d).beat = s.beat := by simp [State.histFault]
@[simp] theorem State.histFault_released (s : State) (a b c d : Nat) : (s.histFault a b c d).released = s.released := by simp [State.histFault]
@[simp] theorem State.histFault_cycle (s : State) (a b c d : Nat) : (s.histFault a b c d).cycle = s.cycle := by simp [State.histFault]
@[simp] theorem State.histFault_power (s : State) (a b c d : Nat) : (s.histFault a b c d).power = s.power := by simp [State.histFault]
@[simp] theorem State.histFault_live (s : State) (a b c d : Nat) : (s.histFault a b c d).live = s.live := by simp [State.histFault]
@[simp] theorem State.histFault_latchHost (s : State) (a b c d : Nat) : (s.histFault a b c d).latchHost = s.latchHost := by simp [State.histFault]
@[simp] theorem State.histFault_latchSide (s : State) (a b c d : Nat) : (s.histFault a b c d).latchSide = s.latchSide := by simp [State.histFault]
@[simp] theorem State.histFault_mem (s : State) (a b c d : Nat) : (s.histFault a b c d).mem = s.mem := by simp [State.histFault]
@[simp] theorem State.histFault_kept (s : State) (a b c d : Nat) : (s.histFault a b c d).kept = s.kept := by simp [State.histFault]
@[simp] theorem State.histFault_cells (s : State) (a b c d : Nat) : (s.histFault a b c d).cells = s.cells := by simp [State.histFault]
@[simp] theorem State.histFault_clusters (s : State) (a b c d : Nat) : (s.histFault a b c d).clusters = s.clusters := by simp [State.histFault]
@[simp] theorem State.histFault_deadCells (s : State) (a b c d : Nat) : (s.histFault a b c d).deadCells = s.deadCells := by simp [State.histFault]
@[simp] theorem State.histFault_deadClusters (s : State) (a b c d : Nat) : (s.histFault a b c d).deadClusters = s.deadClusters := by simp [State.histFault]
@[simp] theorem State.histFault_net (s : State) (a b c d : Nat) : (s.histFault a b c d).net = s.net := by simp [State.histFault]
@[simp] theorem State.histFault_replies (s : State) (a b c d : Nat) : (s.histFault a b c d).replies = s.replies := by simp [State.histFault]
@[simp] theorem State.histFault_circs (s : State) (a b c d : Nat) : (s.histFault a b c d).circs = s.circs := by simp [State.histFault]
@[simp] theorem State.histFault_routes (s : State) (a b c d : Nat) : (s.histFault a b c d).routes = s.routes := by simp [State.histFault]
@[simp] theorem State.histFault_envs (s : State) (a b c d : Nat) : (s.histFault a b c d).envs = s.envs := by simp [State.histFault]
@[simp] theorem State.histFault_acks (s : State) (a b c d : Nat) : (s.histFault a b c d).acks = s.acks := by simp [State.histFault]
@[simp] theorem State.histFault_parts (s : State) (a b c d : Nat) : (s.histFault a b c d).parts = s.parts := by simp [State.histFault]
@[simp] theorem State.histFault_progs (s : State) (a b c d : Nat) : (s.histFault a b c d).progs = s.progs := by simp [State.histFault]
@[simp] theorem State.histFault_rcv (s : State) (a b c d : Nat) : (s.histFault a b c d).rcv = s.rcv := by simp [State.histFault]
@[simp] theorem State.histFault_runs (s : State) (a b c d : Nat) : (s.histFault a b c d).runs = s.runs := by simp [State.histFault]
@[simp] theorem State.histFault_loops (s : State) (a b c d : Nat) : (s.histFault a b c d).loops = s.loops := by simp [State.histFault]
@[simp] theorem State.histFault_stg (s : State) (a b c d : Nat) : (s.histFault a b c d).stg = s.stg := by simp [State.histFault]
@[simp] theorem State.histFault_mon (s : State) (a b c d : Nat) : (s.histFault a b c d).mon = s.mon := by simp [State.histFault]
@[simp] theorem State.histFault_sst (s : State) (a b c d : Nat) : (s.histFault a b c d).sst = s.sst := by simp [State.histFault]
@[simp] theorem State.histFault_sec (s : State) (a b c d : Nat) : (s.histFault a b c d).sec = s.sec := by simp [State.histFault]
@[simp] theorem State.histFault_grd (s : State) (a b c d : Nat) : (s.histFault a b c d).grd = s.grd := by simp [State.histFault]
@[simp] theorem State.histFault_bud (s : State) (a b c d : Nat) : (s.histFault a b c d).bud = s.bud := by simp [State.histFault]
@[simp] theorem State.histFault_ldg (s : State) (a b c d : Nat) : (s.histFault a b c d).ldg = s.ldg := by simp [State.histFault]
@[simp] theorem State.histFault_mpw (s : State) (a b c d : Nat) : (s.histFault a b c d).mpw = s.mpw := by simp [State.histFault]
@[simp] theorem State.histFault_hif (s : State) (a b c d : Nat) : (s.histFault a b c d).hif = s.hif := by simp [State.histFault]
@[simp] theorem State.histFault_bup (s : State) (a b c d : Nat) : (s.histFault a b c d).bup = s.bup := by simp [State.histFault]
@[simp] theorem State.histFault_twn (s : State) (a b c d : Nat) : (s.histFault a b c d).twn = s.twn := by simp [State.histFault]
@[simp] theorem State.histFault_cnt (s : State) (a b c d : Nat) : (s.histFault a b c d).cnt = s.cnt := by simp [State.histFault]
@[simp] theorem State.histFault_evl (s : State) (a b c d : Nat) : (s.histFault a b c d).evl = s.evl := by simp [State.histFault]
@[simp] theorem State.histFault_outs (s : State) (a b c d : Nat) : (s.histFault a b c d).outs = s.outs := by simp [State.histFault]
@[simp] theorem State.histFault_free (s : State) (a b c d : Nat) : (s.histFault a b c d).free = s.free := by simp [State.histFault]
@[simp] theorem State.histFault_beatN (s : State) (a b c d : Nat) : (s.histFault a b c d).beatN = s.beatN := by simp [State.beatN]
@[simp] theorem State.histFault_lf (s : State) (a b c d : Nat) (G : Fld) : (s.histFault a b c d).lf G = s.lf G := by simp [State.lf]
@[simp] theorem State.histFault_rdByte (s : State) (a b c d : Nat) (i : Nat) : (s.histFault a b c d).rdByte i = s.rdByte i := by simp [State.rdByte]
@[simp] theorem State.histFault_cell (s : State) (a b c d : Nat) (i : Nat) : (s.histFault a b c d).cell i = s.cell i := by simp [State.cell]
@[simp] theorem State.histFault_cl (s : State) (a b c d : Nat) (i : Nat) : (s.histFault a b c d).cl i = s.cl i := by simp [State.cl]
@[simp] theorem State.histFault_part (s : State) (a b c d : Nat) (i : Nat) : (s.histFault a b c d).part i = s.part i := by simp [State.part]
@[simp] theorem State.histFault_prog (s : State) (a b c d : Nat) (i j : Nat) : (s.histFault a b c d).prog i j = s.prog i j := by simp [State.prog]
@[simp] theorem State.histFault_env (s : State) (a b c d : Nat) (i j : Nat) : (s.histFault a b c d).env i j = s.env i j := by simp [State.env]
@[simp] theorem State.histFault_manOf (s : State) (a b c d : Nat) (i : Nat) : (s.histFault a b c d).manOf i = s.manOf i := by simp [State.manOf, State.part]
@[simp] theorem State.histFault_held (s : State) (a b c d : Nat) (i : Nat) : (s.histFault a b c d).held i = s.held i := by simp [State.held, State.part]


/-- What an event may not change, it keeps: any view of the state that reads neither registers nor the log. -/
theorem State.raise_keeps {α : Type} (F : State → α) (hF : ∀ (s : State) r e, F { s with regs := r, evl := e } = F s)
    (s : State) (code p0 p1 p2 p3 o p : Nat) : F (s.raise code p0 p1 p2 p3 o p) = F s := by
  rw [State.raise_frame]; exact hF _ _ _

/-- The queue of events only grows. -/
def State.queueGrows (s t : State) : Prop := ∃ r, t.evl.queue = s.evl.queue ++ r

theorem State.queueGrows_refl (s : State) : s.queueGrows s := ⟨[], by simp⟩

theorem State.queueGrows.trans {s t u : State} (h : s.queueGrows t) (h' : t.queueGrows u) : s.queueGrows u := by
  obtain ⟨r, h⟩ := h
  obtain ⟨r', h'⟩ := h'
  exact ⟨r ++ r', by rw [h', h, List.append_assoc]⟩

theorem State.queueGrows.foldl {α : Type} {s t : State} {g : State → α → State} (hg : ∀ (t : State) e, t.queueGrows (g t e)) (l : List α)
    (h : s.queueGrows t) : s.queueGrows (l.foldl g t) := by
  induction l generalizing t with
  | nil => exact h
  | cons e l ih => exact ih (h.trans (hg t e))

/-- Naming a fault changes registers, the log, the ladder and what the twin block notes, and nothing else (R355). -/
theorem State.nameFault_keeps {α : Type} (F : State → α)
    (hF : ∀ (s : State) r e v t, F { s with regs := r, evl := e, rcv := v, twn := t } = F s)
    (s : State) (w0 w1 reason idx rung unit o : Nat) (c : Option Nat) : F (s.nameFault w0 w1 reason idx rung unit o c) = F s := by
  have hR : ∀ (s : State) r, F { s with regs := r } = F s := fun s r => hF s r s.evl s.rcv s.twn
  have hE : ∀ (s : State) a b c d e f g, F (s.raise a b c d e f g) = F s :=
    fun s a b c d e f g => State.raise_keeps F (fun s r e => hF s r e s.rcv s.twn) s a b c d e f g
  unfold State.nameFault
  extract_lets s0 lost s1 ab ch esc w2 s2 s3 s4 s5
  have h1 : F s1 = F s := hF s s.regs s.evl s.rcv _
  clear_value s1 ab ch
  have h2 : F s2 = F s := by
    refine Eq.trans (hR _ _) (Eq.trans ?_ h1)
    rw [State.wrBytes_keeps F (fun s o w => hR s _), State.wrBytes_keeps F (fun s o w => hR s _)]
  clear_value s2
  have h3 : F s3 = F s := (hE _ _ _ _ _ _ _ _).trans h2
  clear_value s3
  have h4 : F s4 = F s := by
    show F (if _ then _ else _) = _
    split
    · exact (hR _ _).trans h3
    · exact h3
  clear_value s4
  have h5 : F s5 = F s :=
    (foldl_keeps F (fun s (e : Nat × Nat × Nat) => s.ev 0x0F05 (e.1 + 16 * e.2.1) e.2.2) (fun s e => hE _ _ _ _ _ _ _ _) _ s4).trans h4
  clear_value s5
  split
  · exact (hR _ _).trans h4
  · exact (hF s5 s5.regs s5.evl _ s5.twn).trans h5

theorem State.queue_bump (s : State) (o : Nat) : s.queueGrows (s.bump o) := ⟨[], (List.append_nil _).symm⟩

theorem State.queue_histFault (s : State) (a b c d : Nat) : (s.histFault a b c d).evl = s.evl := by
  unfold State.histFault
  extract_lets x i
  rw [State.setF_evl, State.wrBytes_evl, State.wrBytes_evl]

theorem State.queue_nameFault (s : State) (w0 w1 reason idx rung unit o : Nat) (c : Option Nat) :
    s.queueGrows (s.nameFault w0 w1 reason idx rung unit o c) := by
  unfold State.nameFault
  extract_lets s0 lost s1 ab ch esc w2 s2 s3 s4 s5
  have h1 : s.queueGrows s1 := State.queueGrows_refl s
  clear_value s1 ab ch
  have h2 : s.queueGrows s2 := by
    obtain ⟨r, h⟩ := h1
    exact ⟨r, by rw [show s2.evl = s1.evl from State.queue_histFault ..]; exact h⟩
  clear_value s2
  have h3 : s.queueGrows s3 := h2.trans (State.queue_raise_prefix ..)
  clear_value s3
  have h4 : s.queueGrows s4 := by
    show s.queueGrows (if _ then _ else _)
    split
    · exact h3.trans (State.queue_bump ..)
    · exact h3
  clear_value s4
  have h5 : s.queueGrows s5 := State.queueGrows.foldl (fun t e => State.queue_ev_prefix ..) _ h4
  clear_value s5
  split
  · exact h4.trans (State.queue_bump ..)
  · exact h5.trans ⟨[], (List.append_nil _).symm⟩

/-- The order of the events at an entry to HOLDUP touches the log alone (R33), and every event that waited still waits. -/
theorem State.holdFirst_frame (s : State) (took : Bool) : s.holdFirst took = { s with evl := (s.holdFirst took).evl } := rfl

theorem State.length_holdFirst (s : State) (took : Bool) : (s.holdFirst took).evl.queue.length = s.evl.queue.length := by
  cases took
  · simp [State.holdFirst]
  · cases h : (s.evl.queue.map fun e : Ev => { e with hold := true }).getLast? with
    | none => simp [State.holdFirst, h]
    | some e =>
      have hn : s.evl.queue ≠ [] := by rintro hq; simp [hq] at h
      have : 0 < s.evl.queue.length := List.length_pos_iff.mpr hn
      simp only [State.holdFirst, h, List.length_cons, List.length_dropLast, List.length_map]
      omega

/-- A change of the module state changes registers and the log, and nothing else (R30). -/
theorem State.toMstate_keeps {α : Type} (F : State → α) (hF : ∀ (s : State) r e, F { s with regs := r, evl := e } = F s)
    (s : State) (m cause : Nat) : F (s.toMstate m cause) = F s := by
  unfold State.toMstate
  extract_lets n s1 s2 s3
  have h1 : F s1 = F s := State.raise_keeps F hF ..
  have h2 : F s2 = F s := by
    show F (if _ then _ else _) = _
    split
    · exact (hF s1 s1.regs _).trans h1
    · exact h1
  have h3 : F s3 = F s := (hF s2 _ s2.evl).trans h2
  split
  · exact (hF s3 _ s3.evl).trans h3
  · exact h3

/-- A vector changes what has gone out and MSI-X pending bits, and nothing else (R398). -/
theorem State.vector_keeps {α : Type} (F : State → α) (hF : ∀ (s : State) r o, F { s with regs := r, outs := o } = F s)
    (s : State) (n : Nat) : F (s.vector n) = F s := by
  unfold State.vector
  extract_lets a
  split
  · rfl
  · split
    · exact hF s _ s.outs
    · exact hF s s.regs _

end Sys2Proof.Machine
end

