-- ==== Sys2Proof/Laws/Cell.lean ====
section
/-! SUPPORT. What every instruction of a cell does, said once: when it issues, and how it retires. -/

namespace Sys2Proof.Machine

open Sys2Proof.Bits Sys2Proof.Safety

theorem stall_eq (s : State) (k : CellId) (reads : List (BitVec 4)) (acc : Option Bool) :
    (s.cell (cellNo k)).stallAt reads acc (max (s.cell (cellNo k)).next s.now) = stall s k reads acc := by
  unfold stall Cell.stallAt
  cases h : (s.cell (cellNo k)).lastLoad with
  | none => rcases acc with _ | _ | _ <;> simp [h]
  | some d => rcases acc with _ | _ | _ <;> simp [h, ofBool, bne_iff_ne]

/-- The state in which the effect of an instruction that is no MAC runs. -/
def State.issued (s : State) (n : Nat) : State := s.setCell n { s.cell n with lastLoad := none }

/-- An instruction that may run and is no MAC has its effect in the issue state, at the issue cycle. -/
theorem State.instr_eq (s : State) (k : CellId) (reads : List (BitVec 4)) (acc : Option Bool) (charge cost : Cell → Nat)
    (body : State → Nat → Eff) (h : mayRun s k reads acc (charge (s.cell (cellNo k)))) :
    s.instr k reads acc false charge cost body =
      (body (s.issued (cellNo k)) (max (s.cell (cellNo k)).next s.now + stall s k reads acc)).finish (s.issued (cellNo k))
        (cellNo k) (max (s.cell (cellNo k)).next s.now + stall s k reads acc)
        (stall s k reads acc + charge (s.cell (cellNo k))) (cost (s.cell (cellNo k))) := by
  obtain ⟨h1, h2⟩ := h
  have h3 : ¬ (s.cell (cellNo k)).charged + (stall s k reads acc + charge (s.cell (cellNo k))) > s.budget (cellNo k) := by omega
  unfold State.instr
  simp only [h1, stall_eq, Bool.not_true, if_false, Bool.false_eq_true, h3, State.issued, State.issueState]

/-- A MAC instruction that may run has its effect at the first open issue cycle. -/
theorem State.instr_mac_eq (s : State) (k : CellId) (reads : List (BitVec 4)) (charge cost : Cell → Nat)
    (body : State → Nat → Eff) (h : mayRun s k reads none (charge (s.cell (cellNo k)))) :
    s.instr k reads none true charge cost body =
      (body (s.issueState (cellNo k) true (max (s.cell (cellNo k)).next s.now + stall s k reads none) (macCycle s k reads))
          (macCycle s k reads)).finish
        (s.issueState (cellNo k) true (max (s.cell (cellNo k)).next s.now + stall s k reads none) (macCycle s k reads))
        (cellNo k) (macCycle s k reads) (stall s k reads none + charge (s.cell (cellNo k))) (cost (s.cell (cellNo k))) := by
  obtain ⟨h1, h2⟩ := h
  have h3 : ¬ (s.cell (cellNo k)).charged + (stall s k reads none + charge (s.cell (cellNo k))) > s.budget (cellNo k) := by omega
  unfold State.instr
  simp only [h1, stall_eq, Bool.not_true, if_false, Bool.false_eq_true, h3, if_true, macCycle]

/-- An instruction whose charge the budget does not cover stops the cell before it (R120). -/
theorem State.instr_over (s : State) (k : CellId) (reads : List (BitVec 4)) (acc : Option Bool) (mac : Bool)
    (charge cost : Cell → Nat) (body : State → Nat → Eff) (h1 : s.canRun (cellNo k) = true)
    (h2 : s.budget (cellNo k) < (s.cell (cellNo k)).charged + (stall s k reads acc + charge (s.cell (cellNo k)))) :
    s.instr k reads acc mac charge cost body =
      (s.setCell (cellNo k) { s.cell (cellNo k) with run := 3, overrun := true }).restless (clusterOf (cellNo k)) := by
  unfold State.instr
  simp only [h1, stall_eq, Bool.not_true, if_false, Bool.false_eq_true, gt_iff_lt, h2, if_true]

/-- An instruction that completes before the program's last, or jumps, counts its charge and moves the PC. -/
theorem State.retire_eq (s : State) (n t ch cost : Nat) (tgt : Option (BitVec 8))
    (h : (s.cell n).pc.toNat + 1 < (s.cell n).len ∨ tgt.isSome ∨ (s.cell n).run ≠ 1) :
    s.retire n t ch cost tgt =
      (s.setCell n { s.cell n with
        charged := (s.cell n).charged + ch, next := t + cost
        pc := match tgt with | some x => x | none => (s.cell n).pc + 1 }).setCl (clusterOf n)
          { s.cl (clusterOf n) with instr := satAdd 64 (s.cl (clusterOf n)).instr 1 } := by
  have hf : (tgt.isNone && decide ((s.cell n).pc.toNat + 1 ≥ (s.cell n).len) && decide ((s.cell n).run = 1)) = false := by
    rcases h with h | h | h
    · have : ¬ (s.cell n).pc.toNat + 1 ≥ (s.cell n).len := by omega
      simp [this]
    · cases tgt <;> simp_all
    · rw [decide_eq_false h, Bool.and_false]
  unfold State.retire
  simp only [hf, Bool.false_eq_true, if_false]
  cases tgt <;> rfl

/-- An instruction of a cell that only changes its working registers. -/
theorem State.alu_eq (s : State) (k : CellId) (reads : List (BitVec 4)) (cost : Nat) (f : Work → Work)
    (h : mayRun s k reads none cost) (hl : (s.cell (cellNo k)).pc.toNat + 1 < (s.cell (cellNo k)).len) :
    ∃ t, s.alu k reads cost f = t ∧ cellAfter s t k reads none cost (f (s.cell (cellNo k)).work) ((s.cell (cellNo k)).pc + 1) ∧
      onlyCell s t k ∧ counted s t k := by
  refine ⟨_, rfl, ?_⟩
  unfold State.alu
  rw [State.instr_eq _ _ _ _ _ _ _ h]
  simp only [State.issued, State.setWork, State.cell_setCell_self, Eff.finish]
  rw [State.retire_eq _ _ _ _ _ _ (.inl (by simpa using hl))]
  unfold cellAfter onlyCell counted
  refine ⟨by simp, ⟨?_, ?_, ?_⟩, by simp⟩
  · simp only [State.setCl, State.setCell]
  · intro m hm; simp [State.cell_setCell, hm]
  · intro j hj; simp [State.cl_setCl, hj]

/-! ### Faults (R85) -/

/-- An event raised is in the queue, and what is queued stays (R401). -/
theorem State.raises_raise (s : State) (code p0 p1 p2 p3 o p : Nat) : raises s (s.raise code p0 p1 p2 p3 o p) code p0 p1 p2 p3 := by
  intro hl hq
  exact ⟨_, [], by rw [State.queue_raise _ _ _ _ _ _ _ _ hl hq], rfl, rfl, rfl, rfl, rfl⟩

theorem raises_grows {s t u : State} {code p0 p1 p2 p3 : Nat} (h : raises s t code p0 p1 p2 p3) (hu : t.queueGrows u) :
    raises s u code p0 p1 p2 p3 := by
  intro hl hq
  obtain ⟨e, r, he, h⟩ := h hl hq
  obtain ⟨r', hr⟩ := hu
  exact ⟨e, r ++ r', by rw [hr, he, List.append_assoc, List.cons_append], h⟩

/-- A cell that contributes to no envelope has nothing to drop. -/
theorem State.dropContext_none {s : State} {n : Nat} (h : (s.cell n).ctx = .none) : s.dropContext n = s := by
  unfold State.dropContext
  extract_lets c
  have h' : c.ctx = .none := h
  clear_value c
  split
  · rfl
  · next hx => rw [h'] at hx; cases hx
  · next hx => rw [h'] at hx; cases hx

theorem State.dropContext_run {s : State} {n : Nat} {c : Cell} (h : c.ctx = .none) :
    (s.setCell n { c with run := 3 }).dropContext n = s.setCell n { c with run := 3 } :=
  State.dropContext_none (by rw [State.cell_setCell_self]; exact h)

/-- A fault of a cell that contributes to no envelope changes the cell's RUN, its cluster, registers, the log, the ladder and what
the twin block notes, and nothing else. -/
theorem State.cellFault_keeps {α : Type} (F : State → α)
    (hF : ∀ (s : State) r c l e v t, F { s with regs := r, cells := c, clusters := l, evl := e, rcv := v, twn := t } = F s)
    (s : State) (n reason x idx : Nat) (hc : (s.cell n).ctx = .none) : F (s.cellFault n reason x idx) = F s := by
  have hR : ∀ (s : State) r e, F { s with regs := r, evl := e } = F s := fun s r e => hF s r s.cells s.clusters e s.rcv s.twn
  unfold State.cellFault
  extract_lets c p s1 s2 s3
  have h1 : F s1 = F s := by
    show F (if _ then _ else _) = _
    split
    · exact State.raise_keeps F hR ..
    · split <;> exact State.raise_keeps F hR ..
  clear_value s1
  have h2 : F s2 = F s := by
    refine Eq.trans (congrArg F (State.dropContext_run hc)) (Eq.trans ?_ h1)
    exact hF s1 s1.regs _ s1.clusters s1.evl s1.rcv s1.twn
  clear_value s2
  have h3 : F s3 = F s := (hF s2 s2.regs s2.cells _ s2.evl s2.rcv s2.twn).trans h2
  clear_value s3
  refine (State.nameFault_keeps F (fun s r e v t => hF s r s.cells s.clusters e v t) ..).trans h3

theorem State.cell_cellFault (s : State) (n reason x idx : Nat) (hc : (s.cell n).ctx = .none) (m : Nat) :
    (s.cellFault n reason x idx).cell m = if m = n then { s.cell n with run := 3 } else s.cell m := by
  unfold State.cellFault
  extract_lets c p s1 s2 s3
  rw [State.nameFault_keeps (fun t => t.cell m) (fun _ _ _ _ _ => rfl)]
  have h1 : s1.cell = s.cell := by
    show State.cell (if _ then _ else _) = _
    split
    · exact State.raise_keeps State.cell (fun _ _ _ => rfl) ..
    · split <;> exact State.raise_keeps State.cell (fun _ _ _ => rfl) ..
  clear_value s1
  show s2.cell m = _
  rw [show s2 = _ from State.dropContext_run hc, State.cell_setCell, h1]

theorem State.raises_cellFault (s : State) (n reason x idx : Nat) (hc : (s.cell n).ctx = .none) :
    if reason = 4 then raises s (s.cellFault n reason x idx) 0x106 (cellParam n) x idx s.beatLo
    else if reason = 3 then raises s (s.cellFault n reason x idx) 0x103 (x % 4294967296) (x / 4294967296) 0xFFFFFFFF s.beatLo
    else raises s (s.cellFault n reason x idx) 0x107 (cellParam n) reason idx s.beatLo := by
  unfold State.cellFault
  extract_lets c p s1 s2 s3
  have h1 : if reason = 4 then raises s s1 0x106 (cellParam n) x idx s.beatLo
      else if reason = 3 then raises s s1 0x103 (x % 4294967296) (x / 4294967296) 0xFFFFFFFF s.beatLo
      else raises s s1 0x107 (cellParam n) reason idx s.beatLo := by
    by_cases h4 : reason = 4
    · rw [if_pos h4, show s1 = _ from if_pos h4]; exact State.raises_raise _ _ _ _ _ _ _ _
    · rw [if_neg h4]
      by_cases h3 : reason = 3
      · rw [if_pos h3, show s1 = _ from (if_neg h4).trans (if_pos h3)]; exact State.raises_raise _ _ _ _ _ _ _ _
      · rw [if_neg h3, show s1 = _ from (if_neg h4).trans (if_neg h3)]; exact State.raises_raise _ _ _ _ _ _ _ _
  clear_value s1
  have h2 : s2.evl = s1.evl := (congrArg State.evl (State.dropContext_run hc)).trans rfl
  clear_value s2
  have h3 : s3.evl = s2.evl := rfl
  clear_value s3
  have hg : ∀ a b r i o cl, s1.queueGrows (s3.nameFault a b r i 1 (1024 * p + c.prog) o cl) := by
    intro a b r i o cl
    refine State.queueGrows.trans ⟨[], ?_⟩ (State.queue_nameFault ..)
    rw [h3, h2, List.append_nil]
  split at h1
  · next h => rw [if_pos h]; exact raises_grows h1 (hg ..)
  · next h =>
    rw [if_neg h]
    split at h1
    · next h' => rw [if_pos h']; exact raises_grows h1 (hg ..)
    · next h' => rw [if_neg h']; exact raises_grows h1 (hg ..)

theorem cellParam_cellNo (k : CellId) : cellParam (cellNo k) = k.p.val + 256 * k.c.val + 65536 * k.k.val := by
  have := k.p.isLt; have := k.c.isLt; have := k.k.isLt
  have h1 : partOf (cellNo k) = k.p.val := by simp only [partOf, cellNo]; omega
  have h2 : clusterOf (cellNo k) % 20 = k.c.val := by simp only [clusterOf, cellNo]; omega
  have h3 : indexOf (cellNo k) = k.k.val := by simp only [indexOf, cellNo]; omega
  simp only [cellParam, h1, h2, h3]; omega

/-- The fabric address of a cell's local offset. -/
theorem cellAddr_eq (k : CellId) (ea : Nat) : cellAddr (cellNo k) ea = byteAddress k ea := by
  have := k.p.isLt; have := k.c.isLt; have := k.k.isLt
  have h1 : partOf (cellNo k) = k.p.val := by simp only [partOf, cellNo]; omega
  have h2 : clusterOf (cellNo k) % 20 = k.c.val := by simp only [clusterOf, cellNo]; omega
  have h3 : indexOf (cellNo k) = k.k.val := by simp only [indexOf, cellNo]; omega
  simp only [cellAddr, byteAddress, h1, h2, h3]; omega

/-- A cell in no envelope that faults at its PC stops as Table 3-5 says. -/
theorem State.cellStops_cellFault (s : State) (k : CellId) (reason x : Nat) (hc : (s.cell (cellNo k)).ctx = .none) :
    cellStops s ((s.issued (cellNo k)).cellFault (cellNo k) reason x (s.cell (cellNo k)).pc.toNat) k
      (if reason = 4 then 0x106 else if reason = 3 then 0x103 else 0x107) (if reason = 4 ∨ reason = 3 then x else reason) := by
  have hi : (s.issued (cellNo k)).cell (cellNo k) = { s.cell (cellNo k) with lastLoad := none } := State.cell_setCell_self ..
  have hc' : ((s.issued (cellNo k)).cell (cellNo k)).ctx = .none := by rw [hi]; exact hc
  have hF (α : Type) (F : State → α) hF := State.cellFault_keeps F hF (s.issued (cellNo k)) (cellNo k) reason x (s.cell (cellNo k)).pc.toNat hc'
  refine ⟨?_, ?_, ?_, ?_, ?_, ?_⟩
  · rw [State.cell_cellFault _ _ _ _ _ hc', if_pos rfl, hi]
  · exact hF _ State.mem (fun _ _ _ _ _ _ _ => rfl)
  · exact hF _ State.kept (fun _ _ _ _ _ _ _ => rfl)
  · exact hF _ State.net (fun _ _ _ _ _ _ _ => rfl)
  · intro m hm; rw [State.cell_cellFault _ _ _ _ _ hc', if_neg hm]; exact by rw [State.issued, State.cell_setCell, if_neg hm]
  · have h := State.raises_cellFault (s.issued (cellNo k)) (cellNo k) reason x (s.cell (cellNo k)).pc.toNat hc'
    rw [cellParam_cellNo] at h
    rcases Nat.decEq reason 4 with h4 | h4
    · rcases Nat.decEq reason 3 with h3 | h3
      · simp only [h4, h3, if_false, false_or] at h ⊢; exact h
      · simp only [h3, if_true, or_true] at h ⊢; exact h
    · simp only [h4, if_true, true_or] at h ⊢; exact h

end Sys2Proof.Machine
end

