-- ==== Sys2Proof/Tests/Slice0.lean ====
section
/-! SUPPORT. Tests: an ill-formed command for each well-formedness check, the spec's worked examples, and for each statement with
hypotheses concrete states and operands that meet those of each of its clauses. Every expected figure is the spec's own. -/

namespace Sys2Proof.Tests

open Machine Safety

set_option Elab.async false

/-! ## States the tests start from -/

def kA : CellId := ⟨31, 19, 511⟩
def progA : ProgDef :=
  { prog := 0, crit := false, cls := 1, peerPause := false, period := 4, offset := 0, deadline := 1, budget := 2000, depends := 0 }
def manA : Man := { part := 31, progs := [progA], imgs := [(0, [0, 0, 0])], cells := [⟨10239, 0, 0, 0⟩] }
/-- A module in service at beat 100 whose only cell is the last one, of a program of three instructions. -/
def cellSt (c : Cell) : State :=
  { (State.reset.setF (Reg.FAB_CLUSTER_STATE_CSTATE 639) 2).setF Reg.GLB_STATE_MSTATE 3 with
    released := true, beat := 100, cells := [(327679, c)], parts := [(31, { man := some manA })] }
def cellA : Cell := { run := 1, len := 3 }
/-- The cell with a target address in g2 and g3, a local operand in g4 and a completion offset in g5. -/
def sendSt (hi lo : Word) (b c : Word) (ctx : EnvCtx := .none) (out : Nat := 0) : State :=
  cellSt { cellA with work := { g := [(2, lo), (3, hi), (4, b), (5, c)] }, ctx := ctx, outst := out }
def fldA : LFields := { aHalf := 1, b := 4, env := false, reply := true, c := 5, tag := 0xABC }
def memA : Member := { cell := 327679, off := 0x7FC, per := 0 }
def envSt (s : State) (e : Env) : State := { s with envs := [(2047, e)] }
def toCell (n off : Nat) : FabAddr := BitVec.ofNat 48 (cellAddr n off)
def unitA : Sender := .unit 0x500
/-- n bytes, 0 but for the listed ones. -/
def bytesOf (n : Nat) (l : List (Nat × Nat)) : Bytes := (List.range n).map fun i => BitVec.ofNat 8 ((l.lookup i).getD 0)
/-- A module in service at beat 4,000, cycle 1,000. -/
def stA : State := { State.reset.setF Reg.GLB_STATE_MSTATE 3 with released := true, beat := 4000, cycle := 1000 }
def setA : Act := { h := 0xFFE3, sets := [(23, [1]), (0, [2])], c := 4000 }
def withActs (s : State) (l : List Act) : State := { s with stg := { s.stg with acts := l } }
def withBoards (s : State) (l : List (Nat × Board)) : State := { s with stg := { s.stg with boards := l } }
def ackFr : Bytes := bytesOf 1250 [(192, 0xE3), (193, 0xFF), (194, 1), (40, 23)]
def rxA : Rx := { beat := 4000, frame := ackFr, ok := ⟨true, true, true, true, true⟩, valid := true }
def boardA : Board := { trained := true, run := 15, slot := 3, map := bytesOf 64 [(16, 2), (18, 3)] }
def mapS : Bytes := bytesOf 64 [(8, 1), (16, 2), (18, 3)]
def upSt : State := withBoards stA [(23, boardA), (0, { trained := true })]
/-- A PI loop of division 1 on board 23's field 0, DUTY output, limits 100. -/
def entA : Bytes := bytesOf 128 [(2, 1), (4, 1), (7, 23), (8, 0), (9, 255), (10, 255), (11, 255), (13, 23), (14, 3), (36, 100), (38, 5), (40, 100), (42, 2), (48, 9), (50, 0x40), (55, 0x80)]
def winA : Bytes := bytesOf 64 [(0, 10), (2, 0), (4, 50), (5, 10), (6, 1), (9, 4), (11, 2), (15, 1)]
def loopA : Loop := { ent := entA, win := winA, app := winA, phases := 3 }
/-- Loop 7 of engine 63 in a state. -/
def loopSt (st : Nat) (L : Loop) : State := { stA.setF (Reg.LE_LOOP_STATUS_LSTATE 511) st with loops := [(511, L)] }
def sampled (s : State) (y : Nat) : State := withBoards s [(23, { trained := true, rx := some { rxA with frame := bytesOf 1250 [(0, y), (40, 23)] } })]
/-- A PUT of an envelope's contributor to a cell's data memory. -/
def letA (a : FabAddr) : Letter := { op := .put, hdr := { sender := .cell kA, addr := a, tag := 0, reply := .none }, len := 2, data := [1, 2], env := some 0xFFE3 }
def envO : Env := { st := .open, gen := 3, expect := 2, members := [{ memA with sent := 1 }] }
def holdSt (a : FabAddr) : State := { envSt (cellSt cellA) envO with net := [letA a] }
def ackSt (e : Env) (k : HoldAck) : State := { envSt (cellSt cellA) e with acks := [k] }
def progB : ProgDef := { progA with depends := 1, peerPause := true }
def circSt (k : Circ) (P : Prog) : State :=
  { cellSt cellA with circs := [k], parts := [(31, { man := some { manA with progs := [progB] } })], progs := [(31744, P)] }
def vecE (v : Option Nat) : Env := { st := .sealed, gen := 3, expect := 1, members := [memA], vec := v, sealedAt := 125000 }
def perSt (c : Cell) (P : Prog) : State := { cellSt c with progs := [(31744, P)] }
/-- A module in service with something in each kind of state. -/
def richSt : State :=
  let s := { cellSt { cellA with work := { g := [(2, 7)] } } with beat := 4000, mem := [(5, 7)], kept := [(5, 7)], envs := [(2047, envO)], net := [], circs := [{ type := 2, src := 0, effect := 5000, param := 0 }], loops := [(511, loopA)], deadCells := [9], deadClusters := [639], progs := [(0, { begun := 4 })], evl := { queue := [⟨5, 0, 0, 0, 0, 0, none, false⟩] } }
  (((s.setF Reg.BUD_PUB_SEQ_SEQ 5).setF (Reg.MAN_STATUS_STATE 31) 3).setF Reg.GRD_STATE_COOLANT 1).setF (Reg.LE_LOOP_STATUS_LSTATE 511) 2
def ms (n : Nat) (s : State) : State := s.setF Reg.GLB_STATE_MSTATE n
def est0 : PowerEst := { host := 500, wires := 500, memParts := List.replicate 32 50, memRest := 400, fixed := 3000 }
/-- Queue 63 enabled with its aperture 7 at a base, in a mode. -/
def apSt (m : Nat) : State :=
  ((((stA.setF (Reg.HIF_SQ_CFG_EN 63) 1).setF (Reg.HIF_AP_EN 63 7) 1).setF (Reg.HIF_AP_MODE 63 7) m).setF (Reg.HIF_AP_BASE_LO 63 7) 0x1000000).setF (Reg.HIF_AP_BASE_HI 63 7) 0x3E10
def hltA : HLetter := { id := 5, q := 63, seq := 5, src := 1, op := .get, addr := 0, len := 8, access := 3 }
def accA : Access := { id := 3, read := true, len := 16, got := [(5, none)], beat := 4000 }
def repA : Reply := { dest := .host 63 5, op := .get, tag := 5, status := 0, data := [1, 2, 3, 4, 5, 6, 7, 8] }
def dramSt : State := { stA with bup := { dram := true }, parts := [(31, { man := some manA })] }
def manSt (m st : Nat) (P : Part) : State := { (ms m stA).setF (Reg.MAN_STATUS_STATE 31) st with parts := [(31, P)] }
def rsd : State := withBoards { stA with parts := [(31, { man := some manA })] } [(23, boardA)]
def flt (r u : Nat) (reason : Nat := 0x17) : FaultRec := { w0 := 31 + 3 * 2 ^ 29, w1 := 0, reason := reason, idx := 0, beat := 3999, rung := r, unit := u }
def fltSt (f : FaultRec) : State := { cellSt cellA with beat := 4000, rcv := { faults := [f] }, parts := [(31, { man := some manA })] }
def rngA (k u st : Nat) (w : Option Nat := none) (e : Bool := false) (l : List Nat := []) : Rung := { rung := k, unit := u, reason := 0x17, start := 3990, stage := st, wroteAt := w, empty := e, tests := l }
def rngSt (r : Rung) : State := { cellSt cellA with beat := 4000, rcv := { rungs := [r] }, parts := [(31, { man := some manA, held := true })] }
def gSt (n : Nat) (g : Grd) : State := { stA.setF Reg.GRD_STATE_GSTATE n with grd := g }
def recT (l : List (Nat × Nat)) : Bytes := bytesOf 32 l
def budSt (st sg : Nat) (b : Bud) : State :=
  { ((((gSt 2 {}).setF Reg.BUD_SEQ_STATE_SSTATE st).setF Reg.BUD_SEQ_STATE_STAGE sg).setF (Reg.BUD_TGT_EN 0) 1).setF Reg.BUD_CFG_TARGETS 256 with bud := b, ldg := { draw := [(0, 500000)] } }
def pubR : Bytes := bytesOf 4160 [(0, 5), (64, 100), (67, 1), (80, 7)]
def strSt (n : Nat) (v : Str) : State := { stA.setF (Reg.SST_STRING_STATUS_SSTATE 7) n with beat := 4000000000, sst := { strs := [(7, v)] } }
def passF (l : List (Nat × Nat)) : Bytes := bytesOf 13 ([(0, 0x86), (2, 84)] ++ l)
def atP (s : State) : State := { s with mon := { cmus := [(84, { mapped := true, port := 95 })] } }
def monCfg : Bytes := bytesOf 64 [(4, 1), (5, 2), (6, 3), (7, 4), (8, 0x68), (9, 0x10), (10, 0xC4), (11, 0x09)]
/-- Unit 95 on port 94. -/
def monSt (cs : Nat) (u : Cmu) (m : Mon := {}) : State :=
  { stA.setF (Reg.MON_CMU_STATUS_CSTATE 95) cs with mon := { m with cfg := monCfg, cmus := [(95, { u with mapped := true, port := 94 })] } }
def monF (ty : Nat) (l : List (Nat × Nat)) : Bytes := bytesOf 64 ([(0, ty), (2, 95)] ++ l)
def dia (off : Option (Int × Int × Int)) (att : Nat := 1) : Diag := { cell := 16, tap := 17, attempt := att, ref := 36000, off := off, asked := true }
def v16 (i n : Nat) : List (Nat × Nat) := [(i, n % 256), (i + 1, n / 256)]
def dfr (off a b c : Nat) : Bytes := monF 0x84 ([(10, off), (11, 17)] ++ v16 4 a ++ v16 6 b ++ v16 8 c)
def reqR (op : Nat) (l : List (Nat × Nat) := []) : Bytes := bytesOf 32 ([(0, op), (2, 0xFE), (3, 0xF), (4, 0xFF), (5, 0xFF), (6, 0xFF), (8, 1), (15, 2), (16, 3)].filter (fun e => (l.lookup e.1).isNone) ++ l)
/-- The ledger running, queue 4,094 in service. -/
def ldgSt (g : Ldg := {}) : State :=
  let s : State := stA.setF Reg.LDG_STATUS_RUN 1
  { s with live := [(0xB00000 + (Reg.LDG_QUEUE_EN 4094).off - 0xB00000, 2 ^ (Reg.LDG_QUEUE_EN 4094).lo)], ldg := g }
def entB0 (st : Nat) (l : List (Nat × Nat) := []) : Bytes := bytesOf 60 ([(0, 1), (7, 2), (52, 0xFE), (53, 0xF), (54, 3), (56, st)].filter (fun e => (l.lookup e.1).isNone) ++ l)
def entB (st : Nat) (l : List (Nat × Nat) := []) : Bytes := entB0 st l ++ Bits.toLe 4 (Bits.crc32c (entB0 st l)).toNat
def withEnt (s : State) (b : Bytes) : State := { (s.wrMem (entryAddr 0 0xFFFFFF) b).wrMem (entryAddr 1 0xFFFFFF) b with beat := s.beat, ldg := { s.ldg with busy := if (b.getD 56 0).toNat = 0 then [] else [(0xFFFFFF, 0xFFF)] } }
def batA : Batch := { hdr := bytesOf 192 [(8, 5)], first := 3, leaves := [[1], [2]], beat := 3990, key := 0, sig := some [7] }
def upH (s : State) : State := (s.setF Reg.HIF_LINK_DL_UP 1).setF Reg.HIF_LINK_BME 1
def under (n : Nat) (s : State) : State := { s with rcv := { rungs := [rngA 2 n 0] } }

/-- A frame with the check of each of its sections. -/
def sealF (fr : Bytes) : Bytes := [(0, 32), (36, 24), (192, 4), (256, 60), (640, 32)].foldl (fun (f : Bytes) (e : Nat × Nat) => Bits.patch f (e.1 + e.2) (Bits.toLe 4 (Bits.crc32c ((f.drop e.1).take e.2)).toNat)) fr
def allOk : Sections := ⟨true, true, true, true, true⟩
def exitSt (m bs : Nat) (b : Board) (a : List Act := []) : State :=
  { (stA.setF Reg.GLB_STATE_MSTATE m).setF (Reg.STG_BOARD_STATUS_BSTATE 23) bs with stg := { boards := [(23, b)], taken := 4001, exits := 2 ^ 23, acts := a } }

/-- A monitor frame of n bytes with its check; 64 bytes for a sweep record, 16 for any other. -/
def sealM (fr : Bytes) : Bytes := let n := if (Bits.byteAt fr 0).toNat = 0x81 then 64 else 16; Bits.patch (Bits.fit fr n) (n - 4) (Bits.toLe 4 (Bits.crc32c ((Bits.fit fr n).take (n - 4))).toNat)

def memB : Member := { cell := 5, off := 0x7FC, per := 0 }
/-- The cell as cell n. -/
def cellAt (n : Nat) (c : Cell) : State := { cellSt c with cells := [(n, c)] }
def busyS (s : State) : State := s.setF Reg.SEC_CMD_RESULT_BUSY 1
def ent (n : Nat) (s : State) : State := s.setF Reg.SEC_STATUS_ENTROPY_FAIL n
def rmaS (s : State) : State := s.setF Reg.SEC_STATUS_DEBUG 2
def bupS (n : Nat) (b : Bup := {}) : State := { ((ms 1 stA).setF Reg.BUP_RESULT_BUSY 1).setF Reg.BUP_RESULT_STEP n with bup := b }
def fnd (l : List (Nat × Nat × Nat)) (tw : Bool := false) : Topology := { boards := l, lit := [], cmus := [], twinTrained := tw, twinLatency := 200, rolesEqual := false, peerMode := true, peerBeat := 77 }
def twS (m : Nat) (tw : Twn) : State := { (ms m stA).setF Reg.TWN_CFG_MODE 1 with bup := { last := 9 }, twn := tw }
/-- A twin frame of a boundary with status bits. -/
def twF (k fl : Nat) : Bytes := bytesOf 3072 [(0, k % 256), (1, k / 256), (4, 9), (6, fl)]
def evS (e : Evl) : State := { stA with evl := e }
def ltr : Letter := letA 5

/-! ## Well-formedness: an ill-formed term for each check -/

theorem test_wf_refuses_letters :
    (Instr.put { sender := unitA, addr := 0x3F, tag := 0, reply := .none } [1, 2]).wf = false ∧
    (Instr.get { sender := unitA, addr := 0, tag := 0, reply := .none } 65 .clean).wf = false ∧
    (Instr.addLetter { sender := unitA, addr := 4, tag := 0, reply := .none } true 1 .clean).wf = false ∧
    (Instr.swap { sender := unitA, addr := 2, tag := 0, reply := .none } false 1 .clean).wf = false ∧
    (Instr.cas { sender := unitA, addr := 4, tag := 0, reply := .none } true 1 1 .clean).wf = false ∧
    (Instr.maxLetter { sender := unitA, addr := 1, tag := 0, reply := .none } false 1 .clean).wf = false ∧
    (Instr.minLetter { sender := unitA, addr := 12, tag := 0, reply := .none } true 1 .clean).wf = false := by decide +kernel

theorem test_wf_refuses_cell_instructions :
    (Instr.sys kA 1 5).wf = false ∧
    (Instr.lput kA { aHalf := 1, b := 4, env := false, reply := false, c := 5, tag := 0 }).wf = false ∧
    (Instr.wait kA 1 0 0).wf = false := by decide +kernel

theorem test_wf_refuses_accesses :
    (Instr.registerWrite 0x103 [1, 2]).wf = false ∧ (Instr.registerWrite 0x104 (Bits.zeros 8)).wf = false ∧
    (Instr.bar0Read 0x100 5).wf = false ∧ (Instr.bar0Read 0x100 0).wf = false ∧
    (Instr.bar2Write 0 []).wf = false ∧ (Instr.bar2Read 0 513).wf = false ∧
    (Instr.bar2Atomic 4 .fetchAdd 8 0 0).wf = false ∧ (Instr.bar2Atomic 0 .cas 2 0 0).wf = false ∧
    (Instr.bar4Write 0x1FFFFFFFF [1, 2]).wf = false ∧ (Instr.bar4Read 0 4097).wf = false := by decide +kernel

theorem test_wf_refuses_frames :
    (Instr.upstreamFrame 23 (Bits.zeros 675) allOk).wf = false ∧ (Instr.twinFrame (Bits.zeros 3071) true).wf = false ∧
    (Instr.sweepRecord 95 (Bits.zeros 65)).wf = false ∧ (Instr.configReply 95 (Bits.zeros 15)).wf = false ∧
    (Instr.faultFrame 95 (Bits.zeros 17)).wf = false ∧ (Instr.diagReply 95 (Bits.zeros 25)).wf = false ∧
    (Instr.refReply 95 (Bits.zeros 27)).wf = false ∧ (Instr.passReply 95 []).wf = false := by decide +kernel

theorem test_wf_refuses_records :
    (Instr.telemetryRecord 0 (Bits.zeros 31)).wf = false ∧ (Instr.budgetAck (Bits.zeros 4)).wf = false ∧
    (Instr.openReq (Bits.zeros 33) true true).wf = false ∧ (Instr.close (Bits.zeros 31) true true).wf = false ∧
    (Instr.estimate 0x3F (Bits.zeros 2)).wf = false ∧ (Instr.setpointWindow 63 7 63 [1, 2]).wf = false ∧
    (Instr.challenge 0 (Bits.zeros 31)).wf = false ∧ (Instr.getMeasurements 0 (Bits.zeros 33)).wf = false ∧
    (Instr.controlStep { est0 with memParts := [] }).wf = false := by decide +kernel

theorem test_wf_refuses_reports :
    (Instr.beatBoundary true true []).wf = false ∧ (Instr.memoryTest 0 0 [(64, 0)] []).wf = false ∧
    (Instr.memoryTest 0 0 [] [(64, 1)]).wf = false ∧ (Instr.cellBist [(kA, 8)] []).wf = false ∧
    (Instr.cellBist [] [(640, 1)]).wf = false ∧ (Instr.firmwareBroadcast [640]).wf = false ∧
    (Instr.topologyDiscovery { boards := [(24, 1, 24)], lit := [], cmus := [], twinTrained := false, twinLatency := 0, rolesEqual := false, peerMode := false, peerBeat := 0 }).wf = false ∧
    (Instr.engineRungRelease 66).wf = false ∧ (Instr.partitionRungTested 31 [(kA, 0)] []).wf = false := by decide +kernel

/-- Well-formed terms of the same shapes. -/
theorem test_wf_accepts :
    (Instr.put { sender := unitA, addr := 0x3F, tag := 0, reply := .none } [1]).wf = true ∧ (Instr.sys kA 1 4).wf = true ∧
    (Instr.registerWrite 0x100 (Bits.zeros 8)).wf = true ∧ (Instr.upstreamFrame 23 (Bits.zeros 676) allOk).wf = true ∧
    (Instr.telemetryRecord 0 (Bits.zeros 32)).wf = true ∧ (Instr.bar4Read 0 4096).wf = true := by decide +kernel

/-! ## The spec's worked examples -/

/-- What the command leaves satisfies the check. -/
def leaves (i : Instr) (s : State) (p : State → Bool) : Bool :=
  match exec i s with
  | .next t => p t
  | _ => false

/-- The same over the working registers of the last cell, which runs with the given ones. -/
def works (i : Instr) (w : Work) (p : Work → Bool) : Bool :=
  leaves i (cellSt { cellA with work := w }) fun t => p (t.cell 327679).work

/-! A 64-bit addition (03_cell_programs_arithmetic.md, after R74). -/

theorem test_add_low_word : works (.add kA 2 2 4) { g := [(2, 0xFFFFFFF0), (3, 1), (4, 0x20)] }
    (fun w => decide (w.reg 2 = 0x10 ∧ w.flags.toNat % 2 = 1)) = true := by decide +kernel

theorem test_addc_high_word : works (.addc kA 3 3 5) { g := [(2, 0x10), (3, 1), (4, 0x20)], flags := 1 }
    (fun w => decide (w.reg 3 = 2 ∧ w.flags.toNat % 2 = 0)) = true := by decide +kernel

/-! Three filter taps (under R75, R76). -/

theorem test_macq_word : instrOf kA 0xC0114006 = some (.macq kA 4 5 false true true) := by decide +kernel

theorem test_macq_high_halves : works (.macq kA 4 5 false true true)
    { g := [(4, 0xC0004000), (5, 0x20016000)], acc0 := { v := 402653184, empty := false } }
    (fun w => decide (w.acc0.v = 268419072)) = true := by decide +kernel

theorem test_extq_tie : works (.extq kA 8 false 0) { acc0 := { v := 268419072, empty := false } }
    (fun w => decide (w.reg 8 = 0x2000 ∧ w.flags.toNat / 2 % 2 = 0)) = true := by decide +kernel

theorem test_extq_saturates : works (.extq kA 9 false 0) { acc0 := { v := 1342095361, empty := false } }
    (fun w => decide (w.reg 9 = 0x7FFF)) = true := by decide +kernel

/-! A B4 dot product across two exponents (under R78, R79). -/

theorem test_macb4_first : works (.macb4 kA 4 5 true) { g := [(4, 0xF50187E3), (5, 0x11687D42)], exa := -3, exb := -2 }
    (fun w => decide (w.acc1.v.toInt = -83 ∧ w.acc1.ex.toInt = -5 ∧ w.acc1.empty = false)) = true := by decide +kernel

theorem test_macb4_aligns : works (.macb4 kA 6 7 true)
    { g := [(6, 5), (7, 2)], exa := -2, exb := -2, acc1 := { v := -83, ex := -5, empty := false } }
    (fun w => decide (w.acc1.v.toInt = -32 ∧ w.acc1.ex.toInt = -4)) = true := by decide +kernel

theorem test_extb_scaled : works (.extb kA 8 true (-2)) { acc1 := { v := -32, ex := -4, empty := false } }
    (fun w => decide (w.reg 8 = 0xFFFFC000)) = true := by decide +kernel

/-! A host letter that wakes a gated cluster (02_crigity_fabric.md), through BAR2 (14_host_sideband.md, under R301). -/

theorem test_fabric_address : cellAddr (cellNo ⟨21, 7, 300⟩) 0x140 = 0x2A7960000140 := by decide +kernel

theorem test_bar2_cells : (((stA.setF (Reg.HIF_AP_MODE 5 0) 1).setF (Reg.HIF_AP_BASE_HI 5 0) 0x2A70).translate 0x0512C140) =
    0x2A7960000140 := by decide +kernel

/-! The largest request against the smallest buffer (04_envelopes.md). -/

theorem test_env_open_too_large : leaves (.envOpen ⟨9, 4, 17⟩ 3 2 0)
    { ((cellSt cellA).setF (Reg.FAB_CLUSTER_STATE_CSTATE 184) 2).setF (Reg.ENV_BUF_CFG_BUF_SIZE 9) 0 with
      cells := [(cellNo ⟨9, 4, 17⟩, { cellA with work := { g := [(2, 0x05001000)] } })]
      parts := [(9, { man := some { manA with part := 9, cells := [⟨2065, 0, 0, 0⟩] } })] }
    (fun t => decide ((t.cell (cellNo ⟨9, 4, 17⟩)).result = some (3, 0xFFFF0010))) = true := by decide +kernel

theorem test_handle : (hPart 0x4845, hSlot 0x4845, hGen 0x4845) = (9, 2, 5) := by decide

/-! A retarget during a slew (09_stage_links.md, under R214). -/

theorem test_vref_slews : ((((stA.setF Reg.STG_VCMD_TARGET 7900).setF Reg.STG_VCMD_SLEW 2).setF Reg.STG_VREF_VREF 800000).vrefStep).f Reg.STG_VREF_VREF = 799998 := by decide +kernel

/-! A cap cut at full load (13_module_power.md, under R285): LINK, MEM, then COMPUTE. -/

theorem test_allowance : allowOf [0, 1, 2] (fun d => if d = 0 then 13000 else 38000) (fun d => if d = 0 then 16000 else 40000)
    222000 false - 33000 = 133000 := by decide

theorem test_grants : (grantOf 133000 65000 16).2 = (16, 68000) ∧ (grantOf 68000 110000 16).1 = 9 := by decide

/-! Decoding offsets from an error log (20_register_index.md). -/

theorem test_offsets : ((Reg.HIF_CQ_CFG_LOG2 3).off, (Reg.LE_LOOP_STATUS_LSTATE 37).off, (Reg.LDG_QUEUE_EN 651).off) =
    (0xD04068, 0x700894, 0xB01A2C) := by decide

/-- A reserved offset reads 0 and ignores writes (R408). -/
theorem test_reserved_offset : rowOf 0x500058 = none ∧ stA.rd 0x500058 = 0 := by decide +kernel

/-- Kp falls from 0.5 to 0.25 (05_manifests.md, R128): the output does not jump, and the tie rounds to even. -/
theorem test_rebase_extracts : Bits.rhe (16384 * 3277 + 268435456) 15 = 9830 ∧ Bits.rhe (8192 * 3277 + 295280640) 15 = 9830 := by decide

/-- The table gives no row any bits (log entry 5). -/
theorem test_no_table_word : decodeTableWord 8 0 = none ∧ (stA.withFetchWord 8 0) = stA := by decide +kernel

/-! ## Witnesses: states and operands that meet the hypotheses of the statements -/

theorem witness_StepRunsFrontCommand :
    (∃ (s : Machine.State) (c : Instr) (r : List Instr), s.pending = c :: r) :=
  ⟨({ State.reset with pending := [.nop kA] } : Machine.State), (.nop kA : Instr), ([] : List Instr), by decide +kernel⟩

theorem witness_EmptyQueuePassesACycle :
    (∃ (s : Machine.State), s.pending = []) :=
  ⟨(State.reset : Machine.State), by decide +kernel⟩

theorem witness_LogicShiftCompareInstructions :
    (∃ (s : Machine.State) (k : CellId) (a : BitVec 4) (b : BitVec 4), notLast s k ∧ mayRun s k [a, b] none 1 ∧ mayRun s k [a,
      b] none 2) :=
  ⟨(cellSt cellA : Machine.State), (kA : CellId), (2 : BitVec 4), (3 : BitVec 4), by decide +kernel⟩

theorem witness_AddSubtractCarryAndSaturation :
    (∃ (s : Machine.State) (k : CellId) (a : BitVec 4) (b : BitVec 4), notLast s k ∧ mayRun s k [a, b] none 1) :=
  ⟨(cellSt cellA : Machine.State), (kA : CellId), (2 : BitVec 4), (3 : BitVec 4), by decide +kernel⟩

theorem witness_ImmediateAndSystemInstructions :
    (∃ (s : Machine.State) (k : CellId) (a : BitVec 4) (b : BitVec 4), notLast s k ∧ mayRun s k [a] none 1 ∧ mayRun s k [] none
      1 ∧ mayRun s k [a, b] none 1) :=
  ⟨(cellSt cellA : Machine.State), (kA : CellId), (2 : BitVec 4), (3 : BitVec 4), by decide +kernel⟩

theorem witness_LocalLoads :
    (∃ (s : Machine.State) (k : CellId) (a : BitVec 4) (imm : BitVec 16) (ecc : Ecc), notLast s k ∧ mayRun s k [a] none 1 ∧ ecc
      ≠ Ecc.uncorrectable ∧ BitVec.toNat ((s.cell (cellNo k)).work.reg a + BitVec.signExtend 32 imm) ≤ 2047 ∧ BitVec.toNat
      ((s.cell (cellNo k)).work.reg a + BitVec.signExtend 32 imm) % 4 = 0 ∧ BitVec.toNat ((s.cell (cellNo k)).work.reg a +
      BitVec.signExtend 32 imm) % 2 = 0) :=
  ⟨(cellSt cellA : Machine.State), (kA : CellId), (2 : BitVec 4), (0 : BitVec 16), (.clean : Ecc), by decide +kernel⟩

theorem witness_LocalStores :
    (∃ (s : Machine.State) (k : CellId) (d : BitVec 4) (a : BitVec 4) (imm : BitVec 16), notLast s k ∧ mayRun s k [a, d] none 1
      ∧ BitVec.toNat ((s.cell (cellNo k)).work.reg a + BitVec.signExtend 32 imm) ≤ 2047 ∧ BitVec.toNat ((s.cell (cellNo
      k)).work.reg a + BitVec.signExtend 32 imm) % 4 = 0 ∧ BitVec.toNat ((s.cell (cellNo k)).work.reg a + BitVec.signExtend 32
      imm) % 2 = 0) :=
  ⟨(cellSt { cellA with work := { g := [(1, 0x8899AABB), (2, 0x800)] } } : Machine.State), (kA : CellId), (1 : BitVec 4), (2 :
    BitVec 4), (0xFFFC : BitVec 16), by decide +kernel⟩

theorem witness_CellFaultsAndBudgetStops :
    (∃ (s : Machine.State) (k : CellId) (d : BitVec 4) (a : BitVec 4) (imm : BitVec 16), (s.cell (cellNo k)).ctx = EnvCtx.none
      ∧ mayRun s k [a] none 1 ∧ 2047 < BitVec.toNat ((s.cell (cellNo k)).work.reg a + BitVec.signExtend 32 imm) ∧ mayRun s k
      [a, d] none 1) ∧
    (∃ (s : Machine.State) (k : CellId) (d : BitVec 4) (a : BitVec 4) (imm : BitVec 16), (s.cell (cellNo k)).ctx = EnvCtx.none
      ∧ mayRun s k [a] none 1 ∧ BitVec.toNat ((s.cell (cellNo k)).work.reg a + BitVec.signExtend 32 imm) ≤ 2047 ∧ BitVec.toNat
      ((s.cell (cellNo k)).work.reg a + BitVec.signExtend 32 imm) % 4 ≠ 0 ∧ BitVec.toNat ((s.cell (cellNo k)).work.reg a +
      BitVec.signExtend 32 imm) % 2 ≠ 0 ∧ mayRun s k [a, d] none 1) ∧
    (∃ (s : Machine.State) (k : CellId) (a : BitVec 4) (imm : BitVec 16), (s.cell (cellNo k)).ctx = EnvCtx.none ∧ mayRun s k
      [a] none 1 ∧ BitVec.toNat ((s.cell (cellNo k)).work.reg a + BitVec.signExtend 32 imm) ≤ 2047 ∧ BitVec.toNat ((s.cell
      (cellNo k)).work.reg a + BitVec.signExtend 32 imm) % 4 = 0 ∧ BitVec.toNat ((s.cell (cellNo k)).work.reg a +
      BitVec.signExtend 32 imm) % 2 = 0) ∧
    (∃ (s : Machine.State) (k : CellId) (a : BitVec 4), (s.cell (cellNo k)).ctx = EnvCtx.none ∧ mayRun s k [a] none 2 ∧ (s.cell
      (cellNo k)).len ≤ BitVec.toNat ((s.cell (cellNo k)).work.reg a) % 256) ∧
    (∃ (s : Machine.State) (k : CellId), (s.cell (cellNo k)).ctx = EnvCtx.none ∧ mayRun s k [] none 1 ∧ (s.cell (cellNo k)).len
      ≤ (s.cell (cellNo k)).pc.toNat + 1) ∧
    (∃ (s : Machine.State) (k : CellId) (d : BitVec 4) (a : BitVec 4) (b : BitVec 4), s.canRun (cellNo k) = true ∧ s.budget
      (cellNo k) < (s.cell (cellNo k)).charged + (stall s k [a, b] none + 1) ∧ s.budget (cellNo k) < (s.cell (cellNo
      k)).charged + (stall s k [a, d] none + 1) ∧ s.budget (cellNo k) < (s.cell (cellNo k)).charged + (stall s k [] none + 1)) :=
  ⟨⟨(cellSt { cellA with work := { g := [(2, 0x800)] } } : Machine.State), (kA : CellId), (1 : BitVec 4), (2 : BitVec 4), (0 :
    BitVec 16), by decide +kernel⟩, ⟨(cellSt { cellA with work := { g := [(2, 0x800)] } } : Machine.State), (kA : CellId), (1 :
    BitVec 4), (2 : BitVec 4), (0xFFFF : BitVec 16), by decide +kernel⟩, ⟨(cellSt { cellA with work := { g := [(2, 0x7FC)] } }
    : Machine.State), (kA : CellId), (2 : BitVec 4), (0 : BitVec 16), by decide +kernel⟩, ⟨(cellSt
    { cellA with work := { g := [(2, 0xFFFFFFFF)] } } : Machine.State), (kA : CellId), (2 : BitVec 4), by decide +kernel⟩,
    ⟨(cellSt { cellA with pc := 2 } : Machine.State), (kA : CellId), by decide +kernel⟩, ⟨(cellSt
    { cellA with charged := 2000 } : Machine.State), (kA : CellId), (1 : BitVec 4), (2 : BitVec 4), (3 : BitVec 4),
    by decide +kernel⟩⟩

theorem witness_Q15MultiplyAccumulate :
    (∃ (s : Machine.State) (k : CellId) (a : BitVec 4) (b : BitVec 4), notLast s k ∧ mayRun s k [a, b] none 1) :=
  ⟨(cellSt cellA : Machine.State), (kA : CellId), (2 : BitVec 4), (3 : BitVec 4), by decide +kernel⟩

theorem witness_BlockMultiplyAccumulate :
    (∃ (s : Machine.State) (k : CellId) (a : BitVec 4) (b : BitVec 4), notLast s k ∧ mayRun s k [a, b] none 1) :=
  ⟨(cellSt cellA : Machine.State), (kA : CellId), (2 : BitVec 4), (3 : BitVec 4), by decide +kernel⟩

theorem witness_RoundHalfToEven :
    (∃ (v : ℤ) (n : ℕ), n ≤ 62 ∧ (2 * (Bits.rhe v n * 2 ^ n - v) = 2 ^ n ∨ 2 * (v - Bits.rhe v n * 2 ^ n) = 2 ^ n)) :=
  ⟨(3 : ℤ), (1 : ℕ), by decide +kernel⟩

theorem witness_AccumulatorMoves :
    (∃ (s : Machine.State) (k : CellId) (a : BitVec 4) (n : Bool), notLast s k ∧ mayRun s k [] none 1 ∧ mayRun s k [a] none 1 ∧
      mayRun s k [] (some n) 1) :=
  ⟨(cellSt cellA : Machine.State), (kA : CellId), (2 : BitVec 4), (false : Bool), by decide +kernel⟩

theorem witness_BranchesAndJumps :
    (∃ (s : Machine.State) (k : CellId) (a : BitVec 4) (b : BitVec 4) (cond : BitVec 3),
      ((match cond.toNat with | 0 => decide ((s.cell (cellNo k)).work.reg a = (s.cell (cellNo k)).work.reg b) | 1 => decide ((s.cell (cellNo k)).work.reg a ≠ (s.cell (cellNo k)).work.reg b) | 2 => decide (BitVec.toInt ((s.cell (cellNo k)).work.reg a) < BitVec.toInt ((s.cell (cellNo k)).work.reg b)) | 3 => decide (BitVec.toInt ((s.cell (cellNo k)).work.reg b) ≤ BitVec.toInt ((s.cell (cellNo k)).work.reg a)) | 4 => decide (BitVec.toNat ((s.cell (cellNo k)).work.reg a) < BitVec.toNat ((s.cell (cellNo k)).work.reg b)) | 5 => decide (BitVec.toNat ((s.cell (cellNo k)).work.reg b) ≤ BitVec.toNat ((s.cell (cellNo k)).work.reg a)) | 6 => decide ((s.cell (cellNo k)).work.flags.toNat % 2 = 1) | _ => decide ((s.cell (cellNo k)).work.flags.toNat % 2 = 0)) = true)
      ∧ (mayRun s k (if cond.toNat < 6 then [a, b] else []) none 2) ∧ mayRun s k [] none 2 ∧ mayRun s k [a] none 2 ∧
      BitVec.toNat ((s.cell (cellNo k)).work.reg a) % 256 < (s.cell (cellNo k)).len) ∧
    (∃ (s : Machine.State) (k : CellId) (a : BitVec 4) (b : BitVec 4) (cond : BitVec 3),
      ((match cond.toNat with | 0 => decide ((s.cell (cellNo k)).work.reg a = (s.cell (cellNo k)).work.reg b) | 1 => decide ((s.cell (cellNo k)).work.reg a ≠ (s.cell (cellNo k)).work.reg b) | 2 => decide (BitVec.toInt ((s.cell (cellNo k)).work.reg a) < BitVec.toInt ((s.cell (cellNo k)).work.reg b)) | 3 => decide (BitVec.toInt ((s.cell (cellNo k)).work.reg b) ≤ BitVec.toInt ((s.cell (cellNo k)).work.reg a)) | 4 => decide (BitVec.toNat ((s.cell (cellNo k)).work.reg a) < BitVec.toNat ((s.cell (cellNo k)).work.reg b)) | 5 => decide (BitVec.toNat ((s.cell (cellNo k)).work.reg b) ≤ BitVec.toNat ((s.cell (cellNo k)).work.reg a)) | 6 => decide ((s.cell (cellNo k)).work.flags.toNat % 2 = 1) | _ => decide ((s.cell (cellNo k)).work.flags.toNat % 2 = 0)) = false)
      ∧ notLast s k ∧ (mayRun s k (if cond.toNat < 6 then [a, b] else []) none 1)) :=
  ⟨⟨(cellSt cellA : Machine.State), (kA : CellId), (2 : BitVec 4), (3 : BitVec 4), (0 : BitVec 3), by decide +kernel⟩, ⟨(cellSt
    cellA : Machine.State), (kA : CellId), (2 : BitVec 4), (3 : BitVec 4), (1 : BitVec 3), by decide +kernel⟩⟩

theorem witness_WaitAndDone :
    (∃ (s : Machine.State) (k : CellId) (mask : BitVec 8) (time : BitVec 14), mayRun s k [] none 1 ∧ (mask ≠ 0 ∨ time ≠ 0) ∧
      (s.cell (cellNo k)).ctx = EnvCtx.none) :=
  ⟨(cellSt cellA : Machine.State), (kA : CellId), (1 : BitVec 8), (0 : BitVec 14), by decide +kernel⟩

theorem witness_CellsGoOn :
    (∃ (s : Machine.State) (k : CellId) (w : WaitSt) (i : ℕ), (s.cell (cellNo k)).waiting = some w ∧ s.cstate (clusterOf
      (cellNo k)) = 2 ∧ s.held (partOf (cellNo k)) = false ∧ (s.cell (cellNo k)).pc.toNat < (s.cell (cellNo k)).len ∧ ((s.cell
      (cellNo k)).pc ≠ 0 ∨ (s.cell (cellNo k)).len < 256) ∧ i < 8 ∧ w.mask.toNat.testBit i = true ∧ 0 < BitVec.toNat ((s.cell
      (cellNo k)).slots.get i 0) / 2 ^ 16 % 2 ^ 8 ∧ (∀ j < i, ¬(w.mask.toNat.testBit j = true ∧ 0 < BitVec.toNat ((s.cell
      (cellNo k)).slots.get j 0) / 2 ^ 16 % 2 ^ 8))) ∧
    (∃ (s : Machine.State) (k : CellId) (w : WaitSt) (e : ℕ), (s.cell (cellNo k)).waiting = some w ∧ s.cstate (clusterOf
      (cellNo k)) = 2 ∧ s.held (partOf (cellNo k)) = false ∧ (s.cell (cellNo k)).pc.toNat < (s.cell (cellNo k)).len ∧ ((s.cell
      (cellNo k)).pc ≠ 0 ∨ (s.cell (cellNo k)).len < 256) ∧ w.untilBeat = some e ∧ e ≤ BitVec.toNat s.beat ∧ (∀ i < 8,
      ¬(w.mask.toNat.testBit i = true ∧ 0 < BitVec.toNat ((s.cell (cellNo k)).slots.get i 0) / 2 ^ 16 % 2 ^ 8))) ∧
    (∃ (s : Machine.State) (k : CellId) (d : BitVec 4) (v : Word), (s.cell (cellNo k)).result = some (d, v)) :=
  ⟨⟨(cellSt { cellA with pc := 1, run := 2, waiting := some ⟨0x81, some 200, 5⟩, slots := [(7, 0x00010000)] } : Machine.State),
    (kA : CellId), (⟨0x81, some 200, 5⟩ : WaitSt), (7 : ℕ), by decide +kernel⟩, ⟨(cellSt
    { cellA with pc := 1, run := 2, waiting := some ⟨0x81, some 100, 0⟩, slots := [(6, 0x00010000)] } : Machine.State), (kA :
    CellId), (⟨0x81, some 100, 0⟩ : WaitSt), (100 : ℕ), by decide +kernel⟩, ⟨(cellSt
    { cellA with pc := 1, result := some (4, 0xFFFF0000) } : Machine.State), (kA : CellId), (4 : BitVec 4), (0xFFFF0000 :
    Word), by decide +kernel⟩⟩

theorem witness_LettersFromCells :
    (∃ (s : Machine.State) (k : CellId) (f : LFields), notLast s k ∧ f.env = false ∧ (mayRun s k ([BitVec.ofNat 4 (2 *
      f.aHalf.toNat), BitVec.ofNat 4 (2 * f.aHalf.toNat) + 1, f.b] ++ if f.reply = true then [f.c] else []) none 1) ∧ 1 ≤
      BitVec.toNat ((s.cell (cellNo k)).work.reg f.b) / 2 ^ 16 % 2 ^ 7 ∧ BitVec.toNat ((s.cell (cellNo k)).work.reg f.b) / 2 ^
      16 % 2 ^ 7 ≤ 64 ∧ (BitVec.toNat ((s.cell (cellNo k)).work.reg (BitVec.ofNat 4 (2 * f.aHalf.toNat) + 1)) % 2 ^ 16 * 2 ^ 32
      + BitVec.toNat ((s.cell (cellNo k)).work.reg (BitVec.ofNat 4 (2 * f.aHalf.toNat)))) % 64 + BitVec.toNat ((s.cell (cellNo
      k)).work.reg f.b) / 2 ^ 16 % 2 ^ 7 ≤ 64 ∧ BitVec.toNat ((s.cell (cellNo k)).work.reg f.b) % 2 ^ 11 + BitVec.toNat
      ((s.cell (cellNo k)).work.reg f.b) / 2 ^ 16 % 2 ^ 7 ≤ 2048 ∧ (f.reply = true → BitVec.toNat ((s.cell (cellNo k)).work.reg
      f.c) % 2 ^ 11 % 4 = 0 ∧ (s.cell (cellNo k)).outst < 16) ∧ (mayRun s k ([BitVec.ofNat 4 (2 * f.aHalf.toNat), BitVec.ofNat
      4 (2 * f.aHalf.toNat) + 1, f.b] ++ if true = true then [f.c] else []) none 1) ∧ BitVec.toNat ((s.cell (cellNo
      k)).work.reg f.c) % 2 ^ 11 % 4 = 0 ∧ (s.cell (cellNo k)).outst < 16) ∧
    (∃ (s : Machine.State) (k : CellId) (f : LFields), notLast s k ∧ f.env = false ∧ (mayRun s k ([BitVec.ofNat 4 (2 *
      f.aHalf.toNat), BitVec.ofNat 4 (2 * f.aHalf.toNat) + 1, f.b] ++ if true = true then [f.c] else []) none 1) ∧
      ((BitVec.toNat ((s.cell (cellNo k)).work.reg f.b) / 2 ^ 16 % 2 ^ 7 = 4 ∨ BitVec.toNat ((s.cell (cellNo k)).work.reg f.b)
      / 2 ^ 16 % 2 ^ 7 = 8) ∧ BitVec.toNat ((s.cell (cellNo k)).work.reg f.b) % 2 ^ 11 % (BitVec.toNat ((s.cell (cellNo
      k)).work.reg f.b) / 2 ^ 16 % 2 ^ 7) = 0 ∧ (BitVec.toNat ((s.cell (cellNo k)).work.reg (BitVec.ofNat 4 (2 * f.aHalf.toNat)
      + 1)) % 2 ^ 16 * 2 ^ 32 + BitVec.toNat ((s.cell (cellNo k)).work.reg (BitVec.ofNat 4 (2 * f.aHalf.toNat)))) %
      (BitVec.toNat ((s.cell (cellNo k)).work.reg f.b) / 2 ^ 16 % 2 ^ 7) = 0 ∧ BitVec.toNat ((s.cell (cellNo k)).work.reg f.b)
      % 2 ^ 11 + BitVec.toNat ((s.cell (cellNo k)).work.reg f.b) / 2 ^ 16 % 2 ^ 7 ≤ 2048) ∧ BitVec.toNat ((s.cell (cellNo
      k)).work.reg f.c) % 2 ^ 11 % 4 = 0 ∧ (s.cell (cellNo k)).outst < 16 ∧ ((BitVec.toNat ((s.cell (cellNo k)).work.reg f.b) /
      2 ^ 16 % 2 ^ 7 = 4 ∨ BitVec.toNat ((s.cell (cellNo k)).work.reg f.b) / 2 ^ 16 % 2 ^ 7 = 8) ∧ BitVec.toNat ((s.cell
      (cellNo k)).work.reg f.b) % 2 ^ 11 % (BitVec.toNat ((s.cell (cellNo k)).work.reg f.b) / 2 ^ 16 % 2 ^ 7) = 0 ∧
      (BitVec.toNat ((s.cell (cellNo k)).work.reg (BitVec.ofNat 4 (2 * f.aHalf.toNat) + 1)) % 2 ^ 16 * 2 ^ 32 + BitVec.toNat
      ((s.cell (cellNo k)).work.reg (BitVec.ofNat 4 (2 * f.aHalf.toNat)))) % (BitVec.toNat ((s.cell (cellNo k)).work.reg f.b) /
      2 ^ 16 % 2 ^ 7) = 0 ∧ BitVec.toNat ((s.cell (cellNo k)).work.reg f.b) % 2 ^ 11 + 2 * (BitVec.toNat ((s.cell (cellNo
      k)).work.reg f.b) / 2 ^ 16 % 2 ^ 7) ≤ 2048)) ∧
    (∃ (s : Machine.State) (k : CellId) (f : LFields) (h : BitVec 16) (e : Env), notLast s k ∧ f.env = true ∧ f.reply = false ∧
      (mayRun s k ([BitVec.ofNat 4 (2 * f.aHalf.toNat), BitVec.ofNat 4 (2 * f.aHalf.toNat) + 1, f.b] ++ if false = true then
      [f.c] else []) none 1) ∧ 1 ≤ BitVec.toNat ((s.cell (cellNo k)).work.reg f.b) / 2 ^ 16 % 2 ^ 7 ∧ BitVec.toNat ((s.cell
      (cellNo k)).work.reg f.b) / 2 ^ 16 % 2 ^ 7 ≤ 64 ∧ (BitVec.toNat ((s.cell (cellNo k)).work.reg (BitVec.ofNat 4 (2 *
      f.aHalf.toNat) + 1)) % 2 ^ 16 * 2 ^ 32 + BitVec.toNat ((s.cell (cellNo k)).work.reg (BitVec.ofNat 4 (2 *
      f.aHalf.toNat)))) % 64 + BitVec.toNat ((s.cell (cellNo k)).work.reg f.b) / 2 ^ 16 % 2 ^ 7 ≤ 64 ∧ BitVec.toNat ((s.cell
      (cellNo k)).work.reg f.b) % 2 ^ 11 + BitVec.toNat ((s.cell (cellNo k)).work.reg f.b) / 2 ^ 16 % 2 ^ 7 ≤ 2048 ∧ (s.cell
      (cellNo k)).ctx = EnvCtx.member h ∧ s.handleEnv h.toNat = some e ∧ (e.st = EState.open ∨ e.st = EState.sealed)) :=
  ⟨⟨(sendSt 0 0x7C0 0x00400000 0x7FC : Machine.State), (kA : CellId), (fldA : LFields), by decide +kernel⟩, ⟨(sendSt 0 0x7C4
    0x00040000 0x7FC .none 15 : Machine.State), (kA : CellId), (fldA : LFields), by decide +kernel⟩, ⟨(envSt (sendSt 0x3E00
    0x10 0x000107FF 0x0 (.member 0xFFE3)) { st := .open, gen := 3, expect := 1, members := [memA] } : Machine.State), (kA :
    CellId), ({ fldA with env := true, reply := false } : LFields), (0xFFE3 : BitVec 16),
    ({ st := .open, gen := 3, expect := 1, members := [memA] } : Env), by decide +kernel⟩⟩

theorem witness_LettersNotSent :
    (∃ (s : Machine.State) (k : CellId) (f : LFields), notLast s k ∧ (mayRun s k ([BitVec.ofNat 4 (2 * f.aHalf.toNat),
      BitVec.ofNat 4 (2 * f.aHalf.toNat) + 1, f.b] ++ if true = true then [f.c] else []) none 1) ∧ f.env = false ∧ (s.cell
      (cellNo k)).ctx = EnvCtx.none ∧ (BitVec.toNat ((s.cell (cellNo k)).work.reg f.b) / 2 ^ 16 % 2 ^ 7 = 0 ∨ 64 < BitVec.toNat
      ((s.cell (cellNo k)).work.reg f.b) / 2 ^ 16 % 2 ^ 7 ∨ 64 < (BitVec.toNat ((s.cell (cellNo k)).work.reg (BitVec.ofNat 4 (2
      * f.aHalf.toNat) + 1)) % 2 ^ 16 * 2 ^ 32 + BitVec.toNat ((s.cell (cellNo k)).work.reg (BitVec.ofNat 4 (2 *
      f.aHalf.toNat)))) % 64 + BitVec.toNat ((s.cell (cellNo k)).work.reg f.b) / 2 ^ 16 % 2 ^ 7 ∨ 2048 < BitVec.toNat ((s.cell
      (cellNo k)).work.reg f.b) % 2 ^ 11 + BitVec.toNat ((s.cell (cellNo k)).work.reg f.b) / 2 ^ 16 % 2 ^ 7) ∧ (BitVec.toNat
      ((s.cell (cellNo k)).work.reg f.b) / 2 ^ 16 % 2 ^ 7 ≠ 4 ∧ BitVec.toNat ((s.cell (cellNo k)).work.reg f.b) / 2 ^ 16 % 2 ^
      7 ≠ 8 ∨ BitVec.toNat ((s.cell (cellNo k)).work.reg f.b) % 2 ^ 11 % (BitVec.toNat ((s.cell (cellNo k)).work.reg f.b) / 2 ^
      16 % 2 ^ 7) ≠ 0 ∨ (BitVec.toNat ((s.cell (cellNo k)).work.reg (BitVec.ofNat 4 (2 * f.aHalf.toNat) + 1)) % 2 ^ 16 * 2 ^ 32
      + BitVec.toNat ((s.cell (cellNo k)).work.reg (BitVec.ofNat 4 (2 * f.aHalf.toNat)))) % (BitVec.toNat ((s.cell (cellNo
      k)).work.reg f.b) / 2 ^ 16 % 2 ^ 7) ≠ 0 ∨ 2048 < BitVec.toNat ((s.cell (cellNo k)).work.reg f.b) % 2 ^ 11 + BitVec.toNat
      ((s.cell (cellNo k)).work.reg f.b) / 2 ^ 16 % 2 ^ 7)) ∧
    (∃ (s : Machine.State) (k : CellId) (f : LFields), notLast s k ∧ (mayRun s k ([BitVec.ofNat 4 (2 * f.aHalf.toNat),
      BitVec.ofNat 4 (2 * f.aHalf.toNat) + 1, f.b] ++ if true = true then [f.c] else []) none 1) ∧ f.env = false ∧ (s.cell
      (cellNo k)).ctx = EnvCtx.none ∧ 2048 < BitVec.toNat ((s.cell (cellNo k)).work.reg f.b) % 2 ^ 11 + 2 * (BitVec.toNat
      ((s.cell (cellNo k)).work.reg f.b) / 2 ^ 16 % 2 ^ 7)) ∧
    (∃ (s : Machine.State) (k : CellId) (f : LFields), notLast s k ∧ (mayRun s k ([BitVec.ofNat 4 (2 * f.aHalf.toNat),
      BitVec.ofNat 4 (2 * f.aHalf.toNat) + 1, f.b] ++ if true = true then [f.c] else []) none 1) ∧ f.env = false ∧ (s.cell
      (cellNo k)).ctx = EnvCtx.none ∧ BitVec.toNat ((s.cell (cellNo k)).work.reg f.c) % 2 ^ 11 % 4 ≠ 0 ∧ f.reply = true) ∧
    (∃ (s : Machine.State) (k : CellId) (f : LFields) (i : Instr), notLast s k ∧ (mayRun s k ([BitVec.ofNat 4 (2 *
      f.aHalf.toNat), BitVec.ofNat 4 (2 * f.aHalf.toNat) + 1, f.b] ++ if true = true then [f.c] else []) none 1) ∧ f.env = true
      ∧ (s.cell (cellNo k)).ctx = EnvCtx.none ∧ i ∈ [Instr.lput k f, Instr.lget k f, Instr.ladd k f, Instr.lswap k f,
      Instr.lcas k f, Instr.lmax k f, Instr.lmin k f]) ∧
    (∃ (s : Machine.State) (k : CellId) (f : LFields), notLast s k ∧ (mayRun s k ([BitVec.ofNat 4 (2 * f.aHalf.toNat),
      BitVec.ofNat 4 (2 * f.aHalf.toNat) + 1, f.b] ++ if true = true then [f.c] else []) none 1) ∧ f.env = true ∧ (s.cell
      (cellNo k)).ctx ≠ EnvCtx.none ∧ f.reply = true) ∧
    (∃ (s : Machine.State) (k : CellId) (f : LFields) (st : BitVec 16), notLast s k ∧ (mayRun s k ([BitVec.ofNat 4 (2 *
      f.aHalf.toNat), BitVec.ofNat 4 (2 * f.aHalf.toNat) + 1, f.b] ++ if true = true then [f.c] else []) none 1) ∧ f.env = true
      ∧ f.reply = false ∧ 1 ≤ BitVec.toNat ((s.cell (cellNo k)).work.reg f.b) / 2 ^ 16 % 2 ^ 7 ∧ BitVec.toNat ((s.cell (cellNo
      k)).work.reg f.b) / 2 ^ 16 % 2 ^ 7 ≤ 64 ∧ (BitVec.toNat ((s.cell (cellNo k)).work.reg (BitVec.ofNat 4 (2 * f.aHalf.toNat)
      + 1)) % 2 ^ 16 * 2 ^ 32 + BitVec.toNat ((s.cell (cellNo k)).work.reg (BitVec.ofNat 4 (2 * f.aHalf.toNat)))) % 64 +
      BitVec.toNat ((s.cell (cellNo k)).work.reg f.b) / 2 ^ 16 % 2 ^ 7 ≤ 64 ∧ BitVec.toNat ((s.cell (cellNo k)).work.reg f.b) %
      2 ^ 11 + BitVec.toNat ((s.cell (cellNo k)).work.reg f.b) / 2 ^ 16 % 2 ^ 7 ≤ 2048 ∧ (s.cell (cellNo k)).ctx = EnvCtx.void
      st) ∧
    (∃ (s : Machine.State) (k : CellId) (f : LFields) (h : BitVec 16), notLast s k ∧ (mayRun s k ([BitVec.ofNat 4 (2 *
      f.aHalf.toNat), BitVec.ofNat 4 (2 * f.aHalf.toNat) + 1, f.b] ++ if true = true then [f.c] else []) none 1) ∧ f.env = true
      ∧ f.reply = false ∧ 1 ≤ BitVec.toNat ((s.cell (cellNo k)).work.reg f.b) / 2 ^ 16 % 2 ^ 7 ∧ BitVec.toNat ((s.cell (cellNo
      k)).work.reg f.b) / 2 ^ 16 % 2 ^ 7 ≤ 64 ∧ (BitVec.toNat ((s.cell (cellNo k)).work.reg (BitVec.ofNat 4 (2 * f.aHalf.toNat)
      + 1)) % 2 ^ 16 * 2 ^ 32 + BitVec.toNat ((s.cell (cellNo k)).work.reg (BitVec.ofNat 4 (2 * f.aHalf.toNat)))) % 64 +
      BitVec.toNat ((s.cell (cellNo k)).work.reg f.b) / 2 ^ 16 % 2 ^ 7 ≤ 64 ∧ BitVec.toNat ((s.cell (cellNo k)).work.reg f.b) %
      2 ^ 11 + BitVec.toNat ((s.cell (cellNo k)).work.reg f.b) / 2 ^ 16 % 2 ^ 7 ≤ 2048 ∧ (s.cell (cellNo k)).ctx =
      EnvCtx.member h ∧ (∀ e ∈ s.handleEnv h.toNat, e.st ≠ EState.open ∧ e.st ≠ EState.sealed)) ∧
    (∃ (s : Machine.State) (k : CellId) (f : LFields), notLast s k ∧ (mayRun s k ([BitVec.ofNat 4 (2 * f.aHalf.toNat),
      BitVec.ofNat 4 (2 * f.aHalf.toNat) + 1, f.b] ++ if true = true then [f.c] else []) none 1) ∧ f.env = false ∧ 16 ≤ (s.cell
      (cellNo k)).outst ∧ 1 ≤ BitVec.toNat ((s.cell (cellNo k)).work.reg f.b) / 2 ^ 16 % 2 ^ 7 ∧ BitVec.toNat ((s.cell (cellNo
      k)).work.reg f.b) / 2 ^ 16 % 2 ^ 7 ≤ 64 ∧ (BitVec.toNat ((s.cell (cellNo k)).work.reg (BitVec.ofNat 4 (2 * f.aHalf.toNat)
      + 1)) % 2 ^ 16 * 2 ^ 32 + BitVec.toNat ((s.cell (cellNo k)).work.reg (BitVec.ofNat 4 (2 * f.aHalf.toNat)))) % 64 +
      BitVec.toNat ((s.cell (cellNo k)).work.reg f.b) / 2 ^ 16 % 2 ^ 7 ≤ 64 ∧ BitVec.toNat ((s.cell (cellNo k)).work.reg f.b) %
      2 ^ 11 + BitVec.toNat ((s.cell (cellNo k)).work.reg f.b) / 2 ^ 16 % 2 ^ 7 ≤ 2048 ∧ BitVec.toNat ((s.cell (cellNo
      k)).work.reg f.c) % 2 ^ 11 % 4 = 0) :=
  ⟨⟨(sendSt 0 0x7C0 0x00410000 0x7FC : Machine.State), (kA : CellId), (fldA : LFields), by decide +kernel⟩, ⟨(sendSt 0 0x7C0
    0x000807F8 0x7FC : Machine.State), (kA : CellId), (fldA : LFields), by decide +kernel⟩, ⟨(sendSt 0 0x7C0 0x00400000 0x7FD :
    Machine.State), (kA : CellId), (fldA : LFields), by decide +kernel⟩, ⟨(sendSt 0 0x7C4 0x00040000 0x000 : Machine.State),
    (kA : CellId), ({ fldA with env := true } : LFields), (.lcas kA { fldA with env := true } : Instr), by decide +kernel⟩,
    ⟨(sendSt 0 0x7C4 0x00040000 0x000 (.void 0x22) : Machine.State), (kA : CellId), ({ fldA with env := true } : LFields),
    by decide +kernel⟩, ⟨(sendSt 0 0x7C4 0x00040000 0x000 (.void 0x22) : Machine.State), (kA : CellId),
    ({ fldA with env := true, reply := false } : LFields), (0x22 : BitVec 16), by decide +kernel⟩, ⟨(sendSt 0 0x7C4 0x00040000
    0x000 (.member 0xFFE3) : Machine.State), (kA : CellId), ({ fldA with env := true, reply := false } : LFields), (0xFFE3 :
    BitVec 16), by decide +kernel⟩, ⟨(sendSt 0 0x7C4 0x00040000 0x000 .none 16 : Machine.State), (kA : CellId), (fldA :
    LFields), by decide +kernel⟩⟩

theorem witness_EnvelopeInstructions :
    (∃ (s : Machine.State) (k : CellId) (d : BitVec 4) (a : BitVec 4) (b : BitVec 4) (sl : ℕ) (i : Instr), notLast s k ∧ mayRun
      s k [a, b] none 128 ∧ (s.cell (cellNo k)).ctx = EnvCtx.none ∧ (¬(BitVec.toNat ((s.cell (cellNo k)).work.reg a) / 2 ^ 13 %
      8 ≠ 0 ∨ BitVec.toNat ((s.cell (cellNo k)).work.reg a) / 2 ^ 30 ≠ 0)) ∧ BitVec.toNat ((s.cell (cellNo k)).work.reg a) % 2
      ^ 13 ≤ s.bufSize ↑k.p ∧ BitVec.toNat ((s.cell (cellNo k)).work.reg a) % 2 ^ 13 + s.bufUsed ↑k.p ≤ s.bufSize ↑k.p ∧
      s.freeSlot ↑k.p = some sl ∧ mayRun s k [a, b] none 512 ∧ s.handleEnv (BitVec.toNat ((s.cell (cellNo k)).work.reg a) / 2 ^
      16) = none ∧ mayRun s k [] none 1 ∧ i ∈ [Instr.envSeal k d, Instr.envAbort k d]) ∧
    (∃ (s : Machine.State) (k : CellId) (a : BitVec 4) (b : BitVec 4), notLast s k ∧ mayRun s k [a, b] none 128 ∧ (s.cell
      (cellNo k)).ctx = EnvCtx.none ∧ (BitVec.toNat ((s.cell (cellNo k)).work.reg a) / 2 ^ 13 % 8 ≠ 0 ∨ BitVec.toNat ((s.cell
      (cellNo k)).work.reg a) / 2 ^ 30 ≠ 0)) ∧
    (∃ (s : Machine.State) (k : CellId) (a : BitVec 4) (b : BitVec 4), notLast s k ∧ mayRun s k [a, b] none 128 ∧ (s.cell
      (cellNo k)).ctx = EnvCtx.none ∧ (¬(BitVec.toNat ((s.cell (cellNo k)).work.reg a) / 2 ^ 13 % 8 ≠ 0 ∨ BitVec.toNat ((s.cell
      (cellNo k)).work.reg a) / 2 ^ 30 ≠ 0)) ∧ s.bufSize ↑k.p < BitVec.toNat ((s.cell (cellNo k)).work.reg a) % 2 ^ 13) ∧
    (∃ (s : Machine.State) (k : CellId) (a : BitVec 4) (b : BitVec 4), notLast s k ∧ mayRun s k [a, b] none 128 ∧ (s.cell
      (cellNo k)).ctx = EnvCtx.none ∧ (¬(BitVec.toNat ((s.cell (cellNo k)).work.reg a) / 2 ^ 13 % 8 ≠ 0 ∨ BitVec.toNat ((s.cell
      (cellNo k)).work.reg a) / 2 ^ 30 ≠ 0)) ∧ BitVec.toNat ((s.cell (cellNo k)).work.reg a) % 2 ^ 13 ≤ s.bufSize ↑k.p ∧
      (s.freeSlot ↑k.p = none ∨ s.bufSize ↑k.p < BitVec.toNat ((s.cell (cellNo k)).work.reg a) % 2 ^ 13 + s.bufUsed ↑k.p)) ∧
    (∃ (s : Machine.State) (k : CellId) (a : BitVec 4) (b : BitVec 4) (e : Env), notLast s k ∧ mayRun s k [a, b] none 512 ∧
      (s.cell (cellNo k)).ctx = EnvCtx.none ∧ s.handleEnv (BitVec.toNat ((s.cell (cellNo k)).work.reg a) / 2 ^ 16) = some e ∧
      e.st = EState.aborted) ∧
    (∃ (s : Machine.State) (k : CellId) (a : BitVec 4) (b : BitVec 4) (e : Env), notLast s k ∧ mayRun s k [a, b] none 512 ∧
      (s.cell (cellNo k)).ctx = EnvCtx.none ∧ s.handleEnv (BitVec.toNat ((s.cell (cellNo k)).work.reg a) / 2 ^ 16) = some e ∧
      e.st = EState.actuating) ∧
    (∃ (s : Machine.State) (k : CellId) (a : BitVec 4) (b : BitVec 4) (e : Env), notLast s k ∧ mayRun s k [a, b] none 512 ∧
      (s.cell (cellNo k)).ctx = EnvCtx.none ∧ s.handleEnv (BitVec.toNat ((s.cell (cellNo k)).work.reg a) / 2 ^ 16) = some e ∧
      (e.st = EState.open ∨ e.st = EState.sealed) ∧ e.expect ≤ e.members.length) ∧
    (∃ (s : Machine.State) (k : CellId) (a : BitVec 4) (b : BitVec 4) (e : Env), notLast s k ∧ mayRun s k [a, b] none 512 ∧
      (s.cell (cellNo k)).ctx = EnvCtx.none ∧ s.handleEnv (BitVec.toNat ((s.cell (cellNo k)).work.reg a) / 2 ^ 16) = some e ∧
      (e.st = EState.open ∨ e.st = EState.sealed) ∧ e.members.length < e.expect) ∧
    (∃ (s : Machine.State) (k : CellId) (d : BitVec 4) (a : BitVec 4) (b : BitVec 4) (st : BitVec 16) (i : Instr), notLast s k
      ∧ mayRun s k [] none 1 ∧ (s.cell (cellNo k)).ctx = EnvCtx.void st ∧ i ∈ [Instr.envSeal k d, Instr.envAbort k d] ∧ (s.cell
      (cellNo k)).ctx ≠ EnvCtx.none ∧ mayRun s k [a, b] none 128 ∧ mayRun s k [a, b] none 512) ∧
    (∃ (s : Machine.State) (k : CellId) (h : BitVec 16), notLast s k ∧ mayRun s k [] none 1 ∧ (s.cell (cellNo k)).ctx =
      EnvCtx.member h ∧ s.handleEnv h.toNat = none) ∧
    (∃ (s : Machine.State) (k : CellId) (h : BitVec 16) (e : Env), notLast s k ∧ mayRun s k [] none 1 ∧ (s.cell (cellNo k)).ctx
      = EnvCtx.member h ∧ s.handleEnv h.toNat = some e ∧ e.st = EState.aborted) ∧
    (∃ (s : Machine.State) (k : CellId) (h : BitVec 16) (e : Env), notLast s k ∧ mayRun s k [] none 1 ∧ (s.cell (cellNo k)).ctx
      = EnvCtx.member h ∧ s.handleEnv h.toNat = some e ∧ e.st ≠ EState.aborted ∧ (e.st = EState.open ∨ e.st = EState.sealed) ∧
      e.vec = none) :=
  ⟨⟨((cellSt { cellA with work := { g := [(2, 0x3FC00000), (3, 0x7FF)] } }) : Machine.State), (kA : CellId), (6 : BitVec 4), (2
    : BitVec 4), (3 : BitVec 4), (0 : ℕ), (.envSeal kA 6 : Instr), by decide +kernel⟩, ⟨((cellSt
    { cellA with work := { g := [(2, 0x00002000), (3, 0x7FF)] } }) : Machine.State), (kA : CellId), (2 : BitVec 4), (3 : BitVec
    4), by decide +kernel⟩, ⟨((cellSt { cellA with work := { g := [(2, 0x00001FFF), (3, 0x7FF)] } }) : Machine.State), (kA :
    CellId), (2 : BitVec 4), (3 : BitVec 4), by decide +kernel⟩, ⟨(envSt (cellSt
    { cellA with work := { g := [(2, 0x00000002), (3, 0x7FF)] } }) { st := .open, size := 4095 } : Machine.State), (kA :
    CellId), (2 : BitVec 4), (3 : BitVec 4), by decide +kernel⟩, ⟨(envSt (cellSt
    { cellA with work := { g := [(2, 0xFFE30000), (3, 0x7FF)] } })
    { st := .aborted, gen := 3, expect := 2, members := [memA], status := 0x10 } : Machine.State), (kA : CellId), (2 : BitVec
    4), (3 : BitVec 4), ({ st := .aborted, gen := 3, expect := 2, members := [memA], status := 0x10 } : Env),
    by decide +kernel⟩, ⟨(envSt (cellSt { cellA with work := { g := [(2, 0xFFE30000), (3, 0x7FF)] } })
    { st := .actuating, gen := 3, expect := 2, members := [memA] } : Machine.State), (kA : CellId), (2 : BitVec 4), (3 : BitVec
    4), ({ st := .actuating, gen := 3, expect := 2, members := [memA] } : Env), by decide +kernel⟩, ⟨(envSt (cellSt
    { cellA with work := { g := [(2, 0xFFE30000), (3, 0x7FF)] } }) { st := .open, gen := 3, expect := 1, members := [memA] } :
    Machine.State), (kA : CellId), (2 : BitVec 4), (3 : BitVec 4), ({ st := .open, gen := 3, expect := 1, members := [memA] } :
    Env), by decide +kernel⟩, ⟨(envSt (cellSt { cellA with work := { g := [(2, 0xFFE30000), (3, 0x7FF)] } })
    { st := .open, gen := 3, expect := 1 } : Machine.State), (kA : CellId), (2 : BitVec 4), (3 : BitVec 4),
    ({ st := .open, gen := 3, expect := 1 } : Env), by decide +kernel⟩, ⟨(cellSt { cellA with ctx := .void 0x22 } :
    Machine.State), (kA : CellId), (6 : BitVec 4), (2 : BitVec 4), (3 : BitVec 4), (0x22 : BitVec 16), (.envSeal kA 6 : Instr),
    by decide +kernel⟩, ⟨(cellSt { cellA with ctx := .member 0xFFE3 } : Machine.State), (kA : CellId), (0xFFE3 : BitVec 16),
    by decide +kernel⟩, ⟨(envSt (cellSt { cellA with ctx := .member 0xFFE3 })
    { st := .aborted, gen := 3, expect := 1, members := [memA], status := 0x11 } : Machine.State), (kA : CellId), (0xFFE3 :
    BitVec 16), ({ st := .aborted, gen := 3, expect := 1, members := [memA], status := 0x11 } : Env), by decide +kernel⟩,
    ⟨(envSt (cellSt { cellA with ctx := .member 0xFFE3 }) { st := .open, gen := 3, expect := 1, members := [memA] } :
    Machine.State), (kA : CellId), (0xFFE3 : BitVec 16), ({ st := .open, gen := 3, expect := 1, members := [memA] } : Env),
    by decide +kernel⟩⟩

theorem witness_RepliesArrive :
    (∃ (s : Machine.State) (r : Reply) (rest : List Reply) (k : CellId) (dOff : BitVec 11) (sOff : BitVec 11), s.replies = r ::
      rest ∧ r.dest = ReplyTo.cell k dOff sOff ∧ s.cstate (clusterOf (cellNo k)) = 2 ∧ s.held ↑k.p = false ∧
      s.deadCells.contains (cellNo k) = false ∧ s.underContext (cellNo k) = false) :=
  ⟨({ cellSt { cellA with outst := 1 } with replies := [{ dest := .cell kA 0x7C0 0x7FC, op := .get, tag := 0xABC, status := 0, data := List.replicate 64 6 }] }
    : Machine.State), ({ dest := .cell kA 0x7C0 0x7FC, op := .get, tag := 0xABC, status := 0, data := List.replicate 64 6 } :
    Reply), ([] : List Reply), (kA : CellId), (0x7C0 : BitVec 11), (0x7FC : BitVec 11), by decide +kernel⟩

theorem witness_ClusterGates :
    (∃ (s : Machine.State) (p : Fin 32) (c : Fin 20), s.cstate (20 * p.val + c.val) = 2 ∧ s.f (Reg.FAB_CLUSTER_STATE_PINNED (20
      * p.val + c.val)) = 0 ∧ s.held p.val = false ∧ s.f Reg.FAB_GATE_CTL_GATE_EN = 1 ∧ s.clusterIdle (20 * p.val + c.val) =
      true ∧ (s.cl (20 * p.val + c.val)).idleFrom + max 1 (s.lf Reg.FAB_GATE_CTL_IDLE_BEATS) ≤ BitVec.toNat s.beat ∧ (s.cl (20
      * p.val + c.val)).queue = [] ∧ s.wakeDue (20 * p.val + c.val) = false) ∧
    (∃ (s : Machine.State) (p : Fin 32) (c : Fin 20), s.cstate (20 * p.val + c.val) = 0 ∧ s.wakeDue (20 * p.val + c.val) = true
      ∧ s.mstate ≠ 6) ∧
    (∃ (s : Machine.State) (p : Fin 32) (c : Fin 20), s.cstate (20 * p.val + c.val) = 1 ∧ (s.cl (20 * p.val + c.val)).wakeAt +
      2500 ≤ s.now ∧ (s.cl (20 * p.val + c.val)).queue = [] ∧ (s.cl (20 * p.val + c.val)).landing = []) :=
  ⟨⟨({ (cellSt { cellA with run := 3 }).setF Reg.FAB_GATE_CTL_GATE_EN 1 with beat := 4000, clusters := [(639, { idleFrom := 10 })] }
    : Machine.State), (31 : Fin 32), (19 : Fin 20), by decide +kernel⟩,
    ⟨({ (cellSt { cellA with run := 3 }).setF (Reg.FAB_CLUSTER_STATE_CSTATE 639) 0 with beat := 102 } : Machine.State), (31 :
    Fin 32), (19 : Fin 20), by decide +kernel⟩,
    ⟨({ (cellSt { cellA with run := 3 }).setF (Reg.FAB_CLUSTER_STATE_CSTATE 639) 1 with clusters := [(639, { wakeAt := 122500 })] }
    : Machine.State), (31 : Fin 32), (19 : Fin 20), by decide +kernel⟩⟩

theorem witness_HoldStoresAndHome :
    (∃ (s : Machine.State) (l : Letter) (rest : List Letter) (hb : BitVec 16) (e : Env), s.net = l :: rest ∧ l.env = some hb ∧
      s.handleEnv hb.toNat = some e ∧ (e.st = EState.open ∨ e.st = EState.sealed) ∧ s.heldIn (storeOf (BitVec.toNat
      l.hdr.addr)) < 1024 ∧ l.det = true ∧ l.issued + 256 < s.now) ∧
    (∃ (s : Machine.State) (p : Fin 32) (sl : Fin 64), ((s.env p.val sl.val).st = EState.open ∨ (s.env p.val sl.val).st =
      EState.sealed) ∧ (s.env p.val sl.val).vec = none ∧ BitVec.toNat s.beat < (s.env p.val sl.val).deadline) :=
  ⟨⟨({ holdSt (toCell 327679 0x7FE) with net := [{ letA (toCell 327679 0x7FE) with det := true, issued := 1 }] } :
    Machine.State), ({ letA (toCell 327679 0x7FE) with det := true, issued := 1 } : Letter), ([] : List Letter), (0xFFE3 :
    BitVec 16), (envO : Env), by decide +kernel⟩, ⟨(envSt (cellSt cellA) { envO with deadline := 101 } : Machine.State), (31 :
    Fin 32), (63 : Fin 64), by decide +kernel⟩⟩

theorem witness_VectorsAndCommits :
    (∃ (s : Machine.State), s.cycle < 750) ∧
    (∃ (s : Machine.State), 750 ≤ s.cycle) ∧
    (∃ (s : Machine.State) (p : ℕ) (sl : ℕ) (e : Env) (c : ℕ) (m : Member), sl < 64 ∧ p < 32 ∧ s.envs = [(64 * p + sl, e)] ∧
      e.st = EState.sealed ∧ e.vec = some c ∧ e.actuator ≠ some true ∧ e.members = [m] ∧ BitVec.toNat s.beat < c) ∧
    (∃ (s : Machine.State) (p : ℕ) (sl : ℕ) (e : Env) (c : ℕ) (m : Member), sl < 64 ∧ p < 32 ∧ s.envs = [(64 * p + sl, e)] ∧
      e.st = EState.sealed ∧ e.vec = some c ∧ e.actuator ≠ some true ∧ e.members = [m] ∧ c ≤ BitVec.toNat s.beat ∧ e.held = []
      ∧ takesReplies s m.cell) :=
  ⟨⟨(cellSt cellA : Machine.State), by decide +kernel⟩, ⟨({ envSt (cellSt cellA) (vecE none) with cycle := 750 } :
    Machine.State), by decide +kernel⟩, ⟨(envSt (cellSt cellA) (vecE (some 101)) : Machine.State), (31 : ℕ), (63 : ℕ), (vecE
    (some 101) : Env), (101 : ℕ), (memA : Member), by decide +kernel⟩, ⟨(envSt (cellSt cellA) (vecE (some 100)) :
    Machine.State), (31 : ℕ), (63 : ℕ), (vecE (some 100) : Env), (100 : ℕ), (memA : Member), by decide +kernel⟩⟩

theorem witness_CircularsArePresented :
    (∃ (k : Circ) (l : List Circ) (s : Machine.State) (rest : List Circ), List.Pairwise (fun a b => a.effect ≤ b.effect) l ∧
      s.circs = k :: rest ∧ BitVec.toNat s.beat < k.effect) ∧
    (∃ (s : Machine.State) (k : Circ) (rest : List Circ), s.circs = k :: rest ∧ k.effect ≤ BitVec.toNat s.beat ∧ k.type ≠ 1 ∧
      s.parts = []) ∧
    (∃ (s : Machine.State) (k : Circ) (rest : List Circ) (p : ℕ) (P : Machine.Part) (m : Man) (d : ProgDef), s.circs = k ::
      rest ∧ p < 32 ∧ k.effect ≤ BitVec.toNat s.beat ∧ s.parts = [(p, P)] ∧ P.man = some m ∧ m.progs = [d] ∧ d.depends / 2 ^
      (k.src % 32) % 2 = 1 ∧ d.peerPause = true ∧ p ≠ k.src % 32 ∧ (s.prog p d.prog).start = none ∧ k.type = 2) ∧
    (∃ (s : Machine.State) (k : Circ) (rest : List Circ) (p : ℕ) (P : Machine.Part) (m : Man) (d : ProgDef), s.circs = k ::
      rest ∧ p < 32 ∧ k.effect ≤ BitVec.toNat s.beat ∧ s.parts = [(p, P)] ∧ P.man = some m ∧ m.progs = [d] ∧ d.depends / 2 ^
      (k.src % 32) % 2 = 1 ∧ d.peerPause = true ∧ p ≠ k.src % 32 ∧ (s.prog p d.prog).start = none ∧ k.type = 3 ∧ (s.prog p
      d.prog).paused = true ∧ (s.prog p d.prog).pausedBy = 2 ^ (k.src % 32)) :=
  ⟨⟨({ type := 2, src := 0, effect := 101, param := 0 } : Circ), ([] : List Circ), (circSt
    { type := 2, src := 0, effect := 101, param := 0 } {} : Machine.State), ([] : List Circ), by decide +kernel⟩,
    ⟨({ circSt { type := 4, src := 0, effect := 100, param := 0 } {} with parts := [] } : Machine.State),
    ({ type := 4, src := 0, effect := 100, param := 0 } : Circ), ([] : List Circ), by decide +kernel⟩, ⟨(circSt
    { type := 2, src := 0, effect := 100, param := 0 } {} : Machine.State), ({ type := 2, src := 0, effect := 100, param := 0 }
    : Circ), ([] : List Circ), (31 : ℕ), ({ man := some { manA with progs := [progB] } } : Machine.Part),
    ({ manA with progs := [progB] } : Man), (progB : ProgDef), by decide +kernel⟩, ⟨(circSt
    { type := 3, src := 0, effect := 100, param := 0 } { paused := true, pausedBy := 1 } : Machine.State),
    ({ type := 3, src := 0, effect := 100, param := 0 } : Circ), ([] : List Circ), (31 : ℕ),
    ({ man := some { manA with progs := [progB] } } : Machine.Part), ({ manA with progs := [progB] } : Man), (progB : ProgDef),
    by decide +kernel⟩⟩

theorem witness_Periods :
    (∃ (s : Machine.State) (p : Fin 32) (x : Fin 1024) (m : Man) (d : ProgDef), s.manOf p.val = some m ∧ m.prog? x.val = some d
      ∧ BitVec.toNat s.beat % d.period ≠ d.offset) ∧
    (∃ (s : Machine.State) (p : Fin 32) (x : Fin 1024) (m : Man) (d : ProgDef), s.manOf p.val = some m ∧ m.prog? x.val = some d
      ∧ BitVec.toNat s.beat % d.period = d.offset ∧ s.released = true ∧ s.held p.val = false ∧ (s.prog p.val x.val).paused =
      false ∧ (s.prog p.val x.val).from_ ≤ BitVec.toNat s.beat ∧ ((s.prog p.val x.val).begun = 0 ∨ (s.prog p.val x.val).last ≠
      BitVec.toNat s.beat) ∧ (∀ r ∈ s.rcv.rungs, r.rung ≠ 1) ∧ (s.prog p.val x.val).start = none ∧ (s.prog p.val x.val).settled
      = true) ∧
    (∃ (s : Machine.State) (p : Fin 32) (x : Fin 1024) (m : Man) (d : ProgDef), s.manOf p.val = some m ∧ m.prog? x.val = some d
      ∧ BitVec.toNat s.beat % d.period = d.offset ∧ s.released = true ∧ s.held p.val = false ∧ (s.prog p.val x.val).paused =
      false ∧ (s.prog p.val x.val).from_ ≤ BitVec.toNat s.beat ∧ ((s.prog p.val x.val).begun = 0 ∨ (s.prog p.val x.val).last ≠
      BitVec.toNat s.beat) ∧ (∀ r ∈ s.rcv.rungs, r.rung ≠ 1) ∧ (s.prog p.val x.val).start = none ∧ (s.prog p.val x.val).settled
      = false ∧ (∀ n ∈ m.cellsOf p.val x.val, (s.cell n).done = true)) ∧
    (∃ (s : Machine.State) (p : Fin 32) (x : Fin 1024) (m : Man) (d : ProgDef), s.manOf p.val = some m ∧ m.prog? x.val = some d
      ∧ BitVec.toNat s.beat % d.period = d.offset ∧ s.released = true ∧ s.held p.val = false ∧ (s.prog p.val x.val).paused =
      false ∧ (s.prog p.val x.val).from_ ≤ BitVec.toNat s.beat ∧ ((s.prog p.val x.val).begun = 0 ∨ (s.prog p.val x.val).last ≠
      BitVec.toNat s.beat) ∧ (∀ r ∈ s.rcv.rungs, r.rung ≠ 1) ∧ (s.prog p.val x.val).start = none ∧ (s.prog p.val x.val).settled
      = false ∧ (s.prog p.val x.val).exempt = true ∧ (∃ n ∈ m.cellsOf p.val x.val, (s.cell n).done = false)) ∧
    (∃ (s : Machine.State) (p : Fin 32) (x : Fin 1024) (m : Man) (d : ProgDef) (b : ℕ), s.manOf p.val = some m ∧ m.prog? x.val
      = some d ∧ (s.prog p.val x.val).start = some b ∧ BitVec.toNat s.beat < b + d.deadline) ∧
    (∃ (s : Machine.State) (p : Fin 32) (x : Fin 1024) (m : Man) (d : ProgDef) (b : ℕ), s.manOf p.val = some m ∧ m.prog? x.val
      = some d ∧ (s.prog p.val x.val).start = some b ∧ b + d.deadline ≤ BitVec.toNat s.beat ∧ (∀ n ∈ m.cellsOf p.val x.val,
      (s.cell n).done = true)) ∧
    (∃ (s : Machine.State) (p : Fin 32) (x : Fin 1024) (m : Man) (d : ProgDef) (b : ℕ), s.manOf p.val = some m ∧ m.prog? x.val
      = some d ∧ (s.prog p.val x.val).start = some b ∧ b + d.deadline ≤ BitVec.toNat s.beat ∧ (∃ n ∈ m.cellsOf p.val x.val,
      (s.cell n).done = false)) :=
  ⟨⟨({ perSt cellA {} with beat := 101 } : Machine.State), (31 : Fin 32), (0 : Fin 1024), (manA : Man), (progA : ProgDef),
    by decide +kernel⟩, ⟨(perSt { cellA with run := 3, pc := 2, done := true, charged := 77 } { begun := 5, last := 96 } :
    Machine.State), (31 : Fin 32), (0 : Fin 1024), (manA : Man), (progA : ProgDef), by decide +kernel⟩, ⟨(perSt
    { cellA with run := 3, pc := 2, done := true, charged := 77 } { begun := 5, last := 96, settled := false } :
    Machine.State), (31 : Fin 32), (0 : Fin 1024), (manA : Man), (progA : ProgDef), by decide +kernel⟩, ⟨(perSt
    { cellA with run := 3, pc := 2, done := false, charged := 77, kept := { g := [(1, 8)] } }
    { begun := 5, last := 96, settled := false, exempt := true } : Machine.State), (31 : Fin 32), (0 : Fin 1024), (manA : Man),
    (progA : ProgDef), by decide +kernel⟩, ⟨(perSt cellA { begun := 5, last := 96, settled := false, start := some 100 } :
    Machine.State), (31 : Fin 32), (0 : Fin 1024), (manA : Man), (progA : ProgDef), (100 : ℕ), by decide +kernel⟩, ⟨(perSt
    { cellA with done := true, run := 3 } { begun := 5, last := 96, settled := false, start := some 99 } : Machine.State), (31
    : Fin 32), (0 : Fin 1024), (manA : Man), (progA : ProgDef), (99 : ℕ), by decide +kernel⟩, ⟨(perSt
    { cellA with done := false, run := 1, ctx := .none } { begun := 5, last := 96, settled := false, start := some 99 } :
    Machine.State), (31 : Fin 32), (0 : Fin 1024), (manA : Man), (progA : ProgDef), (99 : ℕ), by decide +kernel⟩⟩

theorem witness_ActuatorEnvelopes :
    (∃ (s : Machine.State) (a : Act), s.stg.acts = [a] ∧ a.stage = 0 ∧ a.exit = none ∧ (BitVec.toNat s.beat < a.c ∨ s.cycle <
      1000) ∧ (BitVec.toNat s.beat < a.c + 2 ∨ BitVec.toNat s.beat = a.c + 2 ∧ s.cycle < 1000)) ∧
    (∃ (s : Machine.State) (a : Act), s.stg.acts = [a] ∧ a.stage = 0 ∧ a.exit = none ∧ a.c ≤ BitVec.toNat s.beat ∧ 1000 ≤
      s.cycle) ∧
    (∃ (s : Machine.State) (a : Act), s.stg.acts = [a] ∧ a.exit = none ∧ BitVec.toNat s.beat = a.c + 2 ∧ 1000 ≤ s.cycle ∧
      a.stage ≤ 1) ∧
    (∃ (s : Machine.State) (a : Act) (m : Member), s.stg.acts = [a] ∧ a.exit = none ∧ a.c + 3 ≤ BitVec.toNat s.beat ∧ a.stage =
      2 ∧ a.env = true ∧ (s.env (a.h / 2 ^ 11 % 32) (a.h / 2 ^ 5 % 64)).members = [m] ∧ takesReplies s m.cell ∧ a.dec = 1 ∧
      a.unres = 0) ∧
    (∃ (s : Machine.State) (a : Act) (m : Member), s.stg.acts = [a] ∧ a.exit = none ∧ a.c + 3 ≤ BitVec.toNat s.beat ∧ a.stage =
      2 ∧ a.env = true ∧ (s.env (a.h / 2 ^ 11 % 32) (a.h / 2 ^ 5 % 64)).members = [m] ∧ takesReplies s m.cell ∧ a.dec = 1 ∧
      a.unres ≠ 0) ∧
    (∃ (s : Machine.State) (a : Act) (m : Member), s.stg.acts = [a] ∧ a.exit = none ∧ a.c + 3 ≤ BitVec.toNat s.beat ∧ a.stage =
      2 ∧ a.env = true ∧ (s.env (a.h / 2 ^ 11 % 32) (a.h / 2 ^ 5 % 64)).members = [m] ∧ takesReplies s m.cell ∧ a.dec ≠ 1) :=
  ⟨⟨({ withActs stA [setA] with cycle := 999 } : Machine.State), (setA : Act), by decide +kernel⟩, ⟨(withActs (withBoards stA
    [(23, { boardA with rx := some rxA })]) [setA] : Machine.State), (setA : Act), by decide +kernel⟩, ⟨(withActs (withBoards
    { stA with beat := 4002 } [(23, { boardA with rx := some { rxA with beat := 4002 } }), (0, boardA)])
    [{ setA with stage := 1, dec := 1 }] : Machine.State), ({ setA with stage := 1, dec := 1 } : Act), by decide +kernel⟩,
    ⟨(envSt { withActs (cellSt cellA) [{ setA with stage := 2, dec := 1, env := true }] with beat := 4003 }
    { st := .actuating, gen := 3, expect := 1, members := [memA] } : Machine.State),
    ({ setA with stage := 2, dec := 1, env := true } : Act), (memA : Member), by decide +kernel⟩, ⟨(envSt
    { withActs (cellSt cellA) [{ setA with stage := 2, dec := 1, env := true, unres := 1 }] with beat := 4003 }
    { st := .actuating, gen := 3, expect := 1, members := [memA] } : Machine.State),
    ({ setA with stage := 2, dec := 1, env := true, unres := 1 } : Act), (memA : Member), by decide +kernel⟩, ⟨(envSt
    { withActs (cellSt cellA) [{ setA with stage := 2, dec := 2, env := true, nack := 1 }] with beat := 4003 }
    { st := .actuating, gen := 3, expect := 1, members := [memA] } : Machine.State),
    ({ setA with stage := 2, dec := 2, env := true, nack := 1 } : Act), (memA : Member), by decide +kernel⟩⟩

theorem witness_DownstreamFrames :
    (∃ (s : Machine.State) (b : Fin 24), ((s.board b.val).trained = false ∨ s.stg.stopped = true ∨ Option.map (fun x => x.1)
      (s.board b.val).sent = some (BitVec.toNat s.beat + 1))) ∧
    (∃ (s : Machine.State) (b : Fin 24), (s.board b.val).trained = true ∧ s.stg.stopped = false ∧ Option.map (fun x => x.1)
      (s.board b.val).sent ≠ some (BitVec.toNat s.beat + 1) ∧ s.loops = [] ∧ BitVec.toNat s.beat < s.stg.taken ∧ s.stg.exits /
      2 ^ b.val % 2 = 0) :=
  ⟨⟨(stA : Machine.State), (23 : Fin 24), by decide +kernel⟩, ⟨({ upSt with stg := { upSt.stg with taken := 4001 } } :
    Machine.State), (23 : Fin 24), by decide +kernel⟩⟩

theorem witness_UpstreamFramesAndLoss :
    (∃ (s : Machine.State) (b : Fin 24), ((s.board b.val).trained = false ∨ BitVec.toNat s.beat < s.stg.taken ∨ Option.map (fun
      x => x.beat) (s.board b.val).rx = some (BitVec.toNat s.beat)) ∧ (s.f (Reg.STG_BOARD_STATUS_MISS b.val) < 4 ∨ s.bstate
      b.val ≠ 2 ∧ s.bstate b.val ≠ 3 ∧ s.bstate b.val ≠ 4)) ∧
    (∃ (s : Machine.State) (b : Fin 24) (fr : Bytes) (v : Sections), (s.board b.val).trained = true ∧ Option.map (fun x =>
      x.beat) (s.board b.val).rx ≠ some (BitVec.toNat s.beat) ∧ s.stg.taken ≤ BitVec.toNat s.beat ∧ s.f Reg.TWN_CFG_MODE = 0 ∧
      s.stg.acts = [] ∧ (∃ e ∈ s.stg.boards, e.1 ≠ b.val ∧ e.2.trained = true ∧ Option.map (fun x => x.beat) e.2.rx ≠ some
      (BitVec.toNat s.beat)) ∧ sectionsOf fr v =
      { sample := false, status := false, ack := false, fault := false, half := false }) ∧
    (∃ (s : Machine.State) (b : Fin 24) (fr : Bytes) (v : Sections), (s.board b.val).trained = true ∧ Option.map (fun x =>
      x.beat) (s.board b.val).rx ≠ some (BitVec.toNat s.beat) ∧ s.stg.taken ≤ BitVec.toNat s.beat ∧ s.f Reg.TWN_CFG_MODE = 0 ∧
      s.stg.acts = [] ∧ (∃ e ∈ s.stg.boards, e.1 ≠ b.val ∧ e.2.trained = true ∧ Option.map (fun x => x.beat) e.2.rx ≠ some
      (BitVec.toNat s.beat)) ∧ (sectionsOf fr v).sample = true ∧ (sectionsOf fr v).status = true ∧ BitVec.toNat (Bits.byteAt fr
      40) = b.val ∧ (s.board b.val).slot < 4) ∧
    (∃ (s : Machine.State) (b : Fin 24), 4 ≤ s.f (Reg.STG_BOARD_STATUS_MISS b.val) ∧ (s.bstate b.val = 2 ∨ s.bstate b.val = 3 ∨
      s.bstate b.val = 4)) :=
  ⟨⟨(stA : Machine.State), (23 : Fin 24), by decide +kernel⟩, ⟨(upSt : Machine.State), (23 : Fin 24), (ackFr : Bytes), (⟨false,
    false, false, false, false⟩ : Sections), by decide +kernel⟩, ⟨((upSt.setF (Reg.STG_BOARD_STATUS_MISS 23) 3).setF
    (Reg.STG_BOARD_STATUS_BSTATE 23) 1 : Machine.State), (23 : Fin 24), (sealF (bytesOf 676 [(40, 23), (41, 1)]) : Bytes),
    (allOk : Sections), by decide +kernel⟩, ⟨((upSt.setF (Reg.STG_BOARD_STATUS_MISS 23) 4).setF (Reg.STG_BOARD_STATUS_BSTATE
    23) 3 : Machine.State), (23 : Fin 24), by decide +kernel⟩⟩

theorem witness_ExitAndIsolation :
    (∃ (s : Machine.State), writesAtOnce s) ∧
    (∃ (s : Machine.State) (b : Fin 24), ((s.board b.val).trained = true ∧ s.stg.stopped = false ∧ Option.map (fun x => x.1)
      (s.board b.val).sent ≠ some (BitVec.toNat s.beat + 1) ∧ (∀ (j : ℕ × Bytes), (s.board b.val).sent = some j → j.1 <
      BitVec.toNat s.beat + 1) ∧ s.loops = [] ∧ BitVec.toNat s.beat < s.stg.taken ∧ s.stg.exits / 2 ^ b.val % 2 = 1 ∧ ∀ i < 4,
      (s.stg.shots.get (4 * b.val + i) (0, [])).1 ≠ BitVec.toNat s.beat + 1) ∧ s.mstate ≠ 3) ∧
    (∃ (s : Machine.State) (b : Fin 24), ((s.board b.val).trained = true ∧ s.stg.stopped = false ∧ Option.map (fun x => x.1)
      (s.board b.val).sent ≠ some (BitVec.toNat s.beat + 1) ∧ (∀ (j : ℕ × Bytes), (s.board b.val).sent = some j → j.1 <
      BitVec.toNat s.beat + 1) ∧ s.loops = [] ∧ BitVec.toNat s.beat < s.stg.taken ∧ s.stg.exits / 2 ^ b.val % 2 = 1 ∧ ∀ i < 4,
      (s.stg.shots.get (4 * b.val + i) (0, [])).1 ≠ BitVec.toNat s.beat + 1) ∧ s.mstate = 3 ∧ s.bstate b.val ≠ 2) ∧
    (∃ (s : Machine.State) (b : Fin 24), ((s.board b.val).trained = true ∧ s.stg.stopped = false ∧ Option.map (fun x => x.1)
      (s.board b.val).sent ≠ some (BitVec.toNat s.beat + 1) ∧ (∀ (j : ℕ × Bytes), (s.board b.val).sent = some j → j.1 <
      BitVec.toNat s.beat + 1) ∧ s.loops = [] ∧ BitVec.toNat s.beat < s.stg.taken ∧ s.stg.exits / 2 ^ b.val % 2 = 1 ∧ ∀ i < 4,
      (s.stg.shots.get (4 * b.val + i) (0, [])).1 ≠ BitVec.toNat s.beat + 1) ∧ s.mstate = 3 ∧ s.bstate b.val = 2 ∧ ((s.board
      b.val).run < 16 ∨ ¬Option.map (fun x => x.beat) (s.board b.val).rx = some (BitVec.toNat s.beat))) ∧
    (∃ (s : Machine.State) (b : Fin 24), ((s.board b.val).trained = true ∧ s.stg.stopped = false ∧ Option.map (fun x => x.1)
      (s.board b.val).sent ≠ some (BitVec.toNat s.beat + 1) ∧ (∀ (j : ℕ × Bytes), (s.board b.val).sent = some j → j.1 <
      BitVec.toNat s.beat + 1) ∧ s.loops = [] ∧ BitVec.toNat s.beat < s.stg.taken ∧ s.stg.exits / 2 ^ b.val % 2 = 1 ∧ ∀ i < 4,
      (s.stg.shots.get (4 * b.val + i) (0, [])).1 ≠ BitVec.toNat s.beat + 1) ∧ s.mstate = 3 ∧ s.bstate b.val = 2 ∧ 16 ≤
      (s.board b.val).run ∧ Option.map (fun x => x.beat) (s.board b.val).rx = some (BitVec.toNat s.beat) ∧ (s.board
      b.val).flags / 64 % 2 = 1) ∧
    (∃ (s : Machine.State) (b : Fin 24) (a : Act), ((s.board b.val).trained = true ∧ s.stg.stopped = false ∧ Option.map (fun x
      => x.1) (s.board b.val).sent ≠ some (BitVec.toNat s.beat + 1) ∧ (∀ (j : ℕ × Bytes), (s.board b.val).sent = some j → j.1 <
      BitVec.toNat s.beat + 1) ∧ s.loops = [] ∧ BitVec.toNat s.beat < s.stg.taken ∧ s.stg.exits / 2 ^ b.val % 2 = 1 ∧ ∀ i < 4,
      (s.stg.shots.get (4 * b.val + i) (0, [])).1 ≠ BitVec.toNat s.beat + 1) ∧ s.mstate = 3 ∧ s.bstate b.val = 2 ∧ 16 ≤
      (s.board b.val).run ∧ Option.map (fun x => x.beat) (s.board b.val).rx = some (BitVec.toNat s.beat) ∧ (s.board
      b.val).flags / 64 % 2 = 0 ∧ s.envs = [] ∧ s.stg.acts = [a] ∧ (∃ e ∈ a.sets, e.1 = b.val) ∧ BitVec.toNat s.beat + 1 ≤ a.c
      + 2) ∧
    (∃ (s : Machine.State) (b : Fin 24), ((s.board b.val).trained = true ∧ s.stg.stopped = false ∧ Option.map (fun x => x.1)
      (s.board b.val).sent ≠ some (BitVec.toNat s.beat + 1) ∧ (∀ (j : ℕ × Bytes), (s.board b.val).sent = some j → j.1 <
      BitVec.toNat s.beat + 1) ∧ s.loops = [] ∧ BitVec.toNat s.beat < s.stg.taken ∧ s.stg.exits / 2 ^ b.val % 2 = 1 ∧ ∀ i < 4,
      (s.stg.shots.get (4 * b.val + i) (0, [])).1 ≠ BitVec.toNat s.beat + 1) ∧ s.mstate = 3 ∧ s.bstate b.val = 2 ∧ 16 ≤
      (s.board b.val).run ∧ Option.map (fun x => x.beat) (s.board b.val).rx = some (BitVec.toNat s.beat) ∧ (s.board
      b.val).flags / 64 % 2 = 0 ∧ s.envs = [] ∧ s.stg.acts = [] ∧ (s.board b.val).force = false) :=
  ⟨⟨(stA.setF Reg.GLB_STATE_MSTATE 5 : Machine.State), by decide +kernel⟩, ⟨(exitSt 5 2 boardA : Machine.State), (23 : Fin 24),
    by decide +kernel⟩, ⟨(exitSt 3 4 boardA : Machine.State), (23 : Fin 24), by decide +kernel⟩, ⟨(exitSt 3 2 boardA :
    Machine.State), (23 : Fin 24), by decide +kernel⟩, ⟨(exitSt 3 2 { boardA with run := 16, rx := some rxA, flags := 64 } :
    Machine.State), (23 : Fin 24), by decide +kernel⟩, ⟨(exitSt 3 2 { boardA with run := 16, rx := some rxA, flags := 63 }
    [{ setA with c := 3999 }] : Machine.State), (23 : Fin 24), ({ setA with c := 3999 } : Act), by decide +kernel⟩, ⟨(exitSt 3
    2 { boardA with run := 16, rx := some rxA, flags := 63 } : Machine.State), (23 : Fin 24), by decide +kernel⟩⟩

theorem witness_SharingSheddingAllFire :
    (∃ (s : Machine.State), (BitVec.toNat s.beat % 1000 ≠ 0 ∨ s.stg.cltAt = some (BitVec.toNat s.beat))) ∧
    (∃ (s : Machine.State) (b : Fin 24) (j : Fin 4), BitVec.toNat s.beat % 1000 = 0 ∧ s.stg.cltAt ≠ some (BitVec.toNat s.beat)
      ∧ BitVec.toNat s.beat % 100 = 0 ∧ s.stg.shareAt ≠ some (BitVec.toNat s.beat) ∧ s.sheds b.val = false ∧ (s.pstate (4 *
      b.val + j.val) ≠ 1 ∨ (s.phase (4 * b.val + j.val)).t + 1 < Bits.le (s.board b.val).map 18 2)) ∧
    (∃ (s : Machine.State), (BitVec.toNat s.beat % 100 ≠ 0 ∨ s.stg.shareAt = some (BitVec.toNat s.beat))) ∧
    (∃ (s : Machine.State) (b : Fin 24) (g : BitVec 4), s.sheds b.val = true ∧ g.toNat ∈ s.groupsOf b.val ∧ s.inState b.val
      g.toNat 1 = [] ∧ 2 ≤ (s.inState b.val g.toNat 0).length ∧ max 1 (Bits.le (s.board b.val).map 16 2) ≤ (s.grp b.val
      g.toNat).hold) ∧
    (∃ (s : Machine.State) (b : Fin 24) (g : BitVec 4), s.sheds b.val = true ∧ g.toNat ∈ s.groupsOf b.val ∧ s.inState b.val
      g.toNat 1 = [] ∧ 2 ≤ (s.inState b.val g.toNat 0).length ∧ (s.grp b.val g.toNat).hold < max 1 (Bits.le (s.board b.val).map
      16 2)) ∧
    (∃ (s : Machine.State) (b : Fin 24) (j : Fin 4) (first : ℕ) (lim : ℕ), s.pstate (4 * b.val + j.val) = 1 ∧ Bits.le (s.board
      b.val).map 18 2 ≤ (s.phase (4 * b.val + j.val)).t + 1 ∧ s.stg.episode = some (first, lim) ∧ first + lim ≤ BitVec.toNat
      s.beat + 1) ∧
    (∃ (s : Machine.State) (first : ℕ) (lim : ℕ), s.stg.episode = some (first, lim) ∧ BitVec.toNat s.beat + 1 < first + lim) :=
  ⟨⟨({ stA with beat := 3900 } : Machine.State), by decide +kernel⟩, ⟨(stA : Machine.State), (23 : Fin 24), (3 : Fin 4),
    by decide +kernel⟩, ⟨({ stA with beat := 3999 } : Machine.State), by decide +kernel⟩, ⟨(let s :=
    { loopSt 2 loopA with stg := { boards := [(23, { boardA with shared := 100, map := mapS })], phases := [(92, { sum := 1000 }), (93, { sum := 3000 })], groups := [(371, { hold := 2 })], shareWin := 39 } };
    ((((((s.setF Reg.STG_CFG_SHED_EN 1).setF (Reg.STG_BOARD_STATUS_BSTATE 23) 4).setF (Reg.STG_PHASE_PSTATE 92) 0).setF
    (Reg.STG_PHASE_PSTATE 93) 0).setF Reg.STG_CFG_SHARE_EN 1).setF Reg.STG_SHARE_KS 100).stage 0x800000 0x800020 :
    Machine.State), (23 : Fin 24), (3 : BitVec 4), by decide +kernel⟩, ⟨(let s :=
    { loopSt 2 loopA with stg := { boards := [(23, { boardA with map := mapS })], groups := [(371, { hold := 1 })] } };
    ((((s.setF Reg.STG_CFG_SHED_EN 1).setF (Reg.STG_BOARD_STATUS_BSTATE 23) 4).setF (Reg.STG_PHASE_PSTATE 92) 0).setF
    (Reg.STG_PHASE_PSTATE 93) 0).stage 0x800000 0x800020 : Machine.State), (23 : Fin 24), (3 : BitVec 4), by decide +kernel⟩,
    ⟨({ upSt with stg := { upSt.stg with phases := [(95, { t := 2 })], episode := some (3900, 101), firing := 1 } }.setF
    (Reg.STG_PHASE_PSTATE 95) 1 : Machine.State), (23 : Fin 24), (3 : Fin 4), (3900 : ℕ), (101 : ℕ), by decide +kernel⟩,
    ⟨({ upSt with stg := { upSt.stg with phases := [(95, { t := 1 })], episode := some (3900, 102), firing := 1 } }.setF
    (Reg.STG_PHASE_PSTATE 95) 1 : Machine.State), (3900 : ℕ), (102 : ℕ), by decide +kernel⟩⟩

theorem witness_SetpointWindows :
    (∃ (s : Machine.State) (e : Fin 64) (l : Fin 8) (off : BitVec 6) (data : Bytes) (w : Bytes), s.lstate (8 * e.val + l.val) ≠
      0 ∧ (s.cycle ≤ 875 ∨ (s.loop (8 * e.val + l.val)).ys = none) ∧ data ≠ [] ∧ off.toNat + List.length data ≤ 64 ∧
      List.length w = 64 ∧ (∀ j < 64, Bits.byteAt w j = if h : off.toNat ≤ j ∧ j < off.toNat + List.length data then data[j -
      off.toNat] else Bits.byteAt (Bits.fit (s.loop (8 * e.val + l.val)).latest 64) j) ∧ (lForm (s.loop (8 * e.val +
      l.val)).ent ≠ 0 ∨ off.toNat < 28 ∨ 30 < off.toNat + List.length data) ∧ (BitVec.ofNat 16 (Bits.le w 4 2)).toInt <
      (BitVec.ofNat 16 (Bits.le w 2 2)).toInt) ∧
    (∃ (s : Machine.State) (e : Fin 64) (l : Fin 8) (off : BitVec 6) (data : Bytes) (w : Bytes), s.lstate (8 * e.val + l.val) ≠
      0 ∧ (s.cycle ≤ 875 ∨ (s.loop (8 * e.val + l.val)).ys = none) ∧ data ≠ [] ∧ off.toNat + List.length data ≤ 64 ∧
      List.length w = 64 ∧ (∀ j < 64, Bits.byteAt w j = if h : off.toNat ≤ j ∧ j < off.toNat + List.length data then data[j -
      off.toNat] else Bits.byteAt (Bits.fit (s.loop (8 * e.val + l.val)).latest 64) j) ∧ (lForm (s.loop (8 * e.val +
      l.val)).ent ≠ 0 ∨ off.toNat < 28 ∨ 30 < off.toNat + List.length data) ∧ (BitVec.ofNat 16 (Bits.le w 2 2)).toInt ≤
      (BitVec.ofNat 16 (Bits.le w 4 2)).toInt ∧ lOutKind (s.loop (8 * e.val + l.val)).ent = 0 ∧ (BitVec.ofNat 16 (Bits.le w 2
      2)).toInt < 0) ∧
    (∃ (s : Machine.State) (e : Fin 64) (l : Fin 8) (off : BitVec 6) (data : Bytes) (w : Bytes) (j : ℕ), s.lstate (8 * e.val +
      l.val) ≠ 0 ∧ (s.cycle ≤ 875 ∨ (s.loop (8 * e.val + l.val)).ys = none) ∧ data ≠ [] ∧ off.toNat + List.length data ≤ 64 ∧
      List.length w = 64 ∧ (∀ j < 64, Bits.byteAt w j = if h : off.toNat ≤ j ∧ j < off.toNat + List.length data then data[j -
      off.toNat] else Bits.byteAt (Bits.fit (s.loop (8 * e.val + l.val)).latest 64) j) ∧ (lForm (s.loop (8 * e.val +
      l.val)).ent ≠ 0 ∨ off.toNat < 28 ∨ 30 < off.toNat + List.length data) ∧ (BitVec.ofNat 16 (Bits.le w 2 2)).toInt ≤
      (BitVec.ofNat 16 (Bits.le w 4 2)).toInt ∧ (lOutKind (s.loop (8 * e.val + l.val)).ent ≠ 0 ∨ 0 ≤ (BitVec.ofNat 16 (Bits.le
      w 2 2)).toInt) ∧ (j < 64 ∧ (j = 6 ∧ 4 ≤ BitVec.toNat (Bits.byteAt w 6) ∨ Bits.byteAt w j ≠ 0 ∧ (j = 7 ∨ 30 ≤ j ∨ lForm
      (s.loop (8 * e.val + l.val)).ent = 0 ∧ 8 ≤ j ∧ j < 28 ∨ lForm (s.loop (8 * e.val + l.val)).ent = 3 ∧ 28 ≤ j ∨ lForm
      (s.loop (8 * e.val + l.val)).ent ≠ 0 ∧ lForm (s.loop (8 * e.val + l.val)).ent ≠ 3 ∧ 16 ≤ j))) ∧ (∀ i < j, ¬(i < 64 ∧ (i =
      6 ∧ 4 ≤ BitVec.toNat (Bits.byteAt w 6) ∨ Bits.byteAt w i ≠ 0 ∧ (i = 7 ∨ 30 ≤ i ∨ lForm (s.loop (8 * e.val + l.val)).ent =
      0 ∧ 8 ≤ i ∧ i < 28 ∨ lForm (s.loop (8 * e.val + l.val)).ent = 3 ∧ 28 ≤ i ∨ lForm (s.loop (8 * e.val + l.val)).ent ≠ 0 ∧
      lForm (s.loop (8 * e.val + l.val)).ent ≠ 3 ∧ 16 ≤ i))))) ∧
    (∃ (s : Machine.State) (e : Fin 64) (l : Fin 8) (off : BitVec 6) (data : Bytes) (w : Bytes), s.lstate (8 * e.val + l.val) ≠
      0 ∧ (s.cycle ≤ 875 ∨ (s.loop (8 * e.val + l.val)).ys = none) ∧ data ≠ [] ∧ off.toNat + List.length data ≤ 64 ∧
      List.length w = 64 ∧ (∀ j < 64, Bits.byteAt w j = if h : off.toNat ≤ j ∧ j < off.toNat + List.length data then data[j -
      off.toNat] else Bits.byteAt (Bits.fit (s.loop (8 * e.val + l.val)).latest 64) j) ∧ lForm (s.loop (8 * e.val + l.val)).ent
      = 0 ∧ off.toNat = 28 ∧ List.length data = 2) :=
  ⟨⟨(loopSt 2 loopA : Machine.State), (63 : Fin 64), (7 : Fin 8), (2 : BitVec 6), ([51, 10] : Bytes), (bytesOf 64 [(0, 10), (2,
    51), (3, 10), (4, 50), (5, 10), (6, 1), (9, 4), (11, 2), (15, 1)] : Bytes), by decide +kernel⟩, ⟨(loopSt 2 loopA :
    Machine.State), (63 : Fin 64), (7 : Fin 8), (3 : BitVec 6), ([0x80] : Bytes), (bytesOf 64 [(0, 10), (3, 0x80), (4, 50), (5,
    10), (6, 1), (9, 4), (11, 2), (15, 1)] : Bytes), by decide +kernel⟩, ⟨(loopSt 2 loopA : Machine.State), (63 : Fin 64), (7 :
    Fin 8), (7 : BitVec 6), ([1] : Bytes), (bytesOf 64 [(0, 10), (2, 0), (4, 50), (5, 10), (6, 1), (7, 1), (9, 4), (11, 2),
    (15, 1)] : Bytes), (7 : ℕ), by decide +kernel⟩, ⟨(loopSt 1
    { loopA with ent := bytesOf 128 [(2, 0), (4, 1), (7, 23), (36, 100)], win := [], app := [] } : Machine.State), (63 : Fin
    64), (7 : Fin 8), (28 : BitVec 6), ([7, 9] : Bytes), (bytesOf 64 [(28, 7), (29, 9)] : Bytes), by decide +kernel⟩⟩

theorem witness_LoopLaw :
    (∃ (s : Machine.State) (e : Fin 64) (l : Fin 8) (y : ℤ), s.lstate (8 * e.val + l.val) = 2 ∧ (lForm (s.loop (8 * e.val +
      l.val)).ent = 1 ∨ lForm (s.loop (8 * e.val + l.val)).ent = 2) ∧ (s.loop (8 * e.val + l.val)).next = [] ∧ (s.loop (8 *
      e.val + l.val)).cascNew = none ∧ (s.loop (8 * e.val + l.val)).init = false ∧ (s.loop (8 * e.val + l.val)).clear = false ∧
      BitVec.toNat s.beat % lDiv (s.loop (8 * e.val + l.val)).ent = 0 ∧ (s.loop (8 * e.val + l.val)).sampled < 2 * BitVec.toNat
      s.beat + 1 ∧ (∀ r ∈ s.rcv.rungs, r.rung ≠ 2) ∧ s.feedback (s.loop (8 * e.val + l.val)).ent false = some y ∧ BitVec.toNat
      (Bits.byteAt (s.loop (8 * e.val + l.val)).ent 15) % 16 = 0 ∧ BitVec.toNat (Bits.byteAt (s.loop (8 * e.val + l.val)).win
      6) % 2 = 1 ∧ (BitVec.ofNat 8 (BitVec.toNat (Bits.byteAt (s.loop (8 * e.val + l.val)).ent 33))).toInt ≤ 15 ∧ lOutKind
      (s.loop (8 * e.val + l.val)).ent = 0 ∧ (s.loop (8 * e.val + l.val)).fe ≤ Bits.le (s.loop (8 * e.val + l.val)).ent 38 2 ∧
      (max (-2 ^ 15) (min (2 ^ 15 - 1) ((BitVec.ofNat 16 (Bits.le (s.loop (8 * e.val + l.val)).win 0 2)).toInt - y))).natAbs ≤
      Bits.le (s.loop (8 * e.val + l.val)).ent 36 2 ∧ (y - (BitVec.ofNat 16 (s.f (Reg.LE_LOOP_MODEL_M (8 * e.val +
      l.val)))).toInt).natAbs ≤ Bits.le (s.loop (8 * e.val + l.val)).ent 40 2) :=
  ⟨(sampled (loopSt 2 loopA) 4 : Machine.State), (63 : Fin 64), (7 : Fin 8), (4 : ℤ), by decide +kernel⟩

theorem witness_LoopSupervisionAndStates :
    (∃ (s : Machine.State) (e : Fin 64) (l : Fin 8), s.lstate (8 * e.val + l.val) = 2 ∧ lForm (s.loop (8 * e.val + l.val)).ent
      = 1 ∧ (s.loop (8 * e.val + l.val)).next = [] ∧ (s.loop (8 * e.val + l.val)).cascNew = none ∧ (s.loop (8 * e.val +
      l.val)).init = false ∧ (s.loop (8 * e.val + l.val)).clear = false ∧ BitVec.toNat s.beat % lDiv (s.loop (8 * e.val +
      l.val)).ent = 0 ∧ (s.loop (8 * e.val + l.val)).sampled < 2 * BitVec.toNat s.beat + 1 ∧ (∀ r ∈ s.rcv.rungs, r.rung ≠ 2) ∧
      BitVec.toNat (Bits.byteAt (s.loop (8 * e.val + l.val)).win 6) % 2 = 1 ∧ s.feedback (s.loop (8 * e.val + l.val)).ent false
      = none ∧ writesAtOnce s ∧ s.lstate (8 * e.val + l.val) ≠ 3) ∧
    (∃ (s : Machine.State) (e : Fin 64) (l : Fin 8) (y : ℤ), s.lstate (8 * e.val + l.val) = 2 ∧ lForm (s.loop (8 * e.val +
      l.val)).ent = 1 ∧ (s.loop (8 * e.val + l.val)).next = [] ∧ (s.loop (8 * e.val + l.val)).cascNew = none ∧ (s.loop (8 *
      e.val + l.val)).init = false ∧ (s.loop (8 * e.val + l.val)).clear = false ∧ BitVec.toNat s.beat % lDiv (s.loop (8 * e.val
      + l.val)).ent = 0 ∧ (s.loop (8 * e.val + l.val)).sampled < 2 * BitVec.toNat s.beat + 1 ∧ (∀ r ∈ s.rcv.rungs, r.rung ≠ 2)
      ∧ BitVec.toNat (Bits.byteAt (s.loop (8 * e.val + l.val)).win 6) % 2 = 1 ∧ s.feedback (s.loop (8 * e.val + l.val)).ent
      false = some y ∧ Bits.le (s.loop (8 * e.val + l.val)).ent 40 2 < (y - (BitVec.ofNat 16 (s.f (Reg.LE_LOOP_MODEL_M (8 *
      e.val + l.val)))).toInt).natAbs ∧ Bits.le (s.loop (8 * e.val + l.val)).ent 42 2 < (s.loop (8 * e.val + l.val)).pl + 1 ∧
      Bits.byteAt (s.loop (8 * e.val + l.val)).ent 32 = 0) ∧
    (∃ (s : Machine.State) (e : Fin 64) (l : Fin 8) (half : Bool), (s.lstate (8 * e.val + l.val) = 0 ∨ (2 * BitVec.toNat s.beat
      + if half = true then 1 else 0) < (s.loop (8 * e.val + l.val)).sampled ∨ half = false ∧ lDiv (s.loop (8 * e.val +
      l.val)).ent ≠ 0 ∧ BitVec.toNat s.beat % lDiv (s.loop (8 * e.val + l.val)).ent ≠ 0 ∨ half = true ∧ lDiv (s.loop (8 * e.val
      + l.val)).ent ≠ 0)) ∧
    (∃ (s : Machine.State) (e : Fin 64) (l : Fin 8), s.lstate (8 * e.val + l.val) = 3 ∧ (s.loop (8 * e.val + l.val)).clear =
      true ∧ (s.loop (8 * e.val + l.val)).next = [] ∧ lForm (s.loop (8 * e.val + l.val)).ent = 1 ∧ lDiv (s.loop (8 * e.val +
      l.val)).ent = 1 ∧ lOutKind (s.loop (8 * e.val + l.val)).ent = 0 ∧ (s.loop (8 * e.val + l.val)).sampled < 2 * BitVec.toNat
      s.beat + 1 ∧ (∀ r ∈ s.rcv.rungs, r.rung ≠ 2) ∧ writesAtOnce s) :=
  ⟨⟨(loopSt 2 loopA : Machine.State), (63 : Fin 64), (7 : Fin 8), by decide +kernel⟩, ⟨(sampled (loopSt 2
    { loopA with pl := 2 }) 101 : Machine.State), (63 : Fin 64), (7 : Fin 8), (101 : ℤ), by decide +kernel⟩, ⟨(loopSt 0 {} :
    Machine.State), (63 : Fin 64), (7 : Fin 8), (false : Bool), by decide +kernel⟩, ⟨(loopSt 3 { loopA with clear := true } :
    Machine.State), (63 : Fin 64), (7 : Fin 8), by decide +kernel⟩⟩

theorem witness_SafeStop :
    (∃ (s : Machine.State) (b : Fin 24) (B : Board), s.stg.boards = [(b.val, B)] ∧ B.trained = true ∧ Option.map (fun x =>
      x.beat) B.rx ≠ some (BitVec.toNat s.beat) ∧ B.map ≠ [] ∧ s.stg.taken ≤ BitVec.toNat s.beat ∧ s.f Reg.TWN_CFG_MODE = 0 ∧
      (¬(s.feedsLost = true ∨ s.mpw.trip ≠ none ∨ s.chipDue = true)) ∧ s.stg.nolink < 3 ∧ (s.mstate = 3 ∨ s.mstate = 4) ∧ s.f
      Reg.GLB_SAFE_CMD_SAFE_REQ = 1) ∧
    (∃ (s : Machine.State) (b : Fin 24) (B : Board), s.stg.boards = [(b.val, B)] ∧ B.trained = true ∧ Option.map (fun x =>
      x.beat) B.rx ≠ some (BitVec.toNat s.beat) ∧ B.map ≠ [] ∧ s.stg.taken ≤ BitVec.toNat s.beat ∧ s.f Reg.TWN_CFG_MODE = 0 ∧
      (¬(s.feedsLost = true ∨ s.mpw.trip ≠ none ∨ s.chipDue = true)) ∧ s.stg.nolink < 3 ∧ s.mstate = 5 ∧ s.f
      Reg.GLB_SAFE_CMD_SAFE_REQ = 0) ∧
    (∃ (s : Machine.State) (b : Fin 24) (B : Board) (v : Sections), s.stg.boards = [(b.val, B)] ∧ B.trained = true ∧ Option.map
      (fun x => x.beat) B.rx ≠ some (BitVec.toNat s.beat) ∧ B.map ≠ [] ∧ s.stg.taken ≤ BitVec.toNat s.beat ∧ s.f
      Reg.TWN_CFG_MODE = 0 ∧ (¬(s.feedsLost = true ∨ s.mpw.trip ≠ none ∨ s.chipDue = true)) ∧ 3 ≤ s.stg.nolink ∧ v =
      { sample := false, status := false, ack := false, fault := false, half := false } ∧ s.f Reg.MAN_SHELF_VALID = 1 ∧
      s.mstate = 3) ∧
    (∃ (s : Machine.State) (b : Fin 24) (B : Board) (v : Sections), s.stg.boards = [(b.val, B)] ∧ B.trained = true ∧ Option.map
      (fun x => x.beat) B.rx ≠ some (BitVec.toNat s.beat) ∧ B.map ≠ [] ∧ s.stg.taken ≤ BitVec.toNat s.beat ∧ s.f
      Reg.TWN_CFG_MODE = 0 ∧ (¬(s.feedsLost = true ∨ s.mpw.trip ≠ none ∨ s.chipDue = true)) ∧ 3 ≤ s.stg.nolink ∧ v =
      { sample := false, status := false, ack := false, fault := false, half := false } ∧ s.f Reg.MAN_SHELF_VALID = 1 ∧
      s.mstate = 5 ∧ s.f Reg.GLB_STATE_LAST_CAUSE = 2 ∧ 4 ≤ s.stg.nolink ∧ (s.mstate ≠ 3 ∨ s.feedsLost = true ∨ s.mpw.trip ≠
      none ∨ s.chipDue = true) ∧ s.runs.links = false) ∧
    (∃ (s : Machine.State), s.stg.nolink < 4) ∧
    (∃ (s : Machine.State), 4 ≤ s.stg.nolink ∧ s.mstate = 3 ∧ (¬(s.feedsLost = true ∨ s.mpw.trip ≠ none ∨ s.chipDue = true))) ∧
    (∃ (s : Machine.State), 4 ≤ s.stg.nolink ∧ (s.mstate ≠ 3 ∨ s.feedsLost = true ∨ s.mpw.trip ≠ none ∨ s.chipDue = true) ∧
      s.runs.links = true) :=
  ⟨⟨((withBoards stA [(23, boardA)]).setF Reg.GLB_SAFE_CMD_SAFE_REQ 1 : Machine.State), (23 : Fin 24), (boardA : Board),
    by decide +kernel⟩, ⟨((ms 5 (withBoards stA [(23, { boardA with rx := some { rxA with beat := 3999 } })])).setF
    Reg.GLB_STATE_LAST_CAUSE 1 : Machine.State), (23 : Fin 24), ({ boardA with rx := some { rxA with beat := 3999 } } : Board),
    by decide +kernel⟩, ⟨({ stA.setF Reg.MAN_SHELF_VALID 1 with stg := { boards := [(23, boardA)], nolink := 3 } } :
    Machine.State), (23 : Fin 24), (boardA : Board), (⟨false, false, false, false, false⟩ : Sections), by decide +kernel⟩,
    ⟨((ms 5 { stA.setF Reg.MAN_SHELF_VALID 1 with stg := { boards := [(23, boardA)], nolink := 4 } }).setF
    Reg.GLB_STATE_LAST_CAUSE 2 : Machine.State), (23 : Fin 24), (boardA : Board), (⟨false, false, false, false, false⟩ :
    Sections), by decide +kernel⟩, ⟨(stA : Machine.State), by decide +kernel⟩, ⟨({ stA with stg := { nolink := 4 } } :
    Machine.State), by decide +kernel⟩,
    ⟨({ stA with stg := { nolink := 4 }, runs := { links := true }, twn := { fed := true } } : Machine.State),
    by decide +kernel⟩⟩

theorem witness_Resets :
    (∃ (s : Machine.State) (v : Word), (∀ c ∈ s.deadClusters, c < 640) ∧ s.mstate ≠ 6 ∧ s.feedsLost = false ∧ s.mpw.trip = none
      ∧ v ≠ 477758288 ∧ s.mpw.trip = none ∧ (s.mstate ≠ 6 ∧ (s.mstate ≠ 1 ∨ s.evl.closed = false) ∨ s.power = false ∨ s.f
      Reg.TWN_FEED_A_STATE ≠ 0 ∧ s.f Reg.TWN_FEED_B_STATE ≠ 0) ∧ (s.mstate ≠ 1 ∨ s.evl.closed = false) ∧ s.power = true) ∧
    (∃ (s : Machine.State) (sensor : Fin 40) (tj : BitVec 12), (∀ c ∈ s.deadClusters, c < 640) ∧ ¬(s.feedsLost = false ∧
      s.mpw.trip = none) ∧ s.mpw.trip = some (sensor.val, tj.toNat) ∧ s.feedsLost = false ∧ (s.mstate ≠ 6 ∨ s.evl.closed =
      true)) ∧
    (∃ (s : Machine.State), (∀ c ∈ s.deadClusters, c < 640) ∧ s.mstate = 6 ∧ s.feedsLost = false ∧ s.mpw.trip = none ∧
      (s.mstate = 6 ∨ s.mstate = 1 ∧ s.evl.closed = true)) ∧
    (∃ (s : Machine.State) (sensor : Fin 40) (tj : BitVec 12), (∀ c ∈ s.deadClusters, c < 640) ∧ s.mpw.trip = some (sensor.val,
      tj.toNat) ∧ s.feedsLost = true) ∧
    (∃ (s : Machine.State) (sensor : Fin 40) (tj : BitVec 12), (∀ c ∈ s.deadClusters, c < 640) ∧ s.mpw.trip = some (sensor.val,
      tj.toNat) ∧ s.feedsLost = false ∧ s.mstate = 6 ∧ s.evl.closed = false) ∧
    (∃ (s : Machine.State), (∀ c ∈ s.deadClusters, c < 640) ∧ s.mstate = 6 ∧ s.power = true ∧ (s.f Reg.TWN_FEED_A_STATE = 0 ∨
      s.f Reg.TWN_FEED_B_STATE = 0)) ∧
    (∃ (s : Machine.State), (∀ c ∈ s.deadClusters, c < 640) ∧ s.mstate = 1 ∧ s.power = true ∧ s.evl.closed = true ∧ (s.f
      Reg.TWN_FEED_A_STATE = 0 ∨ s.f Reg.TWN_FEED_B_STATE = 0)) ∧
    (∃ (s : Machine.State), (∀ c ∈ s.deadClusters, c < 640) ∧ s.power = false) :=
  ⟨⟨(richSt : Machine.State), (0x1C7A0351 : Word), by decide +kernel⟩, ⟨({ richSt with mpw := { trip := some (39, 1200) } } :
    Machine.State), (39 : Fin 40), (1200 : BitVec 12), by decide +kernel⟩, ⟨(ms 6 richSt : Machine.State), by decide +kernel⟩,
    ⟨(((({ richSt with mpw := { trip := some (39, 1200) }, twn := { fed := true } }).setF Reg.TWN_FEED_A_STATE 1).setF
    Reg.TWN_FEED_B_STATE 1) : Machine.State), (39 : Fin 40), (1200 : BitVec 12), by decide +kernel⟩,
    ⟨({ ms 6 richSt with mpw := { trip := some (39, 1200) } } : Machine.State), (39 : Fin 40), (1200 : BitVec 12),
    by decide +kernel⟩, ⟨(((ms 6 richSt).setF Reg.TWN_FEED_A_STATE 0).setF Reg.GLB_STATE_LAST_CAUSE 5 : Machine.State),
    by decide +kernel⟩, ⟨({ (ms 1 richSt).setF Reg.TWN_FEED_A_STATE 0 with evl := { closed := true } } : Machine.State),
    by decide +kernel⟩, ⟨({ ms 6 richSt with power := false } : Machine.State), by decide +kernel⟩⟩

theorem witness_FeedsHoldupHeartbeat :
    (∃ (s : Machine.State), (s.released = true ∧ (BitVec.toNat s.beat % 10 ≠ 0 ∨ s.mpw.feedAt = some (BitVec.toNat s.beat)))) ∧
    (∃ (s : Machine.State) (v : Word), (¬(s.released = true ∧ (BitVec.toNat s.beat % 10 ≠ 0 ∨ s.mpw.feedAt = some (BitVec.toNat
      s.beat)))) ∧ (s.mstate = 6 ∨ s.twn.fed = false ∨ s.f Reg.TWN_FEED_A_STATE ≠ 1 ∨ s.f Reg.TWN_FEED_B_STATE ≠ 1) ∧ (s.mstate
      ≠ 6 ∨ s.evl.closed = true) ∧ s.rd 13631492 = v ∧ (s.hif.watch = none ∨ s.f Reg.HIF_STATUS_HOST_LOST = 1)) ∧
    (∃ (s : Machine.State), s.mstate ≠ 6 ∧ s.twn.fed = true ∧ s.f Reg.TWN_FEED_A_STATE = 1 ∧ s.f Reg.TWN_FEED_B_STATE = 1) ∧
    (∃ (s : Machine.State), s.mstate = 6 ∧ s.evl.closed = false ∧ s.mpw.tripHeld = false) ∧
    (∃ (s : Machine.State), s.mstate = 6 ∧ s.evl.closed = false ∧ s.mpw.tripHeld = true) ∧
    (∃ (s : Machine.State) (v : Word), s.rd 13631492 ≠ v) ∧
    (∃ (s : Machine.State) (w : ℕ), s.hif.watch = some w ∧ s.f Reg.HIF_STATUS_HOST_LOST = 0 ∧ max w (s.hif.hbAt.getD w) + s.lf
      Reg.HIF_HB_CFG_HB_TIMEOUT_MS * 1000 ≤ BitVec.toNat s.beat ∧ s.f Reg.HIF_LINK_DL_UP = 0 ∧ max w s.hif.downAt + s.lf
      Reg.HIF_HB_CFG_HB_TIMEOUT_MS * 1000 ≤ BitVec.toNat s.beat) ∧
    (∃ (s : Machine.State) (w : ℕ), s.hif.watch = some w ∧ s.f Reg.HIF_STATUS_HOST_LOST = 0 ∧ max w (s.hif.hbAt.getD w) + s.lf
      Reg.HIF_HB_CFG_HB_TIMEOUT_MS * 1000 ≤ BitVec.toNat s.beat ∧ ¬(s.f Reg.HIF_LINK_DL_UP = 0 ∧ max w s.hif.downAt + s.lf
      Reg.HIF_HB_CFG_HB_TIMEOUT_MS * 1000 ≤ BitVec.toNat s.beat)) ∧
    (∃ (s : Machine.State) (w : ℕ), s.hif.watch = some w ∧ s.f Reg.HIF_STATUS_HOST_LOST = 0 ∧ ¬max w (s.hif.hbAt.getD w) + s.lf
      Reg.HIF_HB_CFG_HB_TIMEOUT_MS * 1000 ≤ BitVec.toNat s.beat ∧ s.f Reg.HIF_LINK_DL_UP = 0 ∧ max w s.hif.downAt + s.lf
      Reg.HIF_HB_CFG_HB_TIMEOUT_MS * 1000 ≤ BitVec.toNat s.beat) ∧
    (∃ (s : Machine.State) (w : ℕ), s.hif.watch = some w ∧ s.f Reg.HIF_STATUS_HOST_LOST = 0 ∧ ¬max w (s.hif.hbAt.getD w) + s.lf
      Reg.HIF_HB_CFG_HB_TIMEOUT_MS * 1000 ≤ BitVec.toNat s.beat ∧ ¬(s.f Reg.HIF_LINK_DL_UP = 0 ∧ max w s.hif.downAt + s.lf
      Reg.HIF_HB_CFG_HB_TIMEOUT_MS * 1000 ≤ BitVec.toNat s.beat)) :=
  ⟨⟨({ stA with mpw := { feedAt := some 4000 } } : Machine.State), by decide +kernel⟩, ⟨(stA : Machine.State), (0 : Word),
    by decide +kernel⟩, ⟨({ (richSt.setF Reg.TWN_FEED_A_STATE 1).setF Reg.TWN_FEED_B_STATE 1 with twn := { fed := true } } :
    Machine.State), by decide +kernel⟩,
    ⟨({ ms 6 richSt with evl := { queue := [⟨0x101, 0, 0, 0, 0, 0, none, false⟩, ⟨0x101, 0, 0, 0, 0, 0, none, false⟩] } } :
    Machine.State), by decide +kernel⟩, ⟨({ ms 6 richSt with mpw := { tripHeld := true, trip := some (39, 1200) } } :
    Machine.State), by decide +kernel⟩, ⟨(stA : Machine.State), (1 : Word), by decide +kernel⟩,
    ⟨({ stA.setF Reg.HIF_LINK_DL_UP 0 with beat := 103000, hif := { watch := some 3000, hbAt := some 2000, downAt := 1000 } } :
    Machine.State), (3000 : ℕ), by decide +kernel⟩,
    ⟨({ stA.setF Reg.HIF_LINK_DL_UP 1 with beat := 103000, hif := { watch := some 3000, hbAt := some 2000, downAt := 1000 } } :
    Machine.State), (3000 : ℕ), by decide +kernel⟩,
    ⟨({ stA.setF Reg.HIF_LINK_DL_UP 0 with beat := 103000, hif := { watch := some 3000, hbAt := some 4000, downAt := 1000 } } :
    Machine.State), (3000 : ℕ), by decide +kernel⟩,
    ⟨({ stA.setF Reg.HIF_LINK_DL_UP 0 with beat := 103000, hif := { watch := some 3000, hbAt := some 102000, downAt := 100000 } }
    : Machine.State), (3000 : ℕ), by decide +kernel⟩⟩

theorem witness_ModulePower :
    (∃ (s : Machine.State) (d : Fin 34), (BitVec.toNat s.beat % 10 ≠ 0 ∨ s.mpw.stepAt = some (BitVec.toNat s.beat)) ∧
      (BitVec.toNat s.beat % 1000 ≠ 0 ∨ s.mpw.calAt = some (BitVec.toNat s.beat)) ∧ (BitVec.toNat s.beat % 1000 ≠ 0 ∨
      s.mpw.heatAt = some (BitVec.toNat s.beat)) ∧ (s.f Reg.MPW_STATUS_FEED_LOW = 1 ∨ s.mpw.lowRun < 10) ∧ (s.f
      Reg.MPW_STATUS_FEED_LOW = 0 ∨ s.mpw.highRun < 1000) ∧ BitVec.toNat s.beat < s.mpw.aged.get d.val 0 + 60000000) ∧
    (∃ (s : Machine.State), BitVec.toNat s.beat % 10 = 0 ∧ s.mpw.stepAt ≠ some (BitVec.toNat s.beat) ∧ BitVec.toNat s.beat %
      1000 = 0 ∧ s.mpw.heatAt ≠ some (BitVec.toNat s.beat)) ∧
    (∃ (s : Machine.State), BitVec.toNat s.beat % 1000 = 0 ∧ s.mpw.calAt ≠ some (BitVec.toNat s.beat) ∧ s.mpw.sumEst ≠ 0 ∧ 8500
      ≤ s.mpw.sumIn * 10000 / s.mpw.sumEst ∧ s.mpw.sumIn * 10000 / s.mpw.sumEst ≤ 11500 ∧ s.f Reg.MPW_STATUS_CAL_HOLD = 0) ∧
    (∃ (s : Machine.State), BitVec.toNat s.beat % 1000 = 0 ∧ s.mpw.calAt ≠ some (BitVec.toNat s.beat) ∧ s.mpw.sumEst ≠ 0 ∧
      (s.mpw.sumIn * 10000 / s.mpw.sumEst < 8500 ∨ 11500 < s.mpw.sumIn * 10000 / s.mpw.sumEst) ∧ s.f Reg.MPW_STATUS_CAL_HOLD =
      0 ∧ 9 ≤ s.mpw.outRun) ∧
    (∃ (s : Machine.State), s.f Reg.MPW_STATUS_FEED_LOW = 0 ∧ 10 ≤ s.mpw.lowRun) ∧
    (∃ (s : Machine.State), s.f Reg.MPW_STATUS_FEED_LOW = 1 ∧ 1000 ≤ s.mpw.highRun) ∧
    (∃ (s : Machine.State) (d : Fin 34) (slack : ℤ), s.mpw.aged.get d.val 0 + 60000000 ≤ BitVec.toNat s.beat ∧ slack <
      ↑(Config.marginFloor d.val) ∧ s.f (Reg.MPW_VOLT_FUSE_MV d.val) + s.f (Reg.MPW_VOLT_OFFSET_MV d.val) + 5 ≤ 500 + s.f
      (Reg.MPW_VOLT_CEIL_MV d.val) ∧ s.f (Reg.MPW_VOLT_OFFSET_MV d.val) ≤ 250) ∧
    (∃ (s : Machine.State) (d : Fin 34) (slack : ℤ), s.mpw.aged.get d.val 0 + 60000000 ≤ BitVec.toNat s.beat ∧ slack <
      ↑(Config.marginFloor d.val) ∧ ¬(s.f (Reg.MPW_VOLT_FUSE_MV d.val) + s.f (Reg.MPW_VOLT_OFFSET_MV d.val) + 5 ≤ 500 + s.f
      (Reg.MPW_VOLT_CEIL_MV d.val) ∧ s.f (Reg.MPW_VOLT_OFFSET_MV d.val) ≤ 250)) :=
  ⟨⟨({ stA with beat := 4001 } : Machine.State), (33 : Fin 34), by decide +kernel⟩,
    ⟨({ stA with mpw := { pin := 290000, eRem := 50 } } : Machine.State), by decide +kernel⟩,
    ⟨({ stA with mpw := { stepAt := some 4000, sumIn := 850, sumEst := 1000 } } : Machine.State), by decide +kernel⟩,
    ⟨({ stA with mpw := { stepAt := some 4000, sumIn := 1151, sumEst := 1000, outRun := 9 } } : Machine.State),
    by decide +kernel⟩, ⟨({ stA.setF Reg.MPW_TJ_TJ_MAX 1090 with mpw := { stepAt := some 4000, lowRun := 10, thermal := 300 } }
    : Machine.State), by decide +kernel⟩,
    ⟨({ stA.setF Reg.MPW_STATUS_FEED_LOW 1 with mpw := { stepAt := some 4000, highRun := 1000 } } : Machine.State),
    by decide +kernel⟩,
    ⟨({ State.reset with beat := 60000001, released := true, mpw := { aged := [(33, 1)] }, regs := [(0xC00184, 0x2BC00000#32 ||| 695#32)] }
    : Machine.State), (33 : Fin 34), (-5 : ℤ), by decide +kernel⟩,
    ⟨({ State.reset with beat := 60000001, released := true, mpw := { aged := [(33, 1)] }, regs := [(0xC00184, 0x0C800000#32 ||| 696#32)] }
    : Machine.State), (33 : Fin 34), (-5 : ℤ), by decide +kernel⟩⟩

theorem witness_HostLetters :
    (∃ (s : Machine.State) (off : BitVec 30) (data : Bytes) (len : ℕ) (width : ℕ) (wide : Bool) (r : Fin 64), s.power = true ∧
      writesAtOnce s ∧ s.f (Reg.HIF_SQ_CFG_EN (off.toNat / 2 ^ 24 % 64)) = 1 ∧ s.f (Reg.HIF_AP_EN (off.toNat / 2 ^ 24 % 64)
      (off.toNat / 2 ^ 21 % 8)) = 1 ∧ data ≠ [] ∧ off.toNat % 64 + List.length data ≤ 64 ∧ 1 ≤ len ∧ off.toNat % 64 + len ≤ 64
      ∧ ((off.toNat % if wide = true then 8 else 4) = 0) ∧ width ≠ 4 ∧ width ≠ 8 ∧ ¬(0 < (s.hif.unsig.get r.val (0, 0)).1 ∧
      (s.hif.unsig.get r.val (0, 0)).2 + 1250 * s.f (Reg.HIF_CQ_CFG_MOD_US r.val) ≤ BitVec.toNat s.beat * 1250 + s.cycle + 1)) ∧
    (∃ (s : Machine.State) (off : BitVec 30) (data : Bytes) (len : ℕ), (s.f (Reg.HIF_SQ_CFG_EN (off.toNat / 2 ^ 24 % 64)) = 0 ∨
      s.f (Reg.HIF_AP_EN (off.toNat / 2 ^ 24 % 64) (off.toNat / 2 ^ 21 % 8)) = 0 ∨ s.mstate = 4) ∧ data ≠ [] ∧ 1 ≤ len ∧ len ≤
      512) ∧
    (∃ (s : Machine.State) (rest : List Reply) (r : Reply) (qq : Fin 64) (id : ℕ), s.replies = r :: rest ∧ r.dest =
      ReplyTo.host qq id ∧ (∀ l ∈ s.hif.sent, l.id ≠ id)) ∧
    (∃ (s : Machine.State) (rest : List Reply) (r : Reply) (qq : Fin 64) (id : ℕ) (l : HLetter) (acc : Access), s.replies = r
      :: rest ∧ r.dest = ReplyTo.host qq id ∧ l.id = id ∧ s.hif.sent = [l] ∧ l.access ≠ 0 ∧ acc.id = l.access ∧ s.hif.accs =
      [acc] ∧ acc.got = [(l.seq, none)] ∧ r.status = 0 ∧ s.f (Reg.HIF_SQ_CFG_REPORT l.q) = 0) ∧
    (∃ (s : Machine.State) (acc : Access), s.hif.accs = [acc] ∧ s.hif.sent = [] ∧ (acc.read = false ∨ s.released = true ∧
      BitVec.toNat s.beat < acc.beat + 50000)) ∧
    (∃ (s : Machine.State) (acc : Access), s.hif.accs = [acc] ∧ s.hif.sent = [] ∧ acc.read = true ∧ (s.released = false ∨
      acc.beat + 50000 ≤ BitVec.toNat s.beat)) ∧
    (∃ (s : Machine.State) (r : Fin 64), 0 < (s.hif.unsig.get r.val (0, 0)).1 ∧ (s.hif.unsig.get r.val (0, 0)).2 + 1250 * s.f
      (Reg.HIF_CQ_CFG_MOD_US r.val) ≤ BitVec.toNat s.beat * 1250 + s.cycle + 1 ∧ BitVec.toNat (s.rd (14155788 + 16 * s.f
      (Reg.HIF_CQ_CFG_VECTOR r.val))) % 2 = 0) :=
  ⟨⟨(apSt 0 : Machine.State), (0x3FFFFFC0 : BitVec 30), (List.replicate 64 7 : Bytes), (64 : ℕ), (16 : ℕ), (true : Bool), (63 :
    Fin 64), by decide +kernel⟩, ⟨((apSt 1).setF (Reg.HIF_AP_EN 63 7) 0 : Machine.State), (0x3FFFFFC0 : BitVec 30), ([7] :
    Bytes), (512 : ℕ), by decide +kernel⟩,
    ⟨({ stA with replies := [repA], hif := { sent := [{ hltA with id := 4 }], accs := [accA], next := 3 } } : Machine.State),
    ([] : List Reply), (repA : Reply), (63 : Fin 64), (5 : ℕ), by decide +kernel⟩,
    ⟨({ stA with replies := [repA], hif := { sent := [hltA], accs := [accA], next := 3 } } : Machine.State), ([] : List Reply),
    (repA : Reply), (63 : Fin 64), (5 : ℕ), (hltA : HLetter), (accA : Access), by decide +kernel⟩,
    ⟨({ stA with beat := 53999, hif := { accs := [accA], next := 3 } } : Machine.State), (accA : Access), by decide +kernel⟩,
    ⟨({ stA with beat := 54000, hif := { accs := [accA], next := 3 } } : Machine.State), (accA : Access), by decide +kernel⟩,
    ⟨({ (((stA.setF (Reg.HIF_CQ_CFG_MOD_US 63) 10).setF (Reg.HIF_CQ_CFG_VECTOR 63) 7).setF Reg.HIF_LINK_BME 1) with hif := { unsig := [(63, (1, 4988501))] }, regs := (((stA.setF (Reg.HIF_CQ_CFG_MOD_US 63) 10).setF (Reg.HIF_CQ_CFG_VECTOR 63) 7).setF Reg.HIF_LINK_BME 1).regs.put 0xD8007C 0 1 }
    : Machine.State), (63 : Fin 64), by decide +kernel⟩⟩

theorem witness_MemoryAndRegisterReads :
    (∃ (s : Machine.State) (off : BitVec 38) (data : Bytes) (len : ℕ), s.power = true ∧ data ≠ [] ∧ s.retrains (off.toNat / 2 ^
      33) (off.toNat % 2 ^ 33) (List.length data) = true ∧ 1 ≤ len ∧ len ≤ 4096 ∧ s.retrains (off.toNat / 2 ^ 33) (off.toNat %
      2 ^ 33) len = true) ∧
    (∃ (s : Machine.State) (off : BitVec 38) (data : Bytes) (len : ℕ) (r : BitVec 25) (i : Word) (cmd : Byte), s.power = true ∧
      data ≠ [] ∧ off.toNat % 2 ^ 33 + List.length data ≤ 2 ^ 33 ∧ s.retrains (off.toNat / 2 ^ 33) (off.toNat % 2 ^ 33)
      (List.length data) = false ∧ s.bup.dram = true ∧ s.held (off.toNat / 2 ^ 33) = false ∧ ¬(off.toNat / 2 ^ 33 ≤ 1 ∧
      off.toNat % 2 ^ 33 < 6979321856 ∧ 4294967296 < off.toNat % 2 ^ 33 + List.length data) ∧ ¬((s.manOf (off.toNat / 2 ^
      33)).isSome = true ∧ off.toNat % 2 ^ 33 < 8321499136 + 134217728 * s.f (Reg.MAN_STATUS_INFORCE_HALF (off.toNat / 2 ^ 33))
      + 134217728 ∧ 8321499136 + 134217728 * s.f (Reg.MAN_STATUS_INFORCE_HALF (off.toNat / 2 ^ 33)) < off.toNat % 2 ^ 33 +
      List.length data) ∧ 1 ≤ len ∧ len ≤ 4096 ∧ off.toNat % 2 ^ 33 + len ≤ 2 ^ 33 ∧ s.retrains (off.toNat / 2 ^ 33) (off.toNat
      % 2 ^ 33) len = false ∧ ((∀ e ∈ pairs, ∀ j < e.2.2, r.toNat / 4 * 4 ≠ e.1 + e.2.1 * j ∧ r.toNat / 4 * 4 ≠ e.1 + e.2.1 * j
      + 4) ∧ r.toNat / 4 * 4 ≠ 13631500 ∧ r.toNat / 4 * 4 ≠ 15728648 ∧ r.toNat / 4 * 4 ≠ 1048592 ∧ (r.toNat / 4 * 4 < 14680096
      ∨ 14680128 ≤ r.toNat / 4 * 4) ∧ (r.toNat / 4 * 4 < 19136512 ∨ 19660800 ≤ r.toNat / 4 * 4) ∧ (r.toNat / 4 * 4 < 20447232 ∨
      20971520 ≤ r.toNat / 4 * 4) ∧ s.twn.mirror = []) ∧ r.toNat % 4 + len ≤ 4 ∧ (inHif (r.toNat / 4 * 4) = false ∧ (alwaysOn
      (r.toNat / 4 * 4) = true ∨ s.mainServes = true)) ∧ (s.f Reg.EVL_TAIL_TAIL ≤ BitVec.toNat i ∨ s.f Reg.EVL_STATUS_CLEARING
      = 1) ∧ cmd ≠ 4 ∧ s.released = true ∧ s.mstate ≠ 6) ∧
    (∃ (s : Machine.State) (off : BitVec 38) (data : Bytes) (len : ℕ), s.power = true ∧ data ≠ [] ∧ off.toNat % 2 ^ 33 +
      List.length data ≤ 2 ^ 33 ∧ s.retrains (off.toNat / 2 ^ 33) (off.toNat % 2 ^ 33) (List.length data) = false ∧
      ¬(s.bup.dram = true ∧ s.held (off.toNat / 2 ^ 33) = false) ∧ 1 ≤ len ∧ len ≤ 4096 ∧ off.toNat % 2 ^ 33 + len ≤ 2 ^ 33 ∧
      s.retrains (off.toNat / 2 ^ 33) (off.toNat % 2 ^ 33) len = false) ∧
    (∃ (s : Machine.State) (off : BitVec 38) (data : Bytes), s.power = true ∧ data ≠ [] ∧ off.toNat % 2 ^ 33 + List.length data
      ≤ 2 ^ 33 ∧ s.retrains (off.toNat / 2 ^ 33) (off.toNat % 2 ^ 33) (List.length data) = false ∧ s.bup.dram = true ∧ s.held
      (off.toNat / 2 ^ 33) = false ∧ off.toNat / 2 ^ 33 ≤ 1 ∧ off.toNat % 2 ^ 33 < 6979321856 ∧ 4294967296 < off.toNat % 2 ^ 33
      + List.length data) ∧
    (∃ (s : Machine.State) (off : BitVec 38) (data : Bytes), s.power = true ∧ data ≠ [] ∧ off.toNat % 2 ^ 33 + List.length data
      ≤ 2 ^ 33 ∧ s.retrains (off.toNat / 2 ^ 33) (off.toNat % 2 ^ 33) (List.length data) = false ∧ s.bup.dram = true ∧ s.held
      (off.toNat / 2 ^ 33) = false ∧ ¬(off.toNat / 2 ^ 33 ≤ 1 ∧ off.toNat % 2 ^ 33 < 6979321856 ∧ 4294967296 < off.toNat % 2 ^
      33 + List.length data) ∧ (s.manOf (off.toNat / 2 ^ 33)).isSome = true ∧ off.toNat % 2 ^ 33 < 8321499136 + 134217728 * s.f
      (Reg.MAN_STATUS_INFORCE_HALF (off.toNat / 2 ^ 33)) + 134217728 ∧ 8321499136 + 134217728 * s.f
      (Reg.MAN_STATUS_INFORCE_HALF (off.toNat / 2 ^ 33)) < off.toNat % 2 ^ 33 + List.length data) ∧
    (∃ (s : Machine.State) (r : BitVec 25), s.power = true ∧ (¬(inHif (r.toNat / 4 * 4) = false ∧ (alwaysOn (r.toNat / 4 * 4) =
      true ∨ s.mainServes = true))) ∧ ¬(s.released = true ∧ s.mstate ≠ 6)) ∧
    (∃ (s : Machine.State) (i : Word), s.power = true ∧ BitVec.toNat i < s.f Reg.EVL_TAIL_TAIL ∧ s.f Reg.EVL_STATUS_CLEARING =
      0) ∧
    (∃ (s : Machine.State) (cmd : Byte), s.power = true ∧ cmd = 4) :=
  ⟨⟨({ dramSt with bup := { dram := true, channel := some 63 } } : Machine.State), (0x3FEFFFFFFF : BitVec 38), ([1] : Bytes),
    (1 : ℕ), by decide +kernel⟩, ⟨(dramSt : Machine.State), (0x3FEFFFFFFF : BitVec 38), ([1] : Bytes), (1 : ℕ), (0x100 : BitVec
    25), (0 : Word), (3 : Byte), by decide +kernel⟩, ⟨(stA : Machine.State), (0x3FFFFFF000 : BitVec 38), ([1, 2] : Bytes),
    (4096 : ℕ), by decide +kernel⟩, ⟨(dramSt : Machine.State), (0x39FFFFFFF : BitVec 38), ([1] : Bytes), by decide +kernel⟩,
    ⟨(dramSt.setF (Reg.MAN_STATUS_INFORCE_HALF 31) 1 : Machine.State), (0x3FFFFFFFC0 : BitVec 38), (List.replicate 64 9 :
    Bytes), by decide +kernel⟩, ⟨(ms 6 stA : Machine.State), (0xD00000 : BitVec 25), by decide +kernel⟩,
    ⟨({ stA.setF Reg.EVL_TAIL_TAIL 1 with evl := { recs := [(0, { code := 0x101, mark := 0xA5 })] }, beat := 0xFFFFFFFFFF } :
    Machine.State), (0 : Word), by decide +kernel⟩, ⟨(stA.setF Reg.EVL_TAIL_TAIL 2 : Machine.State), (4 : Byte),
    by decide +kernel⟩⟩

theorem witness_EndpointAndFirmware :
    (∃ (s : Machine.State) (d : Fin 4), d.val = s.hif.dState) ∧
    (∃ (s : Machine.State) (d : Fin 4), d.val ≠ s.hif.dState ∧ s.f Reg.HIF_FW_STATUS_AGENT = 0) ∧
    (∃ (s : Machine.State) (comp : BitVec 16) (before : Bytes), s.f Reg.HIF_FW_STATUS_AGENT ≠ 0 ∧ (comp = 1 ∨ comp = 2) ∧
      (s.hif.fwPart = if before = [] then none else some (comp.toNat, before)) ∧ s.hif.fwDone = [] ∧ s.released = true ∧
      BitVec.toNat s.beat < s.hif.fwAt + 120000000) ∧
    (∃ (s : Machine.State) (comp : BitVec 16), s.f Reg.HIF_FW_STATUS_AGENT ≠ 0 ∧ comp ≠ 1 ∧ comp ≠ 2) ∧
    (∃ (s : Machine.State), s.f Reg.HIF_FW_STATUS_AGENT ≠ 0 ∧ s.hif.fwDone = [1]) ∧
    (∃ (s : Machine.State), s.f Reg.HIF_FW_STATUS_AGENT ≠ 0 ∧ s.hif.fwDone = [2]) ∧
    (∃ (s : Machine.State), s.f Reg.HIF_FW_STATUS_AGENT ≠ 0 ∧ s.released = true ∧ s.hif.fwAt + 120000000 ≤ BitVec.toNat s.beat) :=
  ⟨⟨({ (stA.setF Reg.HIF_LINK_BME 1) with hif := { dState := 3 } } : Machine.State), (3 : Fin 4), by decide +kernel⟩,
    ⟨({ (apSt 0).setF (Reg.HIF_SB_STATUS_EID) 5 with hif := { sent := [hltA], dynAddr := some 3 } } : Machine.State), (3 : Fin
    4), by decide +kernel⟩, ⟨(stA.setF Reg.HIF_FW_STATUS_AGENT 2 : Machine.State), (2 : BitVec 16), ([] : Bytes),
    by decide +kernel⟩, ⟨(stA.setF Reg.HIF_FW_STATUS_AGENT 1 : Machine.State), (3 : BitVec 16), by decide +kernel⟩,
    ⟨({ stA.setF Reg.HIF_FW_STATUS_AGENT 2 with hif := { fwDone := [1] } } : Machine.State), by decide +kernel⟩,
    ⟨({ stA.setF Reg.HIF_FW_STATUS_AGENT 1 with hif := { fwDone := [2], fwPart := some (2, [1, 2]) } } : Machine.State),
    by decide +kernel⟩,
    ⟨({ stA.setF Reg.HIF_FW_STATUS_AGENT 1 with hif := { fwDone := [1, 2], fwAt := 4000 }, beat := 120004000 } :
    Machine.State), by decide +kernel⟩⟩

theorem witness_ManifestLoads :
    (∃ (s : Machine.State) (p : Fin 32), (s.f (Reg.MAN_STATUS_STATE p.val) = 1 ∨ s.f (Reg.MAN_STATUS_STATE p.val) = 2) ∧ s.f
      (Reg.MAN_STATUS_STATE p.val) = 1 ∧ (s.part p.val).deciding = false ∧ (s.part p.val).swapAt = none ∧ s.frankerFor 5 =
      true) ∧
    (∃ (s : Machine.State) (p : Fin 32), (s.f (Reg.MAN_STATUS_STATE p.val) = 0 ∨ s.f (Reg.MAN_STATUS_STATE p.val) = 3) ∧
      s.mstate = 1 ∧ s.bup.asked9 = false) ∧
    (∃ (s : Machine.State) (p : Fin 32), ((s.mstate ≠ 1 ∨ s.bup.asked9 = true) ∧ (s.part p.val).deciding = false ∧ (s.part
      p.val).swapAt = none ∧ (s.f (Reg.MAN_STATUS_SERVICE_LOCK p.val) = 0 ∨ s.mstate ≠ 3 ∧ s.mstate ≠ 4)) ∧ (s.f
      (Reg.MAN_STATUS_STATE p.val) = 0 ∨ s.f (Reg.MAN_STATUS_STATE p.val) = 3) ∧ s.f (Reg.RCV_PART_STATE_PSTATE p.val) ≠ 3 ∧
      s.f (Reg.MAN_STATUS_STATE p.val) = 3) ∧
    (∃ (s : Machine.State) (p : Fin 32), ¬(s.f (Reg.MAN_STATUS_STATE p.val) = 1 ∧ (s.part p.val).deciding = false ∧ (s.part
      p.val).swapAt = none ∧ s.frankerFor 5 = true)) :=
  ⟨⟨(manSt 3 1 { candHalf := true } : Machine.State), (31 : Fin 32), by decide +kernel⟩, ⟨(manSt 1 0 {} : Machine.State), (31 :
    Fin 32), by decide +kernel⟩, ⟨({ manSt 1 3 { man := some manA } with bup := { asked9 := true } } : Machine.State), (31 :
    Fin 32), by decide +kernel⟩, ⟨(manSt 3 2 { wroteAt := some 0 } : Machine.State), (31 : Fin 32), by decide +kernel⟩⟩

theorem witness_ManifestSwaps :
    (∃ (s : Machine.State) (p : Fin 32), (s.part p.val).deciding = true ∧ (s.part p.val).passedAt < BitVec.toNat s.beat ∧ (∀ q
      < p.val, (s.part q).deciding = false) ∧ (∀ (m : Man), (s.part p.val).cand = some m → s.crossFault p.val m = none) ∧
      (s.part p.val).swapAt = none ∧ (s.f (Reg.MAN_STATUS_STATE p.val) ≠ 2 ∨ (s.part p.val).wroteAt ≠ some 0) ∧ (s.part
      p.val).wroteAt = none) ∧
    (∃ (s : Machine.State) (p : Fin 32), (∀ q ≤ p.val, (s.part q).deciding = false ∨ BitVec.toNat s.beat ≤ (s.part
      q).passedAt)) ∧
    (∃ (s : Machine.State) (p : Fin 32) (S : ℕ), (s.part p.val).swapAt = some S ∧ BitVec.toNat s.beat < S) ∧
    (∃ (s : Machine.State) (p : Fin 32) (S : ℕ), (s.part p.val).swapAt = some S ∧ S ≤ BitVec.toNat s.beat) ∧
    (∃ (s : Machine.State) (p : Fin 32), s.f (Reg.MAN_STATUS_STATE p.val) = 2 ∧ (s.part p.val).wroteAt = some 0) ∧
    (∃ (s : Machine.State) (p : Fin 32) (e : ℕ), (s.part p.val).wroteAt = some e ∧ (BitVec.toNat s.beat < e ∨ e = 0 ∨ s.f
      (Reg.MAN_STATUS_STATE p.val) ≠ 2)) ∧
    (∃ (s : Machine.State) (p : Fin 32) (e : ℕ), (s.part p.val).wroteAt = some e ∧ s.f (Reg.MAN_STATUS_STATE p.val) = 2 ∧ 0 < e
      ∧ e ≤ BitVec.toNat s.beat ∧ (∀ (m : Man), (s.part p.val).cand = some m → m.shelf = false ∧ m.loops = [])) :=
  ⟨⟨(manSt 3 3 { man := some manA, deciding := true, unload := true, passedAt := 3999 } : Machine.State), (31 : Fin 32),
    by decide +kernel⟩, ⟨(manSt 3 1 { deciding := true, cand := some manA, passedAt := 4000 } : Machine.State), (31 : Fin 32),
    by decide +kernel⟩, ⟨(manSt 3 1 { cand := some manA, swapAt := some 4001 } : Machine.State), (31 : Fin 32), (4001 : ℕ),
    by decide +kernel⟩,
    ⟨({ cellSt cellA with beat := 4000, parts := [(31, { man := some manA, cand := some manA, swapAt := some 4000 })] } :
    Machine.State), (31 : Fin 32), (4000 : ℕ), by decide +kernel⟩,
    ⟨({ (cellSt cellA).setF (Reg.MAN_STATUS_STATE 31) 2 with beat := 4000, parts := [(31, { cand := some manA, held := true, wroteAt := some 0 })] }
    : Machine.State), (31 : Fin 32), by decide +kernel⟩, ⟨(manSt 3 2 { cand := some manA, held := true, wroteAt := some 4001 }
    : Machine.State), (31 : Fin 32), (4001 : ℕ), by decide +kernel⟩, ⟨(manSt 3 2
    { cand := some manA, held := true, wroteAt := some 4000 } : Machine.State), (31 : Fin 32), (4000 : ℕ), by decide +kernel⟩⟩

theorem witness_FaultsTakeRungs :
    (∃ (s : Machine.State), s.rcv.rungs = [] ∧ s.rcv.starts = [] ∧ s.rcv.chipStarts = [] ∧ 1 ≤ s.lf Reg.RCV_CFG_CHIP_LIMIT ∧ 1
      ≤ s.lf Reg.RCV_CFG_ENG_LIMIT ∧ 1 ≤ s.lf Reg.RCV_CFG_PART_LIMIT ∧ s.released = true ∧ 1000 ≤ s.still 84 ∧ (∃ b ∈
      s.stg.boards, b.2.trained = true) ∧ 2 ≤ s.still 80) ∧
    (∃ (s : Machine.State) (p : Fin 32) (e : Fin 64) (u : BitVec 7), s.rcv.rungs = [] ∧ s.rcv.starts = [] ∧ s.rcv.chipStarts =
      [] ∧ 1 ≤ s.lf Reg.RCV_CFG_CHIP_LIMIT ∧ 1 ≤ s.lf Reg.RCV_CFG_ENG_LIMIT ∧ 1 ≤ s.lf Reg.RCV_CFG_PART_LIMIT ∧ s.released =
      true ∧ s.still 84 < 1000 ∧ (∃ b ∈ s.stg.boards, b.2.trained = true) ∧ s.still 80 < 2 ∧ u.toNat ≤ 65 ∧ s.f
      (Reg.MAN_STATUS_STATE p.val) ≠ 3 ∧ (∀ l < 8, s.lstate (8 * e.val + l) = 0) ∧ s.ldgRuns = false ∧ s.serving = 0 ∧ s.f
      Reg.TWN_CFG_MODE = 0 ∧ s.hif.accs = [] ∧ s.hif.sent = [] ∧ (∀ g ∈ s.rcv.faults, BitVec.toNat s.beat ≤ g.beat)) ∧
    (∃ (s : Machine.State) (p : Fin 32) (c : Fin 20), s.rcv.rungs = [] ∧ s.rcv.starts = [] ∧ s.rcv.chipStarts = [] ∧ 1 ≤ s.lf
      Reg.RCV_CFG_CHIP_LIMIT ∧ 1 ≤ s.lf Reg.RCV_CFG_ENG_LIMIT ∧ 1 ≤ s.lf Reg.RCV_CFG_PART_LIMIT ∧ s.f (Reg.MAN_STATUS_STATE
      p.val) = 3 ∧ s.held p.val = false ∧ 2 ≤ s.still (1000 + 20 * p.val + c.val)) ∧
    (∃ (s : Machine.State) (p : Fin 32) (c : Fin 20), s.rcv.rungs = [] ∧ s.rcv.starts = [] ∧ s.rcv.chipStarts = [] ∧ 1 ≤ s.lf
      Reg.RCV_CFG_CHIP_LIMIT ∧ 1 ≤ s.lf Reg.RCV_CFG_ENG_LIMIT ∧ 1 ≤ s.lf Reg.RCV_CFG_PART_LIMIT ∧ s.f (Reg.MAN_STATUS_STATE
      p.val) = 3 ∧ s.held p.val = false ∧ s.still (1000 + 20 * p.val + c.val) < 2) ∧
    (∃ (s : Machine.State) (e : Fin 64) (l : ℕ), s.rcv.rungs = [] ∧ s.rcv.starts = [] ∧ s.rcv.chipStarts = [] ∧ 1 ≤ s.lf
      Reg.RCV_CFG_CHIP_LIMIT ∧ 1 ≤ s.lf Reg.RCV_CFG_ENG_LIMIT ∧ 1 ≤ s.lf Reg.RCV_CFG_PART_LIMIT ∧ l < 8 ∧ s.lstate (8 * e.val +
      l) ≠ 0 ∧ 2 ≤ s.still e.val) ∧
    (∃ (s : Machine.State) (e : Fin 64) (l : ℕ), s.rcv.rungs = [] ∧ s.rcv.starts = [] ∧ s.rcv.chipStarts = [] ∧ 1 ≤ s.lf
      Reg.RCV_CFG_CHIP_LIMIT ∧ 1 ≤ s.lf Reg.RCV_CFG_ENG_LIMIT ∧ 1 ≤ s.lf Reg.RCV_CFG_PART_LIMIT ∧ l < 8 ∧ s.lstate (8 * e.val +
      l) ≠ 0 ∧ s.still e.val < 2) ∧
    (∃ (s : Machine.State), s.rcv.rungs = [] ∧ s.rcv.starts = [] ∧ s.rcv.chipStarts = [] ∧ 1 ≤ s.lf Reg.RCV_CFG_CHIP_LIMIT ∧ 1
      ≤ s.lf Reg.RCV_CFG_ENG_LIMIT ∧ 1 ≤ s.lf Reg.RCV_CFG_PART_LIMIT ∧ s.ldgRuns = true ∧ 2000 ≤ s.still 64) ∧
    (∃ (s : Machine.State), s.rcv.rungs = [] ∧ s.rcv.starts = [] ∧ s.rcv.chipStarts = [] ∧ 1 ≤ s.lf Reg.RCV_CFG_CHIP_LIMIT ∧ 1
      ≤ s.lf Reg.RCV_CFG_ENG_LIMIT ∧ 1 ≤ s.lf Reg.RCV_CFG_PART_LIMIT ∧ s.ldgRuns = true ∧ s.still 64 < 2000 ∧ s.serving ≠ 0 ∧
      s.still 65 < 200000) ∧
    (∃ (s : Machine.State), s.rcv.rungs = [] ∧ s.rcv.starts = [] ∧ s.rcv.chipStarts = [] ∧ 1 ≤ s.lf Reg.RCV_CFG_CHIP_LIMIT ∧ 1
      ≤ s.lf Reg.RCV_CFG_ENG_LIMIT ∧ 1 ≤ s.lf Reg.RCV_CFG_PART_LIMIT ∧ s.serving ≠ 0 ∧ 200000 ≤ s.still 65) ∧
    (∃ (s : Machine.State), s.rcv.rungs = [] ∧ s.rcv.starts = [] ∧ s.rcv.chipStarts = [] ∧ 1 ≤ s.lf Reg.RCV_CFG_CHIP_LIMIT ∧ 1
      ≤ s.lf Reg.RCV_CFG_ENG_LIMIT ∧ 1 ≤ s.lf Reg.RCV_CFG_PART_LIMIT ∧ (∃ b ∈ s.mon.cmus, b.2.mapped = true) ∧ 10000 ≤ s.still
      81) ∧
    (∃ (s : Machine.State), s.rcv.rungs = [] ∧ s.rcv.starts = [] ∧ s.rcv.chipStarts = [] ∧ 1 ≤ s.lf Reg.RCV_CFG_CHIP_LIMIT ∧ 1
      ≤ s.lf Reg.RCV_CFG_ENG_LIMIT ∧ 1 ≤ s.lf Reg.RCV_CFG_PART_LIMIT ∧ (∃ b ∈ s.mon.cmus, b.2.mapped = true) ∧ s.still 81 <
      10000) ∧
    (∃ (s : Machine.State), s.rcv.rungs = [] ∧ s.rcv.starts = [] ∧ s.rcv.chipStarts = [] ∧ 1 ≤ s.lf Reg.RCV_CFG_CHIP_LIMIT ∧ 1
      ≤ s.lf Reg.RCV_CFG_ENG_LIMIT ∧ 1 ≤ s.lf Reg.RCV_CFG_PART_LIMIT ∧ s.f Reg.TWN_CFG_MODE = 1 ∧ 2 ≤ s.still 82) ∧
    (∃ (s : Machine.State), s.rcv.rungs = [] ∧ s.rcv.starts = [] ∧ s.rcv.chipStarts = [] ∧ 1 ≤ s.lf Reg.RCV_CFG_CHIP_LIMIT ∧ 1
      ≤ s.lf Reg.RCV_CFG_ENG_LIMIT ∧ 1 ≤ s.lf Reg.RCV_CFG_PART_LIMIT ∧ s.f Reg.TWN_CFG_MODE = 1 ∧ s.still 82 < 2) ∧
    (∃ (s : Machine.State), s.rcv.rungs = [] ∧ s.rcv.starts = [] ∧ s.rcv.chipStarts = [] ∧ 1 ≤ s.lf Reg.RCV_CFG_CHIP_LIMIT ∧ 1
      ≤ s.lf Reg.RCV_CFG_ENG_LIMIT ∧ 1 ≤ s.lf Reg.RCV_CFG_PART_LIMIT ∧ (s.hif.accs ≠ [] ∨ s.hif.sent ≠ []) ∧ 1000 ≤ s.still 83) ∧
    (∃ (s : Machine.State), s.rcv.rungs = [] ∧ s.rcv.starts = [] ∧ s.rcv.chipStarts = [] ∧ 1 ≤ s.lf Reg.RCV_CFG_CHIP_LIMIT ∧ 1
      ≤ s.lf Reg.RCV_CFG_ENG_LIMIT ∧ 1 ≤ s.lf Reg.RCV_CFG_PART_LIMIT ∧ (s.hif.accs ≠ [] ∨ s.hif.sent ≠ []) ∧ s.still 83 < 1000) ∧
    (∃ (s : Machine.State) (u : BitVec 7), s.rcv.rungs = [] ∧ s.rcv.starts = [] ∧ s.rcv.chipStarts = [] ∧ 1 ≤ s.lf
      Reg.RCV_CFG_CHIP_LIMIT ∧ 1 ≤ s.lf Reg.RCV_CFG_ENG_LIMIT ∧ 1 ≤ s.lf Reg.RCV_CFG_PART_LIMIT ∧ 65 < u.toNat) ∧
    (∃ (s : Machine.State), s.released = false) ∧
    (∃ (s : Machine.State) (f : FaultRec), s.rcv.faults = [f] ∧ f.beat < BitVec.toNat s.beat ∧ f.rung = 2 ∧ f.unit < 128 ∧ (∀ r
      ∈ s.rcv.rungs, r.rung ≠ 2)) ∧
    (∃ (s : Machine.State) (f : FaultRec), s.rcv.faults = [f] ∧ f.beat < BitVec.toNat s.beat ∧ f.rung = 1 ∧ f.unit / 1024 < 32
      ∧ s.held (f.unit / 1024) = false ∧ s.rcv.rungs = [] ∧ s.progCells (f.unit / 1024) (f.unit % 1024) ≠ []) ∧
    (∃ (s : Machine.State) (f : FaultRec), s.rcv.faults = [f] ∧ f.beat < BitVec.toNat s.beat ∧ f.rung = 3 ∧ f.out = false ∧
      f.reason = 23 ∧ f.unit < 32 ∧ s.held f.unit = false ∧ s.rcv.rungs = [] ∧ s.f (Reg.MAN_STATUS_STATE f.unit) ≠ 1 ∧ s.f
      (Reg.RCV_PART_STATE_PSTATE f.unit) = 0) ∧
    (∃ (s : Machine.State) (f : FaultRec), s.rcv.faults = [f] ∧ f.beat < BitVec.toNat s.beat ∧ f.rung = 4 ∧ (s.mstate = 6 ∨
      s.feedsLost = true ∨ s.mpw.trip ≠ none)) ∧
    (∃ (s : Machine.State) (f : FaultRec), s.rcv.faults = [f] ∧ f.beat < BitVec.toNat s.beat ∧ f.rung = 4 ∧ s.mstate ≠ 6 ∧
      s.feedsLost = false ∧ s.mpw.trip = none) :=
  ⟨⟨({ rsd with rcv := { still := [(80, 2), (84, 1000)] } } : Machine.State), by decide +kernel⟩, ⟨(rsd : Machine.State), (0 :
    Fin 32), (0 : Fin 64), (0 : BitVec 7), by decide +kernel⟩,
    ⟨({ rsd.setF (Reg.MAN_STATUS_STATE 31) 3 with rcv := { still := [(1639, 2)] } } : Machine.State), (31 : Fin 32), (19 : Fin
    20), by decide +kernel⟩, ⟨(rsd.setF (Reg.MAN_STATUS_STATE 31) 3 : Machine.State), (31 : Fin 32), (19 : Fin 20),
    by decide +kernel⟩, ⟨({ rsd.setF (Reg.LE_LOOP_STATUS_LSTATE 511) 2 with rcv := { still := [(63, 2)] } } : Machine.State),
    (63 : Fin 64), (7 : ℕ), by decide +kernel⟩, ⟨(rsd.setF (Reg.LE_LOOP_STATUS_LSTATE 511) 2 : Machine.State), (63 : Fin 64),
    (7 : ℕ), by decide +kernel⟩, ⟨({ ldgSt with rcv := { still := [(64, 2000)] } } : Machine.State), by decide +kernel⟩,
    ⟨(ldgSt : Machine.State), by decide +kernel⟩,
    ⟨({ ldgSt { closed := [{ batA with sig := none }] } with sec := { keys := [0] }, rcv := { still := [(65, 200000)] } } :
    Machine.State), by decide +kernel⟩,
    ⟨({ rsd with mon := { cmus := [(95, { mapped := true })] }, rcv := { still := [(81, 10000)] } } : Machine.State),
    by decide +kernel⟩, ⟨({ rsd with mon := { cmus := [(95, { mapped := true })] } } : Machine.State), by decide +kernel⟩,
    ⟨({ rsd.setF Reg.TWN_CFG_MODE 1 with rcv := { still := [(82, 2)] } } : Machine.State), by decide +kernel⟩, ⟨(rsd.setF
    Reg.TWN_CFG_MODE 1 : Machine.State), by decide +kernel⟩,
    ⟨({ rsd with hif := { accs := [accA] }, rcv := { still := [(83, 1000)] } } : Machine.State), by decide +kernel⟩,
    ⟨({ rsd with hif := { accs := [accA] } } : Machine.State), by decide +kernel⟩, ⟨(rsd : Machine.State), (127 : BitVec 7),
    by decide +kernel⟩, ⟨(State.reset : Machine.State), by decide +kernel⟩, ⟨(fltSt (flt 2 127) : Machine.State), (flt 2 127 :
    FaultRec), by decide +kernel⟩, ⟨(fltSt (flt 1 31744) : Machine.State), (flt 1 31744 : FaultRec), by decide +kernel⟩,
    ⟨(fltSt (flt 3 31) : Machine.State), (flt 3 31 : FaultRec), by decide +kernel⟩,
    ⟨({ fltSt (flt 4 0 0x13) with mpw := { trip := some (1, 5) } } : Machine.State), (flt 4 0 0x13 : FaultRec),
    by decide +kernel⟩, ⟨(fltSt (flt 4 0 0x13) : Machine.State), (flt 4 0 0x13 : FaultRec), by decide +kernel⟩⟩

theorem witness_RungsEnd :
    (∃ (s : Machine.State) (p : Fin 32) (x : Fin 1024) (u : BitVec 7), (∀ g ∈ s.rcv.rungs, ¬(g.rung = 1 ∧ g.unit = 1024 * p.val
      + x.val)) ∧ (∀ g ∈ s.rcv.rungs, ¬(g.rung = 2 ∧ g.unit = u.toNat)) ∧ (∀ g ∈ s.rcv.rungs, ¬(g.rung = 3 ∧ g.unit = p.val))) ∧
    (∃ (s : Machine.State) (p : Fin 32) (x : Fin 1024) (r : Rung) (m : Man), s.rcv.rungs = [r] ∧ r.rung = 1 ∧ r.unit = 1024 *
      p.val + x.val ∧ s.manOf p.val = some m) ∧
    (∃ (s : Machine.State) (u : BitVec 7) (r : Rung), s.rcv.rungs = [r] ∧ r.rung = 2 ∧ r.unit = 65 ∧ u = 65) ∧
    (∃ (s : Machine.State) (p : Fin 32) (r : Rung), s.rcv.rungs = [r] ∧ r.rung = 3 ∧ r.unit = p.val ∧ r.stage = 0 ∧ (s.manOf
      p.val).isSome = true) ∧
    (∃ (s : Machine.State) (p : Fin 32) (c : CellId) (r : Rung), s.rcv.rungs = [r] ∧ r.rung = 3 ∧ r.unit = p.val ∧ r.stage ≠ 0
      ∧ r.stage = 1 ∧ (∀ q < 32, ∃ j < 20, s.deadClusters.contains (20 * q + j) = false) ∧ clusterOf (cellNo c) ∈ r.tests ∧
      s.deadCells = []) ∧
    (∃ (s : Machine.State) (p : Fin 32) (r : Rung) (m0 : Man), s.rcv.rungs = [r] ∧ r.rung = 3 ∧ r.unit = p.val ∧ r.stage = 2 ∧
      s.manOf p.val = some m0) ∧
    (∃ (s : Machine.State) (p : Fin 32) (r : Rung) (e : ℕ), s.rcv.rungs = [r] ∧ r.rung = 3 ∧ r.unit = p.val ∧ r.stage = 3 ∧
      r.wroteAt = some e ∧ BitVec.toNat s.beat < e) ∧
    (∃ (s : Machine.State) (p : Fin 32) (r : Rung) (e : ℕ), s.rcv.rungs = [r] ∧ r.rung = 3 ∧ r.unit = p.val ∧ r.stage = 3 ∧
      r.wroteAt = some e ∧ e ≤ BitVec.toNat s.beat) ∧
    (∃ (s : Machine.State) (v : Word), s.mstate ≠ 1 ∧ s.mstate ≠ 2 ∧ BitVec.toNat v / 2 ^ 31 = 1) ∧
    (∃ (s : Machine.State) (v : Word), (s.mstate = 1 ∨ s.mstate = 2) ∧ (BitVec.toNat v % 8 = 0 ∨ 4 ≤ BitVec.toNat v % 8)) ∧
    (∃ (s : Machine.State) (v : Word), (s.mstate = 1 ∨ s.mstate = 2) ∧ BitVec.toNat v / 2 ^ 31 = 1 ∧ BitVec.toNat v % 8 = 2 ∧
      BitVec.toNat v / 256 % 256 < 66 ∧ s.rcv.rungs = []) :=
  ⟨⟨(stA : Machine.State), (31 : Fin 32), (0 : Fin 1024), (0 : BitVec 7), by decide +kernel⟩, ⟨(rngSt (rngA 1 31744 0) :
    Machine.State), (31 : Fin 32), (0 : Fin 1024), (rngA 1 31744 0 : Rung), (manA : Man), by decide +kernel⟩, ⟨(rngSt (rngA 2
    65 0) : Machine.State), (65 : BitVec 7), (rngA 2 65 0 : Rung), by decide +kernel⟩, ⟨(rngSt (rngA 3 31 0) : Machine.State),
    (31 : Fin 32), (rngA 3 31 0 : Rung), by decide +kernel⟩, ⟨(rngSt (rngA 3 31 1 none false [639]) : Machine.State), (31 : Fin
    32), (kA : CellId), (rngA 3 31 1 none false [639] : Rung), by decide +kernel⟩, ⟨(rngSt (rngA 3 31 2) : Machine.State), (31
    : Fin 32), (rngA 3 31 2 : Rung), (manA : Man), by decide +kernel⟩, ⟨(rngSt (rngA 3 31 3 (some 4001)) : Machine.State), (31
    : Fin 32), (rngA 3 31 3 (some 4001) : Rung), (4001 : ℕ), by decide +kernel⟩, ⟨(rngSt (rngA 3 31 3 (some 4000)) :
    Machine.State), (31 : Fin 32), (rngA 3 31 3 (some 4000) : Rung), (4000 : ℕ), by decide +kernel⟩, ⟨(stA : Machine.State),
    (0x80004102 : Word), by decide +kernel⟩, ⟨(ms 1 stA : Machine.State), (0x80004104 : Word), by decide +kernel⟩, ⟨(ms 1 stA :
    Machine.State), (0x80004102 : Word), by decide +kernel⟩⟩

theorem witness_StepTelemetryAndForecasts :
    (∃ (s : Machine.State) (x : Fin 256) (rec : Bytes), (s.grd.telemAddr = 0 ∨ List.length rec ≠ 32) ∧ (s.grd.telem.get x.val
      [] = [] ∨ ¬20000 < (BitVec.toNat s.beat % 2 ^ 32 + 2 ^ 32 - Bits.le (s.grd.telem.get x.val []) 20 4) % 2 ^ 32 ∨
      BitVec.toNat (s.rd (5242992 + 4 * (x.val / 32))) / 2 ^ (x.val % 32) % 2 = 1) ∧ (s.gstate = 0 ∨ s.grd.errRun < 100 ∨ s.f
      Reg.GRD_STATE_FCST_DEGRADED = 1) ∧ (s.grd.okRun < 1000 ∨ s.f Reg.GRD_STATE_FCST_DEGRADED = 0)) ∧
    (∃ (s : Machine.State) (x : Fin 256) (rec : Bytes), s.grd.telemAddr ≠ 0 ∧ List.length rec = 32 ∧ (Bits.byteAt rec 3 ≠ 0 ∨
      Bits.le rec 28 4 ≠ 0 ∨ 4 < BitVec.toNat (Bits.byteAt rec 2) ∨ Bits.le rec 0 2 ≠ x.val)) ∧
    (∃ (s : Machine.State) (x : Fin 256) (rec : Bytes), s.grd.telemAddr ≠ 0 ∧ List.length rec = 32 ∧ (¬(Bits.byteAt rec 3 ≠ 0 ∨
      Bits.le rec 28 4 ≠ 0 ∨ 4 < BitVec.toNat (Bits.byteAt rec 2) ∨ Bits.le rec 0 2 ≠ x.val))) ∧
    (∃ (s : Machine.State) (x : Fin 256), s.grd.telem.get x.val [] ≠ [] ∧ 20000 < (BitVec.toNat s.beat % 2 ^ 32 + 2 ^ 32 -
      Bits.le (s.grd.telem.get x.val []) 20 4) % 2 ^ 32 ∧ ¬BitVec.toNat (s.rd (5242992 + 4 * (x.val / 32))) / 2 ^ (x.val % 32)
      % 2 = 1) ∧
    (∃ (s : Machine.State), s.gstate ≠ 0 ∧ 100 ≤ s.grd.errRun ∧ s.f Reg.GRD_STATE_FCST_DEGRADED = 0) ∧
    (∃ (s : Machine.State), 1000 ≤ s.grd.okRun ∧ s.f Reg.GRD_STATE_FCST_DEGRADED = 1) :=
  ⟨⟨({ stA with grd := { telemAddr := 0 } } : Machine.State), (255 : Fin 256), (recT [(0, 255)] : Bytes), by decide +kernel⟩,
    ⟨({ stA with grd := { telemAddr := 0x100000 } } : Machine.State), (255 : Fin 256), (recT [(0, 255), (3, 1)] : Bytes),
    by decide +kernel⟩, ⟨({ stA with grd := { telemAddr := 0x100000 } } : Machine.State), (255 : Fin 256), (recT [(0, 255), (2,
    4), (20, 0xA0), (21, 0xF), (9, 3)] : Bytes), by decide +kernel⟩,
    ⟨({ stA with beat := 24001, grd := { telemAddr := 0x100000, telem := [(255, recT [(0, 255), (20, 0xA0), (21, 0xF)])] } } :
    Machine.State), (255 : Fin 256), by decide +kernel⟩, ⟨(gSt 2 { errRun := 100, errW := 77 } : Machine.State),
    by decide +kernel⟩, ⟨((gSt 2 { okRun := 1000, fcstAddr := 0x200000 }).setF Reg.GRD_STATE_FCST_DEGRADED 1 : Machine.State),
    by decide +kernel⟩⟩

theorem witness_GridTriggers :
    (∃ (s : Machine.State), s.mstate = 3 ∧ s.gstate ≠ 0 ∧ 3 ≤ s.grd.lostRun ∧ (s.gstate = 2 ∨ s.gstate = 3 ∨ s.gstate = 5)) ∧
    (∃ (s : Machine.State), s.mstate = 3 ∧ s.gstate ≠ 0 ∧ 3 ≤ s.grd.lostRun ∧ s.gstate = 1 ∧ s.f Reg.GRD_STATE_WAIT_GRID = 0) ∧
    (∃ (s : Machine.State), (s.mstate ≠ 3 ∨ s.gstate = 0 ∨ s.grd.lostRun < 3 ∨ s.gstate = 4 ∨ s.gstate = 6) ∧ s.mstate = 3 ∧
      s.gstate = 4 ∧ s.f Reg.GRD_STATE_STOPPING = 1 ∧ s.lf Reg.GRD_THRESH_RETURN_MS * 1000 ≤ s.grd.presRun ∧ (s.gstate ≠ 1 ∨
      s.grd.preRun < 1000) ∧ (s.gstate ≠ 1 ∨ s.f Reg.GRD_STATE_PRE_FAIL = 1 ∨ s.f Reg.GRD_STATE_WAIT_GRID = 1) ∧ writesAtOnce s
      ∧ (s.gstate ≠ 1 ∨ s.f Reg.GRD_STATE_PRE_FAIL = 0) ∧ (s.gstate ≠ 3 ∨ s.grd.under99 < 10) ∧ (s.bud.backstop = 0 ∨
      s.grd.availRun < 1000) ∧ (s.grd.highRun < 10 ∨ s.f Reg.GRD_STATE_RAMP_YIELD = 1) ∧ (s.grd.calmRun < 1000 ∨ s.f
      Reg.GRD_STATE_RAMP_YIELD = 0) ∧ s.gstate ≠ 0 ∧ s.f Reg.GRD_STATE_COOLANT = 0 ∧ s.grd.coolLow < 10 ∧ s.f
      Reg.GRD_CTL_COOLANT_REQ = 0 ∧ (s.f Reg.GRD_STATE_COOLANT = 0 ∨ s.grd.coolDone = true ∨ BitVec.toNat s.beat < s.grd.coolAt
      + 10000) ∧ (s.f Reg.GRD_STATE_COOLANT = 0 ∨ s.grd.coolHigh < 1000000 ∨ s.f Reg.GRD_CTL_COOLANT_REQ = 1) ∧ s.f
      Reg.GRD_STATE_NEIGHBOUR = 0 ∧ s.grd.shelfLow < 10 ∧ s.f Reg.GRD_CTL_NEIGHBOUR_REQ = 0 ∧ s.grd.shareRun < 10 ∧ (s.f
      Reg.GRD_STATE_NEIGHBOUR = 0 ∨ s.grd.quiet < 1000000) ∧ (s.gstate ≠ 5 ∨ s.grd.orphanOn = true ∨ BitVec.toNat s.beat <
      s.grd.orphanAt + 5000000) ∧ (s.grd.missed < 10 ∨ s.f Reg.GRD_STATE_DISPATCH_STALE = 1)) ∧
    (∃ (s : Machine.State), s.ranked 4 = true ∧ s.lf Reg.GRD_THRESH_RETURN_MS * 1000 ≤ s.grd.presRun ∧ s.gstate = 4 ∧ s.f
      Reg.GRD_STATE_STOPPING = 0) ∧
    (∃ (s : Machine.State), s.ranked 4 = true ∧ s.lf Reg.GRD_THRESH_RETURN_MS * 1000 ≤ s.grd.presRun ∧ s.gstate = 1 ∧ s.f
      Reg.GRD_STATE_WAIT_GRID = 1) ∧
    (∃ (s : Machine.State), s.ranked 5 = true ∧ (s.gstate = 2 ∨ s.gstate = 3) ∧ s.f Reg.GRD_STATE_HOST_LOST = 0 ∧ s.f
      Reg.HIF_STATUS_HOST_LOST = 0 ∧ s.hostCause ≠ 0 ∧ ¬s.lf Reg.GRD_THRESH_RETURN_MS * 1000 ≤ s.grd.presRun) ∧
    (∃ (s : Machine.State), s.ranked 8 = true ∧ s.gstate = 1 ∧ 1000 ≤ s.grd.preRun ∧ s.rd 5242952 ≠ 0) ∧
    (∃ (s : Machine.State), s.ranked 8 = true ∧ s.gstate = 1 ∧ s.grd.preRun < 1000 ∧ s.f Reg.GRD_STATE_PRE_FAIL = 0 ∧ s.f
      Reg.GRD_STATE_WAIT_GRID = 0 ∧ s.grd.preAt + s.f Reg.GRD_CFG_PRE_TIMEOUT_S * 1000000 ≤ BitVec.toNat s.beat) ∧
    (∃ (s : Machine.State), s.ranked 8 = true ∧ s.gstate = 1 ∧ s.f Reg.GRD_STATE_PRE_FAIL = 1 ∧ writesAtOnce s) ∧
    (∃ (s : Machine.State), s.ranked 7 = true ∧ s.gstate = 3 ∧ 10 ≤ s.grd.under99) ∧
    (∃ (s : Machine.State), s.bud.backstop ≠ 0 ∧ 1000 ≤ s.grd.availRun) ∧
    (∃ (s : Machine.State), s.mstate = 3 ∧ s.gstate ≠ 0 ∧ s.gstate ≠ 6 ∧ 10 ≤ s.grd.highRun ∧ s.f Reg.GRD_STATE_RAMP_YIELD = 0) ∧
    (∃ (s : Machine.State), s.f Reg.GRD_STATE_RAMP_YIELD = 1 ∧ 1000 ≤ s.grd.calmRun ∧ s.mstate ≠ 4) ∧
    (∃ (s : Machine.State), s.mstate = 3 ∧ s.gstate ≠ 0 ∧ s.f Reg.GRD_STATE_COOLANT = 0 ∧ 10 ≤ s.grd.coolLow) ∧
    (∃ (s : Machine.State), s.mstate = 3 ∧ s.gstate ≠ 0 ∧ s.f Reg.GRD_STATE_COOLANT = 0 ∧ s.grd.coolLow < 10 ∧ s.f
      Reg.GRD_CTL_COOLANT_REQ = 1) ∧
    (∃ (s : Machine.State), s.f Reg.GRD_STATE_COOLANT = 1 ∧ s.grd.coolDone = false ∧ s.grd.coolAt + 10000 ≤ BitVec.toNat s.beat
      ∧ s.mstate = 3 ∧ s.gstate ≠ 0) ∧
    (∃ (s : Machine.State), s.f Reg.GRD_STATE_COOLANT = 1 ∧ 1000000 ≤ s.grd.coolHigh ∧ s.f Reg.GRD_CTL_COOLANT_REQ = 0 ∧
      s.mstate ≠ 4) ∧
    (∃ (s : Machine.State), s.mstate = 3 ∧ s.gstate ≠ 0 ∧ s.f Reg.GRD_STATE_NEIGHBOUR = 0 ∧ 10 ≤ s.grd.shelfLow) ∧
    (∃ (s : Machine.State), s.mstate = 3 ∧ s.gstate ≠ 0 ∧ s.f Reg.GRD_STATE_NEIGHBOUR = 0 ∧ s.grd.shelfLow < 10 ∧ s.f
      Reg.GRD_CTL_NEIGHBOUR_REQ = 1) ∧
    (∃ (s : Machine.State), s.mstate = 3 ∧ s.gstate ≠ 0 ∧ s.f Reg.GRD_STATE_NEIGHBOUR = 0 ∧ s.grd.shelfLow < 10 ∧ s.f
      Reg.GRD_CTL_NEIGHBOUR_REQ = 0 ∧ 10 ≤ s.grd.shareRun) ∧
    (∃ (s : Machine.State), s.f Reg.GRD_STATE_NEIGHBOUR = 1 ∧ 1000000 ≤ s.grd.quiet ∧ s.mstate ≠ 4) ∧
    (∃ (s : Machine.State), s.gstate = 5 ∧ s.grd.orphanOn = false ∧ s.grd.orphanAt + 5000000 ≤ BitVec.toNat s.beat) ∧
    (∃ (s : Machine.State), s.mstate = 3 ∧ s.gstate ≠ 0 ∧ 10 ≤ s.grd.missed ∧ s.f Reg.GRD_STATE_DISPATCH_STALE = 0) :=
  ⟨⟨(gSt 2 { lostRun := 3, refUw := 5, lostMask := 3 } : Machine.State), by decide +kernel⟩, ⟨(gSt 1
    { lostRun := 3, lostMask := 7 } : Machine.State), by decide +kernel⟩, ⟨((gSt 4
    { presRun := 10000000, lossLogged := true, lostMask := 5 }).setF Reg.GRD_STATE_STOPPING 1 : Machine.State),
    by decide +kernel⟩, ⟨((gSt 4 { presRun := 10000000 }).wr 0x500048 5 : Machine.State), by decide +kernel⟩, ⟨((gSt 1
    { presRun := 10000000 }).setF Reg.GRD_STATE_WAIT_GRID 1 : Machine.State), by decide +kernel⟩,
    ⟨({ gSt 2 {} with beat := 103000, hif := { watch := some 3000, hbAt := some 2000 } } : Machine.State), by decide +kernel⟩,
    ⟨((gSt 1 { preRun := 1000 }).wr 0x500048 5 : Machine.State), by decide +kernel⟩,
    ⟨({ gSt 1 { preRun := 999, preAt := 0 } with beat := 1000000000 } : Machine.State), by decide +kernel⟩, ⟨((gSt 1
    { preRun := 999 }).setF Reg.GRD_STATE_PRE_FAIL 1 : Machine.State), by decide +kernel⟩, ⟨(gSt 3 { under99 := 10 } :
    Machine.State), by decide +kernel⟩, ⟨({ gSt 2 { availRun := 1000 } with bud := { backstop := 5 } } : Machine.State),
    by decide +kernel⟩, ⟨(gSt 2 { highRun := 10 } : Machine.State), by decide +kernel⟩, ⟨((gSt 2
    { calmRun := 1000, yieldAt := 10, steepest := 3 }).setF Reg.GRD_STATE_RAMP_YIELD 1 : Machine.State), by decide +kernel⟩,
    ⟨(gSt 2 { coolLow := 10 } : Machine.State), by decide +kernel⟩, ⟨((gSt 2 { coolLow := 9 }).setF Reg.GRD_CTL_COOLANT_REQ 1 :
    Machine.State), by decide +kernel⟩, ⟨({ (gSt 2 { coolAt := 100 }).setF Reg.GRD_STATE_COOLANT 1 with beat := 10100 } :
    Machine.State), by decide +kernel⟩, ⟨((gSt 2 { coolHigh := 1000000 }).setF Reg.GRD_STATE_COOLANT 1 : Machine.State),
    by decide +kernel⟩, ⟨(gSt 2 { shelfLow := 10 } : Machine.State), by decide +kernel⟩, ⟨((gSt 2 { shelfLow := 9 }).setF
    Reg.GRD_CTL_NEIGHBOUR_REQ 1 : Machine.State), by decide +kernel⟩, ⟨(gSt 2 { shelfLow := 9, shareRun := 10 } :
    Machine.State), by decide +kernel⟩, ⟨((gSt 2 { quiet := 1000000, nbrSrc := 2 }).setF Reg.GRD_STATE_NEIGHBOUR 1 :
    Machine.State), by decide +kernel⟩, ⟨({ gSt 5 { orphanAt := 10 } with beat := 5000010 } : Machine.State),
    by decide +kernel⟩, ⟨(gSt 2 { missed := 10 } : Machine.State), by decide +kernel⟩⟩

theorem witness_BudgetsAndSequence :
    (∃ (s : Machine.State) (d : Bytes), BitVec.toNat s.beat % 1000 = 0 ∧ s.bud.at_ ≠ some (BitVec.toNat s.beat) ∧ s.budRuns =
      true ∧ List.filter (fun e => decide (BitVec.toNat s.beat < e.1 + 1000 ∧ e.1 < BitVec.toNat s.beat)) s.bud.pend = [] ∧
      List.length d = 8 ∧ Bits.le d 0 4 ≤ s.f Reg.BUD_PUB_SEQ_SEQ ∧ s.f Reg.BUD_ACK_SEQ_SEQ ≤ Bits.le d 0 4 ∧ Bits.le d 4 4 = 0
      ∧ writesAtOnce s ∧ (s.seqState = 0 ∨ s.seqState = 4) ∧ (s.seqState = 0 ∨ s.seqState = 3) ∧ (s.budRuns = false ∨
      BitVec.toNat s.beat % 1000 ≠ 0 ∨ s.seqState ≠ 1 ∨ s.gate s.seqStage = true) ∧ (s.budRuns = false ∨ BitVec.toNat s.beat %
      1000 ≠ 0 ∨ s.seqState ≠ 3 ∨ s.bud.assertAt ≠ none ∨ BitVec.toNat s.beat < s.bud.stopAt + s.bud.stopNeed) ∧ (s.budRuns =
      false ∨ BitVec.toNat s.beat % 1000 ≠ 0 ∨ s.seqState ≠ 3 ∨ s.stageStops = false)) ∧
    (∃ (s : Machine.State), s.budRuns = true ∧ BitVec.toNat s.beat % 1000 = 0 ∧ s.bud.at_ ≠ some (BitVec.toNat s.beat) ∧
      (s.seqState = 1 ∨ s.seqState = 2 ∨ s.seqState = 4) ∧ (s.bud.stopReq = true ∨ s.f Reg.GRD_STATE_STOPPING = 1)) ∧
    (∃ (s : Machine.State), s.budRuns = true ∧ BitVec.toNat s.beat % 1000 = 0 ∧ s.bud.at_ ≠ some (BitVec.toNat s.beat) ∧
      s.seqState = 0 ∧ s.bud.start = true ∧ s.gridUp = true) ∧
    (∃ (s : Machine.State), s.budRuns = true ∧ BitVec.toNat s.beat % 1000 = 0 ∧ s.bud.at_ ≠ some (BitVec.toNat s.beat) ∧
      s.seqState = 1 ∧ (¬(s.bud.stopReq = true ∨ s.f Reg.GRD_STATE_STOPPING = 1)) ∧ (s.stage 6291456 6303744).gate s.seqStage =
      true) ∧
    (∃ (s : Machine.State), (BitVec.toNat s.beat % 1000 ≠ 0 ∨ s.bud.at_ = some (BitVec.toNat s.beat))) ∧
    (∃ (d : Bytes), List.length d ≠ 8) ∧
    (∃ (s : Machine.State) (d : Bytes), List.length d = 8 ∧ (s.f Reg.BUD_PUB_SEQ_SEQ < Bits.le d 0 4 ∨ Bits.le d 0 4 < s.f
      Reg.BUD_ACK_SEQ_SEQ ∨ Bits.le d 4 4 ≠ 0)) ∧
    (∃ (s : Machine.State), writesAtOnce s ∧ s.seqState ≠ 0 ∧ s.seqState ≠ 4 ∧ (s.seqState = 1 ∨ s.seqState = 2 ∨ s.seqState =
      4)) ∧
    (∃ (s : Machine.State), s.mstate = 4) ∧
    (∃ (s : Machine.State), s.budRuns = true ∧ BitVec.toNat s.beat % 1000 = 0 ∧ s.seqState = 1 ∧ s.gridUp = true ∧ s.gate
      s.seqStage = false ∧ s.lf Reg.BUD_SEQ_CTL_SEQ_TIMEOUT_S * 1000000 ≤ s.bud.ran) ∧
    (∃ (s : Machine.State), s.budRuns = true ∧ BitVec.toNat s.beat % 1000 = 0 ∧ s.seqState = 3 ∧ s.bud.assertAt = none ∧
      s.bud.stopAt + s.bud.stopNeed ≤ BitVec.toNat s.beat ∧ s.stageStops = true) :=
  ⟨⟨(budSt 0 0 {} : Machine.State), (bytesOf 8 [] : Bytes), by decide +kernel⟩, ⟨(budSt 2 4
    { stopReq := true, enabled := 5, released := 5 } : Machine.State), by decide +kernel⟩, ⟨(budSt 0 0 { start := true } :
    Machine.State), by decide +kernel⟩,
    ⟨({ (budSt 1 2 { enabled := 3, released := 2, stageAt := 1000, ackBeat := 1000 }).wr 0x500048 5 with beat := 100000000 } :
    Machine.State), by decide +kernel⟩, ⟨(budSt 0 0 { at_ := some 4000 } : Machine.State), by decide +kernel⟩, ⟨(bytesOf 7 [] :
    Bytes), by decide +kernel⟩, ⟨(((budSt 0 0 { pubs := [⟨5, 1000, 0, false⟩] }).setF Reg.BUD_PUB_SEQ_SEQ 7).setF
    Reg.BUD_ACK_SEQ_SEQ 4 : Machine.State), (bytesOf 8 [(0, 8)] : Bytes), by decide +kernel⟩,
    ⟨({ ((budSt 2 4 { pend := [(3999, pubR)], enabled := 5, released := 5 }).setF Reg.HIF_LINK_DL_UP 1).setF Reg.HIF_LINK_BME 1 with pending := [] }
    : Machine.State), by decide +kernel⟩, ⟨(ms 4 (budSt 2 4 { pend := [(3999, pubR)], enabled := 5, released := 5 }) :
    Machine.State), by decide +kernel⟩,
    ⟨({ (budSt 1 2 { enabled := 3, released := 2, stageAt := 1000, ackBeat := 1000, ran := 10000000000 }) with beat := 100000000 }
    : Machine.State), by decide +kernel⟩, ⟨(budSt 3 2 { enabled := 3, stopAt := 3000, stopNeed := 1000 } : Machine.State),
    by decide +kernel⟩⟩

theorem witness_CellMonitoring :
    (∃ (s : Machine.State) (port : Fin 96) (c : Fin 96) (data : Bytes) (st : Fin 8) (bc : BitVec 7) (bj : BitVec 5), (s.overlap
      = false ∧ s.mon.cfg ≠ [] ∧ (BitVec.toNat s.beat + if s.radio = true then 5000 * s.mon.chain else 50) % (max 1 (s.lf
      Reg.MON_CFG_SWEEP_MS) * 1000) = 0 ∧ s.mon.lastL ≠ BitVec.toNat s.beat + if s.radio = true then 5000 * s.mon.chain else
      50) ∧ (∀ w ∈ s.mon.sweeps.head?, BitVec.toNat s.beat < w.K) ∧ s.cmuAt port.val = some c.val ∧ s.tagOk port.val data =
      true ∧ ¬(Bits.crcOk (s.inner data) 0 (64 - 4) = true ∧ List.length (s.inner data) = 64 ∧ BitVec.toNat (Bits.byteAt
      (s.inner data) 0) = 129) ∧ ¬(Bits.crcOk (s.inner data) 0 (16 - 4) = true ∧ List.length (s.inner data) = 16 ∧ BitVec.toNat
      (Bits.byteAt (s.inner data) 0) = 130) ∧ ¬(Bits.crcOk (s.inner data) 0 (16 - 4) = true ∧ List.length (s.inner data) = 16 ∧
      BitVec.toNat (Bits.byteAt (s.inner data) 0) = 131) ∧ ¬(Bits.crcOk (s.inner data) 0 (16 - 4) = true ∧ List.length (s.inner
      data) = 16 ∧ BitVec.toNat (Bits.byteAt (s.inner data) 0) = 132) ∧ ¬(Bits.crcOk (s.inner data) 0 (16 - 4) = true ∧
      List.length (s.inner data) = 16 ∧ BitVec.toNat (Bits.byteAt (s.inner data) 0) = 133) ∧ (s.mon.cfg = [] ∨ BitVec.toNat
      s.beat % (max 1 (s.lf Reg.MON_REF_CFG_REFCHK_S) * 1000000) ≠ 0 ∨ s.mon.refAt = some (BitVec.toNat s.beat)) ∧ writesAtOnce
      s ∧ bc.toNat = c.val ∧ bj.toNat ≤ 17 ∧ s.isoRefusal st.val = 0) ∧
    (∃ (s : Machine.State), (¬(s.overlap = false ∧ s.mon.cfg ≠ [] ∧ (BitVec.toNat s.beat + if s.radio = true then 5000 *
      s.mon.chain else 50) % (max 1 (s.lf Reg.MON_CFG_SWEEP_MS) * 1000) = 0 ∧ s.mon.lastL ≠ BitVec.toNat s.beat + if s.radio =
      true then 5000 * s.mon.chain else 50))) ∧
    (∃ (s : Machine.State) (w : Sweep) (r : List Sweep), s.mon.sweeps = w :: r ∧ w.K ≤ BitVec.toNat s.beat ∧ s.mon.cmus.sorted
      = true ∧ (∀ e ∈ s.mon.cmus, e.1 < 96)) ∧
    (∃ (s : Machine.State) (port : Fin 96), s.cmuAt port.val = none) ∧
    (∃ (s : Machine.State) (port : Fin 96) (c : Fin 96) (data : Bytes), s.cmuAt port.val = some c.val ∧ s.tagOk port.val data =
      false) ∧
    (∃ (s : Machine.State) (port : Fin 96) (c : Fin 96) (data : Bytes), s.cmuAt port.val = some c.val ∧ s.tagOk port.val data =
      true ∧ Bits.crcOk (s.inner data) 0 (64 - 4) = true ∧ List.length (s.inner data) = 64 ∧ BitVec.toNat (Bits.byteAt (s.inner
      data) 0) = 129 ∧ BitVec.toNat (Bits.byteAt (s.inner data) 2) ≠ c.val) ∧
    (∃ (s : Machine.State) (port : Fin 96) (c : Fin 96) (data : Bytes), s.cmuAt port.val = some c.val ∧ s.tagOk port.val data =
      true ∧ Bits.crcOk (s.inner data) 0 (16 - 4) = true ∧ List.length (s.inner data) = 16 ∧ BitVec.toNat (Bits.byteAt (s.inner
      data) 0) = 130 ∧ BitVec.toNat (Bits.byteAt (s.inner data) 2) ≠ c.val) ∧
    (∃ (s : Machine.State) (port : Fin 96) (c : Fin 96) (data : Bytes), s.cmuAt port.val = some c.val ∧ s.tagOk port.val data =
      true ∧ Bits.crcOk (s.inner data) 0 (16 - 4) = true ∧ List.length (s.inner data) = 16 ∧ BitVec.toNat (Bits.byteAt (s.inner
      data) 0) = 131 ∧ BitVec.toNat (Bits.byteAt (s.inner data) 2) ≠ c.val) ∧
    (∃ (s : Machine.State) (port : Fin 96) (c : Fin 96) (data : Bytes), s.cmuAt port.val = some c.val ∧ s.tagOk port.val data =
      true ∧ Bits.crcOk (s.inner data) 0 (16 - 4) = true ∧ List.length (s.inner data) = 16 ∧ BitVec.toNat (Bits.byteAt (s.inner
      data) 0) = 132 ∧ BitVec.toNat (Bits.byteAt (s.inner data) 2) ≠ c.val) ∧
    (∃ (s : Machine.State) (port : Fin 96) (c : Fin 96) (data : Bytes), s.cmuAt port.val = some c.val ∧ s.tagOk port.val data =
      true ∧ Bits.crcOk (s.inner data) 0 (16 - 4) = true ∧ List.length (s.inner data) = 16 ∧ BitVec.toNat (Bits.byteAt (s.inner
      data) 0) = 133 ∧ BitVec.toNat (Bits.byteAt (s.inner data) 2) ≠ c.val) ∧
    (∃ (s : Machine.State) (port : Fin 96) (c : Fin 96) (data : Bytes), s.cmuAt port.val = some c.val ∧ s.tagOk port.val data =
      true ∧ (Bits.crcOk (s.inner data) 0 (64 - 4) = true ∧ List.length (s.inner data) = 64 ∧ BitVec.toNat (Bits.byteAt
      (s.inner data) 0) = 129) ∧ BitVec.toNat (Bits.byteAt (s.inner data) 2) = c.val ∧ (∀ w ∈ s.mon.sweeps, w.L % 2 ^ 32 ≠
      Bits.le (s.inner data) 4 4)) ∧
    (∃ (s : Machine.State) (port : Fin 96) (c : Fin 96) (data : Bytes) (w : Sweep), s.cmuAt port.val = some c.val ∧ s.tagOk
      port.val data = true ∧ (Bits.crcOk (s.inner data) 0 (64 - 4) = true ∧ List.length (s.inner data) = 64 ∧ BitVec.toNat
      (Bits.byteAt (s.inner data) 0) = 129) ∧ BitVec.toNat (Bits.byteAt (s.inner data) 2) = c.val ∧ w ∈ s.mon.sweeps ∧ w.L % 2
      ^ 32 = Bits.le (s.inner data) 4 4) ∧
    (∃ (s : Machine.State) (port : Fin 96) (c : Fin 96) (data : Bytes), s.cmuAt port.val = some c.val ∧ s.tagOk port.val data =
      true ∧ (Bits.crcOk (s.inner data) 0 (16 - 4) = true ∧ List.length (s.inner data) = 16 ∧ BitVec.toNat (Bits.byteAt
      (s.inner data) 0) = 130) ∧ BitVec.toNat (Bits.byteAt (s.inner data) 2) = c.val ∧ List.take 6 (List.drop 4 (s.inner data))
      = List.take 4 (List.drop 4 s.mon.cfg) ++ Bits.toLe 2 (s.f Reg.MON_TIMING_COMM_TO_MS) ∧ (s.f (Reg.MON_CMU_STATUS_CSTATE
      c.val) = 1 ∨ s.f (Reg.MON_CMU_STATUS_CSTATE c.val) = 4)) ∧
    (∃ (s : Machine.State) (port : Fin 96) (c : Fin 96) (data : Bytes), s.cmuAt port.val = some c.val ∧ s.tagOk port.val data =
      true ∧ (Bits.crcOk (s.inner data) 0 (16 - 4) = true ∧ List.length (s.inner data) = 16 ∧ BitVec.toNat (Bits.byteAt
      (s.inner data) 0) = 130) ∧ BitVec.toNat (Bits.byteAt (s.inner data) 2) = c.val ∧ ¬List.take 6 (List.drop 4 (s.inner
      data)) = List.take 4 (List.drop 4 s.mon.cfg) ++ Bits.toLe 2 (s.f Reg.MON_TIMING_COMM_TO_MS) ∧ (s.f
      (Reg.MON_CMU_STATUS_CSTATE c.val) = 2 ∨ s.f (Reg.MON_CMU_STATUS_CSTATE c.val) = 3)) ∧
    (∃ (s : Machine.State) (port : Fin 96) (c : Fin 96) (data : Bytes), s.cmuAt port.val = some c.val ∧ s.tagOk port.val data =
      true ∧ (Bits.crcOk (s.inner data) 0 (16 - 4) = true ∧ List.length (s.inner data) = 16 ∧ BitVec.toNat (Bits.byteAt
      (s.inner data) 0) = 130) ∧ BitVec.toNat (Bits.byteAt (s.inner data) 2) = c.val ∧ (¬(List.take 6 (List.drop 4 (s.inner
      data)) = List.take 4 (List.drop 4 s.mon.cfg) ++ Bits.toLe 2 (s.f Reg.MON_TIMING_COMM_TO_MS) ∧ (s.f
      (Reg.MON_CMU_STATUS_CSTATE c.val) = 1 ∨ s.f (Reg.MON_CMU_STATUS_CSTATE c.val) = 4))) ∧ (¬(¬List.take 6 (List.drop 4
      (s.inner data)) = List.take 4 (List.drop 4 s.mon.cfg) ++ Bits.toLe 2 (s.f Reg.MON_TIMING_COMM_TO_MS) ∧ (s.f
      (Reg.MON_CMU_STATUS_CSTATE c.val) = 2 ∨ s.f (Reg.MON_CMU_STATUS_CSTATE c.val) = 3)))) ∧
    (∃ (s : Machine.State) (port : Fin 96) (c : Fin 96) (data : Bytes), s.cmuAt port.val = some c.val ∧ s.tagOk port.val data =
      true ∧ (Bits.crcOk (s.inner data) 0 (16 - 4) = true ∧ List.length (s.inner data) = 16 ∧ BitVec.toNat (Bits.byteAt
      (s.inner data) 0) = 131) ∧ BitVec.toNat (Bits.byteAt (s.inner data) 2) = c.val) ∧
    (∃ (s : Machine.State), s.mon.cfg ≠ [] ∧ BitVec.toNat s.beat % (max 1 (s.lf Reg.MON_REF_CFG_REFCHK_S) * 1000000) = 0 ∧
      s.mon.refAt ≠ some (BitVec.toNat s.beat)) ∧
    (∃ (s : Machine.State) (port : Fin 96) (c : Fin 96) (data : Bytes), s.cmuAt port.val = some c.val ∧ s.tagOk port.val data =
      true ∧ (Bits.crcOk (s.inner data) 0 (16 - 4) = true ∧ List.length (s.inner data) = 16 ∧ BitVec.toNat (Bits.byteAt
      (s.inner data) 0) = 133) ∧ BitVec.toNat (Bits.byteAt (s.inner data) 2) = c.val ∧ (s.cmu c.val).refAsked = none) ∧
    (∃ (s : Machine.State) (port : Fin 96) (c : Fin 96) (data : Bytes) (regular : Bool), s.cmuAt port.val = some c.val ∧
      s.tagOk port.val data = true ∧ (Bits.crcOk (s.inner data) 0 (16 - 4) = true ∧ List.length (s.inner data) = 16 ∧
      BitVec.toNat (Bits.byteAt (s.inner data) 0) = 133) ∧ BitVec.toNat (Bits.byteAt (s.inner data) 2) = c.val ∧ (s.cmu
      c.val).refAsked = some regular ∧ ¬(((Bits.le (s.inner data) 4 4) : ℤ) - ((Bits.le (s.inner data) 8 4) : ℤ)).natAbs * 10 ≤
      s.lf Reg.MON_REF_CFG_REF_TOL_UV ∧ (s.cmu c.val).refFails = 0) ∧
    (∃ (s : Machine.State) (port : Fin 96) (c : Fin 96) (data : Bytes) (regular : Bool), s.cmuAt port.val = some c.val ∧
      s.tagOk port.val data = true ∧ (Bits.crcOk (s.inner data) 0 (16 - 4) = true ∧ List.length (s.inner data) = 16 ∧
      BitVec.toNat (Bits.byteAt (s.inner data) 0) = 133) ∧ BitVec.toNat (Bits.byteAt (s.inner data) 2) = c.val ∧ (s.cmu
      c.val).refAsked = some regular ∧ ¬(((Bits.le (s.inner data) 4 4) : ℤ) - ((Bits.le (s.inner data) 8 4) : ℤ)).natAbs * 10 ≤
      s.lf Reg.MON_REF_CFG_REF_TOL_UV ∧ 1 ≤ (s.cmu c.val).refFails ∧ s.f (Reg.MON_CMU_STATUS_REF_FAIL c.val) = 0) ∧
    (∃ (s : Machine.State) (port : Fin 96) (c : Fin 96) (data : Bytes) (regular : Bool), s.cmuAt port.val = some c.val ∧
      s.tagOk port.val data = true ∧ (Bits.crcOk (s.inner data) 0 (16 - 4) = true ∧ List.length (s.inner data) = 16 ∧
      BitVec.toNat (Bits.byteAt (s.inner data) 0) = 133) ∧ BitVec.toNat (Bits.byteAt (s.inner data) 2) = c.val ∧ (s.cmu
      c.val).refAsked = some regular ∧ (((Bits.le (s.inner data) 4 4) : ℤ) - ((Bits.le (s.inner data) 8 4) : ℤ)).natAbs * 10 ≤
      s.lf Reg.MON_REF_CFG_REF_TOL_UV ∧ s.f (Reg.MON_CMU_STATUS_REF_FAIL c.val) = 1 ∧ 2 ≤ (s.cmu c.val).refPasses ∧ regular =
      true) ∧
    (∃ (s : Machine.State) (port : Fin 96) (c : Fin 96) (data : Bytes) (regular : Bool), s.cmuAt port.val = some c.val ∧
      s.tagOk port.val data = true ∧ (Bits.crcOk (s.inner data) 0 (16 - 4) = true ∧ List.length (s.inner data) = 16 ∧
      BitVec.toNat (Bits.byteAt (s.inner data) 0) = 133) ∧ BitVec.toNat (Bits.byteAt (s.inner data) 2) = c.val ∧ (s.cmu
      c.val).refAsked = some regular ∧ (((Bits.le (s.inner data) 4 4) : ℤ) - ((Bits.le (s.inner data) 8 4) : ℤ)).natAbs * 10 ≤
      s.lf Reg.MON_REF_CFG_REF_TOL_UV ∧ s.f (Reg.MON_CMU_STATUS_REF_FAIL c.val) = 0) ∧
    (∃ (s : Machine.State) (port : Fin 96) (c : Fin 96) (data : Bytes), s.cmuAt port.val = some c.val ∧ s.tagOk port.val data =
      true ∧ (Bits.crcOk (s.inner data) 0 (16 - 4) = true ∧ List.length (s.inner data) = 16 ∧ BitVec.toNat (Bits.byteAt
      (s.inner data) 0) = 132) ∧ BitVec.toNat (Bits.byteAt (s.inner data) 2) = c.val ∧ (s.cmu c.val).diag = none) ∧
    (∃ (s : Machine.State) (port : Fin 96) (c : Fin 96) (data : Bytes) (d : Diag), s.cmuAt port.val = some c.val ∧ s.tagOk
      port.val data = true ∧ (Bits.crcOk (s.inner data) 0 (16 - 4) = true ∧ List.length (s.inner data) = 16 ∧ BitVec.toNat
      (Bits.byteAt (s.inner data) 0) = 132) ∧ BitVec.toNat (Bits.byteAt (s.inner data) 2) = c.val ∧ (s.cmu c.val).diag = some d
      ∧ (d.again = true ∨ BitVec.toNat (Bits.byteAt (s.inner data) 11) ≠ d.tap ∨ BitVec.toNat (Bits.byteAt (s.inner data) 10) ≠
      Bits.ofBool d.off.isSome)) ∧
    (∃ (s : Machine.State) (port : Fin 96) (c : Fin 96) (data : Bytes) (d : Diag) (m : ℤ × ℤ × ℤ), s.cmuAt port.val = some
      c.val ∧ s.tagOk port.val data = true ∧ (Bits.crcOk (s.inner data) 0 (16 - 4) = true ∧ List.length (s.inner data) = 16 ∧
      BitVec.toNat (Bits.byteAt (s.inner data) 0) = 132) ∧ BitVec.toNat (Bits.byteAt (s.inner data) 2) = c.val ∧ (s.cmu
      c.val).diag = some d ∧ d.again = false ∧ BitVec.toNat (Bits.byteAt (s.inner data) 11) = d.tap ∧ BitVec.toNat (Bits.byteAt
      (s.inner data) 10) = Bits.ofBool d.off.isSome ∧ m = (↑(Bits.le (s.inner data) 4 2), ↑(Bits.le (s.inner data) 6 2),
      ↑(Bits.le (s.inner data) 8 2)) ∧ 1 ≤ d.tap ∧ d.tap ≤ 17 ∧ d.off = none ∧ ↑(m.1 - d.ref).natAbs ≤ 10 * ↑(s.lf
      Reg.MON_DIAG_CFG_DEV_MV) ∧ 10 * ↑(Bits.le s.mon.cfg 10 2) ≤ m.1 ∧ m.1 ≤ 10 * ↑(Bits.le s.mon.cfg 8 2) ∧ ↑(m.2.1 -
      d.ref).natAbs ≤ 10 * ↑(s.lf Reg.MON_DIAG_CFG_DEV_MV) ∧ 10 * ↑(Bits.le s.mon.cfg 10 2) ≤ m.2.1 ∧ m.2.1 ≤ 10 * ↑(Bits.le
      s.mon.cfg 8 2) ∧ Bits.bit (s.f (Reg.MON_SENSE_OPEN c.val)) d.tap = false) ∧
    (∃ (s : Machine.State) (port : Fin 96) (c : Fin 96) (data : Bytes) (d : Diag) (m : ℤ × ℤ × ℤ), s.cmuAt port.val = some
      c.val ∧ s.tagOk port.val data = true ∧ (Bits.crcOk (s.inner data) 0 (16 - 4) = true ∧ List.length (s.inner data) = 16 ∧
      BitVec.toNat (Bits.byteAt (s.inner data) 0) = 132) ∧ BitVec.toNat (Bits.byteAt (s.inner data) 2) = c.val ∧ (s.cmu
      c.val).diag = some d ∧ d.again = false ∧ BitVec.toNat (Bits.byteAt (s.inner data) 11) = d.tap ∧ BitVec.toNat (Bits.byteAt
      (s.inner data) 10) = Bits.ofBool d.off.isSome ∧ m = (↑(Bits.le (s.inner data) 4 2), ↑(Bits.le (s.inner data) 6 2),
      ↑(Bits.le (s.inner data) 8 2)) ∧ 1 ≤ d.tap ∧ d.tap ≤ 17 ∧ d.off = none ∧ ¬((↑(m.1 - d.ref).natAbs ≤ 10 * ↑(s.lf
      Reg.MON_DIAG_CFG_DEV_MV) ∧ 10 * ↑(Bits.le s.mon.cfg 10 2) ≤ m.1 ∧ m.1 ≤ 10 * ↑(Bits.le s.mon.cfg 8 2)) ∧ ↑(m.2.1 -
      d.ref).natAbs ≤ 10 * ↑(s.lf Reg.MON_DIAG_CFG_DEV_MV) ∧ 10 * ↑(Bits.le s.mon.cfg 10 2) ≤ m.2.1 ∧ m.2.1 ≤ 10 * ↑(Bits.le
      s.mon.cfg 8 2))) ∧
    (∃ (s : Machine.State) (port : Fin 96) (c : Fin 96) (data : Bytes) (d : Diag) (m : ℤ × ℤ × ℤ) (m0 : ℤ × ℤ × ℤ), s.cmuAt
      port.val = some c.val ∧ s.tagOk port.val data = true ∧ (Bits.crcOk (s.inner data) 0 (16 - 4) = true ∧ List.length
      (s.inner data) = 16 ∧ BitVec.toNat (Bits.byteAt (s.inner data) 0) = 132) ∧ BitVec.toNat (Bits.byteAt (s.inner data) 2) =
      c.val ∧ (s.cmu c.val).diag = some d ∧ d.again = false ∧ BitVec.toNat (Bits.byteAt (s.inner data) 11) = d.tap ∧
      BitVec.toNat (Bits.byteAt (s.inner data) 10) = Bits.ofBool d.off.isSome ∧ m = (↑(Bits.le (s.inner data) 4 2), ↑(Bits.le
      (s.inner data) 6 2), ↑(Bits.le (s.inner data) 8 2)) ∧ 1 ≤ d.tap ∧ d.tap ≤ 17 ∧ d.off = some m0 ∧ (m0.1 + m0.2.1 -
      m0.2.2).natAbs ≤ 10 * s.lf Reg.MON_DIAG_CFG_SUM_TOL_MV ∧ ↑(m0.2.2 - 2 * d.ref).natAbs ≤ 10 * ↑(s.lf
      Reg.MON_DIAG_CFG_DEV_MV) ∧ (10 * ↑(s.lf Reg.MON_DIAG_CFG_FOLLOW_MV) ≤ ↑(m.1 - m0.1).natAbs ∧ 10 * ↑(s.lf
      Reg.MON_DIAG_CFG_FOLLOW_MV) ≤ ↑(m.2.1 - m0.2.1).natAbs ∧ (0 < m.1 - m0.1 ∧ m.2.1 - m0.2.1 < 0 ∨ m.1 - m0.1 < 0 ∧ 0 <
      m.2.1 - m0.2.1))) ∧
    (∃ (s : Machine.State) (port : Fin 96) (c : Fin 96) (data : Bytes) (d : Diag) (m : ℤ × ℤ × ℤ) (m0 : ℤ × ℤ × ℤ), s.cmuAt
      port.val = some c.val ∧ s.tagOk port.val data = true ∧ (Bits.crcOk (s.inner data) 0 (16 - 4) = true ∧ List.length
      (s.inner data) = 16 ∧ BitVec.toNat (Bits.byteAt (s.inner data) 0) = 132) ∧ BitVec.toNat (Bits.byteAt (s.inner data) 2) =
      c.val ∧ (s.cmu c.val).diag = some d ∧ d.again = false ∧ BitVec.toNat (Bits.byteAt (s.inner data) 11) = d.tap ∧
      BitVec.toNat (Bits.byteAt (s.inner data) 10) = Bits.ofBool d.off.isSome ∧ m = (↑(Bits.le (s.inner data) 4 2), ↑(Bits.le
      (s.inner data) 6 2), ↑(Bits.le (s.inner data) 8 2)) ∧ 1 ≤ d.tap ∧ d.tap ≤ 17 ∧ d.off = some m0 ∧ ¬((m0.1 + m0.2.1 -
      m0.2.2).natAbs ≤ 10 * s.lf Reg.MON_DIAG_CFG_SUM_TOL_MV ∧ ↑(m0.2.2 - 2 * d.ref).natAbs ≤ 10 * ↑(s.lf
      Reg.MON_DIAG_CFG_DEV_MV))) ∧
    (∃ (s : Machine.State) (port : Fin 96) (c : Fin 96) (data : Bytes) (d : Diag) (m : ℤ × ℤ × ℤ) (m0 : ℤ × ℤ × ℤ), s.cmuAt
      port.val = some c.val ∧ s.tagOk port.val data = true ∧ (Bits.crcOk (s.inner data) 0 (16 - 4) = true ∧ List.length
      (s.inner data) = 16 ∧ BitVec.toNat (Bits.byteAt (s.inner data) 0) = 132) ∧ BitVec.toNat (Bits.byteAt (s.inner data) 2) =
      c.val ∧ (s.cmu c.val).diag = some d ∧ d.again = false ∧ BitVec.toNat (Bits.byteAt (s.inner data) 11) = d.tap ∧
      BitVec.toNat (Bits.byteAt (s.inner data) 10) = Bits.ofBool d.off.isSome ∧ m = (↑(Bits.le (s.inner data) 4 2), ↑(Bits.le
      (s.inner data) 6 2), ↑(Bits.le (s.inner data) 8 2)) ∧ 1 ≤ d.tap ∧ d.tap ≤ 17 ∧ d.off = some m0 ∧ (m0.1 + m0.2.1 -
      m0.2.2).natAbs ≤ 10 * s.lf Reg.MON_DIAG_CFG_SUM_TOL_MV ∧ ↑(m0.2.2 - 2 * d.ref).natAbs ≤ 10 * ↑(s.lf
      Reg.MON_DIAG_CFG_DEV_MV) ∧ (¬(10 * ↑(s.lf Reg.MON_DIAG_CFG_FOLLOW_MV) ≤ ↑(m.1 - m0.1).natAbs ∧ 10 * ↑(s.lf
      Reg.MON_DIAG_CFG_FOLLOW_MV) ≤ ↑(m.2.1 - m0.2.1).natAbs ∧ (0 < m.1 - m0.1 ∧ m.2.1 - m0.2.1 < 0 ∨ m.1 - m0.1 < 0 ∧ 0 <
      m.2.1 - m0.2.1))) ∧ ↑(m0.1 - d.ref).natAbs ≤ 10 * ↑(s.lf Reg.MON_DIAG_CFG_DEV_MV) ∧ 10 * ↑(Bits.le s.mon.cfg 10 2) ≤ m0.1
      ∧ m0.1 ≤ 10 * ↑(Bits.le s.mon.cfg 8 2) ∧ ↑(m0.2.1 - d.ref).natAbs ≤ 10 * ↑(s.lf Reg.MON_DIAG_CFG_DEV_MV) ∧ 10 * ↑(Bits.le
      s.mon.cfg 10 2) ≤ m0.2.1 ∧ m0.2.1 ≤ 10 * ↑(Bits.le s.mon.cfg 8 2)) ∧
    (∃ (s : Machine.State) (port : Fin 96) (c : Fin 96) (data : Bytes) (d : Diag) (m : ℤ × ℤ × ℤ) (m0 : ℤ × ℤ × ℤ), s.cmuAt
      port.val = some c.val ∧ s.tagOk port.val data = true ∧ (Bits.crcOk (s.inner data) 0 (16 - 4) = true ∧ List.length
      (s.inner data) = 16 ∧ BitVec.toNat (Bits.byteAt (s.inner data) 0) = 132) ∧ BitVec.toNat (Bits.byteAt (s.inner data) 2) =
      c.val ∧ (s.cmu c.val).diag = some d ∧ d.again = false ∧ BitVec.toNat (Bits.byteAt (s.inner data) 11) = d.tap ∧
      BitVec.toNat (Bits.byteAt (s.inner data) 10) = Bits.ofBool d.off.isSome ∧ m = (↑(Bits.le (s.inner data) 4 2), ↑(Bits.le
      (s.inner data) 6 2), ↑(Bits.le (s.inner data) 8 2)) ∧ 1 ≤ d.tap ∧ d.tap ≤ 17 ∧ d.off = some m0 ∧ (m0.1 + m0.2.1 -
      m0.2.2).natAbs ≤ 10 * s.lf Reg.MON_DIAG_CFG_SUM_TOL_MV ∧ ↑(m0.2.2 - 2 * d.ref).natAbs ≤ 10 * ↑(s.lf
      Reg.MON_DIAG_CFG_DEV_MV) ∧ (¬(10 * ↑(s.lf Reg.MON_DIAG_CFG_FOLLOW_MV) ≤ ↑(m.1 - m0.1).natAbs ∧ 10 * ↑(s.lf
      Reg.MON_DIAG_CFG_FOLLOW_MV) ≤ ↑(m.2.1 - m0.2.1).natAbs ∧ (0 < m.1 - m0.1 ∧ m.2.1 - m0.2.1 < 0 ∨ m.1 - m0.1 < 0 ∧ 0 <
      m.2.1 - m0.2.1))) ∧ ¬((↑(m0.1 - d.ref).natAbs ≤ 10 * ↑(s.lf Reg.MON_DIAG_CFG_DEV_MV) ∧ 10 * ↑(Bits.le s.mon.cfg 10 2) ≤
      m0.1 ∧ m0.1 ≤ 10 * ↑(Bits.le s.mon.cfg 8 2)) ∧ ↑(m0.2.1 - d.ref).natAbs ≤ 10 * ↑(s.lf Reg.MON_DIAG_CFG_DEV_MV) ∧ 10 *
      ↑(Bits.le s.mon.cfg 10 2) ≤ m0.2.1 ∧ m0.2.1 ≤ 10 * ↑(Bits.le s.mon.cfg 8 2)) ∧ d.attempt = 3) ∧
    (∃ (s : Machine.State) (port : Fin 96) (c : Fin 96) (data : Bytes) (d : Diag) (m : ℤ × ℤ × ℤ) (m0 : ℤ × ℤ × ℤ), s.cmuAt
      port.val = some c.val ∧ s.tagOk port.val data = true ∧ (Bits.crcOk (s.inner data) 0 (16 - 4) = true ∧ List.length
      (s.inner data) = 16 ∧ BitVec.toNat (Bits.byteAt (s.inner data) 0) = 132) ∧ BitVec.toNat (Bits.byteAt (s.inner data) 2) =
      c.val ∧ (s.cmu c.val).diag = some d ∧ d.again = false ∧ BitVec.toNat (Bits.byteAt (s.inner data) 11) = d.tap ∧
      BitVec.toNat (Bits.byteAt (s.inner data) 10) = Bits.ofBool d.off.isSome ∧ m = (↑(Bits.le (s.inner data) 4 2), ↑(Bits.le
      (s.inner data) 6 2), ↑(Bits.le (s.inner data) 8 2)) ∧ 1 ≤ d.tap ∧ d.tap ≤ 17 ∧ d.off = some m0 ∧ (m0.1 + m0.2.1 -
      m0.2.2).natAbs ≤ 10 * s.lf Reg.MON_DIAG_CFG_SUM_TOL_MV ∧ ↑(m0.2.2 - 2 * d.ref).natAbs ≤ 10 * ↑(s.lf
      Reg.MON_DIAG_CFG_DEV_MV) ∧ (¬(10 * ↑(s.lf Reg.MON_DIAG_CFG_FOLLOW_MV) ≤ ↑(m.1 - m0.1).natAbs ∧ 10 * ↑(s.lf
      Reg.MON_DIAG_CFG_FOLLOW_MV) ≤ ↑(m.2.1 - m0.2.1).natAbs ∧ (0 < m.1 - m0.1 ∧ m.2.1 - m0.2.1 < 0 ∨ m.1 - m0.1 < 0 ∧ 0 <
      m.2.1 - m0.2.1))) ∧ ¬((↑(m0.1 - d.ref).natAbs ≤ 10 * ↑(s.lf Reg.MON_DIAG_CFG_DEV_MV) ∧ 10 * ↑(Bits.le s.mon.cfg 10 2) ≤
      m0.1 ∧ m0.1 ≤ 10 * ↑(Bits.le s.mon.cfg 8 2)) ∧ ↑(m0.2.1 - d.ref).natAbs ≤ 10 * ↑(s.lf Reg.MON_DIAG_CFG_DEV_MV) ∧ 10 *
      ↑(Bits.le s.mon.cfg 10 2) ≤ m0.2.1 ∧ m0.2.1 ≤ 10 * ↑(Bits.le s.mon.cfg 8 2)) ∧ d.attempt ≠ 3) ∧
    (∃ (s : Machine.State) (bc : BitVec 7) (bj : BitVec 5), writesAtOnce s ∧ (95 < bc.toNat ∨ 17 < bj.toNat)) ∧
    (∃ (s : Machine.State) (st : Fin 8), writesAtOnce s ∧ s.isoRefusal st.val ≠ 0) :=
  ⟨⟨({ monSt 2 {} with beat := 1000 * (max 1 (stA.lf Reg.MON_CFG_SWEEP_MS)) - 50 } : Machine.State), (94 : Fin 96), (95 : Fin
    96), ([] : Bytes), (7 : Fin 8), (95 : BitVec 7), (17 : BitVec 5), by decide +kernel⟩, ⟨(monSt 2 {} : Machine.State),
    by decide +kernel⟩, ⟨(monSt 3 { got := some (3000, bytesOf 64 [(3, 1), (48, 1)]) }
    { sweeps := [⟨3000, 4000⟩, ⟨13000, 14000⟩] } : Machine.State), (⟨3000, 4000⟩ : Sweep), ([⟨13000, 14000⟩] : List Sweep),
    by decide +kernel⟩, ⟨(monSt 2 {} : Machine.State), (95 : Fin 96), by decide +kernel⟩,
    ⟨({ monSt 2 {} with mon := { chain := 2, cfg := bytesOf 64 [(1, 1)], cmus := [(95, { mapped := true, port := 94 })] }, beat := 1000 * (max 1 (stA.lf Reg.MON_CFG_SWEEP_MS)) * 100 - 10000 }
    : Machine.State), (94 : Fin 96), (95 : Fin 96), ([] : Bytes), by decide +kernel⟩, ⟨(monSt 2 {} : Machine.State), (94 : Fin
    96), (95 : Fin 96), (sealM (bytesOf 64 [(0, 0x81), (2, 94)]) : Bytes), by decide +kernel⟩, ⟨(monSt 2 {} : Machine.State),
    (94 : Fin 96), (95 : Fin 96), (sealM (bytesOf 64 [(0, 0x82), (2, 94)]) : Bytes), by decide +kernel⟩, ⟨(monSt 2 {} :
    Machine.State), (94 : Fin 96), (95 : Fin 96), (sealM (bytesOf 64 [(0, 0x83), (2, 94)]) : Bytes), by decide +kernel⟩,
    ⟨(monSt 2 {} : Machine.State), (94 : Fin 96), (95 : Fin 96), (sealM (bytesOf 64 [(0, 0x84), (2, 94)]) : Bytes),
    by decide +kernel⟩, ⟨(monSt 2 {} : Machine.State), (94 : Fin 96), (95 : Fin 96), (sealM (bytesOf 64 [(0, 0x85), (2, 94)]) :
    Bytes), by decide +kernel⟩, ⟨(monSt 2 {} : Machine.State), (94 : Fin 96), (95 : Fin 96), (sealM (monF 0x81 []) : Bytes),
    by decide +kernel⟩, ⟨(monSt 2 {} { sweeps := [⟨2 ^ 32 + 3000, 2 ^ 32 + 4000⟩] } : Machine.State), (94 : Fin 96), (95 : Fin
    96), (sealM (monF 0x81 [(4, 0xB8), (5, 0xB)]) : Bytes), (⟨2 ^ 32 + 3000, 2 ^ 32 + 4000⟩ : Sweep), by decide +kernel⟩,
    ⟨(monSt 1 {} : Machine.State), (94 : Fin 96), (95 : Fin 96), (sealM (monF 0x82 ([(4, 1), (5, 2), (6, 3), (7, 4)] ++ v16 8
    (stA.f Reg.MON_TIMING_COMM_TO_MS))) : Bytes), by decide +kernel⟩, ⟨(monSt 2 {} : Machine.State), (94 : Fin 96), (95 : Fin
    96), (sealM (monF 0x82 ([(4, 1), (5, 3), (6, 3), (7, 4)] ++ v16 8 (stA.f Reg.MON_TIMING_COMM_TO_MS))) : Bytes),
    by decide +kernel⟩, ⟨(monSt 2 {} : Machine.State), (94 : Fin 96), (95 : Fin 96), (sealM (monF 0x82 ([(4, 1), (5, 2), (6,
    3), (7, 4)] ++ v16 8 (stA.f Reg.MON_TIMING_COMM_TO_MS))) : Bytes), by decide +kernel⟩, ⟨(monSt 2 { named := 4 } :
    Machine.State), (94 : Fin 96), (95 : Fin 96), (sealM (monF 0x83 [(1, 5), (4, 1), (6, 0xFF), (9, 2)]) : Bytes),
    by decide +kernel⟩, ⟨({ monSt 2 {} with beat := 0 } : Machine.State), by decide +kernel⟩, ⟨(monSt 2 {} : Machine.State),
    (94 : Fin 96), (95 : Fin 96), (sealM (monF 0x85 []) : Bytes), by decide +kernel⟩, ⟨(monSt 2 { refAsked := some true } :
    Machine.State), (94 : Fin 96), (95 : Fin 96), (sealM (monF 0x85 [(4, 0), (5, 0), (8, 0xFF), (9, 0xFF)]) : Bytes), (true :
    Bool), by decide +kernel⟩, ⟨(monSt 2 { refAsked := some false, refFails := 1 } : Machine.State), (94 : Fin 96), (95 : Fin
    96), (sealM (monF 0x85 [(8, 0), (5, 0), (4, 0xFF), (5, 0xFF)]) : Bytes), (false : Bool), by decide +kernel⟩, ⟨((monSt 2
    { refAsked := some true, refPasses := 2 }).setF (Reg.MON_CMU_STATUS_REF_FAIL 95) 1 : Machine.State), (94 : Fin 96), (95 :
    Fin 96), (sealM (monF 0x85 []) : Bytes), (true : Bool), by decide +kernel⟩, ⟨(monSt 2
    { refAsked := some true, refFails := 1 } : Machine.State), (94 : Fin 96), (95 : Fin 96), (sealM (monF 0x85 []) : Bytes),
    (true : Bool), by decide +kernel⟩, ⟨(monSt 2 {} : Machine.State), (94 : Fin 96), (95 : Fin 96), (sealM (dfr 0 36000 36000
    6464) : Bytes), by decide +kernel⟩, ⟨(monSt 2 { diag := some (dia none) } : Machine.State), (94 : Fin 96), (95 : Fin 96),
    (sealM (dfr 1 36000 36000 6464) : Bytes), (dia none : Diag), by decide +kernel⟩, ⟨(monSt 2 { diag := some (dia none) } :
    Machine.State), (94 : Fin 96), (95 : Fin 96), (sealM (dfr 0 36000 36000 6464) : Bytes), (dia none : Diag), ((36000, 36000,
    6464) : ℤ × ℤ × ℤ), by decide +kernel⟩, ⟨(monSt 2 { diag := some (dia none) } : Machine.State), (94 : Fin 96), (95 : Fin
    96), (sealM (dfr 0 36000 60000 6464) : Bytes), (dia none : Diag), ((36000, 60000, 6464) : ℤ × ℤ × ℤ), by decide +kernel⟩,
    ⟨(monSt 2 { diag := some (dia (some (36000, 36000, 72000))) } : Machine.State), (94 : Fin 96), (95 : Fin 96), (sealM (dfr 1
    30000 42000 6464) : Bytes), (dia (some (36000, 36000, 72000)) : Diag), ((30000, 42000, 6464) : ℤ × ℤ × ℤ), ((36000, 36000,
    72000) : ℤ × ℤ × ℤ), by decide +kernel⟩, ⟨(monSt 2 { diag := some (dia (some (36000, 36000, 60000))) } : Machine.State),
    (94 : Fin 96), (95 : Fin 96), (sealM (dfr 1 36000 36000 6464) : Bytes), (dia (some (36000, 36000, 60000)) : Diag), ((36000,
    36000, 6464) : ℤ × ℤ × ℤ), ((36000, 36000, 60000) : ℤ × ℤ × ℤ), by decide +kernel⟩, ⟨(monSt 2
    { diag := some (dia (some (36000, 36000, 72000))) } : Machine.State), (94 : Fin 96), (95 : Fin 96), (sealM (dfr 1 36000
    36000 6464) : Bytes), (dia (some (36000, 36000, 72000)) : Diag), ((36000, 36000, 6464) : ℤ × ℤ × ℤ), ((36000, 36000, 72000)
    : ℤ × ℤ × ℤ), by decide +kernel⟩, ⟨(monSt 2 { diag := some (dia (some (20000, 52000, 72000)) 3) } : Machine.State), (94 :
    Fin 96), (95 : Fin 96), (sealM (dfr 1 20000 52000 6464) : Bytes), (dia (some (20000, 52000, 72000)) 3 : Diag), ((20000,
    52000, 6464) : ℤ × ℤ × ℤ), ((20000, 52000, 72000) : ℤ × ℤ × ℤ), by decide +kernel⟩, ⟨(monSt 2
    { diag := some (dia (some (20000, 52000, 72000))) } : Machine.State), (94 : Fin 96), (95 : Fin 96), (sealM (dfr 1 20000
    52000 6464) : Bytes), (dia (some (20000, 52000, 72000)) : Diag), ((20000, 52000, 6464) : ℤ × ℤ × ℤ), ((20000, 52000, 72000)
    : ℤ × ℤ × ℤ), by decide +kernel⟩, ⟨(monSt 2 {} : Machine.State), (96 : BitVec 7), (17 : BitVec 5), by decide +kernel⟩,
    ⟨(monSt 3 { diag := some (dia none) } : Machine.State), (7 : Fin 8), by decide +kernel⟩⟩

theorem witness_StorageStrings :
    (∃ (s : Machine.State) (i : Fin 8) (port : Fin 96), s.sstate i.val = 1 ∧ 1000 ≤ (s.string i.val).presRun ∧ (s.sstate i.val
      = 0 ∨ (s.string i.val).absRun < 10 ∨ (s.string i.val).gone = true) ∧ (¬s.sstate i.val = 2 ∨ (s.string i.val).challenge =
      [] ∨ ¬((s.string i.val).complete = true ∨ (s.string i.val).bad = true)) ∧ (¬s.sstate i.val = 2 ∨ BitVec.toNat s.beat <
      (s.string i.val).authAt + s.lf Reg.SST_TIMING_AUTH_TO_S * 1000000) ∧ writesAtOnce s ∧ ¬s.sstate i.val = 5 ∧ s.cmuAt
      port.val = none ∧ ((s.string i.val).incOld = none ∨ (s.string i.val).challenge ≠ [] ∨ ¬((s.string i.val).complete = true
      ∨ (s.string i.val).bad = true)) ∧ (¬s.sstate i.val = 4 ∨ (s.string i.val).miss < 1000) ∧ ((s.string i.val).restAt = none
      ∨ (s.string i.val).full = none) ∧ (¬s.sstate i.val = 4 ∨ BitVec.toNat s.beat < (s.string i.val).recAt + s.lf
      Reg.SST_TIMING_REC_PERIOD_S * 1000000)) ∧
    (∃ (s : Machine.State) (i : Fin 8), (¬s.sstate i.val = 1 ∨ (s.string i.val).presRun < 1000)) ∧
    (∃ (s : Machine.State) (i : Fin 8), ¬s.sstate i.val = 0 ∧ 10 ≤ (s.string i.val).absRun ∧ (s.string i.val).gone = false) ∧
    (∃ (s : Machine.State) (i : Fin 8), s.sstate i.val = 2 ∧ (s.string i.val).challenge ≠ [] ∧ ((s.string i.val).complete =
      true ∨ (s.string i.val).bad = true)) ∧
    (∃ (s : Machine.State) (i : Fin 8), s.sstate i.val = 2 ∧ (s.string i.val).authAt + s.lf Reg.SST_TIMING_AUTH_TO_S * 1000000
      ≤ BitVec.toNat s.beat) ∧
    (∃ (s : Machine.State) (i : Fin 8), writesAtOnce s ∧ s.sstate i.val = 5) ∧
    (∃ (s : Machine.State) (port : Fin 96) (c : Fin 96) (data : Bytes), s.cmuAt port.val = some c.val ∧ s.tagOk port.val data =
      true ∧ (Bits.crcOk (s.inner data) 0 12 = true ∧ List.length (s.inner data) = 16 ∧ BitVec.toNat (Bits.byteAt (s.inner
      data) 0) = 134) ∧ BitVec.toNat (Bits.byteAt (s.inner data) 2) = c.val ∧ c.val % 12 ≠ 0) ∧
    (∃ (s : Machine.State) (i : Fin 8) (port : Fin 96) (c : Fin 96) (data : Bytes), s.cmuAt port.val = some c.val ∧ s.tagOk
      port.val data = true ∧ (Bits.crcOk (s.inner data) 0 12 = true ∧ List.length (s.inner data) = 16 ∧ BitVec.toNat
      (Bits.byteAt (s.inner data) 0) = 134) ∧ BitVec.toNat (Bits.byteAt (s.inner data) 2) = c.val ∧ c.val = 12 * i.val ∧
      (¬(((s.string i.val).challenge ≠ [] ∨ (s.string i.val).incOld ≠ none) ∧ (s.string i.val).complete = false ∧ (s.string
      i.val).bad = false))) ∧
    (∃ (s : Machine.State) (i : Fin 8) (port : Fin 96) (c : Fin 96) (data : Bytes), s.cmuAt port.val = some c.val ∧ s.tagOk
      port.val data = true ∧ (Bits.crcOk (s.inner data) 0 12 = true ∧ List.length (s.inner data) = 16 ∧ BitVec.toNat
      (Bits.byteAt (s.inner data) 0) = 134) ∧ BitVec.toNat (Bits.byteAt (s.inner data) 2) = c.val ∧ c.val = 12 * i.val ∧
      (((s.string i.val).challenge ≠ [] ∨ (s.string i.val).incOld ≠ none) ∧ (s.string i.val).complete = false ∧ (s.string
      i.val).bad = false) ∧ Bits.bit (BitVec.toNat (Bits.byteAt (s.inner data) 6)) 5 = true) ∧
    (∃ (s : Machine.State) (i : Fin 8) (port : Fin 96) (c : Fin 96) (data : Bytes), s.cmuAt port.val = some c.val ∧ s.tagOk
      port.val data = true ∧ (Bits.crcOk (s.inner data) 0 12 = true ∧ List.length (s.inner data) = 16 ∧ BitVec.toNat
      (Bits.byteAt (s.inner data) 0) = 134) ∧ BitVec.toNat (Bits.byteAt (s.inner data) 2) = c.val ∧ c.val = 12 * i.val ∧
      (((s.string i.val).challenge ≠ [] ∨ (s.string i.val).incOld ≠ none) ∧ (s.string i.val).complete = false ∧ (s.string
      i.val).bad = false) ∧ Bits.bit (BitVec.toNat (Bits.byteAt (s.inner data) 6)) 5 = false ∧ (Bits.le (s.inner data) 4 2 ≠
      List.length (s.string i.val).msg ∨ 5 < BitVec.toNat (Bits.byteAt (s.inner data) 6) % 16)) ∧
    (∃ (s : Machine.State) (i : Fin 8) (port : Fin 96) (c : Fin 96) (data : Bytes), s.cmuAt port.val = some c.val ∧ s.tagOk
      port.val data = true ∧ (Bits.crcOk (s.inner data) 0 12 = true ∧ List.length (s.inner data) = 16 ∧ BitVec.toNat
      (Bits.byteAt (s.inner data) 0) = 134) ∧ BitVec.toNat (Bits.byteAt (s.inner data) 2) = c.val ∧ c.val = 12 * i.val ∧
      (((s.string i.val).challenge ≠ [] ∨ (s.string i.val).incOld ≠ none) ∧ (s.string i.val).complete = false ∧ (s.string
      i.val).bad = false) ∧ Bits.bit (BitVec.toNat (Bits.byteAt (s.inner data) 6)) 5 = false ∧ Bits.le (s.inner data) 4 2 =
      List.length (s.string i.val).msg ∧ BitVec.toNat (Bits.byteAt (s.inner data) 6) % 16 ≤ 5) ∧
    (∃ (s : Machine.State) (port : Fin 96) (c : Fin 96) (data : Bytes), s.cmuAt port.val = some c.val ∧ (s.tagOk port.val data
      = false ∨ ¬(Bits.crcOk (s.inner data) 0 12 = true ∧ List.length (s.inner data) = 16 ∧ BitVec.toNat (Bits.byteAt (s.inner
      data) 0) = 134))) ∧
    (∃ (s : Machine.State) (i : Fin 8) (old : ℕ), (s.string i.val).incOld = some old ∧ (s.string i.val).challenge = [] ∧
      ((s.string i.val).complete = true ∨ (s.string i.val).bad = true)) ∧
    (∃ (s : Machine.State) (i : Fin 8), s.sstate i.val = 4 ∧ 1000 ≤ (s.string i.val).miss) ∧
    (∃ (s : Machine.State) (i : Fin 8) (b : ℕ) (l : ℕ) (mean : ℕ), (s.string i.val).restAt = some b ∧ (s.string i.val).full =
      some (l, mean) ∧ (s.sstate i.val = 3 ∨ s.sstate i.val = 4) ∧ b + s.lf Reg.SST_CFG_REST_S * 1000000 ≤ BitVec.toNat s.beat
      ∧ b ≤ l) ∧
    (∃ (s : Machine.State) (i : Fin 8) (b : ℕ) (l : ℕ) (mean : ℕ), (s.string i.val).restAt = some b ∧ (s.string i.val).full =
      some (l, mean) ∧ (¬s.sstate i.val = 3 ∧ ¬s.sstate i.val = 4 ∨ BitVec.toNat s.beat < b + s.lf Reg.SST_CFG_REST_S * 1000000
      ∨ l < b)) ∧
    (∃ (s : Machine.State) (i : Fin 8), s.sstate i.val = 4 ∧ (s.string i.val).recAt + s.lf Reg.SST_TIMING_REC_PERIOD_S *
      1000000 ≤ BitVec.toNat s.beat ∧ (s.string i.val).record ≠ []) :=
  ⟨⟨(strSt 1 { presRun := 1000 } : Machine.State), (7 : Fin 8), (95 : Fin 96), by decide +kernel⟩, ⟨(strSt 1 { presRun := 999 }
    : Machine.State), (7 : Fin 8), by decide +kernel⟩, ⟨(strSt 4 { absRun := 10, challenge := [1], restAt := some 4 } :
    Machine.State), (7 : Fin 8), by decide +kernel⟩, ⟨(strSt 2
    { challenge := bytesOf 48 [], complete := true, msg := [1, 2], authAt := 4000000000 } : Machine.State), (7 : Fin 8),
    by decide +kernel⟩, ⟨((strSt 2 { challenge := bytesOf 48 [], authAt := 0 }).setF (Reg.SST_STRING_STATUS_ATTEMPT 7) 3 :
    Machine.State), (7 : Fin 8), by decide +kernel⟩, ⟨(strSt 5 { absRun := 10 } : Machine.State), (7 : Fin 8),
    by decide +kernel⟩, ⟨({ strSt 4 { } with mon := { cmus := [(85, { mapped := true, port := 95 })] } } : Machine.State), (95
    : Fin 96), (85 : Fin 96), (sealM (bytesOf 13 [(0, 0x86), (2, 85)]) : Bytes), by decide +kernel⟩, ⟨(atP (strSt 4 { }) :
    Machine.State), (7 : Fin 8), (95 : Fin 96), (84 : Fin 96), (sealM (passF [(4, 1), (6, 0x06), (7, 1), (8, 2), (9, 3)]) :
    Bytes), by decide +kernel⟩, ⟨(atP (strSt 4 { incOld := some 3 }) : Machine.State), (7 : Fin 8), (95 : Fin 96), (84 : Fin
    96), (sealM (passF [(6, 0x32)]) : Bytes), by decide +kernel⟩, ⟨(atP (strSt 4 { incOld := some 3, msg := [1] }) :
    Machine.State), (7 : Fin 8), (95 : Fin 96), (84 : Fin 96), (sealM (passF [(4, 2), (6, 0x02), (7, 1), (8, 2), (9, 3)]) :
    Bytes), by decide +kernel⟩, ⟨(atP (strSt 4 { incOld := some 3 }) : Machine.State), (7 : Fin 8), (95 : Fin 96), (84 : Fin
    96), (sealM (passF [(6, 0x12), (7, 1), (8, 2), (9, 3)]) : Bytes), by decide +kernel⟩, ⟨(atP (strSt 4 { incOld := some 3 })
    : Machine.State), (95 : Fin 96), (84 : Fin 96), (bytesOf 16 [(0, 0x86), (2, 84)] : Bytes), by decide +kernel⟩, ⟨(strSt 4
    { incOld := some 3, complete := true, msg := bytesOf 4 [(0, 4)] } : Machine.State), (7 : Fin 8), (3 : ℕ),
    by decide +kernel⟩, ⟨((strSt 4 { miss := 1000 }).setF (Reg.SST_STRING_STATUS_D_VALID 7) 1 : Machine.State), (7 : Fin 8),
    by decide +kernel⟩, ⟨(strSt 3 { restAt := some 0, full := some (5, 3500) } : Machine.State), (7 : Fin 8), (0 : ℕ), (5 : ℕ),
    (3500 : ℕ), by decide +kernel⟩, ⟨(strSt 3 { restAt := some 5, full := some (4, 3500) } : Machine.State), (7 : Fin 8), (5 :
    ℕ), (4 : ℕ), (3500 : ℕ), by decide +kernel⟩, ⟨((strSt 4
    { restAt := some 0, full := some (0, 42000), d := 5, record := bytesOf 96 [(16, 100)] }).setF (Reg.SST_SOC_C_PRESENT 7) 100
    : Machine.State), (7 : Fin 8), by decide +kernel⟩⟩

theorem witness_EnergyLedger :
    (∃ (s : Machine.State) (v : Word) (copy : Bool), ¬s.ldgRuns = true ∧ (¬s.ldgRuns = true ∨ BitVec.toNat s.beat < 1000 *
      (s.ldg.next + 2) ∨ s.engineReset 64 = true) ∧ (s.mstate = 4 ∨ s.frankerFor 1 = false ∨ ∀ b ∈ s.ldg.closed, b.sig.isSome =
      true ∨ b.holdup = true) ∧ (¬s.ldgRuns = true ∨ s.f Reg.SEC_STATUS_ENTROPY_FAIL = 1 ∨ s.frankerFor 2 = false) ∧
      (s.ldg.closed = [] ∨ s.delivers = false) ∧ (s.ldg.refusals = [] ∨ s.delivers = false ∨ 2 ^ s.f Reg.LDG_RX_SIZE_LOG2 ≤
      ringUsed (s.f Reg.LDG_RX_TAIL_TAIL) (s.f Reg.LDG_RX_HEAD_HEAD)) ∧ writesAtOnce s ∧ ringUsed (BitVec.toNat v) (s.f
      Reg.LDG_RX_HEAD_HEAD) ≤ ringUsed (s.f Reg.LDG_RX_TAIL_TAIL) (s.f Reg.LDG_RX_HEAD_HEAD) ∧ ringUsed (BitVec.toNat v) (s.f
      Reg.LDG_BX_HEAD_HEAD) ≤ ringUsed (s.f Reg.LDG_BX_TAIL_TAIL) (s.f Reg.LDG_BX_HEAD_HEAD) ∧ (¬s.ldgRuns = true ∨ s.copyState
      (Bits.ofBool copy) ≠ 2 ∨ s.copyState (1 - Bits.ofBool copy) ≠ 0 ∨ s.ldgHalted = true)) ∧
    (∃ (s : Machine.State), s.ldgRuns = true ∧ (s.engineReset 64 = true ∨ s.ldg.waiting ≠ []) ∧ s.f Reg.SEC_STATUS_ENTROPY_FAIL
      = 0 ∧ s.frankerFor 2 = true ∧ (∀ b ∈ s.ldg.closed, b.sig.isSome = true ∨ b.holdup = true ∨ b.key = s.f
      Reg.SEC_EPOCH_EPOCH ∨ b.key ∈ s.sec.keys) ∧ s.sec.ready = none) ∧
    (∃ (s : Machine.State) (rec : Bytes), s.ldgRuns = true ∧ (¬(s.engineReset 64 = true ∨ s.ldg.waiting ≠ [])) ∧ List.length
      rec ≠ 32 ∧ 1000 * (s.ldg.next + 2) ≤ BitVec.toNat s.beat ∧ s.engineReset 64 = false) ∧
    (∃ (s : Machine.State) (rec : Bytes), (s.ldgRuns = true ∧ ¬(s.engineReset 64 = true ∨ s.ldg.waiting ≠ []) ∧ List.length rec
      = 32) ∧ s.ldgHalted = true) ∧
    (∃ (s : Machine.State) (rec : Bytes) (bad0 : Bool) (bad1 : Bool) (b : Bytes), (s.ldgRuns = true ∧ ¬(s.engineReset 64 = true
      ∨ s.ldg.waiting ≠ []) ∧ List.length rec = 32) ∧ s.ldgHalted = false ∧ (¬((BitVec.toNat (Bits.byteAt rec 0) = 1 ∨
      BitVec.toNat (Bits.byteAt rec 0) = 2) ∧ Bits.byteAt rec 1 = 0 ∧ (∀ b ∈ List.drop 18 rec, b = 0) ∧ Bits.le rec 16 2 ≠ 0 ∧
      Bits.le rec 2 2 ≤ 4095 ∧ Bits.le rec 4 4 ≤ 16777215 ∧ s.qEn (Bits.le rec 2 2) = true ∧ s.qOver (Bits.le rec 2 2) =
      false)) ∧ s.readEntry (Bits.le rec 4 4) (badOf (Bits.ofBool bad0 + 2 * Bits.ofBool bad1)) = (s, b)) ∧
    (∃ (s : Machine.State) (rec : Bytes) (bad0 : Bool) (bad1 : Bool) (b : Bytes), (s.ldgRuns = true ∧ ¬(s.engineReset 64 = true
      ∨ s.ldg.waiting ≠ []) ∧ List.length rec = 32) ∧ s.ldgHalted = false ∧ ((BitVec.toNat (Bits.byteAt rec 0) = 1 ∨
      BitVec.toNat (Bits.byteAt rec 0) = 2) ∧ Bits.byteAt rec 1 = 0 ∧ (∀ b ∈ List.drop 18 rec, b = 0) ∧ Bits.le rec 16 2 ≠ 0 ∧
      Bits.le rec 2 2 ≤ 4095 ∧ Bits.le rec 4 4 ≤ 16777215 ∧ s.qEn (Bits.le rec 2 2) = true ∧ s.qOver (Bits.le rec 2 2) = false)
      ∧ s.readEntry (Bits.le rec 4 4) (badOf (Bits.ofBool bad0 + 2 * Bits.ofBool bad1)) = (s, b) ∧ BitVec.toNat (Bits.byteAt
      rec 0) = 1 ∧ entState b ≠ 0) ∧
    (∃ (s : Machine.State) (rec : Bytes) (bad0 : Bool) (bad1 : Bool) (b : Bytes), (s.ldgRuns = true ∧ ¬(s.engineReset 64 = true
      ∨ s.ldg.waiting ≠ []) ∧ List.length rec = 32) ∧ s.ldgHalted = false ∧ ((BitVec.toNat (Bits.byteAt rec 0) = 1 ∨
      BitVec.toNat (Bits.byteAt rec 0) = 2) ∧ Bits.byteAt rec 1 = 0 ∧ (∀ b ∈ List.drop 18 rec, b = 0) ∧ Bits.le rec 16 2 ≠ 0 ∧
      Bits.le rec 2 2 ≤ 4095 ∧ Bits.le rec 4 4 ≤ 16777215 ∧ s.qEn (Bits.le rec 2 2) = true ∧ s.qOver (Bits.le rec 2 2) = false)
      ∧ s.readEntry (Bits.le rec 4 4) (badOf (Bits.ofBool bad0 + 2 * Bits.ofBool bad1)) = (s, b) ∧ BitVec.toNat (Bits.byteAt
      rec 0) = 2 ∧ (entState b = 0 ∨ entState b = 2)) ∧
    (∃ (s : Machine.State) (rec : Bytes) (bad0 : Bool) (bad1 : Bool) (b : Bytes), (s.ldgRuns = true ∧ ¬(s.engineReset 64 = true
      ∨ s.ldg.waiting ≠ []) ∧ List.length rec = 32) ∧ s.ldgHalted = false ∧ ((BitVec.toNat (Bits.byteAt rec 0) = 1 ∨
      BitVec.toNat (Bits.byteAt rec 0) = 2) ∧ Bits.byteAt rec 1 = 0 ∧ (∀ b ∈ List.drop 18 rec, b = 0) ∧ Bits.le rec 16 2 ≠ 0 ∧
      Bits.le rec 2 2 ≤ 4095 ∧ Bits.le rec 4 4 ≤ 16777215 ∧ s.qEn (Bits.le rec 2 2) = true ∧ s.qOver (Bits.le rec 2 2) = false)
      ∧ s.readEntry (Bits.le rec 4 4) (badOf (Bits.ofBool bad0 + 2 * Bits.ofBool bad1)) = (s, b) ∧ BitVec.toNat (Bits.byteAt
      rec 0) = 1 ∧ entState b = 0 ∧ (List.filter (fun x => decide (x.1 = BitVec.toNat s.beat / 1000)) s.ldg.opens).length <
      2048) ∧
    (∃ (s : Machine.State) (rec : Bytes) (bad0 : Bool) (bad1 : Bool) (b : Bytes), (s.ldgRuns = true ∧ ¬(s.engineReset 64 = true
      ∨ s.ldg.waiting ≠ []) ∧ List.length rec = 32) ∧ s.ldgHalted = false ∧ ((BitVec.toNat (Bits.byteAt rec 0) = 1 ∨
      BitVec.toNat (Bits.byteAt rec 0) = 2) ∧ Bits.byteAt rec 1 = 0 ∧ (∀ b ∈ List.drop 18 rec, b = 0) ∧ Bits.le rec 16 2 ≠ 0 ∧
      Bits.le rec 2 2 ≤ 4095 ∧ Bits.le rec 4 4 ≤ 16777215 ∧ s.qEn (Bits.le rec 2 2) = true ∧ s.qOver (Bits.le rec 2 2) = false)
      ∧ s.readEntry (Bits.le rec 4 4) (badOf (Bits.ofBool bad0 + 2 * Bits.ofBool bad1)) = (s, b) ∧ BitVec.toNat (Bits.byteAt
      rec 0) = 2 ∧ entState b = 1 ∧ List.take 8 b = List.take 8 (List.drop 8 rec) ∧ entQueue b = Bits.le rec 2 2 ∧ entWeight b
      = Bits.le rec 16 2 ∧ s.storeFull = false ∧ (List.filter (fun x => decide (x.1 = BitVec.toNat s.beat / 1000))
      s.ldg.closes).length < 2048) ∧
    (∃ (s : Machine.State) (b : Batch), s.mstate ≠ 4 ∧ s.frankerFor 1 = true ∧ List.find? (fun x => x.sig.isNone && !x.holdup)
      s.ldg.closed = some b ∧ b.key ∉ s.sec.keys) ∧
    (∃ (s : Machine.State) (b : Batch), s.mstate ≠ 4 ∧ s.frankerFor 1 = true ∧ List.find? (fun x => x.sig.isNone && !x.holdup)
      s.ldg.closed = some b ∧ b.key ∈ s.sec.keys) ∧
    (∃ (s : Machine.State) (b : Batch), s.ldgRuns = true ∧ s.f Reg.SEC_STATUS_ENTROPY_FAIL = 0 ∧ s.frankerFor 2 = true ∧
      List.find? (fun x => x.sig.isNone && !x.holdup && decide (x.key ≠ s.f Reg.SEC_EPOCH_EPOCH) && !s.sec.keys.contains x.key)
      s.ldg.closed = some b) ∧
    (∃ (s : Machine.State), s.ldgRuns = true ∧ s.f Reg.SEC_STATUS_ENTROPY_FAIL = 0 ∧ s.frankerFor 2 = true ∧ (∀ b ∈
      s.ldg.closed, b.sig.isSome = true ∨ b.holdup = true ∨ b.key = s.f Reg.SEC_EPOCH_EPOCH ∨ b.key ∈ s.sec.keys) ∧ s.sec.ready
      ≠ none) ∧
    (∃ (s : Machine.State) (b : Batch) (rest : List Batch), s.ldg.closed = b :: rest ∧ s.delivers = true ∧ b.sig = none) ∧
    (∃ (s : Machine.State) (b : Batch) (rest : List Batch), s.ldg.closed = b :: rest ∧ s.delivers = true ∧ b.given = false ∧ 2
      ^ s.f Reg.LDG_BX_SIZE_LOG2 ≤ ringUsed (s.f Reg.LDG_BX_TAIL_TAIL) (s.f Reg.LDG_BX_HEAD_HEAD)) ∧
    (∃ (s : Machine.State) (b : Batch) (rest : List Batch), s.ldg.closed = b :: rest ∧ s.delivers = true ∧ b.sig ≠ none ∧
      b.given = false ∧ ringUsed (s.f Reg.LDG_BX_TAIL_TAIL) (s.f Reg.LDG_BX_HEAD_HEAD) < 2 ^ s.f Reg.LDG_BX_SIZE_LOG2) ∧
    (∃ (s : Machine.State) (r : Bytes) (rest : List Bytes), s.ldg.refusals = r :: rest ∧ s.delivers = true ∧ ringUsed (s.f
      Reg.LDG_RX_TAIL_TAIL) (s.f Reg.LDG_RX_HEAD_HEAD) < 2 ^ s.f Reg.LDG_RX_SIZE_LOG2) ∧
    (∃ (s : Machine.State) (v : Word), writesAtOnce s ∧ ringUsed (s.f Reg.LDG_RX_TAIL_TAIL) (s.f Reg.LDG_RX_HEAD_HEAD) <
      ringUsed (BitVec.toNat v) (s.f Reg.LDG_RX_HEAD_HEAD)) ∧
    (∃ (s : Machine.State) (v : Word), writesAtOnce s ∧ ringUsed (s.f Reg.LDG_BX_TAIL_TAIL) (s.f Reg.LDG_BX_HEAD_HEAD) <
      ringUsed (BitVec.toNat v) (s.f Reg.LDG_BX_HEAD_HEAD)) ∧
    (∃ (s : Machine.State), s.mstate = 4) ∧
    (∃ (s : Machine.State) (copy : Bool), s.ldgRuns = true ∧ s.copyState (Bits.ofBool copy) = 2 ∧ s.copyState (1 - Bits.ofBool
      copy) = 0 ∧ s.ldgHalted = false) :=
  ⟨⟨(stA : Machine.State), (0 : Word), (false : Bool), by decide +kernel⟩, ⟨(under 64 ldgSt : Machine.State),
    by decide +kernel⟩, ⟨(ldgSt : Machine.State), (bytesOf 31 [] : Bytes), by decide +kernel⟩, ⟨(ldgSt.setF
    Reg.LDG_STATUS_HALTED 1 : Machine.State), (reqR 1 : Bytes), by decide +kernel⟩, ⟨(ldgSt : Machine.State), (reqR 3 : Bytes),
    (false : Bool), (false : Bool), (Bits.zeros 64 : Bytes), by decide +kernel⟩, ⟨(withEnt ldgSt (entB 1) : Machine.State),
    (reqR 1 : Bytes), (false : Bool), (false : Bool), (entB 1 : Bytes), by decide +kernel⟩, ⟨(withEnt ldgSt (entB 2) :
    Machine.State), (reqR 2 : Bytes), (false : Bool), (false : Bool), (entB 2 : Bytes), by decide +kernel⟩, ⟨(ldgSt :
    Machine.State), (reqR 1 : Bytes), (false : Bool), (false : Bool), (Bits.zeros 64 : Bytes), by decide +kernel⟩, ⟨(withEnt
    ldgSt (entB 1) : Machine.State), (reqR 2 : Bytes), (false : Bool), (false : Bool), (entB 1 : Bytes), by decide +kernel⟩,
    ⟨({ ldgSt { closed := [{ batA with sig := none, key := 1 }, { batA with sig := none }] } with sec := { keys := [0] } } :
    Machine.State), ({ batA with sig := none, key := 1 } : Batch), by decide +kernel⟩,
    ⟨({ ldgSt { closed := [{ batA with sig := none }] } with sec := { keys := [0] } } : Machine.State),
    ({ batA with sig := none } : Batch), by decide +kernel⟩, ⟨(ldgSt { closed := [batA, { batA with sig := none, key := 1 }] }
    : Machine.State), ({ batA with sig := none, key := 1 } : Batch), by decide +kernel⟩,
    ⟨({ ldgSt { closed := [{ batA with sig := none, beat := 10 }] } with sec := { ready := some [1] } } : Machine.State),
    by decide +kernel⟩, ⟨(upH (ldgSt { closed := [{ batA with sig := none }] }) : Machine.State), ({ batA with sig := none } :
    Batch), ([] : List Batch), by decide +kernel⟩, ⟨((((upH (ldgSt { closed := [batA, batA] })).setF Reg.LDG_BX_SIZE_LOG2
    4).setF Reg.LDG_BX_TAIL_TAIL 16) : Machine.State), (batA : Batch), ([batA] : List Batch), by decide +kernel⟩, ⟨(upH (ldgSt
    { closed := [batA] }) : Machine.State), (batA : Batch), ([] : List Batch), by decide +kernel⟩, ⟨((upH (ldgSt
    { refusals := [[5]] })).setF Reg.LDG_RX_SIZE_LOG2 4 : Machine.State), ([5] : Bytes), ([] : List Bytes), by decide +kernel⟩,
    ⟨(((ldgSt { ring := [true, false, true] }).setF Reg.LDG_RX_TAIL_TAIL 3).setF Reg.LDG_STORE_USED_USED 2 : Machine.State), (4
    : Word), by decide +kernel⟩, ⟨(((((upH (ldgSt { closed := [batA, batA] })).setF Reg.LDG_BX_SIZE_LOG2 4).setF
    Reg.LDG_RX_SIZE_LOG2 4).setF Reg.LDG_BX_TAIL_TAIL 0xFFFFFFFF).setF Reg.LDG_BX_HEAD_HEAD 0xFFFFFFFE : Machine.State), (0 :
    Word), by decide +kernel⟩, ⟨(ms 4 ldgSt : Machine.State), by decide +kernel⟩, ⟨(ldgSt.setF Reg.LDG_STATUS_COPY1 2 :
    Machine.State), (true : Bool), by decide +kernel⟩⟩

theorem witness_SecurityAndAttestation :
    (∃ (s : Machine.State), s.f Reg.SEC_CMD_RESULT_BUSY = 1 ∧ (s.sec.verifies = false ∨ s.frankerFor 3 = true)) ∧
    (∃ (s : Machine.State) (fail : Bool), s.f Reg.SEC_CMD_RESULT_BUSY = 0 ∧ s.f Reg.SEC_STATUS_ENTROPY_FAIL = 1 ∧ s.f
      Reg.SEC_STATUS_ENTROPY_FAIL = Bits.ofBool fail ∧ ¬s.f Reg.SEC_STATUS_DEBUG = 2) ∧
    (∃ (s : Machine.State) (fail : Bool) (cs : BitVec 4) (idx : Byte) (a : Bool) (b : Bool), s.f Reg.SEC_CMD_RESULT_BUSY = 0 ∧
      s.f Reg.SEC_STATUS_OWNER_EN = 0 ∧ s.f Reg.SEC_STATUS_ENTROPY_FAIL = 0 ∧ (s.f Reg.SEC_CMD_RESULT_BUSY = 0 ∨ s.sec.verifies
      = true ∧ s.frankerFor 3 = false) ∧ s.f Reg.SEC_STATUS_ENTROPY_FAIL ≠ Bits.ofBool fail ∧ ¬s.f Reg.SEC_STATUS_DEBUG = 2 ∧
      (a && b) = false ∧ cs.toNat ≤ 1 ∧ ¬s.f Reg.SEC_STATUS_ENTROPY_FAIL = 1 ∧ idx = 0) ∧
    (∃ (s : Machine.State), s.f Reg.SEC_STATUS_DEBUG = 2) ∧
    (∃ (s : Machine.State) (cs : BitVec 4) (idx : Byte), ¬s.f Reg.SEC_STATUS_DEBUG = 2 ∧ 1 < cs.toNat ∧ ¬s.f
      Reg.SEC_STATUS_ENTROPY_FAIL = 1 ∧ (1 ≤ BitVec.toNat idx ∧ BitVec.toNat idx ≤ 5 ∨ 16 ≤ BitVec.toNat idx ∧ BitVec.toNat idx
      ≤ 47)) ∧
    (∃ (s : Machine.State) (idx : Byte), ¬s.f Reg.SEC_STATUS_DEBUG = 2 ∧ ¬s.f Reg.SEC_STATUS_ENTROPY_FAIL = 1 ∧ idx = 255) ∧
    (∃ (s : Machine.State) (idx : Byte), ¬s.f Reg.SEC_STATUS_DEBUG = 2 ∧ ¬s.f Reg.SEC_STATUS_ENTROPY_FAIL = 1 ∧ (6 ≤
      BitVec.toNat idx ∧ BitVec.toNat idx ≤ 15 ∨ 48 ≤ BitVec.toNat idx ∧ BitVec.toNat idx ≤ 254)) :=
  ⟨⟨(busyS (ms 1 stA) : Machine.State), by decide +kernel⟩, ⟨(ent 1 (ms 1 stA) : Machine.State), (true : Bool),
    by decide +kernel⟩, ⟨(stA : Machine.State), (true : Bool), (1 : BitVec 4), (0 : Byte), (true : Bool), (false : Bool),
    by decide +kernel⟩, ⟨(rmaS stA : Machine.State), by decide +kernel⟩, ⟨(stA : Machine.State), (2 : BitVec 4), (1 : Byte),
    by decide +kernel⟩, ⟨({ stA with sec := { transcript := [1, 2], negotiated := true } } : Machine.State), (255 : Byte),
    by decide +kernel⟩, ⟨(stA : Machine.State), (6 : Byte), by decide +kernel⟩⟩

theorem witness_BringUpAndRetraining :
    (∃ (s : Machine.State), s.working 1 = true ∧ s.working 2 = false ∧ s.working 3 = false ∧ s.working 4 = false ∧ s.working 5
      = false ∧ s.working 6 = false ∧ s.working 7 = false ∧ s.working 8 = false ∧ (s.working 9 = false ∨ s.bup.loading = true)
      ∧ s.working 10 = false ∧ s.bup.outcome = none ∧ (s.f Reg.BUP_RESULT_STEP ≠ 9 ∨ s.loadsEnded = false) ∧ s.f
      Reg.BUP_RESULT_BUSY = 1 ∧ (s.bup.outcome ≠ none ∨ s.released = true ∧ BitVec.toNat s.beat < s.bup.began + if s.f
      Reg.BUP_RESULT_STEP = 10 then 1000 else stepLimit (s.f Reg.BUP_RESULT_STEP) * 1000000) ∧ (¬(s.released = true ∧ s.f
      Reg.BUP_RETRAIN_EN = 1 ∧ s.mstate ≠ 1 ∧ s.bup.channel = none ∧ s.bup.turnAt + s.lf Reg.BUP_RETRAIN_INTERVAL_MS * 1000 ≤
      BitVec.toNat s.beat ∧ (4 ≤ s.bup.nextCh ∨ BitVec.toNat s.beat % 1000 = 400))) ∧ s.bup.channel = none ∧ s.released = true) ∧
    (∃ (s : Machine.State), s.working 1 = false ∧ s.working 2 = true) ∧
    (∃ (s : Machine.State), s.working 3 = true) ∧
    (∃ (s : Machine.State), s.working 4 = true) ∧
    (∃ (s : Machine.State), s.working 5 = true) ∧
    (∃ (s : Machine.State), s.working 6 = true) ∧
    (∃ (s : Machine.State), s.working 7 = true) ∧
    (∃ (s : Machine.State), s.working 8 = true) ∧
    (∃ (s : Machine.State), s.working 9 = true ∧ s.bup.loading = false) ∧
    (∃ (s : Machine.State), s.working 10 = true ∧ s.f Reg.BUP_RESULT_BUSY = 1 ∧ s.bup.outcome = none ∧ (s.released = false ∨
      (s.bup.began + if s.f Reg.BUP_RESULT_STEP = 10 then 1000 else stepLimit (s.f Reg.BUP_RESULT_STEP) * 1000000) ≤
      BitVec.toNat s.beat)) ∧
    (∃ (s : Machine.State), ¬s.f Reg.BUP_RESULT_BUSY = 1) ∧
    (∃ (s : Machine.State) (st : ℕ) (r : ℕ), s.f Reg.BUP_RESULT_BUSY = 1 ∧ s.bup.outcome = some (st, r)) ∧
    (∃ (s : Machine.State), s.f Reg.BUP_RESULT_BUSY = 1 ∧ s.bup.outcome = none ∧ s.f Reg.BUP_RESULT_STEP = 9 ∧ s.loadsEnded =
      true) ∧
    (∃ (s : Machine.State), (s.released = true ∧ s.f Reg.BUP_RETRAIN_EN = 1 ∧ s.mstate ≠ 1 ∧ s.bup.channel = none ∧
      s.bup.turnAt + s.lf Reg.BUP_RETRAIN_INTERVAL_MS * 1000 ≤ BitVec.toNat s.beat ∧ (4 ≤ s.bup.nextCh ∨ BitVec.toNat s.beat %
      1000 = 400))) ∧
    (∃ (s : Machine.State) (ch : ℕ) (off : ℕ) (n : ℕ), s.bup.channel = some ch ∧ s.bup.waits = [ChanWait.read off n] ∧
      s.bar4Open (off / 2 ^ 33) = true ∧ off < 2 ^ 38 ∧ off % 2 ^ 33 + n ≤ 2 ^ 33) ∧
    (∃ (s : Machine.State) (ch : ℕ), s.bup.channel = some ch ∧ ch < 64 ∧ s.bup.waits = []) ∧
    (∃ (s : Machine.State), s.released = false) :=
  ⟨⟨(bupS 1 : Machine.State), by decide +kernel⟩, ⟨(bupS 2 : Machine.State), by decide +kernel⟩, ⟨(bupS 3 : Machine.State),
    by decide +kernel⟩, ⟨(bupS 4 : Machine.State), by decide +kernel⟩, ⟨(bupS 5 : Machine.State), by decide +kernel⟩,
    ⟨({ bupS 6 with deadCells := [3] } : Machine.State), by decide +kernel⟩, ⟨(bupS 7 : Machine.State), by decide +kernel⟩,
    ⟨(bupS 8 : Machine.State), by decide +kernel⟩, ⟨(bupS 9 : Machine.State), by decide +kernel⟩, ⟨(ms 2 (bupS 10) :
    Machine.State), by decide +kernel⟩, ⟨(ms 1 stA : Machine.State), by decide +kernel⟩, ⟨(bupS 2 { outcome := some (0, 0) } :
    Machine.State), (0 : ℕ), (0 : ℕ), by decide +kernel⟩, ⟨(bupS 9 { loading := true } : Machine.State), by decide +kernel⟩,
    ⟨({ (ms 2 stA).setF Reg.BUP_RETRAIN_EN 1 with beat := 100000400, bup := { nextCh := 3 } } : Machine.State),
    by decide +kernel⟩, ⟨({ dramSt with bup := { dram := true, channel := some 63, waits := [.read 0x3FEFFFFFFF 1] } } :
    Machine.State), (63 : ℕ), (0x3FEFFFFFFF : ℕ), (1 : ℕ), by decide +kernel⟩,
    ⟨({ stA with bup := { channel := some 63, failRuns := [(63, 2)] } } : Machine.State), (63 : ℕ), by decide +kernel⟩,
    ⟨({ bupS 3 { outcome := some (0, 0) } with released := false, beat := 0 } : Machine.State), by decide +kernel⟩⟩

theorem witness_TwinOperation :
    (∃ (s : Machine.State) (frame : Bytes) (ok : Bool), s.power = true ∧ s.twinRuns = true ∧ ok = true ∧ s.twn.got = false ∧
      List.length frame = 3072 ∧ Bits.le frame 0 4 = (BitVec.toNat s.beat + 1) % 2 ^ 32 ∧ ¬(s.mstate = 4 ∧ BitVec.toNat
      (Bits.byteAt s.twn.peer 6) / 2 % 2 = 1 ∧ BitVec.toNat (Bits.byteAt s.twn.peer 6) / 8 % 2 = 1 ∧ s.f Reg.TWN_STATUS_SYNC =
      1 ∧ s.f Reg.TWN_STATUS_LINK = 1 ∧ (BitVec.toNat s.beat + 1) % 1000 = 0 ∧ s.twn.judge = none) ∧ ¬(s.twinRuns = true ∧ s.f
      Reg.TWN_STATUS_LINK = 1 ∧ 2 ≤ s.twn.missRun) ∧ (¬((s.twn.mirror.any fun e => decide (e.1 + 3 ≤ BitVec.toNat s.beat)) =
      true ∨ ∃ st < 8, Option.any (fun k => decide (k + 3 ≤ BitVec.toNat s.beat)) (s.string st).waitDraw = true)) ∧ s.twn.judge
      = none ∧ (¬(s.mstate = 4 ∧ s.twinRuns = true ∧ s.f Reg.TWN_STATUS_LINK = 1 ∧ s.f Reg.TWN_STATUS_SYNC = 0 ∧ s.lf
      Reg.TWN_CFG_RESYNC_MS * 1000 ≤ s.twn.matched)) ∧ ¬(s.mstate = 4 ∧ s.twinRuns = true ∧ s.f Reg.TWN_CFG_PREF = s.f
      Reg.TWN_STATUS_MODULE ∧ s.f Reg.TWN_STATUS_SYNC = 1 ∧ 0 < s.lf Reg.TWN_CFG_CLEAN_S ∧ s.lf Reg.TWN_CFG_CLEAN_S ≤
      BitVec.toNat (s.rd 17825804) ∧ s.f Reg.TWN_STATUS_PEER_ACTIVE = 1 ∧ s.f Reg.TWN_STATUS_PEER_MSTATE = 3 ∧ (BitVec.toNat
      s.beat + 1) % 1000 = 0 ∧ s.twn.judge = none) ∧ (s.mstate ≠ 3 ∨ ¬s.twinRuns = true) ∧ s.twn.asked = none ∧ s.f
      Reg.TWN_CFG_MODE = 1 ∧ s.mstate ≠ 3) ∧
    (∃ (s : Machine.State) (frame : Bytes) (ok : Bool), s.power = true ∧ s.f Reg.TWN_CFG_MODE = 1 ∧ s.twnRuns = false ∧ s.f
      Reg.BUP_RESULT_BUSY = 1 ∧ s.f Reg.BUP_RESULT_STEP = 8 ∧ ok = true ∧ List.length frame = 3072) ∧
    (∃ (s : Machine.State) (frame : Bytes) (ok : Bool), ¬(s.power = true ∧ s.twinRuns = true ∧ ok = true ∧ s.twn.got = false ∧
      List.length frame = 3072 ∧ Bits.le frame 0 4 = (BitVec.toNat s.beat + 1) % 2 ^ 32) ∧ ¬(s.power = true ∧ s.f
      Reg.TWN_CFG_MODE = 1 ∧ s.twnRuns = false ∧ s.f Reg.BUP_RESULT_BUSY = 1 ∧ s.f Reg.BUP_RESULT_STEP = 8 ∧ ok = true ∧
      List.length frame = 3072) ∧ s.mstate = 4 ∧ BitVec.toNat (Bits.byteAt s.twn.peer 6) / 2 % 2 = 1 ∧ BitVec.toNat
      (Bits.byteAt s.twn.peer 6) / 8 % 2 = 1 ∧ s.f Reg.TWN_STATUS_SYNC = 1 ∧ s.f Reg.TWN_STATUS_LINK = 1 ∧ (BitVec.toNat s.beat
      + 1) % 1000 = 0 ∧ s.twn.judge = none ∧ s.outranks 6 = false) ∧
    (∃ (s : Machine.State), s.twinRuns = true ∧ s.f Reg.TWN_STATUS_LINK = 1 ∧ 2 ≤ s.twn.missRun) ∧
    (∃ (s : Machine.State) (n : ℕ) (cyc : ℕ) (l : Letter), n + 3 ≤ BitVec.toNat s.beat ∧ (∀ st < 8, Option.any (fun k => decide
      (k + 3 ≤ BitVec.toNat s.beat)) (s.string st).waitDraw = false) ∧ s.twn.mirror = [(n, Mirrored.letter l cyc)]) ∧
    (∃ (s : Machine.State) (n : ℕ) (v : Word), n + 3 ≤ BitVec.toNat s.beat ∧ (∀ st < 8, Option.any (fun k => decide (k + 3 ≤
      BitVec.toNat s.beat)) (s.string st).waitDraw = false) ∧ s.twn.mirror = [(n, Mirrored.write 5242896 v)]) ∧
    (∃ (s : Machine.State) (j : ℕ) (own : Option ℕ) (peer : Option ℕ), s.twn.judge = some (j, own, peer) ∧ s.twn.mism = false ∧
      own.isSome = true ∧ (own = none ∨ peer = none ∨ BitVec.toNat s.beat ≤ j)) ∧
    (∃ (s : Machine.State) (j : ℕ) (own : Option ℕ) (peer : Option ℕ), s.twn.judge = some (j, own, peer) ∧ (s.twn.mism = true ∨
      own = none)) ∧
    (∃ (s : Machine.State) (j : ℕ) (own : Option ℕ) (peer : Option ℕ) (a : ℕ) (b : ℕ), s.twn.judge = some (j, own, peer) ∧ own
      = some a ∧ peer = some b ∧ j < BitVec.toNat s.beat ∧ s.f Reg.TWN_STATUS_SYNC = 1 ∧ s.mstate = 4 ∧ b ≠ 0 ∧ a = 0 ∧
      s.outranks 6 = false) ∧
    (∃ (s : Machine.State) (j : ℕ) (own : Option ℕ) (peer : Option ℕ) (a : ℕ) (b : ℕ), s.twn.judge = some (j, own, peer) ∧ own
      = some a ∧ peer = some b ∧ j < BitVec.toNat s.beat ∧ Bits.bit (BitVec.toNat (Bits.byteAt s.twn.peer 6)) 2 = true ∧
      s.mstate = 3 ∧ a ≠ 0 ∧ b = 0 ∧ s.outranks 6 = false) ∧
    (∃ (s : Machine.State) (j : ℕ) (own : Option ℕ) (peer : Option ℕ) (a : ℕ) (b : ℕ), s.twn.judge = some (j, own, peer) ∧ own
      = some a ∧ peer = some b ∧ j < BitVec.toNat s.beat ∧ ¬(s.f Reg.TWN_STATUS_SYNC = 1 ∧ s.mstate = 4 ∧ b ≠ 0 ∧ a = 0) ∧
      ¬(Bits.bit (BitVec.toNat (Bits.byteAt s.twn.peer 6)) 2 = true ∧ s.mstate = 3 ∧ a ≠ 0 ∧ b = 0)) ∧
    (∃ (s : Machine.State), (s.mstate = 4 ∧ s.twinRuns = true ∧ s.f Reg.TWN_STATUS_LINK = 1 ∧ s.f Reg.TWN_STATUS_SYNC = 0 ∧
      s.lf Reg.TWN_CFG_RESYNC_MS * 1000 ≤ s.twn.matched)) ∧
    (∃ (s : Machine.State), s.mstate = 4 ∧ s.twinRuns = true ∧ s.f Reg.TWN_CFG_PREF = s.f Reg.TWN_STATUS_MODULE ∧ s.f
      Reg.TWN_STATUS_SYNC = 1 ∧ 0 < s.lf Reg.TWN_CFG_CLEAN_S ∧ s.lf Reg.TWN_CFG_CLEAN_S ≤ BitVec.toNat (s.rd 17825804) ∧ s.f
      Reg.TWN_STATUS_PEER_ACTIVE = 1 ∧ s.f Reg.TWN_STATUS_PEER_MSTATE = 3 ∧ (BitVec.toNat s.beat + 1) % 1000 = 0 ∧ s.twn.judge
      = none ∧ s.outranks 6 = false) ∧
    (∃ (s : Machine.State), s.mstate = 3 ∧ s.twinRuns = true ∧ (¬Bits.bit (BitVec.toNat (Bits.byteAt s.twn.peer 6)) 2 = true ∨
      s.f Reg.TWN_STATUS_LINK = 0) ∧ (s.f Reg.TWN_CFG_MODE = 0 ∨ s.mstate = 3)) ∧
    (∃ (s : Machine.State), s.mstate = 3 ∧ s.twinRuns = true ∧ Bits.bit (BitVec.toNat (Bits.byteAt s.twn.peer 6)) 2 = true ∧
      s.f Reg.TWN_STATUS_LINK = 1 ∧ s.f Reg.TWN_STATUS_PEER_MSTATE = 5) ∧
    (∃ (s : Machine.State), s.mstate = 3 ∧ s.twinRuns = true ∧ Bits.bit (BitVec.toNat (Bits.byteAt s.twn.peer 6)) 2 = true ∧
      s.f Reg.TWN_STATUS_LINK = 1 ∧ s.f Reg.TWN_STATUS_PEER_MSTATE ≠ 5) ∧
    (∃ (s : Machine.State) (a : ℕ), s.twn.asked = some a ∧ a + 1000 ≤ BitVec.toNat s.beat) ∧
    (∃ (s : Machine.State) (a : ℕ), s.twn.asked = some a ∧ BitVec.toNat s.beat < a + 1000) :=
  ⟨⟨(twS 4 {} : Machine.State), (twF 4001 0 : Bytes), (true : Bool), by decide +kernel⟩, ⟨((((State.reset.setF Reg.TWN_CFG_MODE
    1).setF Reg.BUP_RESULT_BUSY 1).setF Reg.BUP_RESULT_STEP 8) : Machine.State), (twF 4001 0 : Bytes), (true : Bool),
    by decide +kernel⟩,
    ⟨({ (((twS 4 { peer := twF 4999 10 }).setF Reg.TWN_STATUS_LINK 1).setF Reg.TWN_STATUS_SYNC 1) with beat := 4999 } :
    Machine.State), (twF 4001 0 : Bytes), (true : Bool), by decide +kernel⟩, ⟨((twS 4 { missRun := 2 }).setF
    Reg.TWN_STATUS_LINK 1 : Machine.State), by decide +kernel⟩, ⟨(twS 4 { mirror := [(3997, .letter ltr 5)] } : Machine.State),
    (3997 : ℕ), (5 : ℕ), (ltr : Letter), by decide +kernel⟩, ⟨(twS 4 { mirror := [(3997, .write 0x500010 0x1234)] } :
    Machine.State), (3997 : ℕ), (0x1234 : Word), by decide +kernel⟩, ⟨(twS 4 { judge := some (3996, some 1, none) } :
    Machine.State), (3996 : ℕ), (some 1 : Option ℕ), (none : Option ℕ), by decide +kernel⟩, ⟨(twS 4
    { judge := some (3996, none, some 0), mism := true } : Machine.State), (3996 : ℕ), (none : Option ℕ), (some 0 : Option ℕ),
    by decide +kernel⟩, ⟨((twS 4 { judge := some (3999, some 0, some 1) }).setF Reg.TWN_STATUS_SYNC 1 : Machine.State), (3999 :
    ℕ), (some 0 : Option ℕ), (some 1 : Option ℕ), (0 : ℕ), (1 : ℕ), by decide +kernel⟩, ⟨((twS 3
    { judge := some (3999, some 2, some 0), peer := twF 4000 4 }).setF Reg.TWN_STATUS_SYNC 1 : Machine.State), (3999 : ℕ),
    (some 2 : Option ℕ), (some 0 : Option ℕ), (2 : ℕ), (0 : ℕ), by decide +kernel⟩, ⟨(twS 4
    { judge := some (3999, some 0, some 1) } : Machine.State), (3999 : ℕ), (some 0 : Option ℕ), (some 1 : Option ℕ), (0 : ℕ),
    (1 : ℕ), by decide +kernel⟩, ⟨((twS 4 { matched := 1000000000 }).setF Reg.TWN_STATUS_LINK 1 : Machine.State),
    by decide +kernel⟩,
    ⟨({ ((((((twS 4 { peer := twF 4999 6 }).setF Reg.TWN_STATUS_LINK 1).setF Reg.TWN_STATUS_SYNC 1).setF Reg.TWN_STATUS_PEER_ACTIVE 1).setF Reg.TWN_STATUS_PEER_MSTATE 3).wr 0x110000C 0xFFFFFFFF).setF Reg.TWN_CFG_CLEAN_S 60 with beat := 4999, live := [] }
    : Machine.State), by decide +kernel⟩, ⟨(twS 3 {} : Machine.State), by decide +kernel⟩, ⟨(((twS 3
    { peer := twF 4000 4 }).setF Reg.TWN_STATUS_LINK 1).setF Reg.TWN_STATUS_PEER_MSTATE 5 : Machine.State), by decide +kernel⟩,
    ⟨((twS 3 { peer := twF 4000 4 }).setF Reg.TWN_STATUS_LINK 1 : Machine.State), by decide +kernel⟩, ⟨(twS 3
    { asked := some 3000 } : Machine.State), (3000 : ℕ), by decide +kernel⟩, ⟨(twS 3 { asked := some 3001 } : Machine.State),
    (3001 : ℕ), by decide +kernel⟩⟩

theorem witness_EventLogAndCollections :
    (∃ (s : Machine.State) (v : Word), (s.f Reg.EVL_STATUS_CLEARING = 1 ∨ s.evl.queue = []) ∧ v = 3877372752 ∧ s.f
      Reg.EVL_STATUS_CLEARING = 0 ∧ ¬(s.released = true ∧ s.lf Reg.CNT_CFG_PERIOD_MS ≠ 0 ∧ (BitVec.toNat s.beat + 2) % (s.lf
      Reg.CNT_CFG_PERIOD_MS * 1000) = 0 ∧ s.cnt.dueAt ≠ some (BitVec.toNat s.beat + 2)) ∧ s.released = true ∧ s.mstate ≠ 6 ∧
      s.cnt.cur = none ∧ Option.any (fun x => x.2.2) s.cnt.cur = false) ∧
    (∃ (q : List Ev) (x : Ev) (r : List Ev), firstEv q = some (x, r)) ∧
    (∃ (s : Machine.State) (x : Ev) (r : List Ev), s.f Reg.EVL_STATUS_CLEARING = 0 ∧ firstEv s.evl.queue = some (x, r)) ∧
    (∃ (s : Machine.State) (v : Word), (v ≠ 3877372752 ∨ s.f Reg.EVL_STATUS_CLEARING = 1) ∧ s.f Reg.EVL_STATUS_CLEARING = 1 ∧
      s.evl.closed = true) ∧
    (∃ (s : Machine.State), s.f Reg.EVL_STATUS_CLEARING = 1 ∧ s.evl.closed = false) ∧
    (∃ (s : Machine.State), s.released = true ∧ s.lf Reg.CNT_CFG_PERIOD_MS ≠ 0 ∧ (BitVec.toNat s.beat + 2) % (s.lf
      Reg.CNT_CFG_PERIOD_MS * 1000) = 0 ∧ s.cnt.dueAt ≠ some (BitVec.toNat s.beat + 2) ∧ s.cnt.cur = none) ∧
    (∃ (s : Machine.State), s.released = true ∧ s.lf Reg.CNT_CFG_PERIOD_MS ≠ 0 ∧ (BitVec.toNat s.beat + 2) % (s.lf
      Reg.CNT_CFG_PERIOD_MS * 1000) = 0 ∧ s.cnt.dueAt ≠ some (BitVec.toNat s.beat + 2) ∧ s.cnt.cur ≠ none ∧ s.released = true ∧
      s.mstate ≠ 6) ∧
    (∃ (s : Machine.State), (s.released = false ∨ s.mstate = 6)) ∧
    (∃ (s : Machine.State) (late : Word) (k : ℕ) (b : ℕ), s.cnt.cur = some (k, b, true) ∧ (BitVec.toNat late &&& lateMask ≠ 0 ∧
      BitVec.toNat s.beat < b + 4 ∨ BitVec.toNat late &&& lateMask = 0 ∧ b + 4 < BitVec.toNat s.beat)) ∧
    (∃ (s : Machine.State) (late : Word) (k : ℕ) (b : ℕ), s.cnt.cur = some (k, b, true) ∧ (BitVec.toNat late &&& lateMask ≠ 0 ∧
      b + 4 ≤ BitVec.toNat s.beat ∨ BitVec.toNat late &&& lateMask = 0 ∧ BitVec.toNat s.beat ≤ b + 4)) :=
  ⟨⟨(evS {} : Machine.State), (0xE71C0350 : Word), by decide +kernel⟩, ⟨([⟨0x101, 5, 1, 2, 3, 4, some 7, false⟩] : List Ev),
    (⟨0x101, 5, 1, 2, 3, 4, some 7, false⟩ : Ev), ([] : List Ev), by decide +kernel⟩, ⟨(evS
    { queue := [⟨0x101, 5, 1, 2, 3, 4, none, false⟩, ⟨0x102, 5, 1, 2, 3, 4, none, false⟩] } : Machine.State), (⟨0x101, 5, 1, 2,
    3, 4, none, false⟩ : Ev), ([⟨0x102, 5, 1, 2, 3, 4, none, false⟩] : List Ev), by decide +kernel⟩, ⟨((evS
    { closed := true }).setF Reg.EVL_STATUS_CLEARING 1 : Machine.State), (0xE71C0350 : Word), by decide +kernel⟩, ⟨((evS
    {}).setF Reg.EVL_STATUS_CLEARING 1 : Machine.State), by decide +kernel⟩,
    ⟨({ (stA.setF Reg.CNT_CFG_PERIOD_MS 1) with beat := 3998, live := [(0x1200004, 1)] } : Machine.State), by decide +kernel⟩,
    ⟨({ (stA.setF Reg.CNT_CFG_PERIOD_MS 1) with beat := 3998, live := [(0x1200004, 1)], cnt := { cur := some (5, 3999, true) } }
    : Machine.State), by decide +kernel⟩, ⟨(ms 6 stA : Machine.State), by decide +kernel⟩,
    ⟨({ stA with cnt := { cur := some (5, 3997, true) } } : Machine.State), (4 : Word), (5 : ℕ), (3997 : ℕ),
    by decide +kernel⟩, ⟨({ stA with cnt := { cur := some (5, 3997, true) } } : Machine.State), (0 : Word), (5 : ℕ), (3997 :
    ℕ), by decide +kernel⟩⟩

theorem witness_BeatBoundary :
    (∃ (s : Machine.State), s.power = true ∧ s.released = true) ∧
    (∃ (s : Machine.State), (s.power = false ∨ s.released = false)) :=
  ⟨⟨(stA : Machine.State), by decide +kernel⟩, ⟨(State.reset : Machine.State), by decide +kernel⟩⟩

theorem witness_RegisterWrites :
    (∃ (s : Machine.State) (off : BitVec 25) (data : Bytes) (k : ℕ), s.power = false ∧ k < 4 ∧ data ≠ [] ∧ off.toNat % 4 +
      List.length data ≤ 4) ∧
    (∃ (s : Machine.State) (off : BitVec 25) (data : Bytes), s.power = true ∧ data ≠ [] ∧ off.toNat % 4 + List.length data ≤ 4
      ∧ rowOf (off.toNat / 4 * 4) = none ∧ (reportedRo.any fun e => inRow (off.toNat / 4 * 4) e.1 4 e.2) = false ∧ inHif
      (off.toNat / 4 * 4) = true) ∧
    (∃ (s : Machine.State) (off : BitVec 25) (data : Bytes), s.power = true ∧ data ≠ [] ∧ off.toNat % 4 + List.length data ≤ 4
      ∧ rowOf (off.toNat / 4 * 4) = none ∧ (reportedRo.any fun e => inRow (off.toNat / 4 * 4) e.1 4 e.2) = true ∧ inHif
      (off.toNat / 4 * 4) = false ∧ (alwaysOn (off.toNat / 4 * 4) = true ∨ s.mainServes = true)) ∧
    (∃ (s : Machine.State) (off : BitVec 25) (data : Bytes) (v : Word) (r : WRow), s.power = true ∧ data ≠ [] ∧ off.toNat % 4 +
      List.length data ≤ 4 ∧ rowOf (off.toNat / 4 * 4) = some r ∧ off.toNat / 4 * 4 ≠ 16777224 ∧ inRow (off.toNat / 4 * 4)
      4194304 4 32 = false ∧ (inStepOff (off.toNat / 4 * 4) = true ∧ s.mstate = 4 ∨ s.locked r (off.toNat / 4 * 4) (s.lanes
      off.toNat data) = true) ∧ inHif (off.toNat / 4 * 4) = false ∧ (alwaysOn (off.toNat / 4 * 4) = true ∨ s.mainServes = true)
      ∧ (inStepOff (off.toNat / 4 * 4) = true ∧ s.mstate = 4 ∨ s.locked r (off.toNat / 4 * 4) v = true)) ∧
    (∃ (s : Machine.State) (off : BitVec 25) (data : Bytes) (v : Word) (r : WRow), s.power = true ∧ data ≠ [] ∧ off.toNat % 4 +
      List.length data ≤ 4 ∧ rowOf (off.toNat / 4 * 4) = some r ∧ off.toNat / 4 * 4 ≠ 16777224 ∧ inRow (off.toNat / 4 * 4)
      4194304 4 32 = false ∧ (¬(inStepOff (off.toNat / 4 * 4) = true ∧ s.mstate = 4 ∨ s.locked r (off.toNat / 4 * 4) (s.lanes
      off.toNat data) = true)) ∧ (outOfRange (off.toNat / 4 * 4) (s.lanes off.toNat data) = true ∨ s.relationBad (off.toNat / 4
      * 4) (s.lanes off.toNat data) = true) ∧ inHif (off.toNat / 4 * 4) = false ∧ (alwaysOn (off.toNat / 4 * 4) = true ∨
      s.mainServes = true) ∧ (¬(inStepOff (off.toNat / 4 * 4) = true ∧ s.mstate = 4 ∨ s.locked r (off.toNat / 4 * 4) v = true))
      ∧ (outOfRange (off.toNat / 4 * 4) v = true ∨ s.relationBad (off.toNat / 4 * 4) v = true)) ∧
    (∃ (s : Machine.State) (off : BitVec 25) (data : Bytes) (v : Word) (r : WRow), s.power = true ∧ data ≠ [] ∧ off.toNat % 4 +
      List.length data ≤ 4 ∧ rowOf (off.toNat / 4 * 4) = some r ∧ off.toNat / 4 * 4 ≠ 16777224 ∧ inRow (off.toNat / 4 * 4)
      4194304 4 32 = false ∧ (¬(inStepOff (off.toNat / 4 * 4) = true ∧ s.mstate = 4 ∨ s.locked r (off.toNat / 4 * 4) (s.lanes
      off.toNat data) = true)) ∧ outOfRange (off.toNat / 4 * 4) (s.lanes off.toNat data) = false ∧ s.relationBad (off.toNat / 4
      * 4) (s.lanes off.toNat data) = false ∧ s.ignores (off.toNat / 4 * 4) (BitVec.toNat (s.lanes off.toNat data)) = false ∧
      inStepOff (off.toNat / 4 * 4) = true ∧ s.twinActive = true ∧ inHif (off.toNat / 4 * 4) = false ∧ (alwaysOn (off.toNat / 4
      * 4) = true ∨ s.mainServes = true) ∧ (¬(inStepOff (off.toNat / 4 * 4) = true ∧ s.mstate = 4 ∨ s.locked r (off.toNat / 4 *
      4) v = true)) ∧ outOfRange (off.toNat / 4 * 4) v = false ∧ s.relationBad (off.toNat / 4 * 4) v = false ∧ s.ignores
      (off.toNat / 4 * 4) (BitVec.toNat v) = false) ∧
    (∃ (s : Machine.State) (off : BitVec 25) (data : Bytes) (v : Word) (r : WRow), s.power = true ∧ data ≠ [] ∧ off.toNat % 4 +
      List.length data ≤ 4 ∧ rowOf (off.toNat / 4 * 4) = some r ∧ off.toNat / 4 * 4 ≠ 16777224 ∧ inRow (off.toNat / 4 * 4)
      4194304 4 32 = false ∧ (¬(inStepOff (off.toNat / 4 * 4) = true ∧ s.mstate = 4 ∨ s.locked r (off.toNat / 4 * 4) (s.lanes
      off.toNat data) = true)) ∧ outOfRange (off.toNat / 4 * 4) (s.lanes off.toNat data) = false ∧ s.relationBad (off.toNat / 4
      * 4) (s.lanes off.toNat data) = false ∧ off.toNat / 4 * 4 ∉ [260, 2097168, 5242884, 5242904, 6291456, 6291504, 6291520,
      8388612, 8388628, 9437200, 9437204, 10485784, 11534416, 11534440, 13631492, 13631504, 14680068, 15728640, 16777224,
      17825796, 18874368, 19922952] ∧ inRow (off.toNat / 4 * 4) 4194304 4 32 = false ∧ inRow (off.toNat / 4 * 4) 7340032 4 512
      = false ∧ inRow (off.toNat / 4 * 4) 13635584 4 64 = false ∧ inRow (off.toNat / 4 * 4) 14155776 4 1024 = false ∧
      ¬(inStepOff (off.toNat / 4 * 4) = true ∧ s.twinActive = true) ∧ inHif (off.toNat / 4 * 4) = false ∧ (alwaysOn (off.toNat
      / 4 * 4) = true ∨ s.mainServes = true) ∧ (¬(inStepOff (off.toNat / 4 * 4) = true ∧ s.mstate = 4 ∨ s.locked r (off.toNat /
      4 * 4) v = true)) ∧ outOfRange (off.toNat / 4 * 4) v = false ∧ s.relationBad (off.toNat / 4 * 4) v = false) ∧
    (∃ (s : Machine.State) (off : BitVec 25), inHif (off.toNat / 4 * 4) = false ∧ alwaysOn (off.toNat / 4 * 4) = false ∧
      s.mainServes = false) ∧
    (∃ (s : Machine.State) (off : BitVec 25), inHif (off.toNat / 4 * 4) = false ∧ (alwaysOn (off.toNat / 4 * 4) = true ∨
      s.mainServes = true) ∧ rowOf (off.toNat / 4 * 4) = none ∧ (reportedRo.any fun e => inRow (off.toNat / 4 * 4) e.1 4 e.2) =
      false) :=
  ⟨⟨({ stA with power := false } : Machine.State), (0x500010 : BitVec 25), (Bits.toLe 4 (1000) : Bytes), (0 : ℕ),
    by decide +kernel⟩, ⟨(stA : Machine.State), (0xD00018 : BitVec 25), (Bits.toLe 4 (1) : Bytes), by decide +kernel⟩, ⟨(stA :
    Machine.State), (0xE0FD7C : BitVec 25), (Bits.toLe 4 (1) : Bytes), by decide +kernel⟩, ⟨(ms 4 stA : Machine.State),
    (0x500010 : BitVec 25), (Bits.toLe 4 (1000) : Bytes), (1000 : Word), ((rowOf 0x500010).getD ⟨0, 0, 0, 0, 0, 0, 0⟩ : WRow),
    by decide +kernel⟩, ⟨(stA : Machine.State), (0x500010 : BitVec 25), (Bits.toLe 4 (999) : Bytes), (999 : Word), ((rowOf
    0x500010).getD ⟨0, 0, 0, 0, 0, 0, 0⟩ : WRow), by decide +kernel⟩, ⟨(stA.setF Reg.TWN_CFG_MODE 1 : Machine.State), (0x500010
    : BitVec 25), (Bits.toLe 4 (1000) : Bytes), (1000 : Word), ((rowOf 0x500010).getD ⟨0, 0, 0, 0, 0, 0, 0⟩ : WRow),
    by decide +kernel⟩, ⟨(stA : Machine.State), (0x500013 : BitVec 25), ([7] : Bytes), (500000 : Word), ((rowOf 0x500010).getD
    ⟨0, 0, 0, 0, 0, 0, 0⟩ : WRow), by decide +kernel⟩, ⟨(ms 6 stA : Machine.State), (0x500010 : BitVec 25), by decide +kernel⟩,
    ⟨(stA : Machine.State), (0x1FFFFFC : BitVec 25), by decide +kernel⟩⟩

theorem witness_ResetState :
    (∃ (p : ℕ) (r : ℕ) (b : ℕ) (k : ℕ), p < 32 ∧ r ∉ [1048576, 14680064, 20971520] ∧ b < 24 ∧ k < 512 ∧ k < 640) :=
  ⟨(0 : ℕ), (0 : ℕ), (0 : ℕ), (0 : ℕ), by decide +kernel⟩

/-! ### Letters to cells, whose targets depend on where the publication window lies -/

/-- An address outside the publication window and below a cell's control offsets names a cell's byte. -/
theorem cellTarget (b n off : Nat) (hb : b = 69543976239104 ∧ n = 327679 ∨ b = 69543842021376 ∧ n = 327678)
    (hw : Config.pubWindow.toNat + 16384 ≤ b ∨ b + 0xC00 ≤ Config.pubWindow.toNat) (ho : off < 0xC00) :
    target (toCell n off).toNat = .cell n off := by
  have hc : cellAddr n off = b + off := by
    obtain ⟨rfl, rfl⟩ | ⟨rfl, rfl⟩ := hb <;> simp [cellAddr, partOf, clusterOf, indexOf]
  have ht : (toCell n off).toNat = b + off := by
    rw [toCell, hc, BitVec.toNat_ofNat, Nat.mod_eq_of_lt (by omega)]
  have h1 : aSpace (b + off) = 0 := by unfold aSpace; omega
  have h2 : aPart (b + off) = 31 := by unfold aPart; omega
  have h3 : aCluster (b + off) = 19 := by unfold aCluster; omega
  have h5 : aOff (b + off) = off := by unfold aOff; omega
  have h4 : aCell (b + off) = n - 327168 := by unfold aCell; omega
  have hn : 10240 * 31 + 512 * 19 + (n - 327168) = n := by omega
  rw [ht, target, if_neg (by omega)]
  simp [h1, h2, h3, h4, h5, ho, hn]
/-- One of two cells lies outside the publication window, whose place is a free constant (log entry 2). -/
theorem clearCell : ∃ n, (n = 327679 ∨ n = 327678) ∧ ∀ off, off < 0xC00 → target (toCell n off).toNat = .cell n off := by
  by_cases h : Config.pubWindow.toNat + 16384 ≤ 69543976239104 ∨ 69543976239104 + 0xC00 ≤ Config.pubWindow.toNat
  · exact ⟨327679, .inl rfl, fun off => cellTarget _ _ off (.inl ⟨rfl, rfl⟩) h⟩
  · exact ⟨327678, .inr rfl, fun off => cellTarget 69543842021376 _ off (.inr ⟨rfl, rfl⟩) (by omega)⟩
/-- One of two addresses of a cluster that does not exist lies outside the publication window. -/
theorem clearNothing : ∃ a : FabAddr, (a = 0x1FFFFFFFFFF0 ∨ a = 0x1FFFFF000000) ∧ target a.toNat = .nothing := by
  by_cases h : Config.pubWindow.toNat ≤ 0x1FFFFF000000 ∧ 0x1FFFFF000000 < Config.pubWindow.toNat + 16384
  · refine ⟨_, .inl rfl, ?_⟩
    rw [target, if_neg (by simp; omega)]; decide +kernel
  · refine ⟨_, .inr rfl, ?_⟩
    rw [target, if_neg (by simpa using h)]; decide +kernel
/-- One of two addresses of partition 31's DRAM, both of its channel 0, lies outside the publication window. -/
theorem clearDram : ∃ (a : FabAddr) (o : Nat), (a = 0xBE0000000010 ∧ o = 0x10 ∨ a = 0xBE0001000010 ∧ o = 0x1000010) ∧
    target a.toNat = .dram 31 o := by
  by_cases h : Config.pubWindow.toNat ≤ 0xBE0001000010 ∧ 0xBE0001000010 < Config.pubWindow.toNat + 16384
  · refine ⟨_, _, .inl ⟨rfl, rfl⟩, ?_⟩
    rw [target, if_neg (by simp; omega)]; decide +kernel
  · refine ⟨_, _, .inr ⟨rfl, rfl⟩, ?_⟩
    rw [target, if_neg (by simpa using h)]; decide +kernel
/-- With no letter in the network and no router's queue, none waits. -/
theorem arrives (s : State) (h : Hdr) (hn : s.net = []) (hc : s.clusters = []) (op : LOp) : s.mustWait op h = false := by
  have hq : ∀ c, (s.cl c).queue = [] := fun c => by rw [State.cl, hc]; rfl
  simp only [State.mustWait, State.routerFull, State.inFlight, hn, hq]
  cases (target h.addr.toNat).cluster? <;> simp

theorem witness_LettersAtMemory_waits :
    ∃ (s : Machine.State) (h : Hdr) (data : Bytes), s.telemTarget (BitVec.toNat h.addr) (List.length data) = none ∧ s.mustWait
      LOp.put h = true ∧ 1 ≤ List.length data ∧ List.length data ≤ 64 ∧ BitVec.toNat h.addr % 64 + List.length data ≤ 64 := by
  obtain ⟨n, hn, ht⟩ := clearCell
  have h0 := ht 0x7F0 (by decide)
  have h1 := ht 0x7F8 (by decide)
  refine
    ⟨({ cellSt cellA with net := [{ op := .put, hdr := { sender := unitA, addr := toCell n 0x7F0, tag := 4, reply := .none }, len := 2, data := [1, 2] }, { op := .put, hdr := { sender := unitA, addr := toCell n 0x7F8, tag := 5, reply := .none }, len := 3, data := [9, 0, 7] }] }
    : Machine.State), ({ sender := unitA, addr := toCell n 0x7F8, tag := 5, reply := .none } : Hdr), ([9, 0, 7] : Bytes), ?_⟩
  obtain rfl | rfl := hn <;> and_intros
  all_goals
    first
      | exact arrives _ _ rfl rfl
      | exact fun _ => rfl
      | decide +kernel
      | exact h0
      | exact Bool.or_eq_true_iff.mpr (.inr (by simp [State.inFlight, State.blocked, Letter.behind, receiverOf, h0, h1]))

theorem witness_LettersAtMemory_served :
    ∃ (s : Machine.State) (h : Hdr) (data : Bytes) (len : ℕ) (wide : Bool) (c : BitVec 64) (ecc : Ecc), (∀ (op : LOp),
      s.mustWait op h = false) ∧ Safety.serves s h.sender (BitVec.toNat h.addr) = true ∧ 
      (∀ (p o : ℕ), target (BitVec.toNat h.addr) = Target.dram p o → ∀ (n : ℕ), s.retrains p o n = false) ∧ 
      (∀ (n off : ℕ), target (BitVec.toNat
      h.addr) = Target.cell n off → ∀ st ∈ (s.cell n).stored, st.1 ≠ BitVec.toNat s.beat * 1250 + s.cycle) ∧ 1 ≤ List.length
      data ∧ List.length data ≤ 64 ∧ BitVec.toNat h.addr % 64 + List.length data ≤ 64 ∧ s.telemTarget (BitVec.toNat h.addr)
      (List.length data) = none ∧ 1 ≤ len ∧ len ≤ 64 ∧ BitVec.toNat h.addr % 64 + len ≤ 64 ∧ ecc ≠ Ecc.uncorrectable ∧
      ((BitVec.toNat h.addr % if wide = true then 8 else 4) = 0) ∧ (Bits.le (s.rdMem (BitVec.toNat h.addr) (if wide = true then
      8 else 4)) 0 (if wide = true then 8 else 4) ≠ c.toNat % 2 ^ (8 * if wide = true then 8 else 4)) := by
  obtain ⟨n, hn, ht⟩ := clearCell
  have h0 := ht 0x7F8 (by decide)
  refine ⟨({ cellSt cellA with mem := [(cellAddr n 0x7FF, 0x81)] } : Machine.State),
    ({ sender := unitA, addr := toCell n 0x7F8, tag := 5, reply := .host 3 7 } : Hdr), ([9, 0, 7] : Bytes), (8 : ℕ), (true :
    Bool), (0 : BitVec 64), (.corrected : Ecc), ?_⟩
  obtain rfl | rfl := hn <;> and_intros
  all_goals
    first
      | exact arrives _ _ rfl rfl
      | exact fun _ => rfl
      | exact fun _ _ _ _ => rfl
      | decide +kernel
      | exact h0
      | (simp only [Safety.serves, h0]; decide +kernel)
      | (intro n off h; rw [h0] at h; cases h; decide +kernel)

theorem witness_LettersAtMemory_stored :
    ∃ (s : Machine.State) (h : Hdr) (data : Bytes) (n : ℕ) (off : ℕ) (old : Bytes) (new : Bytes), (∀ (op : LOp), s.mustWait op
      h = false) ∧ Safety.serves s h.sender (BitVec.toNat h.addr) = true ∧ 
      (∀ (p o : ℕ), target (BitVec.toNat h.addr) = Target.dram p o → ∀ (n : ℕ), s.retrains p o n = false) ∧ 
      target (BitVec.toNat h.addr) = Target.cell n off ∧
      (s.cell n).stored = some (BitVec.toNat s.beat * 1250 + s.cycle, off, old, new) ∧ 1 ≤ List.length data ∧ List.length data
      ≤ 64 ∧ BitVec.toNat h.addr % 64 + List.length data ≤ 64 ∧ List.length new = List.length data ∧ off + List.length data ≤
      2048 ∧ s.telemTarget (BitVec.toNat h.addr) (List.length data) = none := by
  obtain ⟨n, hn, ht⟩ := clearCell
  have h0 := ht 0x7F8 (by decide)
  refine
    ⟨({ cellAt n { cellA with stored := some (125000, 0x7F8, [1, 2, 3], [7, 7, 7]) } with mem := [(cellAddr n 0x7F8, 7), (cellAddr n 0x7F9, 9)] }
    : Machine.State), ({ sender := unitA, addr := toCell n 0x7F8, tag := 5, reply := .none } : Hdr), ([9, 0, 7] : Bytes), (n :
    ℕ), (0x7F8 : ℕ), ([1, 2, 3] : Bytes), ([7, 7, 7] : Bytes), ?_⟩
  obtain rfl | rfl := hn <;> and_intros
  all_goals
    first
      | exact arrives _ _ rfl rfl
      | exact fun _ => rfl
      | exact fun _ _ _ _ => rfl
      | decide +kernel
      | exact h0
      | (simp only [Safety.serves, h0]; decide +kernel)

theorem witness_LettersAtMemory_compared :
    ∃ (s : Machine.State) (h : Hdr) (wide : Bool) (c : BitVec 64) (ecc : Ecc), (∀ (op : LOp), s.mustWait op h = false) ∧
      Safety.serves s h.sender (BitVec.toNat h.addr) = true ∧ 
      (∀ (p o : ℕ), target (BitVec.toNat h.addr) = Target.dram p o → ∀ (n : ℕ), s.retrains p o n = false) ∧ 
      (∀ (n off : ℕ), target (BitVec.toNat h.addr) = Target.cell n off
      → ∀ st ∈ (s.cell n).stored, st.1 ≠ BitVec.toNat s.beat * 1250 + s.cycle) ∧ ((BitVec.toNat h.addr % if wide = true then 8
      else 4) = 0) ∧ ecc ≠ Ecc.uncorrectable ∧ (Bits.le (s.rdMem (BitVec.toNat h.addr) (if wide = true then 8 else 4)) 0 (if
      wide = true then 8 else 4) = c.toNat % 2 ^ (8 * if wide = true then 8 else 4)) := by
  obtain ⟨n, hn, ht⟩ := clearCell
  have h0 := ht 0x8 (by decide)
  refine ⟨({ cellSt cellA with kept := [(0x7FFFF0000010, 7)], mem := [(cellAddr n 0x8, 0x81)] } : Machine.State),
    ({ sender := .cell ⟨0, 0, 0⟩, addr := toCell n 0x8, tag := 5, reply := .cell ⟨0, 0, 0⟩ 4 8 } : Hdr), (true : Bool), (0x81 :
    BitVec 64), (.clean : Ecc), ?_⟩
  obtain rfl | rfl := hn <;> and_intros
  all_goals
    first
      | exact arrives _ _ rfl rfl
      | exact fun _ => rfl
      | exact fun _ _ _ _ => rfl
      | decide +kernel
      | exact h0
      | (simp only [Safety.serves, h0]; decide +kernel)
      | (intro n off h; rw [h0] at h; cases h; decide +kernel)

theorem witness_LettersNotServed_nothing :
    ∃ (s : Machine.State) (h : Hdr) (data : Bytes), (∀ (op : LOp), s.mustWait op h = false) ∧ 1 ≤ List.length data ∧
      List.length data ≤ 64 ∧ BitVec.toNat h.addr % 64 + List.length data ≤ 64 ∧ s.telemTarget (BitVec.toNat h.addr)
      (List.length data) = none ∧ target (BitVec.toNat h.addr) = Target.nothing := by
  obtain ⟨a, ha, h0⟩ := clearNothing
  refine ⟨(cellSt cellA : Machine.State), ({ sender := unitA, addr := a, tag := 5, reply := .host 3 7 } : Hdr), ([9, 0, 7] :
    Bytes), ?_⟩
  obtain rfl | rfl := ha <;> and_intros
  all_goals
    first
      | exact arrives _ _ rfl rfl
      | exact fun _ => rfl
      | decide +kernel
      | exact h0

theorem witness_LettersNotServed_retrains :
    ∃ (s : Machine.State) (h : Hdr) (data : Bytes) (p : ℕ) (o : ℕ), (∀ (op : LOp), s.mustWait op h = false) ∧ 1 ≤ List.length
      data ∧ List.length data ≤ 64 ∧ BitVec.toNat h.addr % 64 + List.length data ≤ 64 ∧ s.telemTarget (BitVec.toNat h.addr)
      (List.length data) = none ∧ target (BitVec.toNat h.addr) = Target.dram p o ∧ s.retrains p o (List.length data) = true := by
  obtain ⟨a, o, ha, h0⟩ := clearDram
  refine ⟨({ cellSt cellA with bup := { channel := some 62 } } : Machine.State),
    ({ sender := unitA, addr := a, tag := 5, reply := .host 3 7 } : Hdr), ([9, 0, 7] : Bytes), (31 : ℕ), o, ?_⟩
  obtain ⟨rfl, rfl⟩ | ⟨rfl, rfl⟩ := ha <;> and_intros
  all_goals
    first
      | exact arrives _ _ rfl rfl
      | exact fun _ => rfl
      | decide +kernel
      | exact h0

theorem witness_LettersNotServed_held :
    ∃ (s : Machine.State) (h : Hdr) (data : Bytes) (p : ℕ), (∀ (op : LOp), s.mustWait op h = false) ∧ 1 ≤ List.length data ∧
      List.length data ≤ 64 ∧ BitVec.toNat h.addr % 64 + List.length data ≤ 64 ∧ s.telemTarget (BitVec.toNat h.addr)
      (List.length data) = none ∧ (∀ (o : ℕ), target (BitVec.toNat h.addr) =
      Target.dram p o → s.retrains p o (List.length data) = false) ∧ (target (BitVec.toNat h.addr)).part? = some p ∧ s.held p = true ∧ h.sender ≠ postmaster := by
  obtain ⟨n, hn, ht⟩ := clearCell
  have h0 := ht 0x7F8 (by decide)
  refine ⟨({ cellSt cellA with parts := [(31, { man := some manA, held := true })] } : Machine.State),
    ({ sender := unitA, addr := toCell n 0x7F8, tag := 5, reply := .host 3 7 } : Hdr), ([9, 0, 7] : Bytes), (31 : ℕ), ?_⟩
  obtain rfl | rfl := hn <;> and_intros
  all_goals
    first
      | exact arrives _ _ rfl rfl
      | exact fun _ => rfl
      | exact fun _ _ => rfl
      | decide +kernel
      | exact h0
      | (simp only [h0]; decide +kernel)

theorem witness_LettersNotServed_context :
    ∃ (s : Machine.State) (h : Hdr) (data : Bytes) (n : ℕ) (off : ℕ), (∀ (op : LOp), s.mustWait op h = false) ∧ 1 ≤ List.length
      data ∧ List.length data ≤ 64 ∧ BitVec.toNat h.addr % 64 + List.length data ≤ 64 ∧ s.telemTarget (BitVec.toNat h.addr)
      (List.length data) = none ∧ target (BitVec.toNat h.addr) = Target.cell n off ∧ s.deadCells.contains n = false ∧ s.held
      (partOf n) = false ∧ (s.manOf (partOf n)).isSome = true ∧ s.cstate (clusterOf n) = 2 ∧ 2048 ≤ off ∧ (h.sender ≠
      postmaster ∨ s.f (Reg.MAN_STATUS_STATE (partOf n)) ≠ 2) ∧ s.underContext n = false := by
  obtain ⟨n, hn, ht⟩ := clearCell
  have h0 := ht 0x800 (by decide)
  refine ⟨(cellSt cellA : Machine.State), ({ sender := unitA, addr := toCell n 0x800, tag := 5, reply := .host 3 7 } : Hdr),
    (List.replicate 64 5 : Bytes), (n : ℕ), (0x800 : ℕ), ?_⟩
  obtain rfl | rfl := hn <;> and_intros
  all_goals
    first
      | exact arrives _ _ rfl rfl
      | exact fun _ => rfl
      | decide +kernel
      | exact h0

theorem witness_LettersNotServed_waking :
    ∃ (s : Machine.State) (h : Hdr) (data : Bytes) (n : ℕ) (off : ℕ), (∀ (op : LOp), s.mustWait op h = false) ∧ 1 ≤ List.length
      data ∧ List.length data ≤ 64 ∧ BitVec.toNat h.addr % 64 + List.length data ≤ 64 ∧ s.telemTarget (BitVec.toNat h.addr)
      (List.length data) = none ∧ target (BitVec.toNat h.addr) = Target.cell n off ∧ s.deadCells.contains n = false ∧ s.held
      (partOf n) = false ∧ (s.manOf (partOf n)).isSome = true ∧ (s.cstate (clusterOf n) = 0 ∨ s.cstate (clusterOf n) = 1) := by
  obtain ⟨n, hn, ht⟩ := clearCell
  have h0 := ht 0x7C0 (by decide)
  refine ⟨((cellSt cellA).setF (Reg.FAB_CLUSTER_STATE_CSTATE 639) 1 : Machine.State),
    ({ sender := unitA, addr := toCell n 0x7C0, tag := 5, reply := .host 3 7 } : Hdr), (List.replicate 64 5 : Bytes), (n : ℕ),
    (0x7C0 : ℕ), ?_⟩
  obtain rfl | rfl := hn <;> and_intros
  all_goals
    first
      | exact arrives _ _ rfl rfl
      | exact fun _ => rfl
      | decide +kernel
      | exact h0

theorem witness_ClusterGates_queued :
    ∃ (s : Machine.State) (p : Fin 32) (c : Fin 20) (h : Hdr) (d : Bytes) (n : ℕ) (off : ℕ), s.cstate (20 * p.val + c.val) = 1
      ∧ (s.cl (20 * p.val + c.val)).wakeAt + 2500 ≤ s.now ∧ (s.cl (20 * p.val + c.val)).queue =
      [({ op := LOp.put, hdr := h, len := List.length d, data := d }, Ecc.clean)] ∧ (s.cl (20 * p.val + c.val)).landing = [] ∧
      target (BitVec.toNat h.addr) = Target.cell n off ∧ clusterOf n = 20 * p.val + c.val ∧ off + List.length d ≤ 2048 ∧
      s.underContext n = false ∧ (s.cell n).stored = none := by
  obtain ⟨n, hn, ht⟩ := clearCell
  have h0 := ht 0x7F8 (by decide)
  refine
    ⟨({ (cellSt { cellA with run := 3 }).setF (Reg.FAB_CLUSTER_STATE_CSTATE 639) 1 with clusters := [(639, { wakeAt := 122500, queue := [({ op := .put, hdr := { sender := unitA, addr := toCell n 0x7F8, tag := 5, reply := .none }, len := 2, data := [3, 4] }, .clean)] })] }
    : Machine.State), (31 : Fin 32), (19 : Fin 20), ({ sender := unitA, addr := toCell n 0x7F8, tag := 5, reply := .none } :
    Hdr), ([3, 4] : Bytes), (n : ℕ), (0x7F8 : ℕ), ?_⟩
  obtain rfl | rfl := hn <;> and_intros
  all_goals
    first
      | exact arrives _ _ rfl rfl
      | exact fun _ => rfl
      | decide +kernel
      | exact h0

theorem witness_HoldStoresAndHome_letter :
    ∃ (s : Machine.State) (l : Letter) (rest : List Letter) (hb : BitVec 16) (e : Env) (p : Fin 32) (sl : Fin 64), s.net = l ::
      rest ∧ l.env = some hb ∧ s.handleEnv hb.toNat = some e ∧ (e.st = EState.open ∨ e.st = EState.sealed) ∧ s.heldIn (storeOf
      (BitVec.toNat l.hdr.addr)) < 1024 ∧ (l.det = false ∨ s.now ≤ l.issued + 256) ∧ holdsAt s (BitVec.toNat l.hdr.addr) = true
      ∧ ((s.env p.val sl.val).st = EState.open ∨ (s.env p.val sl.val).st = EState.sealed) ∧ (s.env p.val sl.val).vec = none ∧
      (s.env p.val sl.val).deadline ≤ BitVec.toNat s.beat ∧ noRival s p.val (s.env p.val sl.val) := by
  obtain ⟨n, hn, ht⟩ := clearCell
  have h0 := ht 0x7FE (by decide)
  refine ⟨(holdSt (toCell n 0x7FE) : Machine.State), (letA (toCell n 0x7FE) : Letter), ([] : List Letter), (0xFFE3 : BitVec
    16), (envO : Env), (31 : Fin 32), (63 : Fin 64), ?_⟩
  obtain rfl | rfl := hn <;> and_intros
  all_goals
    first
      | exact arrives _ _ rfl rfl
      | exact fun _ => rfl
      | decide +kernel
      | exact h0
      | (simp only [letA, holdsAt, h0]; decide +kernel)

theorem witness_HoldStoresAndHome_nothing :
    ∃ (s : Machine.State) (l : Letter) (rest : List Letter) (hb : BitVec 16) (e : Env), s.net = l :: rest ∧ l.env = some hb ∧
      s.handleEnv hb.toNat = some e ∧ (e.st = EState.open ∨ e.st = EState.sealed) ∧ s.heldIn (storeOf (BitVec.toNat
      l.hdr.addr)) < 1024 ∧ (l.det = false ∨ s.now ≤ l.issued + 256) ∧ target (BitVec.toNat l.hdr.addr) = Target.nothing := by
  obtain ⟨a, ha, h0⟩ := clearNothing
  refine ⟨(holdSt a : Machine.State), (letA a : Letter), ([] : List Letter), (0xFFE3 : BitVec 16), (envO : Env), ?_⟩
  obtain rfl | rfl := ha <;> and_intros
  all_goals
    first
      | exact arrives _ _ rfl rfl
      | exact fun _ => rfl
      | decide +kernel
      | exact h0

theorem witness_HoldStoresAndHome_reset :
    ∃ (s : Machine.State) (l : Letter) (rest : List Letter) (hb : BitVec 16) (e : Env) (n : ℕ) (off : ℕ), s.net = l :: rest ∧
      l.env = some hb ∧ s.handleEnv hb.toNat = some e ∧ (e.st = EState.open ∨ e.st = EState.sealed) ∧ s.heldIn (storeOf
      (BitVec.toNat l.hdr.addr)) < 1024 ∧ (l.det = false ∨ s.now ≤ l.issued + 256) ∧ target (BitVec.toNat l.hdr.addr) =
      Target.cell n off ∧ s.held (partOf n) = true := by
  obtain ⟨n, hn, ht⟩ := clearCell
  have h0 := ht 0x7FE (by decide)
  refine ⟨({ holdSt (toCell n 0x7FE) with parts := [(31, { man := some manA, held := true })] } : Machine.State), (letA (toCell
    n 0x7FE) : Letter), ([] : List Letter), (0xFFE3 : BitVec 16), (envO : Env), (n : ℕ), (0x7FE : ℕ), ?_⟩
  obtain rfl | rfl := hn <;> and_intros
  all_goals
    first
      | exact arrives _ _ rfl rfl
      | exact fun _ => rfl
      | decide +kernel
      | exact h0

theorem witness_HoldStoresAndHome_refused :
    ∃ (s : Machine.State) (k : HoldAck) (rest : List HoldAck) (hb : BitVec 16) (e : Env) (d : ℕ), s.acks = k :: rest ∧
      k.letter.env = some hb ∧ s.handleEnv hb.toNat = some e ∧ (e.st = EState.open ∨ e.st = EState.sealed) ∧ k.doom = some d ∧
      d ≠ 16 ∧ d ≠ 17 ∧ d ≠ 18 ∧ d ≠ 2 ∧ e.vec = none ∧ noRival s (hb.toNat / 2 ^ 11) e := by
  obtain ⟨n, hn, ht⟩ := clearCell
  have h0 := ht 0x7FE (by decide)
  refine ⟨(ackSt envO { letter := letA (toCell n 0x7FE), doom := some 0x30 } : Machine.State),
    ({ letter := letA (toCell n 0x7FE), doom := some 0x30 } : HoldAck), ([] : List HoldAck), (0xFFE3 : BitVec 16), (envO :
    Env), (0x30 : ℕ), ?_⟩
  obtain rfl | rfl := hn <;> and_intros
  all_goals
    first
      | exact arrives _ _ rfl rfl
      | exact fun _ => rfl
      | decide +kernel

theorem witness_HoldStoresAndHome_joined :
    ∃ (s : Machine.State) (k : HoldAck) (rest : List HoldAck) (hb : BitVec 16) (e : Env) (n : ℕ) (off : ℕ) (c : CellId), s.acks
      = k :: rest ∧ k.letter.env = some hb ∧ s.handleEnv hb.toNat = some e ∧ (e.st = EState.open ∨ e.st = EState.sealed) ∧
      k.doom = none ∧ target (BitVec.toNat k.letter.hdr.addr) = Target.cell n off ∧ off < 2048 ∧ partOf n = hb.toNat / 2 ^ 11 ∧
      e.actuator ≠ some true ∧ k.letter.hdr.sender = Sender.cell c ∧ (if e.size = 0 then s.bufUsed (hb.toNat / 2 ^ 11) <
      s.bufSize (hb.toNat / 2 ^ 11) else e.blocks.length < e.size) := by
  obtain ⟨n, hn, ht⟩ := clearCell
  have h0 := ht 0x7FE (by decide)
  refine ⟨(ackSt envO { letter := letA (toCell n 0x7FE), doom := none } : Machine.State),
    ({ letter := letA (toCell n 0x7FE), doom := none } : HoldAck), ([] : List HoldAck), (0xFFE3 : BitVec 16), (envO : Env), (n
    : ℕ), (0x7FE : ℕ), (kA : CellId), ?_⟩
  obtain rfl | rfl := hn <;> and_intros
  all_goals
    first
      | exact arrives _ _ rfl rfl
      | exact fun _ => rfl
      | decide +kernel
      | exact h0

theorem witness_HoldStoresAndHome_full :
    ∃ (s : Machine.State) (k : HoldAck) (rest : List HoldAck) (hb : BitVec 16) (e : Env) (n : ℕ) (off : ℕ) (c : CellId), s.acks
      = k :: rest ∧ k.letter.env = some hb ∧ s.handleEnv hb.toNat = some e ∧ (e.st = EState.open ∨ e.st = EState.sealed) ∧
      k.doom = none ∧ target (BitVec.toNat k.letter.hdr.addr) = Target.cell n off ∧ off < 2048 ∧ partOf n = hb.toNat / 2 ^ 11 ∧
      e.actuator ≠ some true ∧ k.letter.hdr.sender = Sender.cell c ∧ (¬if e.size = 0 then s.bufUsed (hb.toNat / 2 ^ 11) <
      s.bufSize (hb.toNat / 2 ^ 11) else e.blocks.length < e.size) ∧ e.vec = none ∧ noRival s (hb.toNat / 2 ^ 11) e := by
  obtain ⟨n, hn, ht⟩ := clearCell
  have h0 := ht 0x7FE (by decide)
  refine ⟨(ackSt { envO with size := 1, blocks := [3] } { letter := letA (toCell n 0x7FE), doom := none } : Machine.State),
    ({ letter := letA (toCell n 0x7FE), doom := none } : HoldAck), ([] : List HoldAck), (0xFFE3 : BitVec 16),
    ({ envO with size := 1, blocks := [3] } : Env), (n : ℕ), (0x7FE : ℕ), (kA : CellId), ?_⟩
  obtain rfl | rfl := hn <;> and_intros
  all_goals
    first
      | exact arrives _ _ rfl rfl
      | exact fun _ => rfl
      | decide +kernel
      | exact h0

theorem witness_VectorsAndCommits_applied :
    ∃ (s : Machine.State) (p : ℕ) (sl : ℕ) (e : Env) (c : ℕ) (m : Member) (l : Letter) (n : ℕ) (off : ℕ), sl < 64 ∧ p < 32 ∧
      s.envs = [(64 * p + sl, e)] ∧ e.st = EState.sealed ∧ e.vec = some c ∧ e.actuator ≠ some true ∧ e.members = [m] ∧ c ≤
      BitVec.toNat s.beat ∧ e.held = [l] ∧ l.op = LOp.put ∧ l.len = List.length l.data ∧ l.hdr.reply = ReplyTo.none ∧ target
      (BitVec.toNat l.hdr.addr) = Target.cell n off ∧ off + List.length l.data ≤ 2048 ∧ Safety.serves s l.hdr.sender
      (BitVec.toNat l.hdr.addr) = true ∧ n ≠ m.cell := by
  obtain ⟨n, hn, ht⟩ := clearCell
  have h0 := ht 0x7FE (by decide)
  refine ⟨(envSt (cellSt cellA) { vecE (some 100) with members := [memB], held := [letA (toCell n 0x7FE)] } : Machine.State),
    (31 : ℕ), (63 : ℕ), ({ vecE (some 100) with members := [memB], held := [letA (toCell n 0x7FE)] } : Env), (100 : ℕ), (memB :
    Member), (letA (toCell n 0x7FE) : Letter), (n : ℕ), (0x7FE : ℕ), ?_⟩
  obtain rfl | rfl := hn <;> and_intros
  all_goals
    first
      | exact arrives _ _ rfl rfl
      | exact fun _ => rfl
      | decide +kernel
      | exact h0
      | (simp only [letA, Safety.serves, h0]; decide +kernel)

/-! ### Hypotheses over free constants and unbounded ranges -/

theorem witness_SetpointWindows_bound :
    ∃ (s : State) (e : Fin 64) (l : Fin 8) (off : BitVec 6) (data w : Bytes),
      s.lstate (8 * e.val + l.val) ≠ 0 ∧ (s.cycle ≤ 875 ∨ (s.loop (8 * e.val + l.val)).ys = none) ∧ data ≠ [] ∧
      off.toNat + data.length ≤ 64 ∧ w.length = 64 ∧
      (∀ j < 64, Bits.byteAt w j = if h : off.toNat ≤ j ∧ j < off.toNat + data.length then data[j - off.toNat]'(by omega)
        else Bits.byteAt (Bits.fit (s.loop (8 * e.val + l.val)).latest 64) j) ∧
      (lForm (s.loop (8 * e.val + l.val)).ent ≠ 0 ∨ off.toNat < 28 ∨ 30 < off.toNat + data.length) ∧
      (BitVec.ofNat 16 (Bits.le w 2 2)).toInt ≤ (BitVec.ofNat 16 (Bits.le w 4 2)).toInt ∧
      (lOutKind (s.loop (8 * e.val + l.val)).ent ≠ 0 ∨ 0 ≤ (BitVec.ofNat 16 (Bits.le w 2 2)).toInt) ∧
      (∀ j, ¬(j < 64 ∧ (j = 6 ∧ 4 ≤ (Bits.byteAt w 6).toNat ∨ Bits.byteAt w j ≠ 0 ∧ (j = 7 ∨ 30 ≤ j ∨
        lForm (s.loop (8 * e.val + l.val)).ent = 0 ∧ 8 ≤ j ∧ j < 28 ∨ lForm (s.loop (8 * e.val + l.val)).ent = 3 ∧ 28 ≤ j ∨
        lForm (s.loop (8 * e.val + l.val)).ent ≠ 0 ∧ lForm (s.loop (8 * e.val + l.val)).ent ≠ 3 ∧ 16 ≤ j)))) := by
  refine ⟨loopSt 2 loopA, 63, 7, 0, winA, winA, ?_⟩
  have hw : winA.length = 64 := by decide
  have h : ∀ j < 64, ¬(j = 6 ∧ 4 ≤ (Bits.byteAt winA 6).toNat ∨ Bits.byteAt winA j ≠ 0 ∧ (j = 7 ∨ 30 ≤ j ∨
      lForm ((loopSt 2 loopA).loop 511).ent = 0 ∧ 8 ≤ j ∧ j < 28 ∨ lForm ((loopSt 2 loopA).loop 511).ent = 3 ∧ 28 ≤ j ∨
      lForm ((loopSt 2 loopA).loop 511).ent ≠ 0 ∧ lForm ((loopSt 2 loopA).loop 511).ent ≠ 3 ∧ 16 ≤ j)) := by decide +kernel
  refine ⟨by decide +kernel, by decide +kernel, by decide, by decide, hw, ?_, by decide +kernel, by decide +kernel,
    by decide +kernel, fun j k => h j k.1 k.2⟩
  intro j hj
  rw [dif_pos ⟨Nat.zero_le j, by simpa [hw] using hj⟩]
  simp [Bits.byteAt, hw, hj]

/-- A domain's slack at, and just below, its fused margin floor. -/
theorem witness_ModulePower_ageing :
    ∃ (s : State) (d : Fin 34) (x y : Int), s.mpw.aged.get d.val 0 + 60000000 ≤ s.beat.toNat ∧
      (Config.marginFloor d.val : Int) ≤ x ∧ y < (Config.marginFloor d.val : Int) ∧
      s.f (Reg.MPW_VOLT_FUSE_MV d.val) + s.f (Reg.MPW_VOLT_OFFSET_MV d.val) + 5 ≤ 500 + s.f (Reg.MPW_VOLT_CEIL_MV d.val) ∧
      s.f (Reg.MPW_VOLT_OFFSET_MV d.val) ≤ 250 :=
  ⟨{ State.reset with beat := 60000001, mpw := { aged := [(33, 1)] }, regs := [(0xC00184, 0x2BC00000 ||| 695)] }, 33, _, _,
    by decide +kernel, le_refl _, Int.sub_one_lt_of_le (le_refl _),
    by decide +kernel⟩

theorem witness_ModulePower_ceiling :
    ∃ (s : State) (d : Fin 34) (y : Int), s.mpw.aged.get d.val 0 + 60000000 ≤ s.beat.toNat ∧
      y < (Config.marginFloor d.val : Int) ∧ ¬(s.f (Reg.MPW_VOLT_FUSE_MV d.val) + s.f (Reg.MPW_VOLT_OFFSET_MV d.val) + 5 ≤
        500 + s.f (Reg.MPW_VOLT_CEIL_MV d.val) ∧ s.f (Reg.MPW_VOLT_OFFSET_MV d.val) ≤ 250) :=
  ⟨{ State.reset with beat := 60000001, mpw := { aged := [(33, 1)] }, regs := [(0xC00184, 0x0C800000 ||| 696)] }, 33, _,
    by decide +kernel, Int.sub_one_lt_of_le (le_refl _), by decide +kernel⟩

/-- Another enterprise number than the module's own, whose value is a free constant. -/
theorem witness_MemoryAndRegisterReads_iana : ∃ (s : State) (iana : Word), s.power = true ∧ iana ≠ s.rd 0xD0001C := by
  refine ⟨stA, stA.rd 0xD0001C + 1, by decide +kernel, ?_⟩
  simp

theorem witness_RegisterWrites_words :
    ∃ (s : State) (off : BitVec 25) (data : Bytes) (t : State), s.power = true ∧ data.length = 8 ∧ off.toNat % 8 = 0 ∧
      exec (.registerWrite off (data.take 4)) s = .next t ∧ t.power = true :=
  ⟨stA, 0x500010, Bits.toLe 8 1000, _, by decide +kernel, by decide, by decide, rfl, by decide +kernel⟩

theorem witness_RegisterWrites_mirrored :
    ∃ (s : State) (off : BitVec 25) (v : Word) (r : WRow), inHif (off.toNat / 4 * 4) = false ∧
      (alwaysOn (off.toNat / 4 * 4) = true ∨ s.mainServes = true) ∧ rowOf (off.toNat / 4 * 4) = some r ∧
      off.toNat / 4 * 4 ≠ 0x1000008 ∧ inRow (off.toNat / 4 * 4) 0x400000 4 32 = false ∧
      ¬(inStepOff (off.toNat / 4 * 4) = true ∧ s.mstate = 4 ∨ s.locked r (off.toNat / 4 * 4) v = true) ∧
      outOfRange (off.toNat / 4 * 4) v = false ∧ s.relationBad (off.toNat / 4 * 4) v = false ∧
      inStepOff (off.toNat / 4 * 4) = true ∧ s.twinActive = true :=
  ⟨{ stA.setF Reg.TWN_CFG_MODE 1 with bup := { last := 9 } }, 0x500010, 1000, (rowOf 0x500010).getD ⟨0, 0, 0, 0, 0, 0, 0⟩, by decide +kernel⟩

theorem witness_CanonicalStatesAreKept :
    ∃ s t : State, memoryWf s = true ∧ registersWf s = true ∧ step s = .next t :=
  ⟨{ richSt with pending := [.nop kA] }, _, by decide +kernel, by decide +kernel, rfl⟩

theorem witness_CircularsArePresented_order :
    ∃ l : List Circ, l.Pairwise fun a b => a.effect ≤ b.effect :=
  ⟨[{ type := 1, src := 0, effect := 101, param := 0 }, { type := 2, src := 0, effect := 103, param := 0 }], by decide⟩

theorem witness_EnergyLedger_resilvered :
    ∃ (s : State) (copy : Bool), s.ldgRuns = true ∧ s.copyState (Bits.ofBool copy) = 2 ∧ s.copyState (1 - Bits.ofBool copy) = 0 ∧
      s.ldgHalted = false :=
  ⟨(ldgSt).setF (copyFld 1) 2, true, by decide +kernel⟩

/-- The last record of the publication's window, with a record at each of its ends. -/
theorem witness_BudgetsAndSequence_published :
    ∃ (s : State) (e : Nat × Bytes), s.budRuns = true ∧ s.beat.toNat % 1000 = 0 ∧ s.bud.at_ ≠ some s.beat.toNat ∧
      (s.bud.pend.filter fun e => decide (s.beat.toNat < e.1 + 1000 ∧ e.1 < s.beat.toNat)).getLast? = some e ∧
      e.2.length = 4160 := by
  have last : ∀ b : Bytes, ([(3000, b), (3999, b), (4000, b)].filter fun e : Nat × Bytes =>
      decide (4000 < e.1 + 1000 ∧ e.1 < 4000)).getLast? = some (3999, b) := fun b => by simp
  refine ⟨(budSt 0 0 { pend := [(3000, pubR), (3999, pubR), (4000, pubR)] }).setF Reg.HIF_LINK_DL_UP 0, (3999, pubR),
    by decide +kernel, by decide +kernel, by decide +kernel, ?_, by simp [pubR, bytesOf]⟩
  exact last pubR

end Sys2Proof.Tests
end

namespace Sys2Proof.Machine

open Sys2Proof.Bits Sys2Proof.Safety

/-- Memory, the KEPT banks and the registers of the state are in their canonical forms. -/
def Canonical (s : State) : Prop := memoryWf s = true ∧ registersWf s = true

/-- Every next state of an answer is canonical. -/
def AnswersCanonical (r : Res) : Prop := ∀ t, r = .next t → Canonical t

/-- Every state that an instruction's own effect leaves is canonical. -/
def EffCanonical : Eff → Prop
  | .done s => Canonical s
  | .late s _ => Canonical s
  | .jump s _ => Canonical s
  | .fault .. => True
  | .stop s => Canonical s

/-- The registers that the model sets to 0 after a reset have 0 as their Reset column. -/
theorem resetWord_pmStatus : resetWord 0x100000 = 0 := by decide +kernel
theorem resetWord_clkStatus : resetWord 0x1400000 = 0 := by decide +kernel

theorem AnswersCanonical.next {t : State} (h : Canonical t) : AnswersCanonical (.next t) := by
  rintro _ ⟨⟩
  exact h

namespace Canonical

variable {s t : State}

/-! ### How proofs about updates compose -/

theorem mem_wf (h : Canonical s) : Memory.wf s.mem = true := (Bool.and_eq_true_iff.1 h.1).1

theorem kept_wf (h : Canonical s) : s.kept.wf (fun _ => 0) = true := (Bool.and_eq_true_iff.1 h.1).2

theorem regs_wf (h : Canonical s) : s.regs.wf resetWord = true := h.2

theorem of_wf (hm : Memory.wf s.mem = true) (hk : s.kept.wf (fun _ => 0) = true) (hr : s.regs.wf resetWord = true) :
    Canonical s := ⟨Bool.and_eq_true_iff.2 ⟨hm, hk⟩, hr⟩

/-- An update of other fields than memory, the KEPT banks and the registers. -/
theorem frame {pending beat released cycle power live latchHost latchSide cells clusters deadCells deadClusters net replies
    circs routes envs acks parts progs rcv runs loops stg mon sst sec grd bud ldg mpw hif bup twn cnt evl outs
    free}
    (h : Canonical s) : Canonical
      ⟨pending, beat, released, cycle, power, s.regs, live, latchHost, latchSide, s.mem, s.kept, cells, clusters,
       deadCells, deadClusters, net, replies, circs, routes, envs, acks, parts, progs, rcv, runs, loops, stg, mon,
       sst, sec, grd, bud, ldg, mpw, hif, bup, twn, cnt, evl, outs, free⟩ := h

/-- Registers written with 0 as the unlisted value keep their form where 0 is the Reset column. -/
theorem wf_put_zero {r : Tab Word} {off : Nat} (h : r.wf resetWord = true) (w : Word) (h0 : resetWord off = 0) :
    (r.put off w 0).wf resetWord = true := h0 ▸ Tab.wf_put h off w

theorem andThen (h : Canonical s) (f : Canonical s → Canonical t) : Canonical t := f h

theorem ite {c : Prop} {_ : Decidable c} (hs : Canonical s) (ht : Canonical t) : Canonical (if c then s else t) := by
  split
  · exact hs
  · exact ht

theorem ite_fst {α : Type} {c : Prop} {_ : Decidable c} {a b : State × α} (ha : Canonical a.1) (hb : Canonical b.1) :
    Canonical (if c then a else b).1 := by
  split
  · exact ha
  · exact hb

theorem ite_snd {α : Type} {c : Prop} {_ : Decidable c} {a b : α × State} (ha : Canonical a.2) (hb : Canonical b.2) :
    Canonical (if c then a else b).2 := by
  split
  · exact ha
  · exact hb

theorem foldl {α : Type} {f : State → α → State} {l : List α} (h : Canonical s)
    (hf : ∀ s a, Canonical s → Canonical (f s a)) : Canonical (l.foldl f s) := by
  induction l generalizing s with
  | nil => exact h
  | cons a l ih => exact ih (hf s a h)

theorem foldr {α : Type} {f : α → State → State} {l : List α} (h : Canonical s)
    (hf : ∀ a s, Canonical s → Canonical (f a s)) : Canonical (l.foldr f s) := by
  induction l with
  | nil => exact h
  | cons a l ih => exact hf a _ ih

theorem foldl_fst {α β : Type} {f : State × β → α → State × β} {l : List α} {b : β} (h : Canonical s)
    (hf : ∀ r a, Canonical r.1 → Canonical (f r a).1) : Canonical (l.foldl f (s, b)).1 := by
  induction l generalizing s b with
  | nil => exact h
  | cons a l ih => exact ih (s := (f (s, b) a).1) (b := (f (s, b) a).2) (hf (s, b) a h)

theorem foldl_snd {α β : Type} {f : β × State → α → β × State} {l : List α} {b : β} (h : Canonical s)
    (hf : ∀ r a, Canonical r.2 → Canonical (f r a).2) : Canonical (l.foldl f (b, s)).2 := by
  induction l generalizing s b with
  | nil => exact h
  | cons a l ih => exact ih (s := (f (b, s) a).2) (b := (f (b, s) a).1) (hf (b, s) a h)

/-- The state beside an answer, where the pair is known. -/
theorem snd_of_eq {α : Type} {r : α × State} {a : α} (h : Canonical r.2) (he : r = (a, t)) : Canonical t := by
  rw [he] at h
  exact h

theorem fst_of_eq {α : Type} {r : State × α} {a : α} (h : Canonical r.1) (he : r = (t, a)) : Canonical t := by
  rw [he] at h
  exact h


/-! ### Registers, events, memory, cells (R7 to R11, R34, R397) -/

theorem wr {off w} (h : Canonical s) : Canonical (s.wr off w) := of_wf h.mem_wf h.kept_wf (Tab.wf_put h.regs_wf off w)

theorem setF {F v} (h : Canonical s) : Canonical (s.setF F v) := h.wr

theorem setLive {F v} (h : Canonical s) : Canonical (s.setLive F v) := h.frame

theorem stage {lo hi} (h : Canonical s) : Canonical (s.stage lo hi) := h.frame

theorem bumpBy {off k} (h : Canonical s) : Canonical (s.bumpBy off k) := h.wr

theorem bump {off} (h : Canonical s) : Canonical (s.bump off) := h.bumpBy

theorem wr64 {off v} (h : Canonical s) : Canonical (s.wr64 off v) := h.wr.wr

theorem bump64 {off k} (h : Canonical s) : Canonical (s.bump64 off k) := h.wr64

theorem wrBytes {off b n} (h : Canonical s) : Canonical (s.wrBytes off b n) := by
  induction n generalizing s off b with
  | zero => exact h
  | succ n ih => exact ih h.wr

theorem raise {code p0 p1 p2 p3 origin path} (h : Canonical s) : Canonical (s.raise code p0 p1 p2 p3 origin path) :=
  .ite h.bump.frame (.ite h.bump.frame h.frame)

theorem ev {code p0 p1 origin path} (h : Canonical s) : Canonical (s.ev code p0 p1 origin path) := h.raise

theorem out {o} (h : Canonical s) : Canonical (s.out o) := h.frame

theorem drive {o} (h : Canonical s) : Canonical (s.drive o) := .ite h.out h

theorem vector {n} (h : Canonical s) : Canonical (s.vector n) := .ite h (.ite h.wr h.out)

theorem wrMem {a d} (h : Canonical s) :
    Canonical (s.wrMem a d) :=
  of_wf (Memory.wf_memWrite h.mem_wf a d) h.kept_wf h.regs_wf

theorem setCell {n c} (h : Canonical s) : Canonical (s.setCell n c) := h.frame

theorem setCl {c v} (h : Canonical s) : Canonical (s.setCl c v) := h.frame

theorem setPart {p v} (h : Canonical s) : Canonical (s.setPart p v) := h.frame

theorem setProg {p x v} (h : Canonical s) : Canonical (s.setProg p x v) := h.frame

theorem setEnv {p sl v} (h : Canonical s) : Canonical (s.setEnv p sl v) := h.frame

theorem degrade (h : Canonical s) : Canonical s.degrade := h.setF

theorem holdFirst {took} (h : Canonical s) : Canonical (s.holdFirst took) := h.frame

theorem toMstate {m cause} (h : Canonical s) : Canonical (s.toMstate m cause) :=
  have h1 := Canonical.ite h.ev.holdFirst h.ev
  .ite h1.setF.setF h1.setF

theorem logTrigger {cause outranked} (h : Canonical s) : Canonical (s.logTrigger cause outranked) := h.ev

theorem outranked {cause} (h : Canonical s) : Canonical (s.outranked cause) := h.logTrigger

theorem useFree (h : Canonical s) : Canonical s.useFree := h.frame

theorem histFault {w0 w1 w2 w3} (h : Canonical s) : Canonical (s.histFault w0 w1 w2 w3) := h.wrBytes.wrBytes.setF

theorem nameFault {w0 w1 reason idx rung unit origin cluster} (h : Canonical s) :
    Canonical (s.nameFault w0 w1 reason idx rung unit origin cluster) :=
  have h1 := Canonical.ite h.frame.histFault.raise.bump h.frame.histFault.raise
  .ite h1.bump (h1.foldl fun _ _ h2 => h2.ev).frame

theorem mirror {r} (h : Canonical s) : Canonical (s.mirror r) := h.frame

theorem inStep {code off v path f origin} (h : Canonical s) (hf : ∀ s, Canonical s → Canonical (f s)) :
    Canonical (s.inStep code off v path f origin) :=
  .ite (.ite h h.ev) (.ite h.mirror (hf s h))

/-! ### Stage boards (chapter 9) -/

theorem setBoard {b v} (h : Canonical s) : Canonical (s.setBoard b v) := h.frame

theorem setPhase {n v} (h : Canonical s) : Canonical (s.setPhase n v) := h.frame

theorem setBState {b new cause} (h : Canonical s) : Canonical (s.setBState b new cause) := .ite h h.setF.ev

theorem commandLocal {b} (h : Canonical s) : Canonical (s.commandLocal b) :=
  .ite (.ite h.setBoard.bump.setBState h.setBoard) h

theorem setPstates {b new} (h : Canonical s) : Canonical (s.setPstates b new) :=
  have h2 := h.foldl fun _ _ h1 => .ite h1 (Canonical.ite h1.setF h1).setPhase.setF
  (Canonical.ite h2 (h2.foldl fun _ _ h3 => .ite h3.setPhase h3)).setF

theorem admin {b} (h : Canonical s) : Canonical (s.admin b) := h.setPstates

theorem startAct {a} (h : Canonical s) : Canonical (s.startAct a) := h.frame

/-! ### Clusters and letters at their targets (chapter 2) -/

theorem startWake {c} (h : Canonical s) : Canonical (s.startWake c) := .ite h.setF.setCl.setF h

theorem wakeAll {cs} (h : Canonical s) : Canonical (s.wakeAll cs) := h.foldl fun _ _ h1 => h1.startWake

theorem restless {c} (h : Canonical s) : Canonical (s.restless c) := h.setCl

theorem wrData {n off d} (h : Canonical s) : Canonical (s.wrData n off d) :=
  of_wf h.wrMem.mem_wf (wf_keptWrite h.kept_wf _ _) h.regs_wf

theorem land {n off d} (h : Canonical s) : Canonical (s.land n off d) := h.wrData.setCell

theorem enqueue {c l ecc hit} (h : Canonical s) : Canonical (s.enqueue c l ecc hit) := .ite h.setCl.startWake h.setCl

theorem replyPart {n off d} (h : Canonical s) : Canonical (s.replyPart n off d) := .ite h (.ite h.land h.enqueue)

theorem reply {l status d} (h : Canonical s) : Canonical (s.reply l status d) := by
  unfold State.reply
  split
  · exact h
  · exact h.frame

theorem notReady {l} (h : Canonical s) : Canonical (s.notReady l) := h.bump.raise.reply

theorem writeFor {x a d} (h : Canonical s) : Canonical (s.writeFor x a d) := by
  unfold State.writeFor
  split
  · exact .ite h.land h.wrMem
  · exact h.wrMem

theorem eccCorrected {x} (h : Canonical s) : Canonical (s.eccCorrected x) := by
  unfold State.eccCorrected
  dsimp only
  split
  · exact h.bump.setCl
  · exact h.bump

theorem eccLost {l} (h : Canonical s) : Canonical (s.eccLost l) := h.frame.raise.reply

theorem ctlWrite {n off b} (h : Canonical s) : Canonical (s.ctlWrite n off b) := by
  induction b generalizing s off with
  | nil => exact h
  | cons b r ih => exact ih (.ite h.setCell (.ite h.setCell h))

theorem undoStore {n} (h : Canonical s) : Canonical (s.undoStore n) := by
  unfold State.undoStore
  split
  · exact .ite h.wrMem h
  · exact h

theorem redoStore {n} (h : Canonical s) : Canonical (s.redoStore n) := by
  unfold State.redoStore
  split
  · exact .ite h.setCell.wrMem h
  · exact h

theorem applyLetter {l ecc} (h : Canonical s) : Canonical (s.applyLetter l ecc) := by
  unfold State.applyLetter
  extract_lets a x s1 reads s2 old
  have h1 : Canonical s1 := by
    show Canonical (match x.cluster? with | some c => _ | none => s)
    split
    · exact h.setCl
    · exact h
  have h2 : Canonical s2 := .ite h1.eccCorrected h1
  clear_value s1 s2 x old
  split
  · refine .ite h1.reply ?_
    split
    · exact h1.notReady
    · refine .ite h1.reply (.ite h1.reply (.ite h1.reply (.ite h1.ctlWrite.reply ?_)))
      split
      · exact h1.ctlWrite.reply
      · exact h1.reply
  · split
    · exact h1.notReady
    · exact h1.reply
  · refine .ite h1.reply (.ite h1.reply (.ite h1.eccLost ?_))
    extract_lets s3 old3
    have h3 : Canonical s3 := undoStore (.ite h1.eccCorrected h1)
    refine redoStore (.ite h3.writeFor.reply (.ite h3.setCell.reply ?_))
    split
    · exact h3.writeFor.reply
    · exact h3.setCell.reply
  · refine .ite h1.eccLost (.ite h2.wrMem.reply (.ite h2.reply ?_))
    split
    · exact h2.wrMem.reply
    · exact h2.reply

theorem arriveLetter {l ecc} (h : Canonical s) : Canonical (s.arriveLetter l ecc) := by
  unfold State.arriveLetter
  dsimp only
  refine .ite h.notReady ?_
  refine .ite h.reply ?_
  refine .ite h.notReady ?_
  split
  · exact .ite h.enqueue h.applyLetter
  · exact h.applyLetter

theorem landCirc {c k} (h : Canonical s) : Canonical (s.landCirc c k) := h.foldl fun _ _ h1 => .ite h1.land h1

theorem wakeDone {c} (h : Canonical s) : Canonical (s.wakeDone c) :=
  ((h.setF.setCl.foldl fun _ _ h2 => h2.applyLetter).foldl fun _ _ h1 => h1.landCirc).restless

theorem killCluster {c} (h : Canonical s) : Canonical (s.killCluster c) :=
  .ite h (h.setCl.setF.frame.ev.foldl fun _ _ h1 => h1.notReady)

theorem send {l} (h : Canonical s) : Canonical (s.send l) := h.frame

theorem sendRouted {p l} (h : Canonical s) : Canonical (s.sendRouted p l) := by
  unfold State.sendRouted
  split
  · exact h.frame.send
  · exact h.send

theorem boundCheck {l} (h : Canonical s) : Canonical (s.boundCheck l) := .ite h.frame.bump.raise h

theorem unflight {op hd} (h : Canonical s) : Canonical (s.unflight op hd) := by
  unfold State.unflight
  split
  · exact h
  · exact h.frame.boundCheck

theorem execClusterGate {p c} (h : Canonical s) : AnswersCanonical (execClusterGate p c s) :=
  .next (.ite h.setCl.setF h)

theorem execClusterScheduledWake {p c} (h : Canonical s) : AnswersCanonical (execClusterScheduledWake p c s) :=
  .next (.ite h.startWake h)

theorem execClusterWakeComplete {p c} (h : Canonical s) : AnswersCanonical (execClusterWakeComplete p c s) :=
  .next (.ite h.wakeDone h)

/-! ### Envelopes (chapter 4) -/

theorem envStatus {p} (h : Canonical s) : Canonical (s.envStatus p) := h.setF.setF.setF

theorem putEnv {p sl e} (h : Canonical s) : Canonical (s.putEnv p sl e) := h.setEnv.envStatus

theorem outcome {e hd status} (h : Canonical s) : Canonical (s.outcome e hd status) :=
  h.foldl fun _ _ h1 => h1.replyPart

theorem abortNote {p hd status e x} (h : Canonical s) : Canonical (s.abortNote p hd status e x) :=
  .ite h.bump.ev (.ite h.bump.ev (.ite h.bump.ev (.ite h.bump h.bump.ev)))

theorem abortEnv {p sl status x} (h : Canonical s) : Canonical (s.abortEnv p sl status x) :=
  .ite h.abortNote.wr.wr.outcome.putEnv h

theorem endMember {n hd} (h : Canonical s) : Canonical (s.endMember n hd) := by
  unfold State.endMember
  split
  · exact h.putEnv
  · exact h

theorem dropContext {n} (h : Canonical s) : Canonical (s.dropContext n) := by
  unfold State.dropContext
  dsimp only
  split
  · exact h
  · exact h.setCell
  · exact h.abortEnv.endMember.setCell

theorem abortWhere {status g f} (h : Canonical s) : Canonical (s.abortWhere status g f) :=
  h.foldl fun _ _ h1 => .ite h1.abortEnv h1

theorem openEnvelope {n beat decl off} (h : Canonical s) : Canonical (s.openEnvelope n beat decl off).1 := by
  unfold State.openEnvelope
  dsimp only
  refine .ite_fst h.setCell ?_
  refine .ite_fst h.bump.ev.setCell ?_
  split
  · exact h.setCell
  · exact .ite_fst h.setCell h.putEnv.setCell

theorem joinEnvelope {n hd off} (h : Canonical s) : Canonical (s.joinEnvelope n hd off).1 := by
  unfold State.joinEnvelope
  dsimp only
  split
  · exact h
  · exact .ite_fst h (.ite_fst h (.ite_fst h h.putEnv.setCell))

theorem sealEnvelope {n hd x} (h : Canonical s) : Canonical (s.sealEnvelope n hd x).1 := by
  unfold State.sealEnvelope
  split
  · exact h
  · exact .ite_fst h.endMember h.putEnv

theorem abortEnvelope {n hd} (h : Canonical s) : Canonical (s.abortEnvelope n hd).1 := by
  unfold State.abortEnvelope
  split
  · exact h
  · exact .ite_fst h.endMember h.abortEnv.endMember

theorem holdArrival (h : Canonical s) : Canonical s.holdArrival := by
  unfold State.holdArrival
  split
  · exact h
  · dsimp only
    split
    · exact h.frame.boundCheck
    · split
      · exact h.frame.boundCheck
      · refine .ite ?_ h.frame.boundCheck
        split
        · exact h.frame.boundCheck.frame
        · exact h.frame.boundCheck.setEnv.frame

theorem holdAck (h : Canonical s) : Canonical s.holdAck := by
  unfold State.holdAck
  split
  · exact h
  · dsimp only
    split
    · exact h.frame
    · split
      · exact h.frame
      · refine .ite ?_ h.frame
        split
        · exact h.frame.abortEnv
        · exact .ite h.frame.abortEnv h.frame.putEnv

theorem execHoldStoreArrival (h : Canonical s) : AnswersCanonical (execHoldStoreArrival s) := .next h.holdArrival

theorem execHoldAcknowledgement (h : Canonical s) : AnswersCanonical (execHoldAcknowledgement s) := .next h.holdAck

theorem execEnvLate {p slot} (h : Canonical s) : AnswersCanonical (execEnvLate p slot s) := .next (.ite h.abortEnv h)

theorem vote {c k} (h : Canonical s) : Canonical (State.vote c s k) := .ite h (.ite h.bump h.setEnv)

theorem execCommitVector (h : Canonical s) : AnswersCanonical (execCommitVector s) :=
  .next (.ite (h.foldl fun _ _ h1 => h1.vote) h)

theorem execEnvResultWord {k} (h : Canonical s) : AnswersCanonical (execEnvResultWord k s) := by
  unfold Machine.execEnvResultWord
  refine .next ?_
  split
  · exact h
  · exact h.setCell

/-! ### Instructions of a cell (chapter 3) -/

theorem cellFault {n reason x idx} (h : Canonical s) : Canonical (s.cellFault n reason x idx) :=
  (Canonical.ite h.raise (.ite h.raise h.raise)).setCell.dropContext.restless.nameFault

theorem macIssue {n fmt} (h : Canonical s) : Canonical (s.macIssue n fmt) := h.setCl

theorem retire {n x ch cost tgt} (h : Canonical s) : Canonical (s.retire n x ch cost tgt) :=
  .ite (.ite h.setCell.setCl.setCell.restless h.setCell.setCl.cellFault) h.setCell.setCl

theorem finish {e n u ch cost} (h : Canonical s) (he : EffCanonical e) : Canonical (Eff.finish e s n u ch cost) := by
  cases e with
  | done s' => exact retire he
  | late s' u' => exact retire he
  | jump s' tgt => exact retire he
  | fault r x => exact h.cellFault
  | stop s' => exact he

theorem issueState {n mac t1 x} (h : Canonical s) : Canonical (s.issueState n mac t1 x) :=
  .ite h.setCell.setCl h.setCell

theorem instr {k reads acc mac charge cost body} (h : Canonical s) (hb : ∀ s u, Canonical s → EffCanonical (body s u)) :
    Canonical (s.instr k reads acc mac charge cost body) :=
  .ite h (.ite h.setCell.restless (h.issueState.finish (hb _ _ h.issueState)))

theorem setWork {n w} (h : Canonical s) : Canonical (s.setWork n w) := h.setCell

theorem alu {k reads cost f} (h : Canonical s) : Canonical (s.alu k reads cost f) := h.instr fun _ _ h => h.setWork

theorem alu2 {k d a b cost f} (h : Canonical s) : Canonical (s.alu2 k d a b cost f) := h.alu

theorem alu1 {k d a f} (h : Canonical s) : Canonical (s.alu1 k d a f) := h.alu

theorem execNop {k} (h : Canonical s) : AnswersCanonical (execNop k s) := .next h.alu

theorem execAdd {k d a b} (h : Canonical s) : AnswersCanonical (execAdd k d a b s) := .next h.alu

theorem execSub {k d a b} (h : Canonical s) : AnswersCanonical (execSub k d a b s) := .next h.alu

theorem execAddc {k d a b} (h : Canonical s) : AnswersCanonical (execAddc k d a b s) := .next h.alu

theorem execSubb {k d a b} (h : Canonical s) : AnswersCanonical (execSubb k d a b s) := .next h.alu

theorem execAnd {k d a b} (h : Canonical s) : AnswersCanonical (execAnd k d a b s) := .next h.alu2

theorem execOr {k d a b} (h : Canonical s) : AnswersCanonical (execOr k d a b s) := .next h.alu2

theorem execXor {k d a b} (h : Canonical s) : AnswersCanonical (execXor k d a b s) := .next h.alu2

theorem execShl {k d a b} (h : Canonical s) : AnswersCanonical (execShl k d a b s) := .next h.alu2

theorem execShr {k d a b} (h : Canonical s) : AnswersCanonical (execShr k d a b s) := .next h.alu2

theorem execSra {k d a b} (h : Canonical s) : AnswersCanonical (execSra k d a b s) := .next h.alu2

theorem execMul {k d a b} (h : Canonical s) : AnswersCanonical (execMul k d a b s) := .next h.alu2

theorem execSlt {k d a b} (h : Canonical s) : AnswersCanonical (execSlt k d a b s) := .next h.alu2

theorem execSltu {k d a b} (h : Canonical s) : AnswersCanonical (execSltu k d a b s) := .next h.alu2

theorem execQadd {k d a b} (h : Canonical s) : AnswersCanonical (execQadd k d a b s) := .next h.alu

theorem execQsub {k d a b} (h : Canonical s) : AnswersCanonical (execQsub k d a b s) := .next h.alu

theorem execAddi {k d a imm} (h : Canonical s) : AnswersCanonical (execAddi k d a imm s) := .next h.alu1

theorem execAndi {k d a imm} (h : Canonical s) : AnswersCanonical (execAndi k d a imm s) := .next h.alu1

theorem execOri {k d a imm} (h : Canonical s) : AnswersCanonical (execOri k d a imm s) := .next h.alu1

theorem execXori {k d a imm} (h : Canonical s) : AnswersCanonical (execXori k d a imm s) := .next h.alu1

theorem execLui {k d imm} (h : Canonical s) : AnswersCanonical (execLui k d imm s) := .next h.alu

theorem execShli {k d a sh} (h : Canonical s) : AnswersCanonical (execShli k d a sh s) := .next h.alu1

theorem execShri {k d a sh} (h : Canonical s) : AnswersCanonical (execShri k d a sh s) := .next h.alu1

theorem execSrai {k d a sh} (h : Canonical s) : AnswersCanonical (execSrai k d a sh s) := .next h.alu1

theorem execSys {k d sel} (h : Canonical s) : AnswersCanonical (execSys k d sel s) :=
  .next (.ite h (h.instr fun _ _ h => h.setWork))

theorem load {k d a imm ecc w ext} (h : Canonical s) : Canonical (s.load k d a imm ecc w ext) := by
  refine h.instr fun s u h => ?_
  dsimp only
  split
  · trivial
  · split
    · trivial
    · split
      · trivial
      · exact (Canonical.ite h.eccCorrected h).setCell

theorem execLdw {k d a imm ecc} (h : Canonical s) : AnswersCanonical (execLdw k d a imm ecc s) := .next h.load

theorem execLdh {k d a imm ecc} (h : Canonical s) : AnswersCanonical (execLdh k d a imm ecc s) := .next h.load

theorem execLdhu {k d a imm ecc} (h : Canonical s) : AnswersCanonical (execLdhu k d a imm ecc s) := .next h.load

theorem execLdb {k d a imm ecc} (h : Canonical s) : AnswersCanonical (execLdb k d a imm ecc s) := .next h.load

theorem store {k d a imm w} (h : Canonical s) : Canonical (s.store k d a imm w) := by
  refine h.instr fun s u h => ?_
  dsimp only
  split
  · trivial
  · split
    · trivial
    · exact h.wrMem.setCell

theorem execStw {k d a imm} (h : Canonical s) : AnswersCanonical (execStw k d a imm s) := .next h.store

theorem execSth {k d a imm} (h : Canonical s) : AnswersCanonical (execSth k d a imm s) := .next h.store

theorem execStb {k d a imm} (h : Canonical s) : AnswersCanonical (execStb k d a imm s) := .next h.store

theorem macOp {fmt k a b n f} (h : Canonical s) :
    Canonical (s.macOp fmt k a b n f) :=
  h.instr fun _ _ h => h.setCell.macIssue

theorem execMacq {k a b n ha hb} (h : Canonical s) : AnswersCanonical (execMacq k a b n ha hb s) := .next h.macOp

theorem execMsuq {k a b n ha hb} (h : Canonical s) : AnswersCanonical (execMsuq k a b n ha hb s) := .next h.macOp

theorem execMacb8 {k a b n} (h : Canonical s) : AnswersCanonical (execMacb8 k a b n s) := .next h.macOp

theorem execMacb4 {k a b n} (h : Canonical s) : AnswersCanonical (execMacb4 k a b n s) := .next h.macOp

theorem accOp {k reads n f} (h : Canonical s) : Canonical (s.accOp k reads n f) := h.instr fun _ _ h => h.setCell

theorem execClra {k n} (h : Canonical s) : AnswersCanonical (execClra k n s) := .next h.accOp

theorem execSeta {k a n part} (h : Canonical s) : AnswersCanonical (execSeta k a n part s) := .next h.accOp

theorem fromAcc {k d n f} (h : Canonical s) : Canonical (s.fromAcc k d n f) := h.instr fun _ _ h => h.setWork

theorem execExtq {k d n sh} (h : Canonical s) : AnswersCanonical (execExtq k d n sh s) := .next h.fromAcc

theorem execExtb {k d n sh} (h : Canonical s) : AnswersCanonical (execExtb k d n sh s) := .next h.fromAcc

theorem execGeta {k d n part} (h : Canonical s) : AnswersCanonical (execGeta k d n part s) := .next h.fromAcc

theorem execSetx {k a b} (h : Canonical s) : AnswersCanonical (execSetx k a b s) := .next h.alu

theorem execBr {k a b cond tgt} (h : Canonical s) : AnswersCanonical (execBr k a b cond tgt s) := by
  refine .next (h.instr fun s u h => ?_)
  split
  · exact h
  · exact h

theorem execJal {k d tgt} (h : Canonical s) :
    AnswersCanonical (execJal k d tgt s) :=
  .next (h.instr fun _ _ h => h.setWork)

theorem execJr {k a} (h : Canonical s) : AnswersCanonical (execJr k a s) := by
  refine .next (h.instr fun s u h => ?_)
  dsimp only
  split
  · trivial
  · exact h

theorem pace {u o} (h : Canonical s) : Canonical (s.pace u o).1 := by
  cases o with
  | none => exact h
  | some x => exact .ite (bump h.frame) h.frame

theorem leave {k f op env u} (h : Canonical s) : EffCanonical (s.leave k f op env u) := h.pace.send.setCl.setCell

theorem letterOp {k f op} (h : Canonical s) : Canonical (s.letterOp k f op) := by
  refine h.instr fun s' u h' => ?_
  dsimp only
  split
  · trivial
  · split
    · trivial
    · split
      · exact h
      · split
        · split
          · split
            · split
              · exact h'.setEnv.leave
              · exact h'
            · exact h'
          · exact h'
        · exact h'.leave

theorem execLput {k f} (h : Canonical s) : AnswersCanonical (execLput k f s) := .next h.letterOp

theorem execLget {k f} (h : Canonical s) : AnswersCanonical (execLget k f s) := .next h.letterOp

theorem execLadd {k f} (h : Canonical s) : AnswersCanonical (execLadd k f s) := .next h.letterOp

theorem execLswap {k f} (h : Canonical s) : AnswersCanonical (execLswap k f s) := .next h.letterOp

theorem execLcas {k f} (h : Canonical s) : AnswersCanonical (execLcas k f s) := .next h.letterOp

theorem execLmax {k f} (h : Canonical s) : AnswersCanonical (execLmax k f s) := .next h.letterOp

theorem execLmin {k f} (h : Canonical s) : AnswersCanonical (execLmin k f s) := .next h.letterOp

theorem execEnvOpen {k d a b} (h : Canonical s) : AnswersCanonical (execEnvOpen k d a b s) := by
  refine .next (h.instr fun s u h => ?_)
  dsimp only
  split
  · trivial
  · exact h.openEnvelope.setCell

theorem execEnvJoin {k d a b} (h : Canonical s) : AnswersCanonical (execEnvJoin k d a b s) := by
  refine .next (h.instr fun s u h => ?_)
  dsimp only
  split
  · trivial
  · exact h.joinEnvelope.setCell

theorem endEnv {k d f} (h : Canonical s) (hf : ∀ s n e u, Canonical s → Canonical (f s n e u).1) :
    Canonical (s.endEnv k d f) := by
  refine h.instr fun s u h => ?_
  dsimp only
  split
  · trivial
  · exact h.setCell
  · exact (hf _ _ _ _ h).setCell

theorem execEnvSeal {k d} (h : Canonical s) : AnswersCanonical (execEnvSeal k d s) :=
  .next (h.endEnv fun _ _ _ _ h => h.sealEnvelope)

theorem execEnvAbort {k d} (h : Canonical s) : AnswersCanonical (execEnvAbort k d s) :=
  .next (h.endEnv fun _ _ _ _ h => h.abortEnvelope)

theorem execWait {k d mask time} (h : Canonical s) : AnswersCanonical (execWait k d mask time s) :=
  .next (.ite h (h.instr fun _ _ h => h.setCell.restless))

theorem resumeCheck {n} (h : Canonical s) : Canonical (s.resumeCheck n) :=
  .ite (.ite h.setCell.restless h.cellFault) h

theorem execWaitSlotResume {k} (h : Canonical s) : AnswersCanonical (execWaitSlotResume k s) := by
  unfold Machine.execWaitSlotResume
  refine .next ?_
  dsimp only
  split
  · exact h
  · split
    · exact h
    · exact .ite h.setCell.resumeCheck h

theorem execWaitBeatResume {k} (h : Canonical s) : AnswersCanonical (execWaitBeatResume k s) := by
  unfold Machine.execWaitBeatResume
  refine .next ?_
  dsimp only
  split
  · exact h
  · split
    · exact h
    · exact .ite h.setCell.resumeCheck h

theorem execDone {k} (h : Canonical s) : AnswersCanonical (execDone k s) := by
  refine .next (h.instr fun s u h => ?_)
  dsimp only
  split
  · trivial
  · exact h.setCell.restless

/-! ### Periods of programs (R69, R124 to R127) -/

/-- The WORK bytes that are not 0 are in the canonical form of the KEPT bank. -/
theorem wf_nonzero (h : Canonical s) :
    Tab.wf (s.mem.filter fun (e : Nat × Byte) => decide (e.2 ≠ 0)) (fun _ => 0) = true :=
  (Tab.wf_iff _ _).2 ⟨((Tab.wf_iff _ _).1 h.mem_wf).1.filter _, fun _ he => of_decide_eq_true (List.mem_filter.1 he).2⟩

/-- The KEPT bytes that are not what memory reads as unlisted are in the canonical form of memory. -/
theorem wf_nondefault (h : Canonical s) :
    Memory.wf (s.kept.filter fun (e : Nat × Byte) => decide (e.2 ≠ memDefault e.1)) = true :=
  (Tab.wf_iff _ _).2 ⟨((Tab.wf_iff _ _).1 h.kept_wf).1.filter _, fun _ he => of_decide_eq_true (List.mem_filter.1 he).2⟩

theorem cellAddr_le {n a b : Nat} (h : a ≤ b) : cellAddr n a ≤ cellAddr n b := Nat.add_le_add_left h _

theorem saveWindow {n} (h : Canonical s) : Canonical (s.saveWindow n) :=
  of_wf h.mem_wf (Tab.wf_copyRange h.kept_wf h.wf_nonzero _ _ (cellAddr_le (by decide))) h.regs_wf

theorem restoreWindow {n} (h : Canonical s) : Canonical (s.restoreWindow n) :=
  of_wf (Memory.wf_copyRange h.mem_wf h.wf_nondefault _ _ (cellAddr_le (by decide))) h.kept_wf h.regs_wf

theorem settleCell {completed n} (h : Canonical s) : Canonical (s.settleCell completed n) :=
  .ite h.setCell.saveWindow h.setCell.restoreWindow

theorem restartCell {n} (h : Canonical s) : Canonical (s.restartCell n) := h.setCell

theorem stopCell {n} (h : Canonical s) : Canonical (s.stopCell n) := .ite h.dropContext h.dropContext.setCell.restless

theorem dropPeriod {p x cause} (h : Canonical s) : Canonical (s.dropPeriod p x cause) := by
  unfold State.dropPeriod
  split
  · exact h
  · exact
      have h3 := (h.foldl fun _ _ h2 => h2.stopCell).foldl fun _ _ h1 => .ite h1.abortEnv h1
      (Canonical.ite h3.bump h3.bump).wr.wr.ev.setProg

theorem deadline {p x} (h : Canonical s) : Canonical (s.deadline p x) := by
  unfold State.deadline
  split
  · exact h
  · split
    · exact .ite (.ite h.setProg h.dropPeriod) h
    · exact h

theorem execPeriodDeadline {p prog} (h : Canonical s) : AnswersCanonical (execPeriodDeadline p prog s) :=
  .next h.deadline

theorem watch {p x d completed} (h : Canonical s) : Canonical (s.watch p x d completed) :=
  .ite h.setProg (.ite h.setProg (.ite h.setProg.nameFault h.setProg))

theorem startPeriod {p x} (h : Canonical s) : Canonical (s.startPeriod p x) := by
  unfold State.startPeriod
  split
  · exact h
  · split
    · exact h
    · exact
        .ite ((Canonical.ite h.deadline (h.deadline.foldl fun _ _ h2 => h2.settleCell).watch).foldl fun _ _ h1 =>
          h1.restartCell).setProg h

theorem execPeriodStart {p prog} (h : Canonical s) : AnswersCanonical (execPeriodStart p prog s) :=
  .next h.startPeriod

theorem peerDown {q} (h : Canonical s) : Canonical (s.peerDown q) := by
  unfold State.peerDown
  refine h.foldl fun _ _ h1 => ?_
  split
  · exact h1
  · exact h1.foldl fun _ _ h2 => .ite (Canonical.andThen (.ite h2.dropPeriod h2) fun h3 => .ite h3.setProg h3) h2

theorem peerUp {q} (h : Canonical s) : Canonical (s.peerUp q) := by
  unfold State.peerUp
  refine h.foldl fun _ _ h1 => ?_
  split
  · exact h1
  · exact h1.foldl fun _ _ h2 => .ite h2.setProg h2

/-! ### Loop engines (chapter 8) -/

theorem setLoop {k v} (h : Canonical s) : Canonical (s.setLoop k v) := h.frame

theorem loopEv {code k more p1} (h : Canonical s) : Canonical (s.loopEv code k more p1) := h.ev

theorem setU {k u} (h : Canonical s) : Canonical (s.setU k u) := h.setF

theorem emit {k u} (h : Canonical s) : Canonical (s.emit k u) :=
  .ite (h.foldl fun _ _ h1 => .ite h1.setLoop h1.setLoop) h

theorem loopTo {k new} (h : Canonical s) : Canonical (s.loopTo k new) :=
  have h1 := Canonical.ite h.setF h.setF.setU
  .ite h1.setF.loopEv h1.setF.loopEv.emit

theorem windowSet {k fromCycle parts} (h : Canonical s) : Canonical (s.windowSet k fromCycle parts) := by
  unfold State.windowSet
  dsimp only
  refine .ite h.setLoop ?_
  refine .ite h.setLoop ?_
  split
  · exact h.setLoop.bump.loopEv
  · exact h.setLoop

theorem loopBind {p b} (h : Canonical s) : Canonical (s.loopBind p b) :=
  (h.foldl fun _ _ h1 => .ite h1.setPhase h1).setLoop.wr.wr.wr

theorem loopsBind {p bs} (h : Canonical s) : Canonical (s.loopsBind p bs) :=
  ((h.foldl fun _ _ h3 => h3.loopBind).foldl fun _ _ h2 => .ite (h2.foldl fun _ _ h4 => h4.setLoop)
    h2).foldl fun _ _ h1 => h1.loopTo

theorem loopsUnbind {p} (h : Canonical s) : Canonical (s.loopsUnbind p) :=
  h.foldl fun _ _ h1 => .ite (h1.loopTo.foldl fun _ _ h2 => .ite h2.setPhase h2).setLoop.wr h1

theorem loopTrip {k why y} (h : Canonical s) : Canonical (s.loopTrip k why y) :=
  have h1 := h.setF.setF
  (Canonical.ite h1.setU.emit (.ite h1.commandLocal h1)).sendRouted.bump.loopEv

theorem loopRun {k y late} (h : Canonical s) : Canonical (s.loopRun k y late) :=
  have h1 := Canonical.ite h.setF.setF.bump h.setF.setF
  .ite h1.setLoop.loopTrip (.ite h1.setLoop.loopTo (h1.setLoop.setLoop.setU.setF.andThen fun h2 =>
    (Canonical.ite h2.setF.bump h2.setF).emit))

theorem loopNote {k y} (h : Canonical s) : Canonical (s.loopNote k y) := by
  unfold State.loopNote
  dsimp only
  split
  · exact h.setF.setF.setF
  · exact h.setF.setF.bump.loopEv

theorem extTake {k} (h : Canonical s) : Canonical (s.extTake k).1 := .ite_fst (.ite_fst h.setLoop h.bump.loopEv) h

theorem loopEval {k y} (h : Canonical s) : Canonical (s.loopEval k y) := by
  unfold State.loopEval
  dsimp only
  refine .ite h.loopNote.setLoop.setF.loopTo ?_
  refine .ite h.loopNote.setLoop.emit ?_
  refine .ite (.ite h.loopNote.setLoop.loopTo.setLoop h.loopNote.setLoop) ?_
  split
  · exact (Canonical.ite h.loopNote.setLoop.loopTo.setLoop h.loopNote.setLoop).extTake.loopRun
  · exact
      have h1 := Canonical.ite h.loopNote.setLoop.loopTo.setLoop h.loopNote.setLoop
      .ite h1.extTake.loopTo h1.extTake

theorem loopSample {k half} (h : Canonical s) : Canonical (s.loopSample k half) :=
  .ite (.ite h.setLoop h.setLoop.loopEval) h

theorem takeOne {k} (h : Canonical s) : Canonical (s.takeOne k) := by
  unfold State.takeOne
  split
  · exact h.setLoop.loopEval
  · exact h

theorem takeExt (h : Canonical s) : Canonical s.takeExt := h.foldl fun _ _ h1 => h1.takeOne

theorem windowIn {k fromCycle parts} (h : Canonical s) : Canonical (s.windowIn k fromCycle parts) :=
  (Canonical.ite h.takeOne h).windowSet

theorem execLoopSample {e l half} (h : Canonical s) : AnswersCanonical (execLoopSample e l half s) :=
  .next h.loopSample

theorem execSetpointWindow {e l off data} (h : Canonical s) : AnswersCanonical (execSetpointWindow e l off data s) :=
  .next h.windowIn

theorem loopClear {k} (h : Canonical s) : Canonical (s.loopClear k) := .ite h.setLoop h

theorem engineBack {e} (h : Canonical s) : Canonical (s.engineBack e) := (h.foldl fun _ _ h1 => h1.setLoop).ev

/-! ### Stage links (chapter 9) -/

theorem trainLink {b lat found} (h : Canonical s) : Canonical (s.trainLink b lat found) :=
  .ite (.ite h.ev.setBState.setBoard h.ev) (.ite h.setBoard.setF h.setBoard.setF.setF.setBState)

theorem dropLink {b} (h : Canonical s) : Canonical (s.dropLink b) := .ite h.setBState.setF.setBoard h

theorem sendInit {b exit} (h : Canonical s) : Canonical (s.sendInit b exit) := h.startAct

theorem trainAtRelease {b} (h : Canonical s) : Canonical (s.trainAtRelease b) := .ite h h.trainLink.useFree

theorem stageMap {ents} (h : Canonical s) : Canonical (s.stageMap ents) :=
  (h.foldl fun _ _ h2 =>
    (by split; exacts [h2.setBoard.trainAtRelease.admin, h2.setBoard.dropLink])).foldl fun _ _ h1 => .ite h1.sendInit
    h1

theorem exitFail {b cause} (h : Canonical s) : Canonical (s.exitFail b cause) := h.bump.ev.setBState

theorem decide' {a} (h : Canonical s) : Canonical (s.decide' a).2 := by
  unfold State.decide'
  dsimp only
  split
  · exact .ite_snd h.exitFail h
  · exact h

theorem actDecide (h : Canonical s) : Canonical s.actDecide := h.foldl fun _ _ h1 => .ite h1.decide'.frame h1

theorem actReport {b rx} (h : Canonical s) : Canonical (s.actReport b rx) := by
  unfold State.actReport
  refine h.foldl fun _ _ h1 => ?_
  split
  · exact h1
  · exact
      have h2 := Canonical.ite h1.setBoard.admin h1
      .ite (.ite h2.setBState (.ite h2.exitFail (.ite h2.exitFail h2))) h2

theorem actOutcome {a} (h : Canonical s) : Canonical (s.actOutcome a) :=
  .ite h (Canonical.ite h (.ite h.bump.ev (h.bump.ev.andThen fun h1 => .ite h1.ev h1))).outcome.putEnv

theorem actResolve (h : Canonical s) : Canonical s.actResolve :=
  h.foldl fun _ _ h1 => Canonical.andThen (.ite (Canonical.andThen (h1.foldl fun _ _ h2 => h2.commandLocal) fun h3 =>
    (by split; exacts [.ite h3.exitFail h3, h3])) h1) fun h4 => .ite h4.frame.actOutcome h4.frame

theorem execActuatorDecision (h : Canonical s) : AnswersCanonical (execActuatorDecision s) := .next h.actDecide

theorem execActuatorResolve (h : Canonical s) : AnswersCanonical (execActuatorResolve s) := .next h.actResolve

theorem askExit {b} (h : Canonical s) : Canonical (s.askExit b) := h.frame

theorem judgeExit {b} (h : Canonical s) : Canonical (s.judgeExit b) := by
  unfold State.judgeExit
  refine .ite ?_ h
  dsimp only
  split
  · exact h.frame.ev
  · exact h.frame.sendInit

theorem exitStarts (h : Canonical s) : Canonical s.exitStarts := h.foldl fun _ _ h1 => .ite h1.setBState h1

theorem shedEnd {b j} (h : Canonical s) : Canonical (s.shedEnd b j) := h.setPstates

theorem shedTick {b k} (h : Canonical s) : Canonical (s.shedTick b k) :=
  .ite h (h.setBoard.foldl fun _ _ h1 => .ite (.ite h1.shedEnd h1.setPhase) h1)

theorem takePart {b k part} (h : Canonical s) : Canonical (s.takePart b k part) :=
  .ite h (Canonical.ite h.shedTick (.ite h.judgeExit h)).frame

theorem takeParts {part} (h : Canonical s) : Canonical (s.takeParts part) := h.foldl fun _ _ h1 => .ite h1.takePart h1

theorem giveFrame {b k act fr} (h : Canonical s) : Canonical (s.giveFrame b k act fr) :=
  (Canonical.ite h.setF.setF.setF.setBoard.frame h.setF.setF.setF.setBoard).drive

theorem sendFrame {b} (h : Canonical s) : Canonical (s.sendFrame b) := (h.foldl fun _ _ h1 => h1.takePart).giveFrame

theorem localFrames (h : Canonical s) : Canonical s.localFrames := h.foldl fun _ _ h1 => .ite h1.shedTick.giveFrame h1

theorem shareGroup {b g} (h : Canonical s) : Canonical (s.shareGroup b g) :=
  .ite h (.ite h (h.foldl fun _ _ h1 => h1.setF))

theorem shareReset {win} (h : Canonical s) : Canonical (s.shareReset win) := h.frame

theorem execShareUpdate (h : Canonical s) : AnswersCanonical (execShareUpdate s) :=
  .next (.ite (Canonical.ite (h.foldl fun _ _ h1 => h1.foldl fun _ _ h2 => h2.shareGroup) h).shareReset.frame h)

theorem setGrp {b g v} (h : Canonical s) : Canonical (s.setGrp b g v) := h.frame

theorem shedGroup {b g} (h : Canonical s) : Canonical (s.shedGroup b g) := by
  unfold State.shedGroup
  dsimp only
  split
  · exact h.setPstates.bump.ev.setGrp
  · exact .ite h.setPstates.bump.setGrp h.setGrp

theorem execShedStart {b grp} (h : Canonical s) : AnswersCanonical (execShedStart b grp s) :=
  .next (.ite h.setPstates.bump.setGrp h)

theorem execShedRampEnd {b j} (h : Canonical s) : AnswersCanonical (execShedRampEnd b j s) := .next (.ite h.shedEnd h)

theorem fireEnd {byRelease first} (h : Canonical s) : Canonical (s.fireEnd byRelease first) := h.bump.bumpBy.ev.frame

theorem allFire (h : Canonical s) : Canonical s.allFire := by
  unfold State.allFire
  dsimp only
  split
  · exact .ite h.frame.fireEnd h.frame.frame
  · split
    · exact .ite h.frame.frame h.frame
    · exact h.frame

theorem execAllfireLimit (h : Canonical s) : AnswersCanonical (execAllfireLimit s) := by
  unfold Machine.execAllfireLimit
  refine .next ?_
  split
  · exact .ite h.fireEnd h
  · exact h

theorem frameMissed {b failed mismatch} (h : Canonical s) : Canonical (s.frameMissed b failed mismatch) := by
  unfold State.frameMissed
  dsimp only
  split
  · exact (Canonical.ev (h.setF.bump.andThen fun h1 => .ite h1.setBoard.frame h1.setBoard)).ev
  · exact Canonical.ev (h.setF.bump.andThen fun h1 => .ite h1.setBoard.frame h1.setBoard)

theorem addTrips {b fr off} (h : Canonical s) : Canonical (s.addTrips b fr off) :=
  h.foldl fun _ _ h1 => h1.bumpBy.setPhase

theorem faultRecord {b fr} (h : Canonical s) : Canonical (s.faultRecord b fr) := .ite h h.wrBytes.setBoard.ev

theorem sampleLetter {b fr half} (h : Canonical s) : Canonical (s.sampleLetter b fr half) := .ite h h.send

theorem statusIn {b fr} (h : Canonical s) : Canonical (s.statusIn b fr) :=
  (Canonical.ite h.bump h).setF.setF.setBoard.admin

theorem reported {b rx} (h : Canonical s) : Canonical (s.reported b rx) :=
  .ite h.actReport.setBState (.ite h.actReport.bump.setBState (.ite h.actReport.exitFail h.actReport))

theorem fireOnce (h : Canonical s) : Canonical s.fireOnce := .ite h h.frame.allFire

theorem stageCycle (h : Canonical s) : Canonical s.stageCycle :=
  .ite h.takeParts (.ite h.fireOnce (.ite h.takeExt.takeParts (.ite h.takeParts (.ite h.takeParts h))))

theorem stageFrame {b fr inTime} (h : Canonical s) : Canonical (s.stageFrame b fr inTime) :=
  have h1 := Canonical.ite h.setBoard.setF.setBoard h.setBoard.frameMissed
  have h2 := Canonical.ite h1.statusIn h1
  have h3 := Canonical.ite h2.faultRecord h2
  have h4 := Canonical.ite h3.addTrips.sampleLetter h3
  have h5 := Canonical.ite h4.addTrips.sampleLetter h4
  have h6 := Canonical.ite h5.reported h5
  have h8 := Canonical.ite ((Canonical.ite h6 h6.shareReset).foldl fun _ _ h7 => h7.setPhase).setBoard h6
  .ite (h8.foldl fun _ _ h9 => h9.shedGroup) h8

theorem stageTake (h : Canonical s) : Canonical s.stageTake :=
  (h.foldl fun _ _ h1 => .ite h1.frameMissed h1).frame.fireOnce

theorem execBoardLost {b} (h : Canonical s) : AnswersCanonical (execBoardLost b s) := .next (.ite h.setBState h)

theorem execCltWindow (h : Canonical s) : AnswersCanonical (execCltWindow s) :=
  .next (.ite (h.foldl fun _ _ h1 => .ite h1.ev h1).frame h)

theorem vrefStep (h : Canonical s) : Canonical s.vrefStep := (Canonical.ite h.stage.bump h.stage).frame.setF

theorem voltageSp (h : Canonical s) : Canonical s.voltageSp := h.foldl fun _ _ h1 => .ite h1.send h1

/-! ### Cell monitoring (chapter 10) -/

theorem setCmu {c v} (h : Canonical s) : Canonical (s.setCmu c v) := h.frame

theorem strFlag {st i v} (h : Canonical s) : Canonical (s.strFlag st i v) :=
  .ite h (Canonical.ite h.setF.setF.setF.frame h.setF.setF.setF).ev

theorem strDerived {st} (h : Canonical s) : Canonical (s.strDerived st) := h.strFlag.strFlag

theorem derLost {st} (h : Canonical s) : Canonical (s.derLost st) := h.frame.strFlag

theorem cmuTo {c new cause} (h : Canonical s) : Canonical (s.cmuTo c new cause) :=
  .ite h (Canonical.ite h.setF.frame.setCmu.setF h.setF).ev

theorem monOut {channel port fr} (h : Canonical s) : Canonical (s.monOut channel port fr) :=
  .ite h.frame h.frame.drive

theorem hear {port fr} (h : Canonical s) : Canonical (s.hear port fr) := h.frame

theorem monLeave {c type port body} (h : Canonical s) : Canonical (s.monLeave c type port body) :=
  .ite h.frame.monOut h.setCmu.monOut

theorem lineBusy {c} (h : Canonical s) : Canonical (s.lineBusy c) := h.setCmu

theorem tryLeave {m} (h : Canonical s) : Canonical (s.tryLeave m) :=
  .ite (h.frame.monLeave.lineBusy.andThen fun h1 => .ite h1 (.ite h1.setCmu.frame h1.setCmu)) h

theorem monServe (h : Canonical s) : Canonical s.monServe := .ite h (h.foldl fun _ _ h1 => h1.tryLeave)

theorem monSend {c type body after} (h : Canonical s) : Canonical (s.monSend c type body after) := h.frame.monServe

theorem portFree {c} (h : Canonical s) : Canonical (s.portFree c) := .ite h.setCmu.frame h.setCmu

theorem refAgain {c} (h : Canonical s) : Canonical (s.refAgain c) := by
  unfold State.refAgain
  split
  · exact .ite h h.setCmu.monSend
  · exact h

theorem monBoundary (h : Canonical s) : Canonical s.monBoundary :=
  (h.foldl fun _ _ h1 => .ite h1.refAgain h1).monServe

theorem sendConfig {c} (h : Canonical s) : Canonical (s.sendConfig c) := .ite h h.monSend

theorem sendDiag {c tap sink} (h : Canonical s) : Canonical (s.sendDiag c tap sink) := h.monSend

theorem badFrame {port cause type} (h : Canonical s) : Canonical (s.badFrame port cause type) := h.bump.ev

theorem monFrame {port data type n} (h : Canonical s) : Canonical (s.monFrame port data type n).2 := by
  unfold State.monFrame
  dsimp only
  split
  · exact h
  · exact .ite_snd h.badFrame (.ite_snd h.badFrame (.ite_snd h.badFrame (.ite h h.portFree)))

theorem monitorMap {ents} (h : Canonical s) : Canonical (s.monitorMap ents) := by
  unfold State.monitorMap
  dsimp only
  split
  · exact h
  · exact
      have h2 := h.frame.frame.foldl fun _ _ h1 => .ite h1 h1.setCmu.derLost.cmuTo.useFree
      .ite h2.setF.setLive.ev h2

theorem monitorUnmap (h : Canonical s) : Canonical s.monitorUnmap :=
  (h.foldl fun _ _ h1 => .ite h1.cmuTo.setCmu h1).frame

theorem sweepOut {L settle} (h : Canonical s) : Canonical (s.sweepOut L settle) :=
  .ite h.monLeave.useFree (h.foldl fun _ _ h1 => .ite h1.monLeave.lineBusy h1)

theorem sweepCommand (h : Canonical s) : Canonical s.sweepCommand :=
  .ite h (h.stage.frame.sweepOut.foldl fun _ _ h1 => .ite h1.sendConfig h1)

theorem execSweepCommand (h : Canonical s) : AnswersCanonical (execSweepCommand s) := .next h.sweepCommand

theorem execSweepRecord {port data} (h : Canonical s) : AnswersCanonical (execSweepRecord port data s) := by
  refine .next ?_
  split
  next heq => exact (h.hear.monFrame.snd_of_eq heq).andThen fun h1 => .ite h1.setCmu h1
  next heq => exact h.hear.monFrame.snd_of_eq heq

theorem cmuAtK {seq L c} (h : Canonical s) : Canonical (s.cmuAtK seq L c) := by
  unfold State.cmuAtK
  dsimp only
  split
  · exact .ite h.setF.setF.setCmu.setF.cmuTo h.setF.setF.setCmu
  · exact .ite h.setF.setCmu.setF.cmuTo (.ite (.ite h.setF.setCmu.setF.derLost.cmuTo h.setF.setCmu.setF)
      h.setF.setCmu)

theorem strComplete {L st} (h : Canonical s) : Canonical (s.strComplete L st) :=
  .ite h (.ite (.ite h.setF.frame.frame.strFlag h.setF.frame.frame) h.frame.setF)

theorem monPut {a d} (h : Canonical s) : Canonical (s.monPut a d) := h.send

theorem diagStart {c i attempt asked} (h : Canonical s) : Canonical (s.diagStart c i attempt asked) :=
  (Canonical.ite h.useFree h).setCmu.setF.sendDiag

theorem diagNext {c} (h : Canonical s) : Canonical (s.diagNext c) := by
  unfold State.diagNext
  split
  · exact .ite h.setCmu.diagStart h
  · exact h

theorem diagAsk {c i} (h : Canonical s) : Canonical (s.diagAsk c i) := h.setCmu.diagNext

theorem diagResume (h : Canonical s) : Canonical s.diagResume := by
  unfold State.diagResume
  refine h.foldl fun _ _ h1 => ?_
  split
  · exact .ite h1.diagStart h1
  · exact h1.diagNext

theorem autoDiag (h : Canonical s) : Canonical s.autoDiag := by
  unfold State.autoDiag
  refine .ite h ?_
  refine h.foldl fun _ _ h1 => ?_
  refine .ite ?_ h1
  dsimp only
  split
  · exact h1.diagStart
  · exact h1

theorem markTap {c x v} (h : Canonical s) : Canonical (s.markTap c x v) := h.setF.setF.strDerived

theorem verdict {c d pair v} (h : Canonical s) : Canonical (s.verdict c d pair v) :=
  .ite h.wr.ev.setCmu (Canonical.ite h.wr.ev.setCmu.bump.bump.markTap (.ite h.wr.ev.setCmu.bump.bump.strFlag
    h.wr.ev.setCmu.bump)).setCmu.setF.diagNext

theorem diagStep {c d m} (h : Canonical s) : Canonical (s.diagStep c d m) := by
  unfold State.diagStep
  dsimp only
  split
  · exact .ite h.verdict h.setCmu.sendDiag
  · exact
      .ite h.verdict (.ite h.verdict (.ite (Canonical.ite h.markTap h).verdict (.ite h.markTap.verdict
        (.ite h.verdict h.verdict.setCmu))))

theorem execDiagReply {port data} (h : Canonical s) : AnswersCanonical (execDiagReply port data s) := by
  refine .next ?_
  split
  next heq =>
    have h1 := h.hear.monFrame.snd_of_eq heq
    split
    · exact .ite h1.diagStep h1
    · exact h1
  next heq => exact h.hear.monFrame.snd_of_eq heq

theorem diagRequest {path c j} (h : Canonical s) : Canonical (s.diagRequest path c j) :=
  .ite h.ev (h.setF.setF.andThen fun h1 => .ite h1.diagAsk h1)

theorem sweepComplete (h : Canonical s) : Canonical s.sweepComplete := by
  unfold State.sweepComplete
  split
  · exact h
  · exact
      .ite h (Canonical.andThen (((h.frame.foldl fun _ _ h3 => h3.cmuAtK).foldl fun _ _ h2 =>
        h2.strComplete).monPut.foldl fun _ _ h1 => h1.monPut).monPut.monPut.setF.bump.setF.setF fun h4 =>
        (Canonical.ite h4.bump.ev h4).diagResume.autoDiag)

theorem execSweepComplete (h : Canonical s) : AnswersCanonical (execSweepComplete s) := .next h.sweepComplete

theorem execConfigReply {port data} (h : Canonical s) : AnswersCanonical (execConfigReply port data s) := by
  refine .next ?_
  split
  next heq =>
    have h1 := h.hear.monFrame.snd_of_eq heq
    exact .ite h1.setF.cmuTo (.ite h1.derLost.cmuTo h1)
  next heq => exact h.hear.monFrame.snd_of_eq heq

theorem execFaultFrame {port data} (h : Canonical s) : AnswersCanonical (execFaultFrame port data s) := by
  refine .next ?_
  split
  next heq => exact (h.hear.monFrame.snd_of_eq heq).strFlag.monSend.setCmu.bump.ev
  next heq => exact h.hear.monFrame.snd_of_eq heq

theorem execRefCheckDue (h : Canonical s) : AnswersCanonical (execRefCheckDue s) :=
  .next (.ite (h.frame.foldl fun _ _ h1 => .ite (.ite h1.setCmu h1.setCmu.monSend) h1) h)

theorem refFail {c v diff} (h : Canonical s) : Canonical (s.refFail c v diff) :=
  (Canonical.ite h.setF.bump h.setF).ev.strDerived

theorem execRefReply {port data} (h : Canonical s) : AnswersCanonical (execRefReply port data s) := by
  refine .next ?_
  split
  next heq =>
    have h1 := h.hear.monFrame.snd_of_eq heq
    dsimp only
    split
    · exact h1
    · exact .ite (.ite h1.setCmu.setCmu.refFail h1.setCmu) (.ite (.ite h1.setCmu h1.setCmu.refFail) h1.setCmu.monSend)
  next heq => exact h.hear.monFrame.snd_of_eq heq

theorem isoRelease {path st} (h : Canonical s) : Canonical (s.isoRelease path st) :=
  (Canonical.ite h.strFlag.strFlag h).ev

theorem setBal {c mask} (h : Canonical s) : Canonical (s.setBal c mask) := h.setCmu

theorem execBalanceWindow {c mask} (h : Canonical s) : AnswersCanonical (execBalanceWindow c mask s) := .next h.setBal

/-! ### Security and attestation (chapter 15) -/

theorem draw {n ctx} (h : Canonical s) : Canonical (s.draw n ctx).2 := h.frame

theorem renewNonce (h : Canonical s) : Canonical s.renewNonce := h.frame

theorem setMeas {m d} (h : Canonical s) : Canonical (s.setMeas m d) := h.wrBytes

theorem fuseMeas (h : Canonical s) : Canonical s.fuseMeas := h.setMeas.frame

theorem secRun {op slot auth v status verifies} (h : Canonical s) :
    Canonical (s.secRun op slot auth v status verifies) :=
  h.wr.setF.frame

theorem secRefuse {op slot status path} (h : Canonical s) : Canonical (s.secRefuse op slot status path) :=
  h.bump.raise

theorem secGo {path op slot auth v f} (h : Canonical s) (hf : ∀ s, Canonical s → Canonical (f s)) :
    Canonical (s.secGo path op slot auth v f) :=
  .ite h.setF.secRefuse.renewNonce
    (Canonical.andThen (.ite h.bump h) fun h1 => .ite (hf _ h1).secRun h1.secRefuse.secRun)

theorem enrollOwner {path slot auth v} (h : Canonical s) : Canonical (s.enrollOwner path slot auth v) :=
  h.secGo (fun _ h1 => h1.frame.setF.wrBytes.fuseMeas.ev)

theorem revokeOwner {path slot auth v} (h : Canonical s) : Canonical (s.revokeOwner path slot auth v) :=
  h.secGo (fun _ h1 => h1.setF.fuseMeas.ev)

theorem advanceSvn {path slot auth v} (h : Canonical s) : Canonical (s.advanceSvn path slot auth v) :=
  h.secGo (fun _ h1 => h1.setF.fuseMeas.ev)

theorem issuerChange (h : Canonical s) : Canonical s.issuerChange := h.frame

theorem setPackIssuer {path slot auth v} (h : Canonical s) : Canonical (s.setPackIssuer path slot auth v) :=
  h.secGo (fun _ h1 => h1.frame.issuerChange.setF.wrBytes.ev)

theorem clearPackIssuer {path slot auth v} (h : Canonical s) : Canonical (s.clearPackIssuer path slot auth v) :=
  h.secGo (fun _ h1 => h1.frame.issuerChange.setF.wrBytes.ev)

theorem rotateLedger {path slot auth v} (h : Canonical s) : Canonical (s.rotateLedger path slot auth v) :=
  h.secGo (fun _ h1 => h1.frame)

theorem enterRma {path slot auth v} (h : Canonical s) : Canonical (s.enterRma path slot auth v) :=
  h.secGo (fun _ h1 => h1.ev.setF.setF.fuseMeas)

theorem frankerBegins (h : Canonical s) : Canonical s.frankerBegins := h.frame

theorem frankerDone (h : Canonical s) : Canonical s.frankerDone := h.frame

theorem execSecCommandComplete (h : Canonical s) : AnswersCanonical (execSecCommandComplete s) :=
  .next (.ite (Canonical.ite h.frankerDone h).setF.setF.renewNonce h)

theorem execEntropyHealthChange {fail} (h : Canonical s) : AnswersCanonical (execEntropyHealthChange fail s) :=
  .next (.ite h h.setF.ev)

theorem spdm {code p1 p2 body} (h : Canonical s) : Canonical (s.spdm code p1 p2 body) := h.frame

theorem heard {code p1 p2 body version} (h : Canonical s) : Canonical (s.heard code p1 p2 body version) := h.frame

theorem heardFree {code n} (h : Canonical s) : Canonical (s.heardFree code n) := h.heard.frame

theorem spdmError {code} (h : Canonical s) : Canonical (s.spdmError code) := h.out

theorem attest {f} (h : Canonical s) (hf : ∀ s, Canonical s → Canonical (f s)) :
    Canonical (s.attest f) :=
  .ite h.spdmError (hf s h)

theorem spdmSigned {code p1 p2 body} (h : Canonical s) : Canonical (s.spdmSigned code p1 p2 body) := h.spdm.bump.frame

theorem execGetVersion (h : Canonical s) : AnswersCanonical (execGetVersion s) := .next h.frame.heard.spdm

theorem execGetCapabilities (h : Canonical s) : AnswersCanonical (execGetCapabilities s) :=
  .next (h.attest (fun _ h1 => h1.heardFree.spdm))

theorem execNegotiateAlgorithms {falcon shake} (h : Canonical s) :
    AnswersCanonical (execNegotiateAlgorithms falcon shake s) :=
  .next (h.attest (fun _ h1 => .ite h1.frame.heardFree.spdm h1.spdmError))

theorem execGetDigests (h : Canonical s) : AnswersCanonical (execGetDigests s) :=
  .next (h.attest (fun _ h1 => h1.heard.spdm))

theorem execGetCertificate {slot off len} (h : Canonical s) : AnswersCanonical (execGetCertificate slot off len s) :=
  .next (h.attest (fun _ h1 => .ite h1.heard.spdm h1.spdmError))

theorem execChallenge {slot nonce} (h : Canonical s) : AnswersCanonical (execChallenge slot nonce s) :=
  .next (h.attest (fun _ h1 => .ite h1.spdmError (.ite h1.heard.draw.spdmSigned h1.spdmError)))

theorem execGetMeasurements {idx nonce} (h : Canonical s) : AnswersCanonical (execGetMeasurements idx nonce s) :=
  .next (h.attest (fun _ h1 => .ite h1.spdmError (.ite h1.heard.draw.spdmSigned (.ite h1.heard.draw.spdmSigned
    (.ite h1.heard.draw.spdmSigned h1.spdmError)))))

/-! ### Storage state (chapter 11) -/

theorem setString {st v} (h : Canonical s) : Canonical (s.setString st v) := h.frame

theorem leaveAuth {st} (h : Canonical s) : Canonical (s.leaveAuth st) := by
  unfold State.leaveAuth
  split
  · exact .ite h.frame h
  · exact h

theorem toSst {st new} (h : Canonical s) : Canonical (s.toSst st new) :=
  .ite h (Canonical.andThen (.ite h.leaveAuth h) fun h1 => (Canonical.ite h1.setString h1).setF.ev)

theorem writeSlot {base body} (h : Canonical s) : Canonical (s.writeSlot base body).1 := by
  unfold State.writeSlot
  cases s.inForce base with
  | none => exact h.useFree.wrBytes
  | some x => exact h.wrBytes

theorem showSlot {st} (h : Canonical s) : Canonical (s.showSlot st) := by
  unfold State.showSlot
  split
  · exact h.setF
  · exact h

theorem carryRecord {st clear} (h : Canonical s) : Canonical (s.carryRecord st clear) := by
  unfold State.carryRecord
  split
  · exact h
  · exact h.writeSlot.setF.bump.setString

theorem fullRecord {st} (h : Canonical s) : Canonical (s.fullRecord st) := h.writeSlot.setF.bump.setString

theorem writeRecord {st} (h : Canonical s) : Canonical (s.writeRecord st) := .ite h.carryRecord h.fullRecord

theorem setDValid {st v} (h : Canonical s) : Canonical (s.setDValid st v) := .ite h h.setF.writeRecord

theorem setInc {st v} (h : Canonical s) : Canonical (s.setInc st v) := .ite h h.setF.writeRecord

theorem showCapacity {st} (h : Canonical s) : Canonical (s.showCapacity st) := h.setF

theorem passSend {st kind msg off n} (h : Canonical s) : Canonical (s.passSend st kind msg off n) := by
  induction n generalizing s off with
  | zero => exact h
  | succ n ih => exact .ite h.monSend (ih h.monSend)

theorem passPull {st} (h : Canonical s) : Canonical (s.passPull st) := h.monSend

theorem passMsg {st kind msg} (h : Canonical s) : Canonical (s.passMsg st kind msg) := h.passSend.passPull.setString

theorem sendChallenge {st nonce} (h : Canonical s) : Canonical (s.sendChallenge st nonce) := h.setString.passMsg

theorem stepDraw (h : Canonical s) : Canonical s.stepDraw := .ite h h.draw.frame

theorem challenge {st attempt} (h : Canonical s) : Canonical (s.challenge st attempt) :=
  .ite h.setF.setString.setString (.ite h.setF.setString (.ite h.setF.setString.stepDraw.setString
    h.setF.setString.draw.sendChallenge))

theorem sendIncrement {st} (h : Canonical s) : Canonical (s.sendIncrement st) := h.setString.passMsg

theorem sstMap (h : Canonical s) : Canonical s.sstMap := h.foldl fun _ _ h1 => .ite h1.setString.showSlot.toSst h1

theorem sstUnmap (h : Canonical s) : Canonical s.sstUnmap := h.foldl fun _ _ h1 => h1.toSst

theorem sstFrame {b} (h : Canonical s) : Canonical (s.sstFrame b) := by
  unfold State.sstFrame
  refine h.foldl fun _ _ h1 => ?_
  split
  · exact h1
  · exact .ite h1.setString h1.setString

theorem execPresenceDetected {st} (h : Canonical s) : AnswersCanonical (execPresenceDetected st s) :=
  .next (.ite h.toSst.challenge h)

theorem execPresenceLost {st} (h : Canonical s) : AnswersCanonical (execPresenceLost st s) :=
  .next (.ite (.ite h.toSst.setString.setF.carryRecord h.toSst.setString.setF.fullRecord) h)

theorem authFail {st cause} (h : Canonical s) : Canonical (s.authFail st cause) :=
  have h1 := Canonical.ite h.bump.bump h.bump
  .ite h1.challenge h1.setString.setF.ev.toSst

theorem response {st} (h : Canonical s) : Canonical (s.response st) := by
  unfold State.response
  dsimp only
  refine .ite h ?_
  split
  · exact h.authFail
  · split
    · exact
        have h1 := (Canonical.ite h.frame.ev h.frame).setF.setString.setString.setF
        have h2 := (Canonical.ite h1 h1.ev).setF.setF.showCapacity.showSlot
        have h3 := Canonical.ite h2.writeRecord h2
        .ite h3.toSst h3.setString.toSst
    · exact
        (Canonical.ite h.frame.ev
          h.frame).setF.setString.setString.setF.setF.setF.showCapacity.writeRecord.setString.toSst

theorem execResponse {st} (h : Canonical s) : AnswersCanonical (execResponse st s) := .next h.response

theorem execAuthTimeout {st} (h : Canonical s) : AnswersCanonical (execAuthTimeout st s) := .next (.ite h.authFail h)

theorem reauth {st} (h : Canonical s) : Canonical (s.reauth st) := .ite h.toSst.challenge h

theorem passReply {st fr} (h : Canonical s) : Canonical (s.passReply st fr) :=
  .ite h (.ite h.passPull (.ite h.setString (.ite h.setString h.setString.passPull)))

theorem execPassReply {port data} (h : Canonical s) : AnswersCanonical (execPassReply port data s) := by
  refine .next ?_
  split
  next heq => exact (h.hear.monFrame.snd_of_eq heq).andThen fun h1 => .ite h1.passReply h1
  next heq => exact h.hear.monFrame.snd_of_eq heq

theorem execIncrementReply {st} (h : Canonical s) : AnswersCanonical (execIncrementReply st s) := by
  unfold Machine.execIncrementReply
  refine .next ?_
  dsimp only
  split
  · exact h
  · exact .ite h (.ite h.setString.setInc h.setString)

theorem disagree {st} (h : Canonical s) : Canonical (s.disagree st) := by
  unfold State.disagree
  split
  · exact h
  · exact .ite h.setF.bump.ev h

theorem countCycle {st} (h : Canonical s) : Canonical (s.countCycle st) :=
  .ite h.setString.setF.showCapacity.writeRecord.sendIncrement.setInc h

theorem chargeBeat {st} (h : Canonical s) : Canonical (s.chargeBeat st) := by
  unfold State.chargeBeat
  cases s.stringCurrent st with
  | none => exact .ite h h.bump.setString.countCycle.disagree
  | some i => exact .ite h.setString h.setString.countCycle.disagree

theorem keepMv {st} (h : Canonical s) : Canonical (s.keepMv st) := by
  unfold State.keepMv
  split
  · exact h
  · split
    · exact h.setString
    · exact h

theorem sstTake (h : Canonical s) : Canonical s.sstTake := h.foldl fun _ _ h1 => h1.keepMv.chargeBeat

theorem execChargeLost {st} (h : Canonical s) : AnswersCanonical (execChargeLost st s) :=
  .next (.ite h.setString.setDValid.toSst h)

theorem restAnchor {st} (h : Canonical s) : Canonical (s.restAnchor st) := by
  unfold State.restAnchor
  dsimp only
  split
  · exact
      .ite (Canonical.andThen (.ite h.bump h) fun h1 => (Canonical.ite h1.ev
        h1).setF.setF.setString.writeRecord.toSst) h
  · exact h

theorem execRestAnchor {st} (h : Canonical s) : AnswersCanonical (execRestAnchor st s) := .next h.restAnchor

theorem execRecordPeriod {st} (h : Canonical s) : AnswersCanonical (execRecordPeriod st s) :=
  .next (.ite h.writeRecord h)

theorem sstHoldup (h : Canonical s) : Canonical s.sstHoldup := h.foldl fun _ _ h1 => .ite h1 h1.writeRecord

theorem publishString {st} (h : Canonical s) : Canonical (s.publishString st) := h.setString.setF.setF

/-! ### Rack budgets (chapter 7) -/

theorem lineResp {l up} (h : Canonical s) : Canonical (s.lineResp l up) := h.frame

theorem relines {old} (h : Canonical s) : Canonical (s.relines old) :=
  (((Canonical.ite h.frame h).setF.setF.setF.foldl fun _ _ h2 => .ite h2.frame (.ite h2.ev.frame
    h2)).foldl fun _ _ h1 => .ite h1 h1.lineResp).frame.setF

theorem thrForce {v} (h : Canonical s) : Canonical (s.thrForce v) := h.setF.relines

theorem respCheck {n} (h : Canonical s) : Canonical (s.respCheck n) := h.frame.foldl fun _ _ h1 => .ite h1.bump.ev h1

theorem deliver {isNew} (h : Canonical s) : Canonical (s.deliver isNew) :=
  Canonical.andThen (Canonical.frame (by split; exacts [h.ev, h])).setF.bumpBy fun h1 => .ite h1 (.ite h1.out.vector
    h1.bump.ev)

theorem takePend (h : Canonical s) : Canonical s.takePend.2 := h.frame

theorem publish (h : Canonical s) : Canonical s.publish := by
  unfold State.publish
  dsimp only
  split
  · exact h.takePend.frame.bumpBy.bump.deliver
  · exact (Canonical.ite h.takePend.bump h.takePend.bump.deliver).ev

theorem maskClear (h : Canonical s) : Canonical s.maskClear := h.frame

theorem maskCommit {m} (h : Canonical s) : Canonical (s.maskCommit m) := h.frame.relines

theorem toSeq {st stage} (h : Canonical s) : Canonical (s.toSeq st stage) := h.setF.setF.ev

theorem beginStop {k} (h : Canonical s) : Canonical (s.beginStop k) := h.frame.toSeq

theorem enableStage {k} (h : Canonical s) : Canonical (s.enableStage k) := h.frame

theorem seqStep (h : Canonical s) : Canonical s.seqStep :=
  .ite h.frame.beginStop (.ite (.ite h.frame.enableStage.toSeq h.frame) (.ite (.ite h.frame.frame.setF.toSeq h.frame)
    (.ite (.ite (.ite h.frame.enableStage.toSeq h.frame.frame.toSeq) (.ite h.frame.frame h.frame)) h.frame)))

theorem execPublicationBoundary (h : Canonical s) : AnswersCanonical (execPublicationBoundary s) :=
  .next (.ite (.ite h.frame.stage.maskClear.relines.seqStep.publish h.frame.stage.takePend) h)

theorem seqStart {path v} (h : Canonical s) : Canonical (s.seqStart path v) := .ite h.frame h.ev

theorem seqStop {path v} (h : Canonical s) : Canonical (s.seqStop path v) := .ite h.frame h.ev

theorem execStageTimeout (h : Canonical s) : AnswersCanonical (execStageTimeout s) := .next (.ite h.setF.ev.toSeq h)

theorem execStopAssert (h : Canonical s) : AnswersCanonical (execStopAssert s) := .next (.ite h.frame.relines h)

/-! ### Grid control (chapter 6) -/

theorem gridTake {p} (h : Canonical s) : Canonical (s.gridTake p) :=
  Canonical.andThen (by split; exacts [h.frame.wr, h.frame]) fun h1 => .ite h1 h1.wr

theorem toGrd {new rank} (h : Canonical s) : Canonical (s.toGrd new rank) :=
  .ite h (Canonical.andThen (.ite h.setF.frame h.setF) fun h1 => Canonical.andThen (.ite h1.bump (.ite h1.bump h1))
    fun h2 => Canonical.andThen (.ite h2.frame h2) fun h3 => (Canonical.ite h3.frame h3).ev)

theorem startPrecharge (h : Canonical s) : Canonical s.startPrecharge := h.setF.setF.frame

theorem withdraw (h : Canonical s) : Canonical s.withdraw := h.frame

theorem replan {dispatch} (h : Canonical s) : Canonical (s.replan dispatch) :=
  (h.foldl fun _ _ h1 => h1.setString).frame.wr.ev

theorem replanDue {dispatch} (h : Canonical s) : Canonical (s.replanDue dispatch) := .ite h (.ite h.replan h.frame)

theorem setAvail (h : Canonical s) : Canonical s.setAvail := h.wr

theorem availActs {before} (h : Canonical s) : Canonical (s.availActs before) :=
  have h1 := Canonical.ite h.frame.frame.relines h.frame
  .ite h1.setF h1

theorem execBackstopRelease (h : Canonical s) : AnswersCanonical (execBackstopRelease s) :=
  .next (.ite h.frame.relines h)

theorem limit (h : Canonical s) : Canonical s.limit := h.frame.wr

theorem update (h : Canonical s) : Canonical s.update := h.frame

theorem flagForecast {v} (h : Canonical s) : Canonical (s.flagForecast v) := .ite h.setF.ev h.setF.ev.wrMem

theorem execForecastDegraded (h : Canonical s) : AnswersCanonical (execForecastDegraded s) :=
  .next (.ite h.bump.flagForecast h)

theorem execForecastRestored (h : Canonical s) : AnswersCanonical (execForecastRestored s) :=
  .next (.ite h.flagForecast h)

theorem setStale {x v hb} (h : Canonical s) : Canonical (s.setStale x v hb) := h.wr.ev

theorem telemNote {x rec} (h : Canonical s) : Canonical (s.telemNote x rec) := .ite h.frame.setStale h.frame

theorem execTelemetryRecord {x rec} (h : Canonical s) : AnswersCanonical (execTelemetryRecord x rec s) :=
  .next (.ite h (.ite h.bump h.wrMem.telemNote))

theorem execTargetStale {x} (h : Canonical s) : AnswersCanonical (execTargetStale x s) :=
  .next (.ite h.bump.setStale h)

theorem gridLoss (h : Canonical s) : Canonical s.gridLoss :=
  have h1 := h.frame.ev
  .ite h1.setF.setF.ev.withdraw h1.toGrd.frame.wr

theorem execGridLost (h : Canonical s) : AnswersCanonical (execGridLost s) := .next (.ite h.gridLoss h)

theorem gridBack (h : Canonical s) : Canonical s.gridBack := .ite h.frame.ev h

theorem execGridPresent (h : Canonical s) : AnswersCanonical (execGridPresent s) :=
  .next (.ite (.ite h.gridBack.startPrecharge h.gridBack.toGrd) (.ite h.gridBack h))

theorem execPrechargeComplete (h : Canonical s) : AnswersCanonical (execPrechargeComplete s) := .next (.ite h.toGrd h)

theorem execPrechargeTimeout (h : Canonical s) : AnswersCanonical (execPrechargeTimeout s) :=
  .next (.ite h.setF.ev.withdraw h)

theorem preRetry (h : Canonical s) : Canonical s.preRetry := .ite h.startPrecharge h

theorem execCapReleases (h : Canonical s) : AnswersCanonical (execCapReleases s) := .next (.ite h.toGrd h)

theorem execRampYieldSet (h : Canonical s) : AnswersCanonical (execRampYieldSet s) := .next (.ite h.setF.frame h)

theorem execRampYieldClear (h : Canonical s) : AnswersCanonical (execRampYieldClear s) := .next (.ite h.setF.ev h)

theorem coolantSet {host} (h : Canonical s) : Canonical (s.coolantSet host) := .ite h h.setF.frame.ev

theorem execCoolantFault (h : Canonical s) : AnswersCanonical (execCoolantFault s) :=
  .next (.ite h.coolantSet (.ite h.coolantSet h))

theorem coolantReq {v} (h : Canonical s) : Canonical (s.coolantReq v) := .ite h.setF.coolantSet h.setF

theorem execCoolantThrottle (h : Canonical s) : AnswersCanonical (execCoolantThrottle s) :=
  .next (.ite h.frame.relines h)

theorem execCoolantClear (h : Canonical s) : AnswersCanonical (execCoolantClear s) :=
  .next (.ite h.setF.ev.frame.relines h)

theorem neighbourSet {src} (h : Canonical s) : Canonical (s.neighbourSet src) := .ite h h.setF.frame.ev

theorem execNeighbourFault (h : Canonical s) : AnswersCanonical (execNeighbourFault s) :=
  .next (.ite h.neighbourSet (.ite h.neighbourSet (.ite h.neighbourSet h)))

theorem neighbourReq {v} (h : Canonical s) : Canonical (s.neighbourReq v) := .ite h.setF.neighbourSet h.setF

theorem execNeighbourClear (h : Canonical s) : AnswersCanonical (execNeighbourClear s) := .next (.ite h.setF.ev h)

theorem orphan (h : Canonical s) : Canonical s.orphan := .ite h.toGrd h

theorem gridHostLost (h : Canonical s) : Canonical s.gridHostLost :=
  .ite (.ite h.frame.ev h.frame) (.ite h.frame.frame (.ite h.frame h.frame.frame.setF.ev.orphan))

theorem hostFate (h : Canonical s) : Canonical s.hostFate := .ite h.gridHostLost h.orphan

theorem execOrphanTable (h : Canonical s) : AnswersCanonical (execOrphanTable s) := .next (.ite h.frame.ev h)

theorem execDispatchStale (h : Canonical s) : AnswersCanonical (execDispatchStale s) := .next (.ite h.setF.ev h)

theorem gridRegained (h : Canonical s) : Canonical s.gridRegained := .ite (.ite h.setF.frame.toGrd h.setF.frame) h

theorem releaseOrphan (h : Canonical s) : Canonical s.releaseOrphan := .ite h h.frame.relines

theorem budgetAck {d} (h : Canonical s) : Canonical (s.budgetAck d) :=
  .ite h.bump.ev (Canonical.ite h.setF.frame.frame h.setF.frame).gridRegained.releaseOrphan

theorem execBudgetAck {data} (h : Canonical s) : AnswersCanonical (execBudgetAck data s) := .next (.ite h.budgetAck h)

theorem stopComplete (h : Canonical s) : Canonical s.stopComplete :=
  have h1 := h.withdraw.setF
  (Canonical.ite h1.setF h1.setF.gridBack).toGrd.frame

theorem stageStopped (h : Canonical s) : Canonical s.stageStopped :=
  have h1 := h.frame.relines
  .ite h1.beginStop (.ite h1.toSeq.stopComplete h1.toSeq)

theorem execStageStopped (h : Canonical s) : AnswersCanonical (execStageStopped s) := .next (.ite h.stageStopped h)

theorem dispatched (h : Canonical s) : Canonical s.dispatched := h.frame.setF

theorem gridTarget {uw} (h : Canonical s) : Canonical (s.gridTarget uw) := h.frame

theorem lowPass (h : Canonical s) : Canonical s.lowPass := h.frame

theorem stringTarget {st uw} (h : Canonical s) : Canonical (s.stringTarget st uw) :=
  (Canonical.ite h.frame h.frame.bump).frame

theorem dispatchBoundary (h : Canonical s) : Canonical s.dispatchBoundary :=
  have h2 := h.stage.stage.foldl fun _ _ h1 => h1.publishString
  .ite h2.replanDue.frame (Canonical.andThen (.ite h2.replanDue.lowPass.bump h2.replanDue.lowPass) fun h3 =>
    .ite h3.frame.toGrd h3.frame)

theorem dueTargets (h : Canonical s) : Canonical s.dueTargets :=
  h.foldl fun _ _ h1 => h1.foldl fun _ _ h2 => .ite h2.gridTarget h2

theorem gridBoundary {coolantN shelfN} (h : Canonical s) : Canonical (s.gridBoundary coolantN shelfN) :=
  have h1 := Canonical.ite (.ite h.frame.frame h.frame.update) h.frame
  have h2 := Canonical.ite h1.dispatchBoundary h1.replanDue
  .ite h2 (h2.setAvail.availActs.hostFate.gridRegained.limit.andThen fun h3 => Canonical.andThen (.ite h3.frame.bump
    h3.frame) fun h4 => Canonical.andThen (.ite h4.bump h4) fun h5 => .ite (.ite h5.bump.frame h5.frame) h5)

theorem lineTimes (h : Canonical s) : Canonical s.lineTimes := h.foldl fun _ _ h1 => .ite h1.bump h1

/-! ### The energy ledger (chapter 12) -/

theorem setTotal {off v} (h : Canonical s) : Canonical (s.setTotal off v) := h.wr64

theorem addTotal {off v} (h : Canonical s) : Canonical (s.addTotal off v) := h.setTotal

theorem setCopy {p v} (h : Canonical s) : Canonical (s.setCopy p v) := h.setF.ev

theorem putEntry {e b} (h : Canonical s) : Canonical (s.putEntry e b) := h.foldl fun _ _ h1 => .ite h1 h1.wrMem

theorem readEntry {e bad} (h : Canonical s) : Canonical (s.readEntry e bad).1 :=
  .ite_fst h (.ite_fst h (.ite_fst h.wrMem.bump.ev (.ite_fst h h.putEntry.setF.bump.ev)))

theorem setLq {q v} (h : Canonical s) : Canonical (s.setLq q v) := h.frame

theorem meterBoard {slot run b} (h : Canonical s) : Canonical (s.meterBoard slot run b).1 := by
  unfold State.meterBoard
  split
  · exact h.frame
  · exact .ite h.bump.frame h

theorem meter (h : Canonical s) : Canonical s.meter.1 := h.foldl_fst fun _ _ h => h.meterBoard

theorem refusal {status req} (h : Canonical s) : Canonical (s.refusal status req) := .ite h.bump h.frame

theorem request {r bad} (h : Canonical s) : Canonical (s.request r bad) :=
  have h1 := Canonical.ite_fst h.readEntry h
  .ite h1.bump.ev.refusal (.ite h1.putEntry.frame.bump h1.putEntry.frame.bump.setF)

theorem requestLetter {r bad} (h : Canonical s) : Canonical (s.requestLetter r bad) := .ite h.request h.bump

theorem requestIn {r bad} (h : Canonical s) : Canonical (s.requestIn r bad) := .ite h (.ite h.frame h.requestLetter)

theorem execOpenReq {rec bad0 bad1} (h : Canonical s) : AnswersCanonical (execOpenReq rec bad0 bad1 s) :=
  .next h.requestIn

theorem execClose {rec bad0 bad1} (h : Canonical s) : AnswersCanonical (execClose rec bad0 bad1 s) :=
  .next h.requestIn

theorem estWrite {off d} (h : Canonical s) : Canonical (s.estWrite off d) := h.frame

theorem estimateIn {off d} (h : Canonical s) : Canonical (s.estimateIn off d) := .ite h (.ite h.frame h.estWrite)

theorem execEstimate {off data} (h : Canonical s) : AnswersCanonical (execEstimate off data s) := .next h.estimateIn

theorem ledgerLetter {l} (h : Canonical s) : Canonical (s.ledgerLetter l) := by
  unfold State.ledgerLetter
  split
  · exact .ite h.notReady (.ite h.requestLetter.reply h.bump.notReady)
  · exact .ite h.notReady (.ite h.estWrite.reply (.ite h.reply h.notReady))
  · exact h

theorem ledgerArrive {l} (h : Canonical s) : Canonical (s.ledgerArrive l) := .ite h.frame h.ledgerLetter

theorem ledgerApply (h : Canonical s) : Canonical s.ledgerApply := by
  unfold State.ledgerApply
  dsimp only
  refine h.frame.foldl fun _ _ h1 => ?_
  split
  · exact h1.requestLetter
  · exact h1.estWrite
  · exact h1.ledgerLetter

theorem ledgerBack {D} (h : Canonical s) : Canonical (s.ledgerBack D) := .ite h h.ledgerApply

theorem takeEst {q n} (h : Canonical s) : Canonical (s.takeEst q n) := .ite h.setLq (Canonical.ite h.bump h).bump.ev

theorem formReceipt {e b lost m uj ub} (h : Canonical s) : Canonical (s.formReceipt e b lost m uj ub) :=
  h.wrMem.wrMem.setF.frame

theorem checkpoint {holdup} (h : Canonical s) : Canonical (s.checkpoint holdup) := (Canonical.ite h h.useFree).frame

theorem storeBatch {b} (h : Canonical s) : Canonical (s.storeBatch b) := h.wrMem

theorem closeBatch {holdup} (h : Canonical s) : Canonical (s.closeBatch holdup) :=
  h.wr64.bump.storeBatch.frame.checkpoint

theorem batchDue (h : Canonical s) : Canonical s.batchDue := .ite h.frame.bump.ev h.closeBatch

theorem placeCert {epoch beat pub} (h : Canonical s) : Canonical (s.placeCert epoch beat pub) :=
  .ite h.frame.wrBytes.setMeas h.frame.wrBytes

theorem dropKeys (h : Canonical s) : Canonical s.dropKeys := h.frame

theorem newEpoch {ready} (h : Canonical s) : Canonical (s.newEpoch ready) :=
  have h1 := h.setF.setF
  Canonical.dropKeys (by split; exacts [h1.ev.frame.placeCert, h1.ev.frame.setMeas])

theorem genKey {epoch} (h : Canonical s) : Canonical (s.genKey epoch).2 := h.draw.bump.frame

theorem execLedgerKeyReady (h : Canonical s) : AnswersCanonical (execLedgerKeyReady s) := by
  unfold Machine.execLedgerKeyReady
  refine .next ?_
  refine .ite h ?_
  dsimp only
  split
  · exact h.frankerDone.genKey.placeCert
  · exact h.frankerDone.genKey.frame.placeCert
  · exact h.frankerDone.genKey.frame

theorem joinOpens {n bad} (h : Canonical s) : Canonical (s.joinOpens n bad) :=
  h.frame.foldl fun _ _ h1 => .ite h1.readEntry.frame h1.readEntry.putEntry.setLq

theorem shareQueue {x sum u q given} (h : Canonical s) : Canonical (s.shareQueue x sum u q given).1 :=
  .ite_fst h.frame.addTotal (.ite_fst h.frame.setLq (.ite_fst h.frame.setLq.addTotal h.frame.setLq))

theorem settleEntry {m e bad} (h : Canonical s) : Canonical (s.settleEntry m e bad) :=
  .ite h.readEntry.frame h.readEntry.setLq.addTotal.formReceipt.putEntry.frame

theorem slotTotals {n} (h : Canonical s) : Canonical (s.slotTotals n) :=
  (Canonical.ite h.stage h.stage.setF).frame.addTotal.addTotal.wr64

theorem slotShares {n j u} (h : Canonical s) : Canonical (s.slotShares n j u) := by
  unfold State.slotShares
  extract_lets qs s1 sum k s2 src s3 r
  have h1 : Canonical s1 := h.foldl fun _ _ h => h.takeEst
  have h2 : Canonical s2 := .ite h1.bump.ev h1
  have h3 : Canonical r.1 := h2.frame.foldl_fst fun _ _ h => h.shareQueue
  exact .ite h3.addTotal.setTotal h3.setTotal

theorem slotCloses {n bad} (h : Canonical s) : Canonical (s.slotCloses n bad) :=
  h.frame.foldl fun _ _ h1 => h1.settleEntry

theorem distributeSlot {n bad} (h : Canonical s) : Canonical (s.distributeSlot n bad) :=
  .ite h.slotTotals.setTotal h.slotTotals.joinOpens.slotShares.slotCloses.joinOpens.setTotal

theorem afterSlot {n} (h : Canonical s) : Canonical (s.afterSlot n) :=
  (Canonical.ite h.closeBatch.newEpoch (.ite h.frame.batchDue (.ite h.batchDue h))).setF.respCheck

theorem execDistribute {bad0 bad1} (h : Canonical s) : AnswersCanonical (execDistribute bad0 bad1 s) :=
  .next (.ite h.distributeSlot.afterSlot.ledgerApply h)

theorem execRootFranked (h : Canonical s) : AnswersCanonical (execRootFranked s) := by
  unfold Machine.execRootFranked
  refine .next ?_
  refine .ite h ?_
  split
  · exact h
  · exact .ite h (.ite h.frankerDone.storeBatch.frame.dropKeys.ev h.frankerDone.storeBatch.frame.dropKeys)

theorem rxPut {r receipt} (h : Canonical s) (he : s.rxPut r receipt = some t) : Canonical t := by
  unfold State.rxPut at he
  dsimp only at he
  split at he
  · cases he
    exact h.out.setF.frame
  · cases he

theorem sendReceipt {b i} (h : Canonical s) (he : s.sendReceipt b i = some t) : Canonical t := by
  unfold State.sendReceipt at he
  split at he
  · cases he
  · exact h.rxPut he

theorem sendReceipts {b i n} (h : Canonical s) : Canonical (s.sendReceipts b i n).1 := by
  induction n generalizing s i with
  | zero => exact h
  | succ n ih =>
    unfold State.sendReceipts
    split
    · exact h
    next heq => exact ih (h.sendReceipt heq)

theorem execBatchDelivery (h : Canonical s) : AnswersCanonical (execBatchDelivery s) := by
  unfold Machine.execBatchDelivery
  refine .next ?_
  split
  · exact h
  · exact
      .ite h (.ite h (Canonical.andThen (.ite h h.out.setF) fun h1 => .ite h1.sendReceipts.frame.vector
        h1.sendReceipts.frame))

theorem execRefusalDelivery (h : Canonical s) : AnswersCanonical (execRefusalDelivery s) := by
  refine .next ?_
  split
  · exact h
  · refine .ite ?_ h
    split
    next heq => exact (h.rxPut heq).frame
    · exact h

theorem rxHead {path v} (h : Canonical s) : Canonical (s.rxHead path v) := .ite h.ev h.setF.setF.frame.setF

theorem bxHead {path v} (h : Canonical s) : Canonical (s.bxHead path v) := .ite h.ev h.setF

theorem ldgPartDown {p} (h : Canonical s) : Canonical (s.ldgPartDown p) := .ite h (.ite h.setF.ev h.setCopy)

theorem ldgPartUp {p} (h : Canonical s) : Canonical (s.ldgPartUp p) := .ite h (.ite h.setF.ev (.ite h.setCopy h))

/-- The ledger regions of partitions 0 and 1 lie in DRAM. -/
theorem memDefault_entry {p k : Nat} (hp : p ≤ 1) (hk : k < 0x40000000) : memDefault (k + entryAddr p 0) = 0xFF := by
  have h : (k + (140737488355328 + p * 2199023255552 + (0x100000000 + 64 * 0))) / 70368744177664 = 2 := by omega
  simp only [memDefault, entryAddr, dramAddr, h, if_true]

/-- Replacing a ledger region by the other one keeps the canonical form of memory. -/
theorem wf_copyLedger {m : List Host.Cell} (h : Memory.wf m = true) {src dst : Nat} (hs : src ≤ 1) (hd : dst ≤ 1) :
    Memory.wf (copyLedger m src dst) = true := by
  obtain ⟨hp, hv⟩ := (Tab.wf_iff _ _).1 h
  refine (Tab.wf_iff _ _).2 ⟨?_, fun e he => ?_⟩
  · refine List.pairwise_append.2 ⟨List.pairwise_append.2 ⟨hp.filter _, ?_, ?_⟩, hp.filter _, ?_⟩
    · refine List.pairwise_map.2 ((hp.filter _).imp_of_mem fun {a b} ha hb hab => ?_)
      have ha := (List.mem_filter.1 ha).2
      simp only [Bool.and_eq_true, decide_eq_true_eq] at ha
      show a.1 - _ + _ < b.1 - _ + _
      omega
    · intro a ha b hb
      obtain ⟨c, hc, rfl⟩ := List.mem_map.1 hb
      have ha := of_decide_eq_true (List.mem_filter.1 ha).2
      show a.1 < c.1 - _ + _
      omega
    · intro a ha b hb
      have hb := of_decide_eq_true (List.mem_filter.1 hb).2
      rcases List.mem_append.1 ha with ha | ha
      · have ha := of_decide_eq_true (List.mem_filter.1 ha).2
        omega
      · obtain ⟨c, hc, rfl⟩ := List.mem_map.1 ha
        have hc := (List.mem_filter.1 hc).2
        simp only [Bool.and_eq_true, decide_eq_true_eq] at hc
        show c.1 - _ + _ < b.1
        omega
  · rcases List.mem_append.1 he with he | he
    · rcases List.mem_append.1 he with he | he
      · exact hv e (List.mem_filter.1 he).1
      · obtain ⟨c, hc, rfl⟩ := List.mem_map.1 he
        have hr := (List.mem_filter.1 hc).2
        simp only [Bool.and_eq_true, decide_eq_true_eq] at hr
        have h1 := hv c (List.mem_filter.1 hc).1
        have h2 : memDefault (c.1 - entryAddr src 0 + entryAddr src 0) = 0xFF := memDefault_entry hs (by omega)
        rw [Nat.sub_add_cancel hr.1] at h2
        have h3 : memDefault (c.1 - entryAddr src 0 + entryAddr dst 0) = 0xFF := memDefault_entry hd (by omega)
        show c.2 ≠ memDefault _
        rw [h3, ← h2]
        exact h1
    · exact hv e (List.mem_filter.1 he).1

theorem resilver {p} (h : Canonical s) (hp : p ≤ 1) : Canonical (s.resilver p) :=
  setCopy (of_wf (wf_copyLedger h.mem_wf (Nat.sub_le 1 p) hp) h.kept_wf h.regs_wf)

theorem execCopyResilvered {copy} (h : Canonical s) : AnswersCanonical (execCopyResilvered copy s) :=
  .next (.ite (h.resilver (by cases copy <;> decide)) h)

theorem clearLedger (h : Canonical s) : Canonical s.clearLedger :=
  of_wf (Memory.wf_outside (Memory.wf_outside h.mem_wf _ _) _ _) h.kept_wf h.regs_wf

theorem ldgCopies (h : Canonical s) : Canonical s.ldgCopies :=
  have h1 := Canonical.ite (.ite h h.setCopy) (Canonical.ite h h.setCopy).setCopy
  .ite h1.setF.ev h1

theorem ldgStart (h : Canonical s) : Canonical s.ldgStart :=
  Canonical.andThen ((Canonical.clearLedger (by split; exacts [h.ev, h])).frame.wr.ldgCopies.foldl fun _ _ h1 =>
    h1.setTotal).setF.newEpoch fun h2 => .ite h2.frame.useFree h2

theorem ldgFollow (h : Canonical s) : Canonical s.ldgFollow := .ite h.ldgStart (.ite h.setF h)

theorem ldgHoldup (h : Canonical s) : Canonical s.ldgHoldup := .ite h (.ite h.batchDue.checkpoint h.closeBatch)

theorem reformReceipts {batch n k} (h : Canonical s) : Canonical (s.reformReceipts batch n k).1 := by
  induction k generalizing s n with
  | zero => exact h
  | succ k ih =>
    unfold State.reformReceipts
    exact ih h.wrMem.wrMem

theorem reformBatch {batch b} (h : Canonical s) : Canonical (s.reformBatch batch b).1 := h.reformReceipts.storeBatch

theorem ldgTakeover (h : Canonical s) : Canonical s.ldgTakeover :=
  .ite h (frame (reformReceipts (foldl_fst h.newEpoch fun _ _ h => h.reformBatch)))

theorem ldgPeer {delivered} (h : Canonical s) : Canonical (s.ldgPeer delivered) := h.frame

theorem ldgPeerEpoch {epoch} (h : Canonical s) : Canonical (s.ldgPeerEpoch epoch) :=
  .ite h (Canonical.ite h.closeBatch h).frame

/-! ### Module power (chapter 13) -/

theorem energy {off mw rem_} (h : Canonical s) : Canonical (s.energy off mw rem_).1 := h.bump64

theorem partEnergy {e p} (h : Canonical s) : Canonical (s.partEnergy e p) := h.energy.frame

theorem queueEnergy {e all q} (h : Canonical s) : Canonical (s.queueEnergy e all q) := h.energy.frame

theorem stepEnergy {e} (h : Canonical s) : Canonical (s.stepEnergy e) :=
  (((h.energy.frame.foldl fun _ _ h3 => h3.partEnergy).foldl fun _ _ h2 => h2.queueEnergy).foldl fun _ _ h1 =>
    .ite h1 h1.setCl).frame

theorem thermalBind (h : Canonical s) : Canonical s.thermalBind := by
  unfold State.thermalBind
  dsimp only
  split
  · exact h.frame.ev
  · exact h.frame.ev
  · exact h

theorem exemptLow {c1 c2 c3} (h : Canonical s) : Canonical (s.exemptLow c1 c2 c3) := by
  unfold State.exemptLow
  refine h.foldl fun _ _ h1 => ?_
  split
  · exact h1
  · exact h1.foldl fun _ _ h2 => .ite h2.setProg h2

theorem controlStep {e} (h : Canonical s) : Canonical (s.controlStep e) :=
  have h1 := h.stage.thermalBind.setF.setF
  (Canonical.ite h1 (.ite h1.ev.ev h1.ev)).setF.setF.exemptLow.stepEnergy.frame

theorem execControlStep {est} (h : Canonical s) : AnswersCanonical (execControlStep est s) :=
  .next (.ite h.controlStep h)

theorem calibrate (h : Canonical s) : Canonical s.calibrate :=
  .ite h.frame (.ite (.ite h.frame.setF.ev h.frame) (.ite h.frame.setF.setF.ev h.frame.setF))

theorem execCalibrationUpdate (h : Canonical s) : AnswersCanonical (execCalibrationUpdate s) :=
  .next (.ite h.calibrate h)

theorem thermalStep (h : Canonical s) : Canonical s.thermalStep := h.frame.thermalBind

theorem execThermalStep (h : Canonical s) : AnswersCanonical (execThermalStep s) := .next (.ite h.thermalStep h)

theorem execFeedLowSet (h : Canonical s) : AnswersCanonical (execFeedLowSet s) := .next (.ite h.setF.ev h)

theorem execFeedLowClear (h : Canonical s) : AnswersCanonical (execFeedLowClear s) := .next (.ite h.setF.ev h)

theorem saveOffsets (h : Canonical s) : Canonical s.saveOffsets := .ite h.frame h.frame

theorem execAgeingCheck {d slack} (h : Canonical s) : AnswersCanonical (execAgeingCheck d slack s) :=
  .next (.ite (.ite h.frame (.ite h.frame.setF.saveOffsets.ev h.frame.setF.ev)) h)

theorem junction {tj} (h : Canonical s) : Canonical (s.junction tj) := h.frame.setF.setF

theorem powerBoundary {tj} (h : Canonical s) : Canonical (s.powerBoundary tj) :=
  (Canonical.foldl (by split; exacts [h.frame.setF.setF.setF.setF, h]) fun _ _ h1 => .ite h1.bump64 h1).junction

/-! ### Collections and the event log (chapter 19) -/

theorem logWrite {e} (h : Canonical s) : Canonical (s.logWrite e) :=
  .ite h.frame.bump (.ite h.bump (h.frame.setF.bump.andThen fun h1 => Canonical.andThen (.ite h1.setF h1) fun h2 =>
    .ite h2.vector h2))

theorem logNext (h : Canonical s) : Canonical s.logNext := by
  unfold State.logNext
  split
  · exact h
  · exact
      have h1 := h.frame.logWrite
      .ite h1 h1.frame

theorem execEventRecordWrite (h : Canonical s) : AnswersCanonical (execEventRecordWrite s) := .next (.ite h h.logNext)

theorem logFlush {n} (h : Canonical s) : Canonical (s.logFlush n) := by
  induction n generalizing s with
  | zero => exact h
  | succ n ih => exact ih h.logNext

theorem logClose (h : Canonical s) : Canonical s.logClose := h.logFlush.frame

theorem logOpen (h : Canonical s) : Canonical s.logOpen := .ite h h.frame

theorem logClear {path v} (h : Canonical s) : Canonical (s.logClear path v) := .ite h.frame.setF h.ev

theorem execLogClearDone (h : Canonical s) : AnswersCanonical (execLogClearDone s) :=
  .next (.ite (h.setF.setF.setF.andThen fun h1 => .ite h1.setF.frame.ev h1.setF.frame.logWrite) h)

theorem issueCirc {c} (h : Canonical s) : Canonical (s.issueCirc c) :=
  (h.foldl fun _ _ h1 => .ite h1.startWake h1).frame

theorem issueColl {e} (h : Canonical s) : Canonical (s.issueColl e) := h.frame.setF.issueCirc

theorem collDue {e} (h : Canonical s) : Canonical (s.collDue e) := .ite h.setF h.issueColl

theorem execCollectionDue (h : Canonical s) : AnswersCanonical (execCollectionDue s) := .next (.ite h.frame.collDue h)

theorem collRequest {path v} (h : Canonical s) : Canonical (s.collRequest path v) := .ite h.ev h.collDue

theorem snapshot (h : Canonical s) : Canonical s.snapshot := by
  unfold State.snapshot
  split
  · exact .ite h.frame h
  · exact h

theorem fillBank {n} (h : Canonical s) : Canonical (s.fillBank n) :=
  foldl (of_wf h.mem_wf h.kept_wf (Tab.wf_outside h.regs_wf _ _)) fun _ _ h => h.wr

theorem lateSection {n c} (h : Canonical s) : Canonical (s.lateSection n c) :=
  (h.foldl fun _ _ h1 => h1.foldl fun _ _ h2 => h2.wr.useFree).wr

theorem lateCluster {n k} (h : Canonical s) : Canonical (s.lateCluster n k) :=
  (h.foldl fun _ _ h1 => h1.wr.useFree).wr

theorem lateClusters {n} (h : Canonical s) : Canonical (s.lateClusters n) :=
  h.useFree.foldl fun _ _ h1 => .ite h1.useFree.lateCluster h1.useFree

theorem collComplete {late} (h : Canonical s) : Canonical (s.collComplete late) := by
  unfold State.collComplete
  split
  · exact
      .ite h (Canonical.andThen (h.fillBank.foldl fun _ _ h1 => .ite h1.lateSection h1) fun h2 =>
        Canonical.andThen (Canonical.ite h2.lateClusters h2).wr.wr64.wr.setF.wr64.setF.setF.setF.setF fun h3 =>
        Canonical.andThen (.ite h3.bump h3.bump.bump.ev) fun h4 => .ite h4.frame.setF.issueColl h4.frame)
  · exact h

theorem execCollectionComplete {late} (h : Canonical s) : AnswersCanonical (execCollectionComplete late s) :=
  .next h.collComplete

/-! ### Module states, resets and power (chapter 1) -/

theorem notActive (h : Canonical s) : Canonical s.notActive := h.frame

theorem enter {m cause} (h : Canonical s) : Canonical (s.enter m cause) :=
  have h1 := Canonical.ite (.ite h.toMstate h.toMstate.toGrd) (.ite (.ite h.toMstate.toGrd.startPrecharge h.toMstate)
    (.ite h.toMstate h.toMstate.toGrd))
  have h4 := Canonical.ite (.ite (h1.foldl fun _ _ h2 => .ite h2.askExit h2) h1) (.ite h1 (h1.foldl fun _ _ h3 =>
    h3.commandLocal))
  have h5 := Canonical.ite (.ite h4 h4.frame) h4.frame
  (Canonical.ite h5.notActive h5).relines.ldgFollow

theorem lowest {f} (h : Canonical s) (hf : ∀ s, Canonical s → Canonical (f s)) :
    Canonical (s.lowest f) :=
  .ite h.outranked (hf s h)

theorem safeStop {cause} (h : Canonical s) : Canonical (s.safeStop cause) := h.enter

theorem restoreOffsets (h : Canonical s) : Canonical s.restoreOffsets := h.foldl fun _ _ h1 => .ite h1 h1.setF

/-- A state that restarts from some of the registers, with two of them at 1. -/
theorem restart {p : Nat × Word → Bool} {pending beat released cycle power live latchHost latchSide mem kept cells clusters
    deadCells deadClusters net
    replies circs routes envs acks parts progs rcv runs loops stg mon sst sec grd bud ldg mpw hif bup twn cnt evl
    outs free}
    (h : Canonical s) (hm : Memory.wf mem = true) (hk : kept.wf (fun _ => 0) = true) : Canonical
      ⟨pending, beat, released, cycle, power, (Tab.put (s.regs.filter p) 0x100000 1 0).put 0x1400000 1 0, live,
       latchHost, latchSide, mem, kept, cells, clusters, deadCells, deadClusters, net, replies, circs, routes, envs,
       acks, parts, progs, rcv, runs, loops, stg, mon, sst, sec, grd, bud, ldg, mpw, hif, bup, twn, cnt, evl, outs,
       free⟩ :=
  of_wf hm hk (wf_put_zero (wf_put_zero (Tab.wf_filter h.regs_wf _) 1 resetWord_pmStatus) 1 resetWord_clkStatus)

theorem resetAll (h : Canonical s) : Canonical s.resetAll := by
  unfold State.resetAll
  extract_lets s1 fusing cause module live kept boards boards' t0 sec t1 t2 t3 t4 t5 t6 hif t7
  have h1 : Canonical s1 := .ite h.ev h
  have ht : Canonical t1 := h1.restart Memory.wf_reset (Tab.wf_nil _)
  have h5 : Canonical t5 := ht.setF.setF.renewNonce.setF.setF.setF.setF.setF.restoreOffsets
  have h7 : Canonical t7 := .ite h5.setF.frame h5
  exact h7.foldl fun _ _ h => h.setF

theorem abandonLoad {p} (h : Canonical s) : Canonical (s.abandonLoad p) := .ite h.wr.wr.setF.setPart.ev h

theorem wholeReset {cause} (h : Canonical s) : Canonical (s.wholeReset cause) :=
  have h3 := ((h.toMstate.toGrd.foldl fun _ _ h2 => h2.abandonLoad).foldl fun _ _ h1 =>
    h1.commandLocal).localFrames.resetAll
  .ite h3 h3.logOpen

theorem hostReset (h : Canonical s) : Canonical s.hostReset := .ite h.logTrigger h.wholeReset

theorem execWholeChipReset (h : Canonical s) : AnswersCanonical (execWholeChipReset s) := .next h.hostReset

theorem tripLatch {sensor tj} (h : Canonical s) : Canonical (s.tripLatch sensor tj) := h.setF.setF.setF.frame

theorem execJunctionTrip (h : Canonical s) : AnswersCanonical (execJunctionTrip s) := by
  unfold Machine.execJunctionTrip
  refine .next ?_
  split
  · exact h
  · exact .ite h.outranked (.ite h.tripLatch.logTrigger.frame h.tripLatch.wholeReset)

theorem safeEval (h : Canonical s) : Canonical s.safeEval :=
  .ite (.ite h.frame.safeStop (.ite h.frame h.frame.logTrigger)) (.ite (h.frame.lowest (fun _ h1 => h1.enter))
    h.frame)

theorem safeReq {v} (h : Canonical s) : Canonical (s.safeReq v) := h.setF

theorem linksEval (h : Canonical s) : Canonical s.linksEval :=
  .ite h.frame (.ite h.frame.safeStop (.ite h.frame h.frame.logTrigger))

theorem execUpstreamFramesLost (h : Canonical s) : AnswersCanonical (execUpstreamFramesLost s) := .next h.linksEval

theorem feed {i v} (h : Canonical s) : Canonical (s.feed i v) :=
  .ite h.frame.setF (h.frame.setF.setF.ev.andThen fun h1 => .ite h1.bump h1)

theorem feedSample {va vb ia ib} (h : Canonical s) : Canonical (s.feedSample va vb ia ib) := h.feed.feed.frame

theorem execFeedSample {va vb ia ib} (h : Canonical s) : AnswersCanonical (execFeedSample va vb ia ib s) :=
  .next (.ite h h.feedSample)

theorem holdup (h : Canonical s) : Canonical s.holdup :=
  (Canonical.ite h.enter.localFrames.ldgHoldup h.enter.localFrames).frame.sstHoldup.foldl fun _ _ h1 =>
    .ite h1 h1.setF

theorem execBothFeedsLost (h : Canonical s) : AnswersCanonical (execBothFeedsLost s) := .next (.ite h.holdup h)

theorem execHoldupClosed (h : Canonical s) : AnswersCanonical (execHoldupClosed s) :=
  .next (.ite (.ite h.logClose.wholeReset h.logClose) h)

theorem execFeedReturn (h : Canonical s) : AnswersCanonical (execFeedReturn s) :=
  .next (.ite (h.ev.foldl fun _ _ h1 => h1.abandonLoad).setF.resetAll.logOpen (.ite h.logOpen h))

theorem execPowerLoss (h : Canonical s) : AnswersCanonical (execPowerLoss s) := .next (.ite h.frame h)

theorem alwaysOnCheck (h : Canonical s) : Canonical s.alwaysOnCheck := .ite h h.bump.ev

theorem powerOn {removed roleB} (h : Canonical s) : Canonical (s.powerOn removed roleB) := by
  unfold State.powerOn
  extract_lets t0 regs ao left recs t1 n t2 t3 t4 t5 t6 t7
  have h0 : Canonical t0 := h.resetAll
  clear_value t0
  have h1 : Canonical t1 := h0.restart h0.mem_wf h0.kept_wf
  have h4 : Canonical t4 := h1.setF.setF.setF.setF.setF.setF
  have h6 : Canonical t6 := (h4.foldl fun _ _ h => h.setF).logOpen.alwaysOnCheck
  exact .ite h6.frame.setF.setF.ev h6

theorem execPowerOn {removedSeconds roleB} (h : Canonical s) :
    AnswersCanonical (execPowerOn removedSeconds roleB s) :=
  .next (.ite h h.powerOn)

theorem vendor {iana f} (h : Canonical s) (hf : ∀ s, Canonical s → Canonical (f s)) :
    Canonical (s.vendor iana f) :=
  .ite (hf s h) h.out

theorem execHostLost (h : Canonical s) : AnswersCanonical (execHostLost s) :=
  .next (.ite h h.setF.setF.frame.bump.ev.gridHostLost)

theorem hostRegained (h : Canonical s) : Canonical s.hostRegained :=
  .ite (h.setF.ev.andThen fun h1 => (Canonical.ite h1.ev h1).frame) h

/-! ### The host interface and the side-band (chapter 14) -/

theorem ringVector {q} (h : Canonical s) : Canonical (s.ringVector q) := h.frame.vector

theorem ringWrite {l status old} (h : Canonical s) : Canonical (s.ringWrite l status old) :=
  .ite h.setF.bump.ev (.ite h.out.setF.frame.ringVector h.out.setF.frame)

theorem hostComplete {l status old} (h : Canonical s) : Canonical (s.hostComplete l status old) := .ite h h.ringWrite

theorem execCqVectorTimer {q} (h : Canonical s) : AnswersCanonical (execCqVectorTimer q s) :=
  .next (.ite h.ringVector h)

theorem bar2Refuse {off} (h : Canonical s) : Canonical (s.bar2Refuse off) :=
  have h1 := h.ev.bump
  .ite h1.bump.ev h1

theorem moveBytes {q n} (h : Canonical s) : Canonical (s.moveBytes q n) := h.frame

theorem formLetter {off src op len d access} (h : Canonical s) : Canonical (s.formLetter off src op len d access) :=
  .ite h.setF.frame.moveBytes.mirror h.setF.frame.moveBytes.send

theorem execBar2Write {off data} (h : Canonical s) : AnswersCanonical (execBar2Write off data s) :=
  .next (.ite h (.ite (h.foldl fun _ _ h1 => h1.formLetter) h.bar2Refuse))

theorem waitFor {read n count len} (h : Canonical s) : Canonical (s.waitFor read n count len) := h.frame

theorem execBar2Read {off len} (h : Canonical s) : AnswersCanonical (execBar2Read off len s) :=
  .next (.ite h (.ite (h.waitFor.foldl fun _ _ h1 => h1.formLetter) h.bar2Refuse.out))

theorem execBar2Atomic {off op width operand cmp} (h : Canonical s) :
    AnswersCanonical (execBar2Atomic off op width operand cmp s) := by
  unfold Machine.execBar2Atomic
  refine .next ?_
  dsimp only
  refine .ite ?_ h.bar2Refuse.out
  split
  · exact h.waitFor.formLetter
  · exact h.waitFor.formLetter
  · exact h.waitFor.formLetter

theorem accessTake {id seq status d} (h : Canonical s) : Canonical (s.accessTake id seq status d) := by
  unfold State.accessTake
  split
  · exact h
  · exact .ite h.frame (.ite h.frame.out h.frame.out)

theorem hostReply {id status d} (h : Canonical s) : Canonical (s.hostReply id status d) := by
  unfold State.hostReply
  split
  · exact h
  · exact
      have h1 := h.frame.moveBytes.hostComplete
      .ite h1 h1.accessTake

theorem execBar2ReadTimeout {n} (h : Canonical s) : AnswersCanonical (execBar2ReadTimeout n s) := by
  unfold Machine.execBar2ReadTimeout
  refine .next ?_
  split
  · exact h
  · exact .ite h (h.frame.out.foldl fun _ _ h1 => h1.hostComplete)

theorem bar4Fail {off event} (h : Canonical s) : Canonical (s.bar4Fail off event) := .ite h.bump.ev h.bump

theorem chanWait {w} (h : Canonical s) : Canonical (s.chanWait w) := h.frame

theorem bar4Write {off data} (h : Canonical s) : Canonical (s.bar4Write off data) :=
  .ite h.bar4Fail (.ite h.bar4Fail.bump.ev (.ite h.bar4Fail.bump.ev h.wrMem))

theorem execBar4Write {off data} (h : Canonical s) : AnswersCanonical (execBar4Write off data s) :=
  .next (.ite h (.ite h.chanWait h.bar4Write))

theorem bar4Read {off len} (h : Canonical s) : Canonical (s.bar4Read off len) := .ite h.out h.bar4Fail.out

theorem execBar4Read {off len} (h : Canonical s) : AnswersCanonical (execBar4Read off len s) :=
  .next (.ite h (.ite h.chanWait h.bar4Read))

theorem endUpdate (h : Canonical s) : Canonical s.endUpdate := h.setF.frame

theorem endPcieUpdate (h : Canonical s) : Canonical s.endPcieUpdate := .ite h.endUpdate h

theorem execPcieReset (h : Canonical s) : AnswersCanonical (execPcieReset s) :=
  .next (endPcieUpdate (setF (stage (of_wf h.mem_wf h.kept_wf (Tab.wf_filter h.regs_wf _)))))

theorem execBusMasterEnable {v dState} (h : Canonical s) : AnswersCanonical (execBusMasterEnable v dState s) := by
  unfold Machine.execBusMasterEnable
  refine .next ?_
  split
  · exact h.setF
  · exact .ite h h.setF.frame

theorem aerError {e} (h : Canonical s) : Canonical (s.aerError e) := h.frame.ev

theorem execDataLinkChange {up speed width aer} (h : Canonical s) :
    AnswersCanonical (execDataLinkChange up speed width aer s) :=
  .next (Canonical.andThen (Canonical.setF (by split; exacts [h.aerError, h])).setF fun h1 =>
    .ite h1 (Canonical.ite h1.setF h1.setF.bump.frame.endPcieUpdate).ev)

theorem chipReset {v} (h : Canonical s) : Canonical (s.chipReset v) := .ite h.ev.hostReset h.ev

theorem execHifChipReset {v} (h : Canonical s) : AnswersCanonical (execHifChipReset v s) := .next h.chipReset

theorem heartbeat {v} (h : Canonical s) : Canonical (s.heartbeat v) := .ite h h.setF.frame

theorem execHeartbeat {v} (h : Canonical s) : AnswersCanonical (execHeartbeat v s) := .next h.heartbeat

theorem regReadOf {path off} (h : Canonical s) : Canonical (s.regReadOf path off).2 := by
  unfold State.regReadOf
  refine .ite_snd ?_ (.ite_snd h (.ite h.useFree h))
  dsimp only
  split
  · exact h.frame
  · exact h.frame

theorem readWord {off n} (h : Canonical s) : Canonical (s.readWord off n).2 := h.regReadOf

theorem execBar0Read {off len} (h : Canonical s) : AnswersCanonical (execBar0Read off len s) := by
  unfold Machine.execBar0Read
  extract_lets o a b
  have ha : Canonical a.2 := h.readWord
  have hb : Canonical b.2 := .ite_snd ha.readWord ha
  exact .next (.ite hb.out h)

theorem execRegRead {iana off} (h : Canonical s) : AnswersCanonical (execRegRead iana off s) :=
  .next (h.vendor (fun _ h1 => .ite h1.out h1.regReadOf.out))

theorem execLogRead {iana idx} (h : Canonical s) : AnswersCanonical (execLogRead iana idx s) :=
  .next (h.vendor (fun _ h1 => .ite h1.out h1.out))

theorem execLastStatus {iana cmd} (h : Canonical s) : AnswersCanonical (execLastStatus iana cmd s) :=
  .next (h.vendor (fun _ h1 => .ite h1.out h1.out))

theorem execEntdaa {addr} (h : Canonical s) : AnswersCanonical (execEntdaa addr s) := .next h.frame.setF.setF

theorem execSetEndpointId {onPcie eid} (h : Canonical s) : AnswersCanonical (execSetEndpointId onPcie eid s) :=
  .next (.ite h.frame h.frame.setF)

theorem pldmFail {code status} (h : Canonical s) : Canonical (s.pldmFail code status) := h.setF.out

theorem pldmFree {code} (h : Canonical s) : Canonical (s.pldmFree code) := h.pldmFail.useFree

theorem execPldmSensorRead {sensor} (h : Canonical s) : AnswersCanonical (execPldmSensorRead sensor s) := by
  unfold Machine.execPldmSensorRead
  refine .next ?_
  dsimp only
  split
  · exact h.out
  · exact h.out
  · exact h.out
  · exact h.out
  · exact h.out
  · exact h.out
  · exact h.out
  · exact h.out
  · exact h.pldmFree

theorem fwEvent {comp kind status} (h : Canonical s) : Canonical (s.fwEvent comp kind status) := h.ev

theorem agentHere (h : Canonical s) : Canonical s.agentHere := h.frame

theorem execRequestUpdate {onPcie} (h : Canonical s) : AnswersCanonical (execRequestUpdate onPcie s) :=
  .next (.ite h.pldmFree h.setF.frame.agentHere)

theorem putBank {comp bank img} (h : Canonical s) : Canonical (s.putBank comp bank img) := h.frame

theorem fwPartial {comp data} (h : Canonical s) : Canonical (s.fwPartial comp data) := h.agentHere.putBank.frame

theorem fwWrite {comp img} (h : Canonical s) : Canonical (s.fwWrite comp img) :=
  have h1 := h.agentHere.putBank.fwEvent
  .ite h1.frame.fwEvent h1.frame.putBank.bump.ev.fwEvent.setF

theorem execFirmwareComponentWrite {comp data last} (h : Canonical s) :
    AnswersCanonical (execFirmwareComponentWrite comp data last s) := by
  unfold Machine.execFirmwareComponentWrite
  refine .next ?_
  refine .ite h.pldmFree ?_
  refine .ite h ?_
  dsimp only
  refine .ite ?_ h.fwPartial
  split
  · exact h.fwPartial.frame.fwWrite
  · exact h.fwPartial

theorem fwActivate {comp} (h : Canonical s) : Canonical (s.fwActivate comp) :=
  .ite h.frame.setF h.fwEvent.setF.setMeas.frame.setF.setF.setF.frame

theorem execActivateFirmware (h : Canonical s) : AnswersCanonical (execActivateFirmware s) :=
  .next (.ite h.pldmFree (h.foldl fun _ _ h1 => h1.fwActivate).endUpdate.out)

theorem execCancelUpdate (h : Canonical s) : AnswersCanonical (execCancelUpdate s) :=
  .next (.ite h.pldmFree (h.foldl fun _ _ h1 => h1.fwEvent).endUpdate)

theorem execUpdateAgentTimeout (h : Canonical s) : AnswersCanonical (execUpdateAgentTimeout s) :=
  .next (.ite h.endUpdate h)

/-! ### Arrival, circulars and commits (R46 to R57, R98 to R100) -/

theorem windowPut {x l} (h : Canonical s) : Canonical (s.windowPut x l) := by
  unfold State.windowPut
  split
  · exact h.windowIn.reply
  · exact h.reply
  · exact (Canonical.ite h.setBal h).reply
  · exact h.ledgerArrive
  · exact h.ledgerArrive
  · exact (Canonical.ite h.budgetAck h).reply
  · exact h.reply

theorem windowLetter {l} (h : Canonical s) : Canonical (s.windowLetter l) := by
  unfold State.windowLetter
  dsimp only
  refine .ite h.windowPut ?_
  split
  · exact h.ledgerArrive
  · exact h.ledgerArrive
  · exact .ite h.reply h.notReady

theorem letterIn {l ecc} (h : Canonical s) : Canonical (s.letterIn l ecc) := by
  unfold State.letterIn
  refine .ite h ?_
  dsimp only
  split
  · exact .ite h.unflight.chanWait h.unflight.arriveLetter
  · exact .ite h.unflight.windowLetter h.unflight.arriveLetter

theorem letterCmd {op hd len d ecc} (h : Canonical s) : Canonical (s.letterCmd op hd len d ecc) := .ite h.letterIn h

theorem execPut {hd data} (h : Canonical s) : AnswersCanonical (execPut hd data s) := by
  unfold Machine.execPut
  refine .next ?_
  split
  · exact .ite h.letterCmd (.ite h.unflight.bump.reply h.letterCmd.telemNote)
  · exact h.letterCmd

theorem execGet {hd len ecc} (h : Canonical s) : AnswersCanonical (execGet hd len ecc s) := .next h.letterCmd

theorem atomicCmd {op hd wide v ecc} (h : Canonical s) : Canonical (s.atomicCmd op hd wide v ecc) := h.letterCmd

theorem execAddLetter {hd wide v ecc} (h : Canonical s) : AnswersCanonical (execAddLetter hd wide v ecc s) :=
  .next h.atomicCmd

theorem execSwap {hd wide v ecc} (h : Canonical s) : AnswersCanonical (execSwap hd wide v ecc s) := .next h.atomicCmd

theorem execMaxLetter {hd wide v ecc} (h : Canonical s) : AnswersCanonical (execMaxLetter hd wide v ecc s) :=
  .next h.atomicCmd

theorem execMinLetter {hd wide v ecc} (h : Canonical s) : AnswersCanonical (execMinLetter hd wide v ecc s) :=
  .next h.atomicCmd

theorem execCas {hd wide cmp new ecc} (h : Canonical s) : AnswersCanonical (execCas hd wide cmp new ecc s) :=
  .next h.letterCmd

theorem execReplyArrival (h : Canonical s) : AnswersCanonical (execReplyArrival s) := by
  unfold Machine.execReplyArrival
  refine .next ?_
  split
  · exact h
  · dsimp only
    split
    · exact h.frame
    · exact (Canonical.ite h.frame.setCell h.frame.setCell.replyPart).replyPart
    · exact h.frame.hostReply

theorem gateCtl {v} (h : Canonical s) : Canonical (s.gateCtl v) := .ite h.wr.wakeAll h.wr

theorem presentTo {k c} (h : Canonical s) : Canonical (s.presentTo k c) :=
  .ite h.setCl.landCirc (.ite h.setCl h.setCl.setCl)

theorem loadSequencers (h : Canonical s) : Canonical s.loadSequencers := h.foldl fun _ _ h1 => .ite h1 h1.setCl

theorem present (h : Canonical s) : Canonical s.present := by
  unfold State.present
  split
  · exact h
  · refine .ite h ?_
    dsimp only
    split
    · exact (h.frame.foldl fun _ _ h1 => h1.presentTo).frame
    · exact (h.frame.foldl fun _ _ h1 => h1.presentTo).peerDown
    · exact (h.frame.foldl fun _ _ h1 => h1.presentTo).peerUp
    · exact (h.frame.foldl fun _ _ h1 => h1.presentTo).loadSequencers
    · exact h.frame.foldl fun _ _ h1 => h1.presentTo

theorem execCircularPresent (h : Canonical s) : AnswersCanonical (execCircularPresent s) := .next h.present

theorem commitRunning {l} (h : Canonical s) : Canonical (s.commitRunning l) := by
  unfold State.commitRunning
  dsimp only
  refine .ite h ?_
  split
  · exact .ite h.applyLetter h
  · exact h

theorem commitGated {l} (h : Canonical s) : Canonical (s.commitGated l) := by
  unfold State.commitGated
  dsimp only
  refine .ite h ?_
  split
  · exact .ite (.ite h.setCl.startWake h.setCl) h
  · exact h

theorem commitTarget {k parts taken} (h : Canonical s) : Canonical (s.commitTarget k parts taken) :=
  .ite h (.ite (Canonical.ite h.gridTarget h).dispatched (.ite h.stringTarget h))

theorem commitSetpoints {c ls} (h : Canonical s) : Canonical (s.commitSetpoints c ls) :=
  h.foldl fun _ _ h1 => h1.windowSet.commitTarget

theorem commitPublication {c ls} (h : Canonical s) : Canonical (s.commitPublication c ls) :=
  have h1 := Canonical.ite h h.frame
  .ite h1 h1.maskCommit

theorem conflicts {hd blocks} (h : Canonical s) : Canonical (s.conflicts hd blocks) :=
  h.foldl fun _ _ h1 => .ite (.ite h1.abortEnv h1.abortEnv) h1

theorem commitOne {k} (h : Canonical s) : Canonical (s.commitOne k) :=
  have h1 := h.bump.conflicts
  .ite h1.startAct.putEnv h1.commitSetpoints.commitPublication.outcome.putEnv

theorem envCommit (h : Canonical s) : Canonical s.envCommit :=
  ((h.foldl fun _ _ h => h.commitRunning).foldr fun _ _ h => h.commitGated).foldl fun _ _ h => h.commitOne

theorem execEnvCommit (h : Canonical s) : AnswersCanonical (execEnvCommit s) := .next h.envCommit

/-! ### Manifests (chapter 5) -/

theorem syncClear {cause} (h : Canonical s) : Canonical (s.syncClear cause) :=
  .ite h (.ite h.frame.wr.setF.ev h.frame.wr)

theorem abortFor {p} (h : Canonical s) : Canonical (s.abortFor p) :=
  (h.foldl fun _ _ h1 => (by split; exacts [h1.abortEnv, h1])).abortWhere

theorem flushCluster {c} (h : Canonical s) : Canonical (s.flushCluster c) := h.setCl.foldl fun _ _ h1 => h1.reply

theorem resetCell {n} (h : Canonical s) : Canonical (s.resetCell n) := h.stopCell.setCell

theorem holdPart {p pstate} (h : Canonical s) : Canonical (s.holdPart p pstate) :=
  ((h.abortFor.foldl fun _ _ h2 => h2.resetCell).foldl fun _ _ h1 =>
    h1.flushCluster).setPart.wakeAll.setF.degrade.ldgPartDown

theorem countReset {p} (h : Canonical s) : Canonical (s.countReset p) := h.setF

theorem releasePart {p pstate} (h : Canonical s) : Canonical (s.releasePart p pstate) :=
  (h.setPart.setF.foldl fun _ _ h1 => h1.setCl).degrade.ldgPartUp

theorem peerCirc {type p cause effect} (h : Canonical s) : Canonical (s.peerCirc type p cause effect) := h.issueCirc

theorem clearPart {p} (h : Canonical s) : Canonical (s.clearPart p) :=
  foldl (of_wf (Memory.wf_outside (Memory.wf_outside h.mem_wf _ _) _ _) (Tab.wf_outside h.kept_wf _ _) h.regs_wf)
    fun _ _ h => h.setF.setF

theorem loadCell {p m d} (h : Canonical s) : Canonical (s.loadCell p m d) := h.setCell.wrMem

theorem loadData {p d} (h : Canonical s) : Canonical (s.loadData p d) := .ite h.wrData h.wrMem

theorem loadSlot {p d} (h : Canonical s) : Canonical (s.loadSlot p d) := h.setCell

theorem writePart {p m} (h : Canonical s) : Canonical (s.writePart p m) :=
  ((((h.clearPart.foldl fun _ _ h5 => h5.loadCell).foldl fun _ _ h4 => h4.loadData).foldl fun _ _ h3 =>
    h3.loadSlot).foldl fun _ _ h2 => h2.setF).foldl fun _ _ h1 => h1.setF

theorem rearmProgs {p m} (h : Canonical s) : Canonical (s.rearmProgs p m) := h.foldl fun _ _ h1 => h1.setProg

theorem keepPauses {old p m} (h : Canonical s) : Canonical (s.keepPauses old p m) := h.foldl fun _ _ h1 => h1.setProg

theorem armProgs {p m} (h : Canonical s) : Canonical (s.armProgs p m) := h.foldl fun _ _ h1 => h1.setProg

theorem manRegs {p} (h : Canonical s) : Canonical (s.manRegs p) := h.wr.wr64.wrBytes.setMeas.wr

theorem loadResult {p status reason sect entry} (h : Canonical s) :
    Canonical (s.loadResult p status reason sect entry) :=
  h.wr.wr

theorem refuseLoad {p r} (h : Canonical s) : Canonical (s.refuseLoad p r) :=
  have h1 := h.loadResult.bump
  (Canonical.ite h1.bump h1).raise

theorem loadFails {p r} (h : Canonical s) : Canonical (s.loadFails p r) := h.refuseLoad.setF.setPart

theorem startLoad {p half} (h : Canonical s) : Canonical (s.startLoad p half) :=
  .ite h.loadResult (.ite h.setPart.setF h)

theorem startUnload {p} (h : Canonical s) : Canonical (s.startUnload p) := .ite h.setPart h

theorem manCtl {path p v} (h : Canonical s) : Canonical (s.manCtl path p v).1 :=
  .ite_fst h (.ite_fst h.ev (.ite_fst h.setF.loadResult (.ite_fst h.setF.startLoad (.ite_fst h.setF.startUnload
    h.setF))))

theorem execVerificationFail {p} (h : Canonical s) : AnswersCanonical (execVerificationFail p s) := by
  unfold Machine.execVerificationFail
  refine .next ?_
  refine .ite ?_ h
  split
  · exact h.frankerDone.loadFails
  · exact h

theorem execVerificationPass {p} (h : Canonical s) : AnswersCanonical (execVerificationPass p s) := by
  unfold Machine.execVerificationPass
  refine .next ?_
  refine .ite ?_ h
  split
  · exact h
  · exact h.frankerDone.setPart

theorem decide_ {p} (h : Canonical s) : Canonical (s.decide_ p) := by
  unfold State.decide_
  dsimp only
  split
  · exact h.loadFails
  · exact .ite h.setPart.peerCirc h.setPart

theorem execSwapDecision {p} (h : Canonical s) : AnswersCanonical (execSwapDecision p s) :=
  .next (h.foldl fun _ _ h1 => .ite h1.decide_ h1)

theorem removeMan {p} (h : Canonical s) : Canonical (s.removeMan p) := by
  unfold State.removeMan
  split
  · exact h
  · exact
      have h1 := Canonical.ite h h.loopsUnbind
      have h2 := Canonical.ite h1.monitorUnmap.sstUnmap h1
      .ite h2.setPart.manRegs.wr64.wr64.frame.relines.ldgFollow h2.setPart.manRegs

theorem execSwapStart {p} (h : Canonical s) : AnswersCanonical (execSwapStart p s) := by
  unfold Machine.execSwapStart
  refine .next ?_
  dsimp only
  split
  · exact h
  · exact .ite h.setPart.holdPart.countReset.syncClear.removeMan.setF.setPart h

theorem execSwapWritesComplete {p} (h : Canonical s) : AnswersCanonical (execSwapWritesComplete p s) := by
  unfold Machine.execSwapWritesComplete
  refine .next ?_
  dsimp only
  refine .ite ?_ h
  split
  · exact (Canonical.setPart (by split; exacts [h.writePart, h.clearPart])).peerCirc.raise
  · exact (Canonical.setPart (by split; exacts [h.writePart, h.clearPart])).peerCirc.raise

theorem applyMan {p m} (h : Canonical s) : Canonical (s.applyMan p m) :=
  have h1 := Canonical.ite h h.loopsBind
  .ite h1.stageMap.monitorMap.sstMap.wr64.wr64.frame.relines.ldgFollow h1

theorem execSwapRelease {p} (h : Canonical s) : AnswersCanonical (execSwapRelease p s) := by
  unfold Machine.execSwapRelease
  refine .next ?_
  dsimp only
  split
  · exact h
  · refine .ite ?_ h
    split
    · exact h.setPart.setF.manRegs.releasePart.loadResult.armProgs.applyMan
    · exact h.setPart.setF.manRegs.releasePart.loadResult

/-! ### Recovery (chapter 17) -/

theorem deadCount (h : Canonical s) : Canonical s.deadCount := h.setF.setF

theorem deadCluster {c test} (h : Canonical s) : Canonical (s.deadCluster c test) := .ite h h.ev.killCluster.deadCount

theorem deadCell {n test} (h : Canonical s) : Canonical (s.deadCell n test) :=
  .ite h (.ite h.frame.ev.deadCount.deadCluster h.frame.ev.deadCount)

theorem rcvStatus (h : Canonical s) : Canonical s.rcvStatus := h.setF.setF.degrade

theorem rcvCounts (h : Canonical s) : Canonical s.rcvCounts := (h.foldl fun _ _ h1 => h1.setF).setF

theorem dropRung {rung unit} (h : Canonical s) : Canonical (s.dropRung rung unit) := h.frame

theorem lose {p} (h : Canonical s) : Canonical (s.lose p) := .ite h (.ite h.dropRung.setF.rcvStatus h.holdPart)

theorem dropDead (h : Canonical s) : Canonical s.dropDead := h.foldl fun _ _ h1 => .ite h1 h1.setF.lose

theorem beginRung {r escalated} (h : Canonical s) : Canonical (s.beginRung r escalated) :=
  (Canonical.ite h.ev.bump.bump h.ev.bump).frame.syncClear.rcvStatus.rcvCounts

theorem rungEnded {rung unit start refused} (h : Canonical s) : Canonical (s.rungEnded rung unit start refused) :=
  h.ev

theorem discardFor {c cells} (h : Canonical s) : Canonical (s.discardFor c cells) :=
  h.setCl.foldl fun _ _ h1 => h1.reply

theorem startContext {f} (h : Canonical s) : Canonical (s.startContext f) :=
  .ite h (Canonical.andThen (((h.beginRung.foldl fun _ _ h3 => h3.stopCell).foldl fun _ _ h2 =>
    h2.setCell).foldl fun _ _ h1 => h1.discardFor) fun h4 => Canonical.wakeAll
    (by split; exacts [.ite h4.setProg h4.setProg.frame, h4.setProg]))

theorem rewriteProg {p x m} (h : Canonical s) : Canonical (s.rewriteProg p x m) :=
  foldl (foldl (foldl (foldl h fun _ _ h => of_wf (Memory.wf_outside h.mem_wf _ _) (Tab.wf_outside h.kept_wf _ _) h.regs_wf)
    fun _ _ h => h.loadCell) fun _ _ h => h.loadData) fun _ _ h => h.loadSlot

theorem execContextRungRelease {p prog} (h : Canonical s) : AnswersCanonical (execContextRungRelease p prog s) := by
  unfold Machine.execContextRungRelease
  refine .next ?_
  dsimp only
  split
  · exact h.rewriteProg.setProg.dropRung.rungEnded.rcvStatus
  · exact h

theorem startEngine {f} (h : Canonical s) : Canonical (s.startEngine f) := .ite h (Canonical.ite h.frame h).beginRung

theorem execEngineRungRelease {u} (h : Canonical s) : AnswersCanonical (execEngineRungRelease u s) := by
  unfold Machine.execEngineRungRelease
  refine .next ?_
  dsimp only
  split
  · exact (Canonical.ite h.dropRung.engineBack (.ite h.dropRung.ledgerBack h.dropRung)).rungEnded.rcvStatus
  · exact h

theorem preemptContexts {p} (h : Canonical s) : Canonical (s.preemptContexts p) := h.frame

theorem stopProgs {p} (h : Canonical s) : Canonical (s.stopProgs p) := by
  unfold State.stopProgs
  split
  · exact h
  · exact h.foldl fun _ _ h1 => h1.setProg

theorem startPartition {f} (h : Canonical s) : Canonical (s.startPartition f) :=
  .ite h (h.abandonLoad.preemptContexts.andThen fun h1 =>
    .ite h1.frame.stopProgs.holdPart.countReset.syncClear.ev.peerCirc.peerCirc.rcvStatus
    h1.beginRung.stopProgs.holdPart.countReset.peerCirc.rcvStatus)

theorem setRung {p g} (h : Canonical s) : Canonical (s.setRung p g) := h.frame

theorem rungWritten {p cause start refused} (h : Canonical s) : Canonical (s.rungWritten p cause start refused) :=
  h.setRung.peerCirc.raise

theorem execPartitionRungRetrained {p} (h : Canonical s) : AnswersCanonical (execPartitionRungRetrained p s) := by
  unfold Machine.execPartitionRungRetrained
  refine .next ?_
  split
  · exact .ite h (.ite h.rungWritten h.setRung)
  · exact h

theorem execPartitionRungTested {p cells clusters} (h : Canonical s) :
    AnswersCanonical (execPartitionRungTested p cells clusters s) := by
  unfold Machine.execPartitionRungTested
  refine .next ?_
  split
  · exact .ite h ((h.foldl fun _ _ h2 => .ite h2.deadCell h2).foldl fun _ _ h1 => .ite h1.deadCluster
      h1).dropDead.setRung
  · exact h

theorem execPartitionRungReload {p} (h : Canonical s) : AnswersCanonical (execPartitionRungReload p s) := by
  unfold Machine.execPartitionRungReload
  refine .next ?_
  dsimp only
  split
  · refine .ite h ?_
    split
    · exact h.writePart.keepPauses.setPart.rungWritten
    · exact .ite h.setRung.rungEnded.nameFault h.refuseLoad.ev.peerCirc.clearPart.setRung.rungWritten
  · exact h

theorem execPartitionRungRelease {p} (h : Canonical s) : AnswersCanonical (execPartitionRungRelease p s) := by
  unfold Machine.execPartitionRungRelease
  refine .next ?_
  dsimp only
  split
  · split
    · refine .ite ?_ h
      refine .ite (Canonical.ite h.dropRung.clearPart.removeMan h.dropRung).setF.releasePart.rcvStatus ?_
      split
      · exact h.dropRung.releasePart.rcvStatus.rearmProgs
      · exact h.dropRung.releasePart.rcvStatus
    · exact h
  · exact h

theorem chipRung {f} (h : Canonical s) : Canonical (s.chipRung f) :=
  .ite h.outranked (Canonical.ite h.setF.ev h).ev.frame.setF.wholeReset

theorem startRung {f} (h : Canonical s) : Canonical (s.startRung f) :=
  .ite h.startPartition (.ite h.startEngine h.startContext)

theorem takeFaults (h : Canonical s) : Canonical s.takeFaults := h.frame

theorem execRungStart (h : Canonical s) : AnswersCanonical (execRungStart s) := by
  unfold Machine.execRungStart
  refine .next ?_
  dsimp only
  split
  · exact h.takeFaults.chipRung
  · exact (h.foldl fun _ _ h1 => h1.startRung).takeFaults

theorem unitFault {unit reason rung} (h : Canonical s) : Canonical (s.unitFault unit reason rung) := h.nameFault

theorem watchUnits (h : Canonical s) : Canonical s.watchUnits := h.frame.useFree

theorem execWatchdogExpiry {u} (h : Canonical s) : AnswersCanonical (execWatchdogExpiry u s) := by
  unfold Machine.execWatchdogExpiry
  refine .next ?_
  dsimp only
  split
  · exact .ite h.unitFault h
  · refine .ite ?_ h
    split
    · exact h.frame.nameFault
    · exact h.frame.unitFault
    · exact .ite h.frame.unitFault h.frame.unitFault

theorem orderRung {w0 w1 rung unit origin} (h : Canonical s) : Canonical (s.orderRung w0 w1 rung unit origin) :=
  have h1 := h.frame.histFault.raise
  .ite h1.bump h1.frame

theorem rcvReq {path v} (h : Canonical s) : Canonical (s.rcvReq path v).1 :=
  .ite_fst (.ite_fst h.ev h) (.ite_fst h.ev (h.setF.setF.setF.andThen fun h1 => .ite_fst h1 (.ite_fst h1.orderRung
    (.ite_fst h1.orderRung (h1.foldl fun _ _ h2 => h2.orderRung)))))

/-! ### Twin operation (chapter 18) -/

theorem roleEvent {became cause} (h : Canonical s) : Canonical (s.roleEvent became cause) := h.ev

theorem newPair (h : Canonical s) : Canonical s.newPair := h.frame.wr.setF

theorem ownReference (h : Canonical s) : Canonical s.ownReference := h.setF.setF.setF

theorem takeControl {cause} (h : Canonical s) : Canonical (s.takeControl cause) :=
  have h1 := h.frame.setF.setF.setF.setF.bump
  have h2 := (Canonical.ite h1.bump h1).roleEvent.enter.newPair.ownReference
  .ite h2.ldgTakeover h2

theorem becomeActive {cause} (h : Canonical s) : Canonical (s.becomeActive cause) :=
  .ite h (h.lowest (fun _ h1 => h1.takeControl))

theorem giveControl {cause k} (h : Canonical s) : Canonical (s.giveControl cause k) :=
  (Canonical.ite h.frame.bump h.frame).roleEvent.enter.newPair

theorem becomeStandby {cause k} (h : Canonical s) : Canonical (s.becomeStandby cause k) :=
  .ite h (h.lowest (fun _ h1 => h1.giveControl))

theorem yield {fr v} (h : Canonical s) : Canonical (s.yield fr v) := .ite (.ite h.becomeStandby h.frame.logTrigger) h

theorem stepTenRole (h : Canonical s) : Canonical s.stepTenRole :=
  .ite (h.lowest (fun _ h1 => h1.enter)) (.ite (h.lowest (fun _ h2 => h2.roleEvent.enter)) h.frame.becomeActive)

theorem selfCheck (h : Canonical s) : Canonical s.selfCheck := by
  unfold State.selfCheck
  split
  · exact .ite h.frame h
  · exact h

theorem execSelfCheck (h : Canonical s) : AnswersCanonical (execSelfCheck s) := .next h.selfCheck

theorem takeover (h : Canonical s) : Canonical s.takeover := by
  unfold State.takeover
  split
  · exact .ite h (.ite h.ev.frame.syncClear (.ite h.ev.frame.syncClear.becomeActive
      h.ev.frame.syncClear.becomeStandby))
  · exact h

theorem execTakeoverDecision (h : Canonical s) : AnswersCanonical (execTakeoverDecision s) := .next h.takeover

theorem twinFrame (h : Canonical s) : Canonical s.twinFrame.2 := .ite h.frame h

theorem mirrorLetter {n op r} (h : Canonical s) : Canonical (s.mirrorLetter n op r) := h.setF.frame

theorem takeRecords {n r k} (h : Canonical s) : Canonical (s.takeRecords n r k) := by
  induction k generalizing s r with
  | zero => exact h
  | succ k ih =>
    unfold State.takeRecords
    dsimp only
    refine .ite h (.ite (ih h.frame) ?_)
    split
    · exact ih h.mirrorLetter
    · exact ih h.mirrorLetter
    · exact ih h

theorem followPrecharge {was wasOff} (h : Canonical s) : Canonical (s.followPrecharge was wasOff) :=
  .ite h.frame (.ite h.frame (.ite h.frame h.frame))

theorem followFlags {old} (h : Canonical s) : Canonical (s.followFlags old) :=
  have h1 := Canonical.ite h.frame.frame h.frame
  .ite h1.frame h1

theorem standbyTake (h : Canonical s) : Canonical s.standbyTake :=
  h.wr.followPrecharge.followFlags.ldgPeer.takeRecords

theorem peerShown {frame} (h : Canonical s) : Canonical (s.peerShown frame) := h.setF.setF

theorem peerDisturbs (h : Canonical s) : Canonical s.peerDisturbs := .ite h.useFree.syncClear h.useFree

theorem execTwinFrame {frame ok} (h : Canonical s) : AnswersCanonical (execTwinFrame frame ok s) :=
  .next (.ite h.frame.peerShown (.ite (Canonical.andThen (.ite h.ldgPeerEpoch h) fun h1 =>
    .ite h1.frame.peerShown.frame.frame.standbyTake.peerDisturbs h1.frame.peerShown.frame) h))

theorem execTwinLinkLost (h : Canonical s) : AnswersCanonical (execTwinLinkLost s) :=
  .next (.ite (h.setF.ev.andThen fun h1 => .ite h1.frame.syncClear.becomeActive h1.frame.syncClear) h)

theorem execSyncSet (h : Canonical s) : AnswersCanonical (execSyncSet s) := .next (.ite h.setF.ev h)

theorem execReturnOfControl (h : Canonical s) : AnswersCanonical (execReturnOfControl s) :=
  .next (.ite h.becomeActive h)

theorem switchTake (h : Canonical s) : Canonical s.switchTake := .ite h.becomeActive h

theorem askSwitch (h : Canonical s) : Canonical s.askSwitch := .ite h.ev (.ite h.ev (.ite h.ev h.frame))

theorem execSwitchTimeout (h : Canonical s) : AnswersCanonical (execSwitchTimeout s) := by
  unfold Machine.execSwitchTimeout
  refine .next ?_
  split
  · exact .ite h.frame.ev h
  · exact h

theorem execTwinLock {phase} (h : Canonical s) : AnswersCanonical (execTwinLock phase s) :=
  .next (.ite h.setF.setF.setF h)

theorem twinEnd (h : Canonical s) : Canonical s.twinEnd := .ite h h.selfCheck.frame.twinFrame.drive

theorem digestCompare (h : Canonical s) : Canonical s.digestCompare := by
  unfold State.digestCompare
  dsimp only
  split
  · exact h
  · exact .ite h (.ite h.bump.ev.syncClear (.ite h.bump.frame h.frame))

theorem twinArrived (h : Canonical s) : Canonical s.twinArrived := .ite (.ite h.frame.setF.ev h.frame) h.bump.frame

theorem cleanTime (h : Canonical s) : Canonical s.cleanTime := .ite h.frame.wr h

theorem twinFresh (h : Canonical s) : Canonical s.twinFresh := h.frame

theorem twinBoundary (h : Canonical s) : Canonical s.twinBoundary :=
  (Canonical.ite h (Canonical.ite h.twinArrived.digestCompare h.twinArrived).cleanTime.switchTake).twinFresh

/-! ### Bring-up (chapter 16) -/

theorem stepReq {path v} (h : Canonical s) : Canonical (s.stepReq path v) := .ite h.setF.setF.setF.frame h.ev

theorem worked {status reason} (h : Canonical s) : Canonical (s.worked status reason) := h.frame

theorem execFuseRomCheck {fuseOk romOk} (h : Canonical s) : AnswersCanonical (execFuseRomCheck fuseOk romOk s) :=
  .next (.ite h (.ite h.worked (h.setMeas.setMeas.fuseMeas.andThen fun h1 => .ite h1.worked (.ite h1.setF.worked
    h1.setF.bump.ev.worked))))

theorem bankFailed {bank cond} (h : Canonical s) : Canonical (s.bankFailed bank cond) := h.bump.ev

theorem useBank {bank} (h : Canonical s) : Canonical (s.useBank bank) := h.setF.setF.setMeas.worked

theorem execFirmwareVerify (h : Canonical s) : AnswersCanonical (execFirmwareVerify s) :=
  .next (.ite h (.ite h.useBank (.ite h.bankFailed.ev.useBank h.bankFailed.bankFailed.worked)))

theorem execClocksStart {fabPll linkPll tj} (h : Canonical s) :
    AnswersCanonical (execClocksStart fabPll linkPll tj s) :=
  .next (.ite h (h.setF.setF.useFree.andThen fun h1 => .ite h1.worked (h1.setF.setF.andThen fun h2 => .ite h2.worked
    h2.worked)))

theorem execLpddr5Training {ok} (h : Canonical s) : AnswersCanonical (execLpddr5Training ok s) :=
  .next (.ite h (.ite h.setF.worked h.setF.useFree.worked))

theorem tested {bad p} (h : Canonical s) : Canonical (s.tested bad p) := .ite h.lose (.ite h.releasePart h)

theorem memoryEnd {failed cut} (h : Canonical s) : Canonical (s.memoryEnd failed cut) := by
  unfold State.memoryEnd
  extract_lets bad all fails s1 s2
  have h1 : Canonical s1 := h.foldl fun _ _ h => h.tested
  have h2 : Canonical s2 := h1.setF.setF
  exact of_wf (Memory.wf_outside h2.mem_wf _ _) h2.kept_wf h2.regs_wf

theorem execMemoryTest {failed cutShort fails repairs} (h : Canonical s) :
    AnswersCanonical (execMemoryTest failed cutShort fails repairs s) :=
  .next (.ite h (Canonical.andThen ((h.foldl fun _ _ h2 => h2.bump.ev).foldl fun _ _ h1 => h1.ev) fun h3 =>
    .ite h3.memoryEnd.worked (.ite h3.memoryEnd.worked h3.memoryEnd.worked)))

theorem listCells {l} (h : Canonical s) : Canonical (s.listCells l).1 := by
  induction l generalizing s with
  | nil => exact h
  | cons e r ih => exact .ite_fst (ih h) (.ite_fst h (ih h.deadCell))

theorem execCellBist {cells clusters} (h : Canonical s) : AnswersCanonical (execCellBist cells clusters s) :=
  .next (.ite h (Canonical.andThen (h.deadCount.listCells.foldl fun _ _ h1 => .ite h1.deadCluster h1) fun h2 =>
    .ite h2.dropDead.worked h2.dropDead.worked))

theorem execFirmwareBroadcast {badTwice} (h : Canonical s) : AnswersCanonical (execFirmwareBroadcast badTwice s) :=
  .next (.ite h (Canonical.andThen (h.issueCirc.foldl fun _ _ h1 => .ite h1.deadCluster h1) fun h2 =>
    .ite h2.dropDead.worked h2.dropDead.worked))

theorem report {ds} (h : Canonical s) : Canonical (s.report ds) := by
  unfold State.report
  extract_lets ds' r src u
  have h1 : Canonical r.2 := h.foldl_snd fun _ _ h => h.useFree
  exact wrBytes (of_wf h1.mem_wf h1.kept_wf (Tab.wf_outside h1.regs_wf _ _))

theorem adopt {x} (h : Canonical s) : Canonical (s.adopt x) := .ite h.frame.ev h

theorem trainAll {d x} (h : Canonical s) : Canonical (s.trainAll d x) := by
  unfold State.trainAll
  refine h.foldl fun _ _ h1 => ?_
  dsimp only
  split
  · exact .ite h1.trainLink h1
  · exact h1

theorem discover {d} (h : Canonical s) : Canonical (s.discover d) :=
  .ite h (.ite (h.foldl fun _ _ h1 => h1.monOut).frame (.ite (h.foldl fun _ _ h2 => h2.frame.monOut) h))

theorem execTopologyDiscovery {found} (h : Canonical s) : AnswersCanonical (execTopologyDiscovery found s) :=
  .next (.ite h (h.adopt.trainAll.discover.andThen fun h1 => .ite h1.setF.report.worked h1.setF.report.ev.worked))

theorem execManifestLoad (h : Canonical s) : AnswersCanonical (execManifestLoad s) :=
  .next (.ite (h.frame.foldl fun _ _ h1 => h1.startLoad) h)

theorem execPrechargeEnable (h : Canonical s) : AnswersCanonical (execPrechargeEnable s) :=
  .next (.ite h (.ite h.worked (.ite h.worked h.worked)))

theorem operatedBefore (h : Canonical s) : Canonical s.operatedBefore := h.wr.useFree.frame

theorem release (h : Canonical s) : Canonical s.release :=
  have h1 := h.operatedBefore.frame.setF.setF.stage.stage.stage.stage.stage.stage.stage.stage.stage.stage.stage.stage
  .ite h1.vrefStep.frame.ev h1.vrefStep

theorem fwRuns (h : Canonical s) : Canonical s.fwRuns := h.setF.setF.setF.wr64

theorem endStep {status reason} (h : Canonical s) : Canonical (s.endStep status reason) :=
  have h1 := h.setF.setF.setF
  have h2 := Canonical.ite h1.frame.ev.vector h1.frame.ev
  .ite h2 (.ite h2.logTrigger (.ite h2.fwRuns (.ite h2.release (.ite (.ite h2 (h2.lowest (fun _ h3 => h3.enter)))
    (.ite h2.stepTenRole h2)))))

theorem execStepEnd (h : Canonical s) : AnswersCanonical (execStepEnd s) := by
  unfold Machine.execStepEnd
  refine .next ?_
  refine .ite h ?_
  split
  · exact h.endStep
  · exact .ite h.endStep h

theorem execStepTimeout (h : Canonical s) : AnswersCanonical (execStepTimeout s) :=
  .next (.ite (Canonical.ite h.memoryEnd h).endStep h)

theorem execRetrainTurn (h : Canonical s) : AnswersCanonical (execRetrainTurn s) := .next (.ite h.stage.frame h)

theorem chanServe {a} (h : Canonical s) : Canonical (s.chanServe a) := by
  unfold State.chanServe
  split
  · exact h.arriveLetter
  · exact h.bar4Write
  · exact h.bar4Read

theorem chanBack (h : Canonical s) : Canonical s.chanBack := h.frame.foldl fun _ _ h1 => h1.chanServe

theorem execRetrainDone {ok} (h : Canonical s) : AnswersCanonical (execRetrainDone ok s) := by
  unfold Machine.execRetrainDone
  refine .next ?_
  split
  · exact h
  · exact
      have h1 := h.frame.chanBack.setF.setF
      .ite h1.bump (h1.bump.ev.andThen fun h2 => .ite h2.nameFault h2)

theorem execPllLockLoss {pll} (h : Canonical s) : AnswersCanonical (execPllLockLoss pll s) :=
  .next (.ite h.bump.frame h)

/-! ### Writes of registers (R7 to R10, R313) -/

theorem refuseWrite {path off v} (h : Canonical s) : Canonical (s.refuseWrite path off v) := .ite h h.ev

theorem plain {r off v} (h : Canonical s) : Canonical (s.plain r off v) := h.wr

theorem secCmd {path n} (h : Canonical s) : Canonical (s.secCmd path n) := by
  unfold State.secCmd
  dsimp only
  refine .ite (.ite h.refuseWrite.setF.secRefuse.renewNonce h.refuseWrite) ?_
  refine .ite h.wr ?_
  split
  · exact h.enrollOwner
  · exact h.revokeOwner
  · exact h.advanceSvn
  · exact h.setPackIssuer
  · exact h.clearPackIssuer
  · exact h.rotateLedger
  · exact h.enterRma

theorem grdCtl {n} (h : Canonical s) : Canonical (s.grdCtl n) :=
  have h1 := h.coolantReq.neighbourReq
  .ite h1.preRetry h1

theorem seqCtl {path n} (h : Canonical s) : Canonical (s.seqCtl path n) := by
  unfold State.seqCtl
  split
  · exact h.refuseWrite
  · exact h.seqStart
  · exact h.seqStop
  · exact h

theorem msixWrite {off v} (h : Canonical s) : Canonical (s.msixWrite off v) := .ite h.wr.wr.out h.wr

theorem applyWrite {path r off v} (h : Canonical s) : Canonical (s.applyWrite path r off v) :=
  .ite h.safeReq (.ite h.gateCtl (.ite h.grdCtl (.ite h.plain.frame (.ite h.plain.seqCtl (.ite h.plain.relines
    (.ite h.thrForce (.ite (.ite h.loopClear h) (.ite h.plain.frame (.ite (h.foldl fun _ _ h1 => .ite h1.askExit h1)
    (.ite (.ite h.plain.diagRequest h.plain) (.ite (h.foldl fun _ _ h2 => .ite h2.isoRelease h2)
    (.ite (h.foldl fun _ _ h3 => .ite h3.reauth h3) (.ite h.rxHead (.ite h.bxHead (.ite h.heartbeat (.ite h.chipReset
    (.ite (.ite h.plain.setF h.plain) (.ite h.msixWrite (.ite h.secCmd (.ite h.stepReq (.ite (.ite h.askSwitch h)
    (.ite (.ite h.collRequest h) (.ite h.logClear h.plain)))))))))))))))))))))))

theorem regWrite {path at_ v} (h : Canonical s) : Canonical (s.regWrite path at_ v).1 := by
  unfold State.regWrite
  dsimp only
  split
  · exact .ite h.refuseWrite h
  · exact
      .ite_fst h.rcvReq (.ite_fst h.manCtl (.ite_fst h.refuseWrite (.ite_fst h.refuseWrite (.ite_fst h.applyWrite
        (.ite_fst h.mirror (Canonical.ite h.refuseWrite h).applyWrite)))))

theorem execRegisterWrite {off data} (h : Canonical s) : AnswersCanonical (execRegisterWrite off data s) :=
  .next (.ite h (.ite h.regWrite.regWrite h.regWrite))

theorem sideWrite {o v} (h : Canonical s) : Canonical (s.sideWrite o v) :=
  .ite h.out (.ite h.out (.ite h.regWrite.out.useFree (Canonical.ite h.regWrite.ev h.regWrite).out))

theorem execRegWrite {iana off v} (h : Canonical s) : AnswersCanonical (execRegWrite iana off v s) :=
  .next (h.vendor (fun _ h1 => h1.sideWrite))

theorem injectOne {n m} (h : Canonical s) : Canonical (s.injectOne n m) := by
  unfold State.injectOne
  dsimp only
  split
  · exact h.frame.send
  · split
    · exact h.frame.applyWrite
    · exact h.frame

theorem injectDraw {st n} (h : Canonical s) : Canonical (s.injectDraw st n) := h.frame.sendChallenge

theorem execMirroredInject (h : Canonical s) : AnswersCanonical (execMirroredInject s) := by
  unfold Machine.execMirroredInject
  refine .next ?_
  dsimp only
  refine (h.frame.foldl fun _ _ h1 => h1.injectOne).foldl fun _ _ h2 => ?_
  split
  · exact .ite h2.injectDraw h2
  · exact h2

/-! ### Commands that are writes of one register -/

theorem viaPath {path off v host} (h : Canonical s) (hh : Canonical host) :
    AnswersCanonical (s.viaPath path off v host) := by
  refine .next ?_
  cases path with
  | host => exact hh
  | sideband => exact h.sideWrite

theorem execSafeReq {path v} (h : Canonical s) : AnswersCanonical (execSafeReq path v s) := h.viaPath h.safeReq

theorem execGateEn {path v} (h : Canonical s) : AnswersCanonical (execGateEn path v s) := h.viaPath h.gateCtl

theorem execManifestStart {path p half} (h : Canonical s) : AnswersCanonical (execManifestStart path p half s) :=
  h.viaPath h.manCtl

theorem execManifestUnload {path p} (h : Canonical s) : AnswersCanonical (execManifestUnload path p s) :=
  h.viaPath h.manCtl

theorem execPreRetry {path} (h : Canonical s) : AnswersCanonical (execPreRetry path s) :=
  h.viaPath (h.inStep (fun _ h1 => h1.preRetry))

theorem execCoolantReq {path v} (h : Canonical s) : AnswersCanonical (execCoolantReq path v s) :=
  h.viaPath (h.inStep (fun _ h1 => h1.coolantReq))

theorem execNeighbourReq {path v} (h : Canonical s) : AnswersCanonical (execNeighbourReq path v s) :=
  h.viaPath (h.inStep (fun _ h1 => h1.neighbourReq))

theorem execSeqStart {path} (h : Canonical s) : AnswersCanonical (execSeqStart path s) :=
  h.viaPath (h.inStep (fun _ h1 => h1.seqStart))

theorem execSeqStop {path} (h : Canonical s) : AnswersCanonical (execSeqStop path s) :=
  h.viaPath (h.inStep (fun _ h1 => h1.seqStop))

theorem execThrForce {path v} (h : Canonical s) : AnswersCanonical (execThrForce path v s) :=
  h.viaPath (h.inStep (fun _ h1 => h1.thrForce))

theorem execLoopClear {path e l} (h : Canonical s) : AnswersCanonical (execLoopClear path e l s) :=
  h.viaPath (h.inStep (fun _ h1 => h1.loopClear))

theorem execExit {path b} (h : Canonical s) : AnswersCanonical (execExit path b s) :=
  h.viaPath (h.inStep (fun _ h1 => h1.askExit))

theorem execIso {path v} (h : Canonical s) : AnswersCanonical (execIso path v s) :=
  h.viaPath (h.inStep (fun _ h1 => h1.setF))

theorem execDiagRequest {path c j} (h : Canonical s) : AnswersCanonical (execDiagRequest path c j s) :=
  h.viaPath (h.inStep (fun _ h1 => h1.diagRequest))

theorem execIsoRelease {path st} (h : Canonical s) : AnswersCanonical (execIsoRelease path st s) :=
  h.viaPath (h.inStep (fun _ h1 => h1.isoRelease))

theorem execReauth {path st} (h : Canonical s) : AnswersCanonical (execReauth path st s) :=
  h.viaPath (h.inStep (fun _ h1 => h1.reauth))

theorem execLdgRxHead {path v} (h : Canonical s) : AnswersCanonical (execLdgRxHead path v s) :=
  h.viaPath (h.inStep (fun _ h1 => h1.rxHead))

theorem execLdgBxHead {path v} (h : Canonical s) : AnswersCanonical (execLdgBxHead path v s) :=
  h.viaPath (h.inStep (fun _ h1 => h1.bxHead))

theorem execEnrollOwner {path slot auth v} (h : Canonical s) :
    AnswersCanonical (execEnrollOwner path slot auth v s) :=
  h.viaPath h.enrollOwner

theorem execRevokeOwner {path slot auth v} (h : Canonical s) :
    AnswersCanonical (execRevokeOwner path slot auth v s) :=
  h.viaPath h.revokeOwner

theorem execAdvanceSvn {path slot auth v} (h : Canonical s) : AnswersCanonical (execAdvanceSvn path slot auth v s) :=
  h.viaPath h.advanceSvn

theorem execSetPackIssuer {path slot auth v} (h : Canonical s) :
    AnswersCanonical (execSetPackIssuer path slot auth v s) :=
  h.viaPath h.setPackIssuer

theorem execClearPackIssuer {path slot auth v} (h : Canonical s) :
    AnswersCanonical (execClearPackIssuer path slot auth v s) :=
  h.viaPath h.clearPackIssuer

theorem execRotateLedger {path slot auth v} (h : Canonical s) :
    AnswersCanonical (execRotateLedger path slot auth v s) :=
  h.viaPath h.rotateLedger

theorem execEnterRma {path slot auth v} (h : Canonical s) : AnswersCanonical (execEnterRma path slot auth v s) :=
  h.viaPath h.enterRma

theorem execRungRequest {path v} (h : Canonical s) : AnswersCanonical (execRungRequest path v s) := h.viaPath h.rcvReq

theorem execSwitch {path} (h : Canonical s) : AnswersCanonical (execSwitch path s) := h.viaPath h.askSwitch

theorem execCollectionRequest {path} (h : Canonical s) : AnswersCanonical (execCollectionRequest path s) :=
  h.viaPath h.collRequest

theorem execLogClear {path v} (h : Canonical s) : AnswersCanonical (execLogClear path v s) := h.viaPath h.logClear

/-! ### Beats (R58, R193 to R198) -/

theorem takeBeat (h : Canonical s) : Canonical s.takeBeat :=
  .ite h h.stageTake.meter.gridTake.sstTake.linksEval.safeEval

theorem execUpstreamFrame {b frame valid} (h : Canonical s) :
    AnswersCanonical (execUpstreamFrame b frame valid s) := by
  unfold Machine.execUpstreamFrame
  extract_lets k came s1 rx ok s2 s3
  have h2 : Canonical s2 := .ite h.stageFrame.sstFrame h.stageFrame
  have h3 : Canonical s3 := by
    show Canonical (match rx with | some rx => s2.yield frame rx.ok | none => s2)
    cases rx with
    | some rx => exact h2.yield
    | none => exact h2
  exact .next (.ite h (.ite h3.takeBeat h3))

theorem execDownstreamFrame {b} (h : Canonical s) : AnswersCanonical (execDownstreamFrame b s) :=
  .next (.ite h h.takeExt.takeBeat.sendFrame)

theorem stageBeat (h : Canonical s) : Canonical s.stageBeat := h.stage.stage.stage.stage.stage

theorem operate (h : Canonical s) : Canonical s.operate := .ite (.ite h.frame h.frame.bump) h

theorem newSecond (h : Canonical s) : Canonical s.newSecond := .ite h.operate.rcvCounts h.operate

theorem endBeat (h : Canonical s) : Canonical s.endBeat :=
  h.takeExt.takeBeat.twinEnd.frankerBegins.watchUnits.snapshot.frame

theorem markers (h : Canonical s) : Canonical s.markers := h.foldl fun _ _ h1 => .ite h1.drive h1

theorem beginBeat {coolantN shelfN tj} (h : Canonical s) : Canonical (s.beginBeat coolantN shelfN tj) :=
  h.stageBeat.vrefStep.exitStarts.markers.voltageSp.dueTargets.gridBoundary.lineTimes.powerBoundary.twinBoundary
    |>.hostRegained.monBoundary.newSecond

theorem execBeatBoundary {coolantN shelfN tj} (h : Canonical s) :
    AnswersCanonical (execBeatBoundary coolantN shelfN tj s) :=
  .next (.ite h.endBeat.beginBeat h)

theorem tick (h : Canonical s) : Canonical (tick s) := .ite h.stageCycle.frame h

/-! ### The commands -/

theorem exec {i} (h : Canonical s) : AnswersCanonical (exec i s) := by
  cases i
  exacts [h.execBeatBoundary, h.execRegisterWrite, h.execSafeReq, h.execUpstreamFramesLost, h.execJunctionTrip,
    h.execWholeChipReset, h.execPowerOn, h.execFeedSample, h.execBothFeedsLost, h.execHoldupClosed, h.execFeedReturn,
    h.execPowerLoss, h.execPut, h.execGet, h.execAddLetter, h.execSwap, h.execCas, h.execMaxLetter, h.execMinLetter,
    h.execReplyArrival, h.execClusterGate, h.execClusterScheduledWake, h.execClusterWakeComplete, h.execGateEn,
    h.execCircularPresent, h.execNop, h.execAdd, h.execSub, h.execAddc, h.execSubb, h.execAnd, h.execOr, h.execXor,
    h.execShl, h.execShr, h.execSra, h.execMul, h.execSlt, h.execSltu, h.execQadd, h.execQsub, h.execAddi, h.execAndi,
    h.execOri, h.execXori, h.execLui, h.execShli, h.execShri, h.execSrai, h.execLdw, h.execLdh, h.execLdhu, h.execLdb,
    h.execStw, h.execSth, h.execStb, h.execSys, h.execLput, h.execLget, h.execLadd, h.execLswap, h.execLcas,
    h.execLmax, h.execLmin, h.execEnvOpen, h.execEnvJoin, h.execEnvSeal, h.execEnvAbort, h.execMacq, h.execMsuq,
    h.execMacb8, h.execMacb4, h.execClra, h.execExtq, h.execExtb, h.execSetx, h.execGeta, h.execSeta, h.execBr,
    h.execJal, h.execJr, h.execWait, h.execWaitSlotResume, h.execWaitBeatResume, h.execDone, h.execPeriodStart,
    h.execPeriodDeadline, h.execEnvResultWord, h.execHoldStoreArrival, h.execHoldAcknowledgement, h.execCommitVector,
    h.execEnvCommit, h.execEnvLate, h.execActuatorDecision, h.execActuatorResolve, h.execManifestStart,
    h.execManifestUnload, h.execVerificationFail, h.execVerificationPass, h.execSwapDecision, h.execSwapStart,
    h.execSwapWritesComplete, h.execSwapRelease, h.execTelemetryRecord, h.execTargetStale, h.execForecastDegraded,
    h.execForecastRestored, h.execBackstopRelease, h.execCapReleases, h.execPrechargeComplete, h.execPrechargeTimeout,
    h.execPreRetry, h.execGridLost, h.execGridPresent, h.execRampYieldSet, h.execRampYieldClear, h.execCoolantFault,
    h.execCoolantReq, h.execCoolantThrottle, h.execCoolantClear, h.execNeighbourFault, h.execNeighbourReq,
    h.execNeighbourClear, h.execOrphanTable, h.execDispatchStale, h.execPublicationBoundary, h.execBudgetAck,
    h.execSeqStart, h.execSeqStop, h.execStageTimeout, h.execStopAssert, h.execStageStopped, h.execThrForce,
    h.execLoopSample, h.execSetpointWindow, h.execLoopClear, h.execDownstreamFrame, h.execUpstreamFrame,
    h.execBoardLost, h.execExit, h.execCltWindow, h.execShareUpdate, h.execShedStart, h.execShedRampEnd,
    h.execAllfireLimit, h.execIso, h.execSweepCommand, h.execSweepRecord, h.execSweepComplete, h.execConfigReply,
    h.execFaultFrame, h.execDiagReply, h.execRefReply, h.execPassReply, h.execRefCheckDue, h.execDiagRequest,
    h.execIsoRelease, h.execBalanceWindow, h.execPresenceDetected, h.execPresenceLost, h.execResponse,
    h.execIncrementReply, h.execAuthTimeout, h.execReauth, h.execRestAnchor, h.execChargeLost, h.execRecordPeriod,
    h.execOpenReq, h.execClose, h.execEstimate, h.execDistribute, h.execRootFranked, h.execLedgerKeyReady,
    h.execBatchDelivery, h.execRefusalDelivery, h.execLdgRxHead, h.execLdgBxHead, h.execCopyResilvered,
    h.execControlStep, h.execCalibrationUpdate, h.execThermalStep, h.execFeedLowSet, h.execFeedLowClear,
    h.execAgeingCheck, h.execPcieReset, h.execBusMasterEnable, h.execDataLinkChange, h.execHifChipReset,
    h.execBar2Write, h.execBar2Read, h.execBar2Atomic, h.execBar2ReadTimeout, h.execCqVectorTimer, h.execBar4Write,
    h.execBar4Read, h.execHeartbeat, h.execHostLost, h.execEntdaa, h.execSetEndpointId, h.execRegRead, h.execRegWrite,
    h.execLogRead, h.execLastStatus, h.execPldmSensorRead, h.execRequestUpdate, h.execFirmwareComponentWrite,
    h.execActivateFirmware, h.execCancelUpdate, h.execUpdateAgentTimeout, h.execEnrollOwner, h.execRevokeOwner,
    h.execAdvanceSvn, h.execSetPackIssuer, h.execClearPackIssuer, h.execRotateLedger, h.execEnterRma,
    h.execSecCommandComplete, h.execEntropyHealthChange, h.execGetVersion, h.execGetCapabilities,
    h.execNegotiateAlgorithms, h.execGetDigests, h.execGetCertificate, h.execChallenge, h.execGetMeasurements,
    h.execFuseRomCheck, h.execFirmwareVerify, h.execClocksStart, h.execLpddr5Training, h.execMemoryTest,
    h.execCellBist, h.execFirmwareBroadcast, h.execTopologyDiscovery, h.execManifestLoad, h.execPrechargeEnable,
    h.execStepEnd, h.execStepTimeout, h.execRetrainTurn, h.execRetrainDone, h.execWatchdogExpiry, h.execRungStart,
    h.execContextRungRelease, h.execEngineRungRelease, h.execPartitionRungRetrained, h.execPartitionRungTested,
    h.execPartitionRungReload, h.execPartitionRungRelease, h.execRungRequest, h.execTwinFrame, h.execTwinLinkLost,
    h.execMirroredInject, h.execSelfCheck, h.execTakeoverDecision, h.execSyncSet, h.execReturnOfControl, h.execSwitch,
    h.execSwitchTimeout, h.execCollectionDue, h.execCollectionRequest, h.execCollectionComplete,
    h.execEventRecordWrite, h.execLogClear, h.execLogClearDone, h.execBar0Read, h.execPllLockLoss, h.execTwinLock]

/-! ### The step -/

theorem step (h : Canonical s) : AnswersCanonical (step s) := by
  unfold Machine.step
  split
  · exact .next h.tick
  · exact h.frame.exec

end Canonical

end Sys2Proof.Machine

open Sys2Proof.Machine in
/-- Settles O59: a step is one command, or the passing of a cycle, and every function of the model keeps the canonical forms. -/
theorem canonicalStatesAreKept : Obligations.CanonicalStatesAreKept := by
  intro s t hm hr hst
  exact Canonical.step ⟨hm, hr⟩ t hst

namespace Sys2Proof.Machine

open Sys2Proof.Bits Sys2Proof.Safety

/-! ### Reset columns (R11) -/

theorem resetWord_manStatus : ∀ p < 32, resetWord (0x400100 + 4 * p) = 0 := by decide +kernel
theorem resetWord_boardStatus : ∀ b < 24, resetWord (0x800100 + 4 * b) = 0 := by decide +kernel
theorem resetWord_loopStatus : ∀ k < 512, resetWord (0x700800 + 4 * k) = 0 := by decide +kernel
theorem resetWord_clusterState : ∀ k < 640, resetWord (0x201000 + 4 * k) = 2 := by decide +kernel

/-- The device number of a reset chip stands above the vendor's number, whatever that is. -/
theorem fld_device_or_vendor (v : BitVec 16) : fld (0x03500000#32 ||| v.zeroExtend 32) 16 16 = 0x350 := by
  have hv : (v.zeroExtend 32).toNat / 2 ^ 16 = 0 := by
    rw [BitVec.zeroExtend, BitVec.toNat_setWidth]
    omega
  have h : (0x03500000#32 ||| v.zeroExtend 32).toNat / 2 ^ 16 = 0x350 := by
    rw [BitVec.toNat_or, ← Nat.shiftRight_eq_div_pow, Nat.shiftRight_or_distrib, Nat.shiftRight_eq_div_pow _ 16,
      Nat.shiftRight_eq_div_pow _ 16, hv]
    rfl
  rw [fld, h]
  rfl

/-! ### Reads of a chip that nothing has written -/

theorem State.reset_rd_resetWord {r : Nat} (h : r ∉ [0x100000, 0xE00000, 0x1400000]) : State.reset.rd r = resetWord r := by
  have hr : r ≠ 0x100000 ∧ r ≠ 0xE00000 ∧ r ≠ 0x1400000 := by simpa using h
  obtain ⟨h1, h2, h3⟩ := hr
  simp [State.rd, State.reset, Tab.get, h1, h2, h3]

theorem State.reset_f {F : Fld} (h : F.off ∉ [0x100000, 0xE00000, 0x1400000]) :
    State.reset.f F = fld (resetWord F.off) F.lo F.n := by rw [State.f, State.reset_rd_resetWord h]

theorem State.reset_manStatus {p : Nat} (hp : p < 32) : State.reset.f (Reg.MAN_STATUS_STATE p) = 0 := by
  rw [State.reset_f (by simp [Reg.MAN_STATUS_STATE]; omega)]
  exact congrArg (fld · 0 2) (resetWord_manStatus p hp)

theorem State.reset_bstate {b : Nat} (hb : b < 24) : State.reset.bstate b = 0 := by
  rw [State.bstate, State.reset_f (by simp [Reg.STG_BOARD_STATUS_BSTATE]; omega)]
  exact congrArg (fld · 0 3) (resetWord_boardStatus b hb)

theorem State.reset_lstate {k : Nat} (hk : k < 512) : State.reset.lstate k = 0 := by
  rw [State.lstate, State.reset_f (by simp [Reg.LE_LOOP_STATUS_LSTATE]; omega)]
  exact congrArg (fld · 0 2) (resetWord_loopStatus k hk)

theorem State.reset_cstate {k : Nat} (hk : k < 640) : State.reset.cstate k = 2 := by
  rw [State.cstate, State.reset_f (by simp [Reg.FAB_CLUSTER_STATE_CSTATE]; omega)]
  exact congrArg (fld · 0 2) (resetWord_clusterState k hk)

theorem State.reset_device : State.reset.f Reg.GLB_ID_DEVICE = 0x350 := by
  rw [State.reset_f (by simp [Reg.GLB_ID_DEVICE])]
  exact fld_device_or_vendor Config.vendorId

theorem State.reset_canonical : Canonical State.reset := ⟨rfl, by decide +kernel⟩

end Sys2Proof.Machine

open Sys2Proof.Machine in
/-- Settles O60: the reset state lists three registers and nothing else, so every other register reads its Reset column. -/
theorem resetState : Obligations.ResetState := by
  obtain ⟨hmem, hregs⟩ := State.reset_canonical
  refine ⟨hmem, hregs, rfl, rfl, ?mstate, ?cause, rfl, rfl, rfl, rfl, rfl, rfl, rfl, rfl, fun _ => rfl,
    fun p hp => ⟨rfl, State.reset_manStatus hp⟩, fun _ _ => rfl, fun _ => State.reset_rd_resetWord, ?cores, ?refOk, ?fabLock,
    State.reset_device, ?gstate, ?seqState, fun _ => State.reset_bstate, fun _ => State.reset_lstate,
    fun _ => State.reset_cstate, ?tail, rfl, rfl⟩
  all_goals decide +kernel

namespace Sys2Proof.Machine

open Sys2Proof.Bits Sys2Proof.Safety

/-! ### What a reset does before the chip is reset (Table 1-7) -/

/-- On the way to a reset: the queue of commands, the dead cells and clusters, GLB_STATE and MPW_TRIP stay, and the queue of events only
grows. -/
structure LeadsTo (s t : State) : Prop where
  pending : t.pending = s.pending
  deadCells : t.deadCells = s.deadCells
  deadClusters : t.deadClusters = s.deadClusters
  state : t.rd 0x100 = s.rd 0x100
  trip : t.rd 0xC00054 = s.rd 0xC00054
  queue : s.queueGrows t

namespace LeadsTo

variable {s t u : State}

theorem refl (s : State) : LeadsTo s s := ⟨rfl, rfl, rfl, rfl, rfl, s.queueGrows_refl⟩

theorem trans (h : LeadsTo s t) (h' : LeadsTo t u) : LeadsTo s u :=
  ⟨h'.pending.trans h.pending, h'.deadCells.trans h.deadCells, h'.deadClusters.trans h.deadClusters, h'.state.trans h.state,
   h'.trip.trans h.trip, h.queue.trans h'.queue⟩

/-- An update of none of the fields that stay. -/
theorem frame {beat released cycle power live latchHost latchSide mem kept cells clusters net replies circs routes envs acks parts progs
    rcv runs loops stg mon sst sec grd bud ldg mpw hif bup twn cnt outs free} (h : LeadsTo s t) : LeadsTo s
      ⟨t.pending, beat, released, cycle, power, t.regs, live, latchHost, latchSide, mem, kept, cells, clusters, t.deadCells,
       t.deadClusters, net, replies, circs, routes, envs, acks, parts, progs, rcv, runs, loops, stg, mon, sst, sec, grd, bud, ldg, mpw,
       hif, bup, twn, cnt, t.evl, outs, free⟩ :=
  h.trans ⟨rfl, rfl, rfl, rfl, rfl, t.queueGrows_refl⟩

theorem wr {o : Nat} {w : Word} (h : LeadsTo s t) (ho : 0x100 ≠ o ∧ 0xC00054 ≠ o := by decide) : LeadsTo s (t.wr o w) :=
  h.trans ⟨rfl, rfl, rfl, by rw [State.rd_wr, if_neg ho.1], by rw [State.rd_wr, if_neg ho.2], t.queueGrows_refl⟩

theorem setF {F : Fld} {v : Nat} (h : LeadsTo s t) (ho : 0x100 ≠ F.off ∧ 0xC00054 ≠ F.off := by decide) : LeadsTo s (t.setF F v) :=
  h.wr ho

theorem bump {o : Nat} (h : LeadsTo s t) (ho : 0x100 ≠ o ∧ 0xC00054 ≠ o := by decide) : LeadsTo s (t.bump o) := h.wr ho

theorem ev {code p0 p1 o p : Nat} (h : LeadsTo s t) : LeadsTo s (t.ev code p0 p1 o p) :=
  h.trans ⟨by simp, by simp, by simp, State.rd_ev _ _ _ _ _ _ (by decide), State.rd_ev _ _ _ _ _ _ (by decide), t.queue_ev_prefix ..⟩

theorem andThen (h : LeadsTo s t) (f : LeadsTo s t → LeadsTo s u) : LeadsTo s u := f h

theorem ite {c : Prop} {_ : Decidable c} (ht : LeadsTo s t) (hu : LeadsTo s u) : LeadsTo s (if c then t else u) := by
  split
  · exact ht
  · exact hu

theorem foldl {α : Type} {f : State → α → State} {l : List α} (h : LeadsTo s t) (hf : ∀ t a, LeadsTo s t → LeadsTo s (f t a)) :
    LeadsTo s (l.foldl f t) := by
  induction l generalizing t with
  | nil => exact h
  | cons a l ih => exact ih (hf t a h)

theorem foldl_range {f : State → Nat → State} (n : Nat) (h : LeadsTo s t) (hf : ∀ t a, a < n → LeadsTo s t → LeadsTo s (f t a)) :
    LeadsTo s ((List.range n).foldl f t) := by
  suffices ∀ l : List Nat, (∀ a ∈ l, a < n) → ∀ t, LeadsTo s t → LeadsTo s (l.foldl f t) from
    this _ (fun a => List.mem_range.1) t h
  intro l
  induction l with
  | nil => exact fun _ t h => h
  | cons a l ih => exact fun hl t h => ih (fun b hb => hl b (List.mem_cons_of_mem a hb)) _ (hf t a (hl a List.mem_cons_self) h)

/-! ### The steps of a reset -/

/-- The registers of the boards, the phases and the loads stand apart from GLB_STATE and MPW_TRIP. -/
theorem block_apart {base n : Nat} (hb : 0x400000 ≤ base ∧ base + n < 0xC00000) : 0x100 ≠ base + n ∧ 0xC00054 ≠ base + n := by omega

theorem setBState {b new cause : Nat} (h : LeadsTo s t) (hb : b < 24) : LeadsTo s (t.setBState b new cause) :=
  .ite h (h.setF (block_apart (by omega))).ev

theorem commandLocal {b : Nat} (h : LeadsTo s t) (hb : b < 24) : LeadsTo s (t.commandLocal b) :=
  .ite (andThen h.frame fun h => .ite (h.bump.setBState hb) h) h

theorem setPstates {b : Nat} {new : Nat → Nat} (h : LeadsTo s t) (hb : b < 24) : LeadsTo s (t.setPstates b new) :=
  andThen (h.foldl_range 4 fun _ _ hj h => .ite h
      (andThen (.ite (h.setF (block_apart (by omega))) h) fun h => h.frame.setF (block_apart (by omega)))) fun h =>
    setF (.ite h (h.foldl fun _ _ h => .ite h.frame h)) (block_apart (by omega))

theorem shedTick {b k : Nat} (h : LeadsTo s t) (hb : b < 24) : LeadsTo s (t.shedTick b k) :=
  .ite h (foldl h.frame fun _ _ h => .ite (.ite (h.setPstates hb) h.frame) h)

theorem drive {o : Out} (h : LeadsTo s t) : LeadsTo s (t.drive o) := .ite h.frame h

theorem giveFrame {b k : Nat} {act : Bool} {fr : Bytes} (h : LeadsTo s t) (hb : b < 24) : LeadsTo s (t.giveFrame b k act fr) :=
  andThen ((h.setF.setF (block_apart (by omega))).setF (block_apart (by omega))).frame fun h => drive (.ite h.frame h)

theorem localFrames (h : LeadsTo s t) : LeadsTo s t.localFrames := by
  unfold State.localFrames
  refine h.foldl_range 24 fun u b hb h => ?_
  split
  · exact (h.shedTick hb).giveFrame hb
  · exact h

theorem toGrd {new rank : Nat} (h : LeadsTo s t) : LeadsTo s (t.toGrd new rank) :=
  .ite h (andThen (.ite h.setF.frame h.setF) fun h => andThen (.ite h.bump (.ite h.bump h)) fun h =>
    andThen (.ite h.frame h) fun h => (ite h.frame h).ev)

theorem abandonLoad {p : Nat} (h : LeadsTo s t) (hp : p < 32) : LeadsTo s (t.abandonLoad p) :=
  .ite (((h.wr (block_apart (by omega))).wr (block_apart (by omega))).setF (block_apart (by omega))).frame.ev h

theorem abandonLoads (h : LeadsTo s t) : LeadsTo s ((List.range 32).foldl State.abandonLoad t) :=
  h.foldl_range 32 fun _ _ hp h => h.abandonLoad hp

theorem commandLocals (h : LeadsTo s t) : LeadsTo s ((List.range 24).foldl State.commandLocal t) :=
  h.foldl_range 24 fun _ _ hb h => h.commandLocal hb

end LeadsTo

end Sys2Proof.Machine

namespace Sys2Proof.Machine

open Sys2Proof.Bits Sys2Proof.Safety

/-! ### What a reset leaves (R11, R421) -/

/-- Nothing is left in memory, in the cells, in flight or loaded; the commands that wait and what is dead stay. -/
def Emptied (s t : State) : Prop :=
  t.beat = 0 ∧ t.released = false ∧ t.mem = [] ∧ t.kept = [] ∧ t.cells = [] ∧ t.envs = [] ∧ t.parts = [] ∧ t.progs = [] ∧ t.net = [] ∧
  t.replies = [] ∧ t.circs = [] ∧ t.loops = [] ∧ t.pending = s.pending ∧ t.deadCells = s.deadCells ∧ t.deadClusters = s.deadClusters

/-- The registers of the manifest, grid, budget and loop blocks. -/
abbrev inBlocks (r : Nat) : Prop := 0x400000 ≤ r ∧ r < 0x800000

/-- The registers that a reset's last operations leave alone: GLB_STATE, those of the four blocks, MPW_TRIP, TWN_STATUS and EVL_PWR. -/
abbrev lasting (r : Nat) : Prop := r = 0x100 ∨ inBlocks r ∨ r = 0xC00054 ∨ r = 0x1100008 ∨ r = 0x1300014

/-- The last operations of a reset: they change other registers, the security, host and recovery blocks and the log alone, and the queue
of events only grows. -/
structure Settles (s t : State) : Prop where
  frame : t = { s with regs := t.regs, rcv := t.rcv, sec := t.sec, hif := t.hif, evl := t.evl }
  rd : ∀ r, lasting r → t.rd r = s.rd r
  queue : s.queueGrows t

namespace Settles

variable {s t u : State}

theorem refl (s : State) : Settles s s := ⟨rfl, fun _ _ => rfl, s.queueGrows_refl⟩

theorem trans (h : Settles s t) (h' : Settles t u) : Settles s u := by
  refine ⟨?_, fun r hr => (h'.rd r hr).trans (h.rd r hr), h.queue.trans h'.queue⟩
  rw [h'.frame, h.frame]

/-- A view of the state that reads none of what changes. -/
theorem keeps {α : Sort _} (F : State → α)
    (hF : ∀ (s : State) r v c x e, F { s with regs := r, rcv := v, sec := c, hif := x, evl := e } = F s)
    (h : Settles s t) : F t = F s := by
  rw [h.frame]
  exact hF s ..

theorem wr {o : Nat} {w : Word} (h : Settles s t) (ho : ¬ lasting o) : Settles s (t.wr o w) := by
  refine h.trans ⟨rfl, fun r hr => ?_, t.queueGrows_refl⟩
  rw [State.rd_wr, if_neg]
  rintro rfl
  exact ho hr

theorem setF {F : Fld} {v : Nat} (h : Settles s t) (ho : ¬ lasting F.off := by decide) : Settles s (t.setF F v) := h.wr ho

theorem bump {o : Nat} (h : Settles s t) (ho : ¬ lasting o := by decide) : Settles s (t.bump o) := h.wr ho

theorem blocks {rcv : Rcv} {sec : Sec} {hif : Hif} (h : Settles s t) : Settles s
    ⟨t.pending, t.beat, t.released, t.cycle, t.power, t.regs, t.live, t.latchHost, t.latchSide, t.mem, t.kept, t.cells, t.clusters,
     t.deadCells, t.deadClusters, t.net, t.replies, t.circs, t.routes, t.envs, t.acks, t.parts, t.progs, rcv, t.runs, t.loops, t.stg,
     t.mon, t.sst, sec, t.grd, t.bud, t.ldg, t.mpw, hif, t.bup, t.twn, t.cnt, t.evl, t.outs, t.free⟩ :=
  h.trans ⟨rfl, fun _ _ => rfl, t.queueGrows_refl⟩

theorem renewNonce (h : Settles s t) : Settles s t.renewNonce := h.blocks

theorem ev {code p0 p1 o p : Nat} (h : Settles s t) : Settles s (t.ev code p0 p1 o p) := by
  refine h.trans ⟨?_, fun r hr => State.rd_ev _ _ _ _ _ _ ?_, t.queue_ev_prefix ..⟩
  · conv_lhs => rw [State.ev_frame]
    simp
  · rintro rfl
    exact absurd hr (by decide)

theorem ite {c : Prop} {_ : Decidable c} (ht : Settles s t) (hu : Settles s u) : Settles s (if c then t else u) := by
  split
  · exact ht
  · exact hu

theorem foldl {α : Type} {f : State → α → State} {l : List α} (h : Settles s t) (hf : ∀ t, ∀ a ∈ l, Settles s t → Settles s (f t a)) :
    Settles s (l.foldl f t) := by
  induction l generalizing t with
  | nil => exact h
  | cons a l ih => exact ih (hf t a List.mem_cons_self h) fun t b hb => hf t b (List.mem_cons_of_mem a hb)

theorem logOpen (h : Settles s t) : Settles s t.logOpen := by
  refine .ite h (h.trans ⟨rfl, fun _ _ => rfl, ?_⟩)
  unfold State.queueGrows
  dsimp only
  split
  · exact ⟨[], by simp⟩
  · exact ⟨_, rfl⟩

/-- The clusters that are dead show it again (Table 2-10). -/
theorem deadShown (h : Settles s t) {l : List Nat} (hl : ∀ c ∈ l, c < 640) :
    Settles s (l.foldl (fun t c => t.setF (Reg.FAB_CLUSTER_STATE_CSTATE c) 3) t) :=
  h.foldl fun _ c hc h => h.setF (by have := hl c hc; simp [Reg.FAB_CLUSTER_STATE_CSTATE, lasting, inBlocks]; omega)

theorem restoreOffsets (h : Settles s t) : Settles s t.restoreOffsets := by
  refine h.foldl fun _ d hd h => .ite h (h.setF ?_)
  have := List.mem_range.1 hd
  simp [Reg.MPW_VOLT_OFFSET_MV, lasting, inBlocks]
  omega

theorem alwaysOnCheck (h : Settles s t) : Settles s t.alwaysOnCheck := .ite h h.bump.ev

end Settles

/-! ### Which registers survive -/

theorem survives_inBlocks (f : Bool) {r : Nat} (h : inBlocks r) : survives f r = false := by
  simp [survives, inRow]
  omega

theorem survives_state (f : Bool) : survives f 0x100 = false := by cases f <;> decide +kernel

theorem survives_trip (f : Bool) : survives f 0xC00054 = true := by cases f <;> decide +kernel

theorem nonVolatile_inBlocks {r : Nat} (h : inBlocks r) : nonVolatile r = false := by
  simp [nonVolatile, inRow]
  omega

/-- A register of a state whose table is a filtered one, and lists PM_STATUS and CLK_STATUS. -/
theorem get_filter_put (t : Tab Word) (p : Nat → Bool) {r : Nat} (h1 : r ≠ 0x100000) (h2 : r ≠ 0x1400000) :
    Tab.get (Tab.put (Tab.put (t.filter fun e => p e.1) 0x100000 1 0) 0x1400000 1 0) r (resetWord r) =
      if p r then t.get r (resetWord r) else resetWord r := by
  rw [Tab.get_put_ne _ _ _ _ h2, Tab.get_put_ne _ _ _ _ h1, Tab.get_filter]

/-- What the reset of the chip leaves of a state. -/
structure IsReset (s t : State) : Prop where
  emptied : Emptied s t
  mstate : t.mstate = 1
  cause : t.f Reg.GLB_STATE_LAST_CAUSE = s.f Reg.GLB_STATE_LAST_CAUSE
  trip : t.rd 0xC00054 = s.rd 0xC00054
  blocks : ∀ r, inBlocks r → t.rd r = resetWord r
  queue : s.queueGrows t

variable {s t : State}

theorem IsReset.settle (h : IsReset s t) {u : State} (h' : Settles t u) : IsReset s u where
  emptied := (h'.keeps (Emptied s) fun _ _ _ _ _ _ => rfl).mpr h.emptied
  mstate := (congrArg (fld · 0 4) (h'.rd 0x100 (by decide))).trans h.mstate
  cause := (congrArg (fld · 16 4) (h'.rd 0x100 (by decide))).trans h.cause
  trip := (h'.rd _ (by decide)).trans h.trip
  blocks := fun r hr => (h'.rd r (.inr (.inl hr))).trans (h.blocks r hr)
  queue := h.queue.trans h'.queue

theorem LeadsTo.reset (h : LeadsTo s t) {u : State} (h' : IsReset t u) : IsReset s u where
  emptied := by
    have he := h'.emptied
    unfold Emptied at he ⊢
    rwa [← h.pending, ← h.deadCells, ← h.deadClusters]
  mstate := h'.mstate
  cause := h'.cause.trans (congrArg (fld · 16 4) h.state)
  trip := h'.trip.trans h.trip
  blocks := h'.blocks
  queue := h.queue.trans h'.queue

/-- A field reads as a number of its width. -/
theorem State.f_lt (s : State) (F : Fld) : s.f F < 2 ^ F.n := Nat.mod_lt _ (Nat.two_pow_pos _)

theorem Emptied.setF {F : Fld} {v : Nat} (h : Emptied s t) : Emptied s (t.setF F v) := h

theorem State.queueGrows.setF {F : Fld} {v : Nat} (h : s.queueGrows t) : s.queueGrows (t.setF F v) := h

/-- A state with an emptied chip, and the registers that survive, reads as reset once the cause and the module's name are set again. -/
theorem IsReset.of_base {cause module : Nat} {f : Bool} (he : Emptied s t) (hc : cause = s.f Reg.GLB_STATE_LAST_CAUSE)
    (hr : ∀ r, r ≠ 0x100000 → r ≠ 0x1400000 → t.rd r = if survives f r then s.rd r else resetWord r) (hq : s.queueGrows t) :
    IsReset s ((t.setF Reg.GLB_STATE_LAST_CAUSE cause).setF Reg.TWN_STATUS_MODULE module) where
  emptied := he.setF.setF
  mstate := by
    rw [State.mstate, State.f_setF_apart _ _ _ _ (.inl (by decide)),
      State.f_setF_apart _ _ _ _ (.inr ⟨by decide, .inl (by decide)⟩), State.f,
      show Reg.GLB_STATE_MSTATE.off = 0x100 from rfl, hr _ (by decide) (by decide), survives_state,
      if_neg Bool.false_ne_true]
    decide +kernel
  cause := by
    rw [State.f_setF_apart _ _ _ _ (.inl (by decide)), State.f_setF_self _ _ _ (by decide), hc]
    exact Nat.mod_eq_of_lt (s.f_lt _)
  trip := by
    rw [State.rd_setF_ne _ _ (by decide), State.rd_setF_ne _ _ (by decide), hr _ (by decide) (by decide), survives_trip,
      if_pos rfl]
  blocks := fun r hb => by
    rw [State.rd_setF_ne _ _ (by simp [Reg.TWN_STATUS_MODULE]; omega), State.rd_setF_ne _ _ (by simp [Reg.GLB_STATE_LAST_CAUSE]; omega),
      hr _ (by omega) (by omega), survives_inBlocks f hb, if_neg Bool.false_ne_true]
  queue := hq.setF.setF

theorem State.resetAll_isReset (hd : ∀ c ∈ s.deadClusters, c < 640) : IsReset s s.resetAll := by
  unfold State.resetAll
  extract_lets s1 fusing cause module live kept boards boards' t0 sec t1 t2 t3 t4 t5 t6 hif t7
  have hs : LeadsTo s s1 := .ite (LeadsTo.refl s).ev (.refl s)
  have hdead : s1.deadClusters = s.deadClusters := hs.deadClusters
  have hbase : IsReset s1 ((t1.setF Reg.GLB_STATE_LAST_CAUSE cause).setF Reg.TWN_STATUS_MODULE module) :=
    .of_base (f := fusing) ⟨rfl, rfl, rfl, rfl, rfl, rfl, rfl, rfl, rfl, rfl, rfl, rfl, rfl, rfl, rfl⟩ rfl
      (fun _ => get_filter_put s1.regs (survives fusing)) s1.queueGrows_refl
  have ht1 : t1.deadClusters = s1.deadClusters := rfl
  clear_value s1 fusing cause module live kept boards boards' t1
  have h2 : Settles _ t2 := .renewNonce (.refl ((t1.setF Reg.GLB_STATE_LAST_CAUSE cause).setF Reg.TWN_STATUS_MODULE module))
  have h5 : Settles _ t5 := h2.setF.setF.setF.setF.setF.restoreOffsets
  have h6 : Settles _ t6 := h5.setF
  clear_value t5 t6 hif
  have h7 : Settles _ t7 := .ite h6.blocks h5
  have hdc : t7.deadClusters = s.deadClusters :=
    (h7.keeps State.deadClusters fun _ _ _ _ _ _ => rfl).trans (ht1.trans hdead)
  exact hs.reset (hbase.settle (h7.deadShown (by rwa [hdc])))

end Sys2Proof.Machine

namespace Sys2Proof.Machine

open Sys2Proof.Bits Sys2Proof.Safety

variable {s t : State}

/-! ### Events -/

/-- An event changes registers and the log alone, of the registers the count of drops alone, and stands first among what follows. -/
theorem State.ev_logged (s : State) (code p0 p1 o p : Nat) : regsOnly s (s.ev code p0 p1 o p) ∧
    regsBut s (s.ev code p0 p1 o p) [0x130010C] ∧ raisesAt s (s.ev code p0 p1 o p) code p0 p1 :=
  ⟨s.ev_frame code p0 p1 o p, fun _ hr => s.rd_ev _ _ _ _ _ (List.ne_of_not_mem_cons hr), fun h1 h2 =>
    ⟨_, [], congrArg Evl.queue (s.queue_raise code p0 p1 s.beatLo s.beatHi o p h1 h2), rfl, rfl, rfl, rfl, rfl⟩⟩

/-- An event is raised, and what follows only lets the queue grow. -/
theorem State.queueGrows.raisesAt {code p0 p1 o p : Nat} (h : (s.ev code p0 p1 o p).queueGrows t) : raisesAt s t code p0 p1 := by
  intro h1 h2
  obtain ⟨e, r, hq, he⟩ := (s.ev_logged code p0 p1 o p).2.2 h1 h2
  obtain ⟨r', ht⟩ := h
  exact ⟨e, r ++ r', by rw [ht, hq, List.append_assoc, List.cons_append], he⟩

/-! ### The change to NOT_READY -/

theorem State.toMstate_notReady (s : State) (cause : Nat) : s.toMstate 1 cause =
    ((s.ev 0x0F01 (s.mstate + 16 * 1 + 256 * cause) 0).setF Reg.GLB_STATE_MSTATE 1).setF Reg.GLB_STATE_LAST_CAUSE cause := by
  simp [State.toMstate]

theorem State.cause_toMstate_notReady (s : State) {cause : Nat} (hc : cause < 16) :
    (s.toMstate 1 cause).f Reg.GLB_STATE_LAST_CAUSE = cause := by
  rw [State.toMstate_notReady, State.f_setF_self _ _ _ (by decide)]
  exact Nat.mod_eq_of_lt hc

theorem State.trip_toMstate_notReady (s : State) (cause : Nat) : (s.toMstate 1 cause).rd 0xC00054 = s.rd 0xC00054 := by
  rw [State.toMstate_notReady, State.rd_setF_ne _ _ (by decide), State.rd_setF_ne _ _ (by decide), State.rd_ev _ _ _ _ _ _ (by decide)]

theorem State.evl_toMstate_notReady (s : State) (cause : Nat) :
    (s.toMstate 1 cause).evl = (s.ev 0x0F01 (s.mstate + 16 * 1 + 256 * cause) 0).evl := by
  rw [State.toMstate_notReady, State.setF_evl, State.setF_evl]

/-! ### Whole-chip resets (R11, R30) -/

/-- The module is NOT_READY with a cause, the chip is emptied, and the four blocks read as after reset. -/
def CleanTo (s : State) (cause : Nat) (t : State) : Prop :=
  t.mstate = 1 ∧ t.f Reg.GLB_STATE_LAST_CAUSE = cause ∧ t.beat = 0 ∧ t.released = false ∧ t.mem = [] ∧ t.kept = [] ∧ t.cells = [] ∧
  t.envs = [] ∧ t.parts = [] ∧ t.progs = [] ∧ t.net = [] ∧ t.replies = [] ∧ t.circs = [] ∧ t.loops = [] ∧ t.pending = s.pending ∧
  t.deadCells = s.deadCells ∧ t.deadClusters = s.deadClusters ∧ ∀ r, 0x400000 ≤ r → r < 0x800000 → t.rd r = resetWord r

theorem CleanTo.of_emptied {cause : Nat} (he : Emptied s t) (hm : t.mstate = 1) (hc : t.f Reg.GLB_STATE_LAST_CAUSE = cause)
    (hb : ∀ r, inBlocks r → t.rd r = resetWord r) : CleanTo s cause t := by
  obtain ⟨h1, h2, h3, h4, h5, h6, h7, h8, h9, h10, h11, h12, h13, h14, h15⟩ := he
  exact ⟨hm, hc, h1, h2, h3, h4, h5, h6, h7, h8, h9, h10, h11, h12, h13, h14, h15, fun r h1 h2 => hb r ⟨h1, h2⟩⟩

theorem IsReset.cleanTo (h : IsReset s t) : CleanTo s (s.f Reg.GLB_STATE_LAST_CAUSE) t :=
  .of_emptied h.emptied h.mstate h.cause h.blocks

/-- A clean state is one for every state that has the same commands waiting and the same dead cells and clusters. -/
theorem CleanTo.of_same {u : State} {cause : Nat} (h : CleanTo t cause u) (hp : t.pending = s.pending) (hc : t.deadCells = s.deadCells)
    (hd : t.deadClusters = s.deadClusters) : CleanTo s cause u := by
  unfold CleanTo at h ⊢
  rwa [hp, hc, hd] at h

/-- What a whole-chip reset with a cause makes of a state. -/
structure ResetBy (cause : Nat) (s t : State) : Prop where
  clean : CleanTo s cause t
  trip : t.rd 0xC00054 = s.rd 0xC00054
  queue : (s.ev 0x0F01 (s.mstate + 16 + 256 * cause) 0).queueGrows t

/-- The boards are told and the loads abandoned; then the chip is reset. -/
theorem LeadsTo.isReset (h : LeadsTo s t) (hd : ∀ c ∈ s.deadClusters, c < 640) : IsReset s t.resetAll :=
  h.reset (State.resetAll_isReset (by rwa [h.deadClusters]))

theorem State.wholeReset_resetBy {cause : Nat} (hc : cause < 16) (hd : ∀ c ∈ s.deadClusters, c < 640) :
    ResetBy cause s (s.wholeReset cause) := by
  have hdc : (s.toMstate 1 cause).deadClusters = s.deadClusters := s.toMstate_keeps State.deadClusters (fun _ _ _ => rfl) 1 cause
  have h : IsReset (s.toMstate 1 cause) (s.wholeReset cause) := by
    have hall := (LeadsTo.refl (s.toMstate 1 cause)).toGrd (new := 0) (rank := 0)
      |>.abandonLoads.commandLocals.localFrames.isReset (by rwa [hdc])
    unfold State.wholeReset
    dsimp only
    split
    · exact hall
    · exact hall.settle (Settles.refl _).logOpen
  refine ⟨?_, h.trip.trans (s.trip_toMstate_notReady cause), ?_⟩
  · have hclean := h.cleanTo
    rw [s.cause_toMstate_notReady hc] at hclean
    exact hclean.of_same (s.toMstate_keeps State.pending (fun _ _ _ => rfl) 1 cause)
      (s.toMstate_keeps State.deadCells (fun _ _ _ => rfl) 1 cause) hdc
  · have hq := h.queue
    unfold State.queueGrows at hq
    rwa [s.evl_toMstate_notReady] at hq

theorem ResetBy.raisesAt {cause : Nat} (h : ResetBy cause s t) : raisesAt s t 0xF01 (s.mstate + 16 + 256 * cause) 0 := h.queue.raisesAt

/-! ### Triggers and their ranks (R31) -/

theorem State.outranks_trip (s : State) : s.outranks 2 = s.feedsLost := by simp [State.outranks]

theorem State.outranks_chip (s : State) : s.outranks 3 = (s.feedsLost || s.mpw.trip.isSome) := by simp [State.outranks]

theorem State.outranks_chip_eq_false (s : State) : s.outranks 3 = false ↔ s.feedsLost = false ∧ s.mpw.trip = none := by
  simp [State.outranks_chip]

theorem State.hostReset_acts (hm : s.mstate ≠ 6) (hf : s.feedsLost = false ∧ s.mpw.trip = none) : s.hostReset = s.wholeReset 6 := by
  rw [State.hostReset, if_neg]
  simp [hm, s.outranks_chip_eq_false.2 hf]

theorem State.hostReset_outranked (h : ¬ (s.feedsLost = false ∧ s.mpw.trip = none)) : s.hostReset = s.logTrigger 6 true := by
  have ho : s.outranks 3 = true := by simpa using mt s.outranks_chip_eq_false.1 h
  rw [State.hostReset, if_pos (.inr ho), ho]

theorem State.hostReset_holdup (hm : s.mstate = 6) (hf : s.feedsLost = false ∧ s.mpw.trip = none) :
    s.hostReset = s.logTrigger 6 false := by
  rw [State.hostReset, if_pos (.inl hm), s.outranks_chip_eq_false.2 hf]

/-- An event of another block leaves the triggers' conditions as they are. -/
theorem State.hostReset_ev_acts (code p0 p1 o p : Nat) (hm : s.mstate ≠ 6) (hf : s.feedsLost = false ∧ s.mpw.trip = none) :
    (s.ev code p0 p1 o p).hostReset = (s.ev code p0 p1 o p).wholeReset 6 := by
  have hF : ∀ F : Fld, F.off ≠ Reg.EVL_QDROP_CNT → (s.ev code p0 p1 o p).f F = s.f F := fun F => s.f_ev code p0 p1 o p
  have hst : (s.ev code p0 p1 o p).mstate = s.mstate := hF _ (by decide)
  refine State.hostReset_acts (hst ▸ hm) ⟨?_, by simpa using hf.2⟩
  rw [← hf.1, State.feedsLost, State.feedsLost, State.ev_twn, hst, hF _ (by decide), hF _ (by decide)]

/-! ### A junction trip (R287) -/

section trip

variable (s) (sensor tj : Nat)

/-- MPW_TRIP takes the reading, the sensor and its mark; what is noted for the next start is no register. -/
theorem State.tripLatch_f_eq (F : Fld) : (s.tripLatch sensor tj).f F =
    (((s.setF Reg.MPW_TRIP_TJ tj).setF Reg.MPW_TRIP_SENSOR sensor).setF Reg.MPW_TRIP_VALID 1).f F := by
  simp only [State.tripLatch, State.f, State.rd]

theorem State.tripLatch_f {F : Fld} (h : F.off ≠ 0xC00054) : (s.tripLatch sensor tj).f F = s.f F := by
  rw [State.tripLatch_f_eq, State.f_setF_apart _ _ _ _ (.inl h), State.f_setF_apart _ _ _ _ (.inl h),
    State.f_setF_apart _ _ _ _ (.inl h)]

theorem State.tripLatch_valid : (s.tripLatch sensor tj).f Reg.MPW_TRIP_VALID = 1 := by
  rw [State.tripLatch_f_eq, State.f_setF_self _ _ _ (by decide)]
  rfl

theorem State.tripLatch_sensor (h : sensor < 64) : (s.tripLatch sensor tj).f Reg.MPW_TRIP_SENSOR = sensor := by
  rw [State.tripLatch_f_eq, State.f_setF_apart _ _ _ _ (.inr (by decide)), State.f_setF_self _ _ _ (by decide)]
  exact Nat.mod_eq_of_lt h

theorem State.tripLatch_tj (h : tj < 4096) : (s.tripLatch sensor tj).f Reg.MPW_TRIP_TJ = tj := by
  rw [State.tripLatch_f_eq, State.f_setF_apart _ _ _ _ (.inr (by decide)), State.f_setF_apart _ _ _ _ (.inr (by decide)),
    State.f_setF_self _ _ _ (by decide)]
  exact Nat.mod_eq_of_lt h

theorem State.tripLatch_mstate : (s.tripLatch sensor tj).mstate = s.mstate := s.tripLatch_f sensor tj (by decide)

theorem State.setF_frame (F : Fld) (v : Nat) : ∃ r, s.setF F v = { s with regs := r } := ⟨_, rfl⟩

theorem State.tripLatch_frame : ∃ r m, s.tripLatch sensor tj = { s with regs := r, mpw := m } := by
  obtain ⟨r1, h1⟩ := s.setF_frame Reg.MPW_TRIP_TJ tj
  obtain ⟨r2, h2⟩ := State.setF_frame { s with regs := r1 } Reg.MPW_TRIP_SENSOR sensor
  obtain ⟨r3, h3⟩ := State.setF_frame { s with regs := r2 } Reg.MPW_TRIP_VALID 1
  exact ⟨r3, _, by rw [State.tripLatch, h1, h2, h3]⟩

end trip

/-- Between states that differ in registers and the power block alone, an event that the one raises the other raises. -/
theorem raisesAt_of_frame {u : State} {code p0 p1 : Nat} (hu : ∃ r m, u = { s with regs := r, mpw := m }) (h : raisesAt u t code p0 p1) :
    raisesAt s t code p0 p1 := by
  obtain ⟨r, m, rfl⟩ := hu
  exact h

theorem CleanTo.of_frame {u : State} {cause : Nat} (hu : ∃ r m, u = { s with regs := r, mpw := m }) (h : CleanTo u cause t) :
    CleanTo s cause t := by
  obtain ⟨r, m, rfl⟩ := hu
  exact h

/-- A trip that is logged alone leaves the fabric as it is. -/
theorem logged_of_frame {u : State} {m' : Mpw} {p0 p1 : Nat} (hu : ∃ r m, u = { s with regs := r, mpw := m }) :
    (∀ F : Fld, F.off ≠ Reg.EVL_QDROP_CNT → ({ u.ev 0x0F01 p0 p1 with mpw := m' } : State).f F = u.f F) ∧
    fabricKept s { u.ev 0x0F01 p0 p1 with mpw := m' } ∧ raisesAt s { u.ev 0x0F01 p0 p1 with mpw := m' } 0xF01 p0 p1 := by
  refine ⟨fun F hF => u.f_ev _ _ _ _ _ hF, ?_, raisesAt_of_frame hu (u.ev_logged 0x0F01 p0 p1 0xFFF 0).2.2⟩
  rw [State.ev_frame]
  obtain ⟨r, m, rfl⟩ := hu
  exact ⟨rfl, rfl, rfl, rfl, rfl, rfl, rfl, rfl, rfl⟩

/-- The latched trip is shown by every state whose MPW_TRIP is that of the latch. -/
theorem tripShown (sensor : Fin 40) (tj : BitVec 12)
    (h : ∀ F : Fld, F.off = 0xC00054 → t.f F = (s.tripLatch sensor.val tj.toNat).f F) :
    t.f Reg.MPW_TRIP_VALID = 1 ∧ t.f Reg.MPW_TRIP_TJ = tj.toNat ∧ t.f Reg.MPW_TRIP_SENSOR = sensor.val :=
  ⟨(h _ rfl).trans (s.tripLatch_valid ..), (h _ rfl).trans (s.tripLatch_tj _ _ tj.isLt),
   (h _ rfl).trans (s.tripLatch_sensor _ _ (sensor.isLt.trans (by decide)))⟩

end Sys2Proof.Machine

namespace Sys2Proof.Machine

open Sys2Proof.Bits Sys2Proof.Safety

variable {s t : State}

/-! ### The log reopens (R432) -/

theorem State.logOpen_frame (s : State) : s.logOpen = { s with evl := s.logOpen.evl } := by
  unfold State.logOpen
  split <;> rfl

theorem State.logOpen_closed (s : State) : s.logOpen.evl.closed = false := by
  unfold State.logOpen
  split
  · next h => simpa using h
  · rfl

theorem State.logOpen_recs (s : State) : s.logOpen.evl.recs = s.evl.recs := by
  unfold State.logOpen
  split <;> rfl

/-! ### The feeds return (R421) -/

/-- The reset at the feeds' return: it keeps the cause that the entry to HOLDUP left. -/
theorem State.feedReset_cleanTo (hd : ∀ c ∈ s.deadClusters, c < 640) :
    CleanTo s (s.f Reg.GLB_STATE_LAST_CAUSE)
      ((((List.range 32).foldl State.abandonLoad (s.ev 0x0F01 (6 + 16) 0)).setF Reg.GLB_STATE_MSTATE 1).resetAll.logOpen) := by
  have h : LeadsTo s ((List.range 32).foldl State.abandonLoad (s.ev 0x0F01 (6 + 16) 0)) := (LeadsTo.refl s).ev.abandonLoads
  generalize (List.range 32).foldl State.abandonLoad (s.ev 0x0F01 (6 + 16) 0) = t at h
  have hr : IsReset (t.setF Reg.GLB_STATE_MSTATE 1) (t.setF Reg.GLB_STATE_MSTATE 1).resetAll.logOpen :=
    (State.resetAll_isReset (by rwa [State.setF_deadClusters, h.deadClusters])).settle (Settles.refl _).logOpen
  have hc := hr.cleanTo
  rw [State.f_setF_apart _ _ _ _ (.inr (by decide)), show t.f Reg.GLB_STATE_LAST_CAUSE = _ from congrArg (fld · 16 4) h.state] at hc
  exact hc.of_same h.pending h.deadCells h.deadClusters

/-! ### Power comes (R421) -/

/-- The chip is clean under an update of the registers that leaves GLB_STATE and the four blocks alone. -/
theorem CleanTo.update {cause : Nat} {u : State} (h : CleanTo s cause t) (he : Emptied s t → Emptied s u)
    (hr : ∀ r, r = 0x100 ∨ inBlocks r → u.rd r = t.rd r) : CleanTo s cause u := by
  obtain ⟨hm, hc, h1, h2, h3, h4, h5, h6, h7, h8, h9, h10, h11, h12, h13, h14, h15, hb⟩ := h
  exact .of_emptied (he ⟨h1, h2, h3, h4, h5, h6, h7, h8, h9, h10, h11, h12, h13, h14, h15⟩)
    ((congrArg (fld · 0 4) (hr 0x100 (.inl rfl))).trans hm) ((congrArg (fld · 16 4) (hr 0x100 (.inl rfl))).trans hc)
    fun r hr' => (hr r (.inr hr')).trans (hb r hr'.1 hr'.2)

theorem CleanTo.setF {cause v : Nat} {F : Fld} (h : CleanTo s cause t) (hF : 0x800000 ≤ F.off) : CleanTo s cause (t.setF F v) :=
  h.update Emptied.setF fun _ hr => State.rd_setF_ne _ _ (by rcases hr with rfl | hr <;> omega)

theorem CleanTo.settle {cause : Nat} {u : State} (h : CleanTo s cause t) (h' : Settles t u) : CleanTo s cause u :=
  h.update (h'.keeps (Emptied s) fun _ _ _ _ _ _ => rfl).mpr fun r hr => h'.rd r (hr.imp_right .inl)

theorem CleanTo.deadClusters {cause : Nat} (h : CleanTo s cause t) : t.deadClusters = s.deadClusters := by
  obtain ⟨-, -, -, -, -, -, -, -, -, -, -, -, -, -, -, -, hd, -⟩ := h
  exact hd

/-- What is left empty does not depend on the registers and the blocks' own state. -/
theorem Emptied.frame {cycle power regs live latchHost latchSide clusters routes acks rcv runs stg mon sst sec grd bud ldg mpw hif
    bup twn cnt evl outs free} (h : Emptied s t) : Emptied s
      ⟨t.pending, t.beat, t.released, cycle, power, regs, live, latchHost, latchSide, t.mem, t.kept, t.cells, clusters, t.deadCells,
       t.deadClusters, t.net, t.replies, t.circs, routes, t.envs, acks, t.parts, t.progs, rcv, runs, t.loops, stg, mon, sst, sec, grd,
       bud, ldg, mpw, hif, bup, twn, cnt, evl, outs, free⟩ := h

/-- The start of a module after the power has come: a clean chip with its cause, its place in the pair and its count of starts. -/
structure Started (s : State) (roleB : Bool) (t : State) : Prop where
  clean : CleanTo s 7 t
  power : t.power = true
  module : t.f Reg.TWN_STATUS_MODULE = if roleB then 1 else 0
  starts : t.f Reg.EVL_PWR_POWER_ONS = min (2 ^ 24 - 1) (s.f Reg.EVL_PWR_POWER_ONS + 1)

theorem Started.settle {roleB : Bool} {u : State} (h : Started s roleB t) (h' : Settles t u) : Started s roleB u where
  clean := h.clean.settle h'
  power := (h'.keeps State.power fun _ _ _ _ _ _ => rfl).trans h.power
  module := (congrArg (fld · 0 1) (h'.rd 0x1100008 (by decide))).trans h.module
  starts := (congrArg (fld · 0 24) (h'.rd 0x1300014 (by decide))).trans h.starts

/-- The count of starts and the module's place in the pair are set on a clean chip. -/
theorem Started.of_clean {roleB : Bool} (h : CleanTo s 7 t) (hp : t.power = true) :
    Started s roleB ((t.setF Reg.EVL_PWR_POWER_ONS (satAdd 24 (s.f Reg.EVL_PWR_POWER_ONS) 1)).setF
      Reg.TWN_STATUS_MODULE (ofBool roleB)) where
  clean := (h.setF (by decide)).setF (by decide)
  power := by rw [State.setF_power, State.setF_power, hp]
  module := by
    rw [State.f_setF_self _ _ _ (by decide)]
    cases roleB <;> rfl
  starts := by
    rw [State.f_setF_apart _ _ _ _ (.inl (by decide)), State.f_setF_self _ _ _ (by decide), satAdd]
    exact Nat.mod_eq_of_lt (lt_of_le_of_lt (min_le_left _ _) (by decide))

/-- The chip count and PWR_REQ are cleared together. -/
theorem State.chipHistory_cleared (s : State) (code p0 p1 o p : Nat) :
    (((s.setF Reg.RCV_CHIP_HIST_PWR_REQ 0).setF Reg.RCV_CHIP_HIST_CHIP_CNT 0).ev code p0 p1 o p).f Reg.RCV_CHIP_HIST_PWR_REQ = 0 ∧
    (((s.setF Reg.RCV_CHIP_HIST_PWR_REQ 0).setF Reg.RCV_CHIP_HIST_CHIP_CNT 0).ev code p0 p1 o p).f Reg.RCV_CHIP_HIST_CHIP_CNT = 0 := by
  rw [State.f_ev _ _ _ _ _ _ (by decide), State.f_ev _ _ _ _ _ _ (by decide), State.f_setF_apart _ _ _ _ (.inr (by decide)),
    State.f_setF_self _ _ _ (by decide), State.f_setF_self _ _ _ (by decide)]
  exact ⟨rfl, rfl⟩

theorem State.powerOn_started (removed : Nat) (roleB : Bool) (hd : ∀ c ∈ s.deadClusters, c < 640) :
    Started s roleB (s.powerOn removed roleB) ∧ (1 ≤ removed →
      (s.powerOn removed roleB).f Reg.RCV_CHIP_HIST_PWR_REQ = 0 ∧ (s.powerOn removed roleB).f Reg.RCV_CHIP_HIST_CHIP_CNT = 0) := by
  unfold State.powerOn
  extract_lets t regs ao left recs t1 n t2 t3 t4 t5 t6 t7
  have hreset : Emptied s t := (State.resetAll_isReset hd).emptied
  clear_value t
  have hrd : ∀ r, r ≠ 0x100000 → r ≠ 0x1400000 → t1.rd r = if nonVolatile r then t.rd r else resetWord r :=
    fun _ => get_filter_put t.regs nonVolatile
  have he : Emptied s t1 := hreset.frame
  have hp : t1.power = true := rfl
  clear_value regs ao left recs t1 n
  have hc : CleanTo s 7 t1 := by
    have h100 : t1.rd 0x100 = resetWord 0x100 := by
      rw [hrd _ (by decide) (by decide), if_neg (by decide +kernel)]
    refine .of_emptied he ?_ ?_ fun r hr => ?_
    · exact (congrArg (fld · 0 4) h100).trans (by decide +kernel)
    · exact (congrArg (fld · 16 4) h100).trans (by decide +kernel)
    · rw [hrd _ (by omega) (by omega), nonVolatile_inBlocks hr, if_neg Bool.false_ne_true]
  have h2 : CleanTo s 7 t2 := ((hc.setF (by decide)).setF (by decide)).setF (by decide)
  have hp2 : t2.power = true := by rw [State.setF_power, State.setF_power, State.setF_power, hp]
  clear_value t2
  have h4 : Started s roleB t4 := (Started.of_clean h2 hp2).settle (Settles.refl _).setF
  have hd4 : t4.deadClusters = s.deadClusters := h4.clean.deadClusters
  clear_value t4
  have h6 : Settles t4 t6 := ((Settles.refl t4).deadShown (by rwa [hd4])).logOpen.alwaysOnCheck
  clear_value t6
  split
  · exact ⟨h4.settle (h6.blocks.setF.setF.ev), fun _ => State.chipHistory_cleared ..⟩
  · next h => exact ⟨h4.settle h6, fun h' => absurd h' h⟩

/-! ### What the commands answer -/

section answers

variable {s : State}

theorem execFeedReturn_holdup (hm : s.mstate = 6) (hp : s.power = true)
    (hf : s.f Reg.TWN_FEED_A_STATE = 0 ∨ s.f Reg.TWN_FEED_B_STATE = 0) : execFeedReturn s = .next
      (((List.range 32).foldl State.abandonLoad (s.ev 0x0F01 (6 + 16) 0)).setF Reg.GLB_STATE_MSTATE 1).resetAll.logOpen := by
  rw [execFeedReturn, if_pos ⟨hm, hp, hf⟩]

theorem execFeedReturn_log (hm : s.mstate = 1) (hp : s.power = true) (hc : s.evl.closed = true)
    (hf : s.f Reg.TWN_FEED_A_STATE = 0 ∨ s.f Reg.TWN_FEED_B_STATE = 0) : execFeedReturn s = .next s.logOpen := by
  rw [execFeedReturn, if_neg (by omega), if_pos ⟨hm, hp, hc, hf⟩]

theorem execFeedReturn_none (h : (s.mstate ≠ 6 ∧ (s.mstate ≠ 1 ∨ s.evl.closed = false)) ∨ s.power = false ∨
    (s.f Reg.TWN_FEED_A_STATE ≠ 0 ∧ s.f Reg.TWN_FEED_B_STATE ≠ 0)) : execFeedReturn s = .next s := by
  rw [execFeedReturn, if_neg, if_neg]
  · rintro ⟨hm, hp, hc, hf⟩
    rcases h with ⟨-, h | h⟩ | h | ⟨ha, hb⟩
    · exact h hm
    · simp [h] at hc
    · simp [h] at hp
    · exact hf.elim ha hb
  · rintro ⟨hm, hp, hf⟩
    rcases h with ⟨h, -⟩ | h | ⟨ha, hb⟩
    · exact h hm
    · simp [h] at hp
    · exact hf.elim ha hb

theorem execHifChipReset_key (s : State) : execHifChipReset 0x1C7A0350 s = .next (s.ev 0x0C09 0 0 0x153).hostReset := by
  rw [execHifChipReset, State.chipReset, if_pos (by decide)]

theorem execHifChipReset_other {v : Word} (s : State) (hv : v ≠ 0x1C7A0350) :
    execHifChipReset v s = .next (s.ev 0x0C05 0xD00010 v.toNat 0xFFF 1) := by
  have hn : v.toNat ≠ 0x1C7A0350 := fun h => hv (BitVec.eq_of_toNat_eq h)
  rw [execHifChipReset, State.chipReset, if_neg hn]

theorem execPowerLoss_none (h6 : s.mstate ≠ 6) (h1 : s.mstate ≠ 1 ∨ s.evl.closed = false) : execPowerLoss s = .next s := by
  rw [execPowerLoss, if_neg]
  rintro (h | ⟨h, hc⟩)
  · exact h6 h
  · simp [hc] at h1
    exact h1 h

theorem execJunctionTrip_none (h : s.mpw.trip = none) : execJunctionTrip s = .next s := by rw [execJunctionTrip, h]

theorem execJunctionTrip_outranked {e : Nat × Nat} (h : s.mpw.trip = some e) (hf : s.feedsLost = true) :
    execJunctionTrip s = .next (s.logTrigger 3 true) := by
  simp only [execJunctionTrip, h, s.outranks_trip, hf, if_true, State.outranked]

theorem execJunctionTrip_acts {sensor tj : Nat} (h : s.mpw.trip = some (sensor, tj)) (hf : s.feedsLost = false)
    (hm : s.mstate ≠ 6 ∨ s.evl.closed = true) : execJunctionTrip s = .next ((s.tripLatch sensor tj).wholeReset 3) := by
  have hm' : ¬ (s.mstate = 6 ∧ ¬ s.evl.closed = true) := by tauto
  simp only [execJunctionTrip, h, s.outranks_trip, hf, if_neg hm', Bool.false_eq_true, if_false]

/-- A trip while HOLDUP closes the records is latched and logged, and acts later. -/
theorem execJunctionTrip_waits {sensor tj : Nat} (h : s.mpw.trip = some (sensor, tj)) (hf : s.feedsLost = false) (hm : s.mstate = 6)
    (hc : s.evl.closed = false) : ∃ t, execJunctionTrip s = .next t ∧
      (∀ F : Fld, F.off ≠ Reg.EVL_QDROP_CNT → t.f F = (s.tripLatch sensor tj).f F) ∧ fabricKept s t ∧ t.mpw.tripHeld = true ∧
      raisesAt s t 0xF01 (s.mstate + 16 * s.mstate + 256 * 3) 0 := by
  have hu := s.tripLatch_frame sensor tj
  have hst := s.tripLatch_mstate sensor tj
  refine ⟨{ (s.tripLatch sensor tj).logTrigger 3 false with mpw := { (s.tripLatch sensor tj).mpw with tripHeld := true, trip := none } },
    by simp [execJunctionTrip, h, s.outranks_trip, hf, hm, hc], ?_⟩
  rw [State.logTrigger, hst]
  generalize s.tripLatch sensor tj = u at hu
  obtain ⟨hF, hfab, hra⟩ := logged_of_frame (m' := { u.mpw with tripHeld := true, trip := none })
    (p0 := s.mstate + 16 * s.mstate + 256 * 3) (p1 := 0) hu
  exact ⟨hF, hfab, rfl, hra⟩

/-- A trip that acts is latched, and the chip is reset with cause 3. -/
theorem execJunctionTrip_resets {sensor tj : Nat} (h : s.mpw.trip = some (sensor, tj)) (hf : s.feedsLost = false)
    (hm : s.mstate ≠ 6 ∨ s.evl.closed = true) (hd : ∀ c ∈ s.deadClusters, c < 640) : ∃ t, execJunctionTrip s = .next t ∧
      CleanTo s 3 t ∧ t.rd 0xC00054 = (s.tripLatch sensor tj).rd 0xC00054 ∧ raisesAt s t 0xF01 (s.mstate + 16 + 256 * 3) 0 := by
  refine ⟨_, execJunctionTrip_acts h hf hm, ?_⟩
  have hu := s.tripLatch_frame sensor tj
  have hst := s.tripLatch_mstate sensor tj
  generalize s.tripLatch sensor tj = u at hu hst
  have hr := State.wholeReset_resetBy (s := u) (cause := 3) (by decide) (by obtain ⟨r, m, rfl⟩ := hu; exact hd)
  exact ⟨hr.clean.of_frame hu, hr.trip, hst ▸ raisesAt_of_frame hu hr.raisesAt⟩

end answers

end Sys2Proof.Machine

open Sys2Proof Sys2Proof.Machine Sys2Proof.Safety in
/-- Settles O37: what a reset does first only lets the queue grow (`LeadsTo`), the reset empties the chip (`IsReset`), and what it does
last leaves the registers that the statement reads (`Settles`). -/
theorem resets : Obligations.Resets := by
  intro s v removed roleB hd m clean logged free
  have hlogged : ∀ cause bit, logged cause (Bits.ofBool bit) (s.logTrigger cause bit) := fun _ _ => s.ev_logged ..
  refine ⟨fun hm hf => ⟨_, congrArg Host.Outcome.next (s.hostReset_acts hm hf), ?host⟩,
    fun hf => ⟨_, congrArg Host.Outcome.next (s.hostReset_outranked hf), hlogged 6 true⟩,
    fun hm hf => ⟨_, congrArg Host.Outcome.next (s.hostReset_holdup hm hf), hlogged 6 false⟩, fun hm hf => ?key,
    fun hv => ⟨_, execHifChipReset_other s hv, s.ev_logged ..⟩, fun h => ⟨_, execJunctionTrip_none h, rfl⟩,
    fun sensor tj h => ⟨fun hf => ⟨_, execJunctionTrip_outranked h hf, hlogged 3 true⟩, fun hf hm => ?trip, fun hf hm hc => ?tripHeld⟩,
    fun hm hp hf => ⟨_, execFeedReturn_holdup hm hp hf, s.feedReset_cleanTo hd, State.logOpen_closed _⟩,
    fun hm hp hc hf => ⟨_, execFeedReturn_log hm hp hc hf, s.logOpen_frame, s.logOpen_closed, s.logOpen_recs⟩,
    fun h => ⟨_, execFeedReturn_none h, rfl⟩, fun h => ⟨_, congrArg Host.Outcome.next (if_pos h), rfl⟩,
    fun h6 h1 => ⟨_, execPowerLoss_none h6 h1, rfl⟩, fun hp => ⟨_, congrArg Host.Outcome.next (if_pos hp), rfl⟩,
    fun hp => ⟨_, congrArg Host.Outcome.next (if_neg (by simp [hp])), ?start⟩⟩
  case host =>
    have h := State.wholeReset_resetBy (cause := 6) (by decide) hd
    exact ⟨h.clean, h.raisesAt⟩
  case key =>
    have h := State.wholeReset_resetBy (s := s.ev 0x0C09 0 0 0x153) (cause := 6) (by decide) (by simpa using hd)
    exact ⟨_, (execHifChipReset_key s).trans (congrArg Host.Outcome.next (State.hostReset_ev_acts 0x0C09 0 0 0x153 0 hm hf)),
      h.clean.of_same (by simp) (by simp) (by simp),
      State.queueGrows.raisesAt (State.queueGrows.trans (State.queue_ev_prefix ..) h.queue)⟩
  case trip =>
    obtain ⟨t, ht, hclean, htrip, hra⟩ := execJunctionTrip_resets h hf hm hd
    obtain ⟨hv, htj, hs⟩ := tripShown (s := s) (t := t) sensor tj fun F hF => by simp only [State.f, hF, htrip]
    exact ⟨t, ht, hclean, hv, htj, hs, hra⟩
  case tripHeld =>
    obtain ⟨t, ht, hF, hfab, hheld, hra⟩ := execJunctionTrip_waits h hf hm hc
    obtain ⟨hv, htj, hs⟩ := tripShown (s := s) (t := t) sensor tj fun F hoff => hF F (by rw [hoff]; decide)
    have hst : t.mstate = s.mstate := (hF Reg.GLB_STATE_MSTATE (by decide)).trans (s.tripLatch_mstate ..)
    exact ⟨t, ht, hst.trans hm, hfab, hheld, hv, htj, hs, hra⟩
  case start =>
    obtain ⟨h, hremoved⟩ := State.powerOn_started removed roleB hd
    exact ⟨h.clean, h.power, h.module, h.starts, hremoved⟩

namespace Sys2Proof.Bits

/-! ### Little-endian bytes (R5) -/

theorem leNum_lt (b : Bytes) (i n : Nat) : le b i n < 256 ^ n := by
  induction n generalizing i with
  | zero => exact Nat.one_pos
  | succ n ih =>
    have hb := (byteAt b i).isLt
    have := ih (i + 1)
    rw [le, Nat.pow_succ]
    omega

/-- A byte of the number is the byte of the string. -/
theorem leNum_byte (b : Bytes) (i n k : Nat) (hk : k < n) : le b i n / 256 ^ k % 256 = (byteAt b (i + k)).toNat := by
  induction n generalizing i k with
  | zero => exact absurd hk (Nat.not_lt_zero k)
  | succ n ih =>
    have hb := (byteAt b i).isLt
    cases k with
    | zero => simp only [le, Nat.add_zero, Nat.pow_zero]; omega
    | succ k =>
      rw [le, Nat.pow_succ', ← Nat.div_div_eq_div_mul, show ((byteAt b i).toNat + 256 * le b (i + 1) n) / 256 = le b (i + 1) n by omega,
        ih (i + 1) k (by omega), Nat.add_right_comm, Nat.add_assoc]

theorem leNum_congr {b c : Bytes} {i j : Nat} (n : Nat) (h : ∀ k, k < n → byteAt b (i + k) = byteAt c (j + k)) : le b i n = le c j n := by
  induction n generalizing i j with
  | zero => rfl
  | succ n ih =>
    have h0 : byteAt b i = byteAt c j := h 0 (Nat.succ_pos n)
    have hr : le b (i + 1) n = le c (j + 1) n := ih fun k hk => by
      rw [Nat.add_assoc, Nat.add_assoc, Nat.add_comm 1 k]
      exact h (k + 1) (by omega)
    rw [le, le, h0, hr]

theorem byteAt_toLe (n v k : Nat) (hk : k < n) : byteAt (toLe n v) k = BitVec.ofNat 8 (v / 256 ^ k) := by
  induction n generalizing v k with
  | zero => exact absurd hk (Nat.not_lt_zero k)
  | succ n ih =>
    cases k with
    | zero => simp [byteAt, toLe]
    | succ k =>
      have := ih (v / 256) k (by omega)
      rwa [Nat.div_div_eq_div_mul, ← Nat.pow_succ'] at this

/-- A byte of a patched string is of the patch inside it, and of the string outside. -/
theorem byteAt_patch (b d : Bytes) (i k : Nat) (h : i + d.length ≤ b.length) :
    byteAt (patch b i d) k = if i ≤ k ∧ k < i + d.length then byteAt d (k - i) else byteAt b k := by
  have hd : d.take (b.length - i) = d := List.take_of_length_le (by omega)
  have hi : (b.take i).length = i := by rw [List.length_take]; omega
  simp only [byteAt, patch, hd, List.append_assoc, List.getD_eq_getElem?_getD]
  by_cases h1 : k < i
  · rw [List.getElem?_append_left (by omega), List.getElem?_take_of_lt h1, if_neg (by omega)]
  · rw [List.getElem?_append_right (by omega), hi]
    by_cases h2 : k < i + d.length
    · rw [List.getElem?_append_left (by omega), if_pos (by omega)]
    · rw [List.getElem?_append_right (by omega), List.getElem?_drop, if_neg (by omega)]
      congr 2
      omega

end Sys2Proof.Bits

namespace Sys2Proof.Machine

open Sys2Proof.Bits Sys2Proof.Safety

variable {s : State}

/-! ### The word of a host write (log entry 55) -/

/-- The register as it stands for the bytes that a host write leaves out. -/
theorem State.lanes_eq (s : State) (off : Nat) (d : Bytes) : s.lanes off d = BitVec.ofNat 32 (le (patch (toLe 4
    (s.latest (off / 4 * 4) &&& ~~~(BitVec.ofNat 32 (((rowOf (off / 4 * 4)).map (·.rw1c)).getD 0))).toNat) (off % 4) d) 0 4) := by
  have h : (match rowOf (off / 4 * 4) with | some r => r.rw1c | none => 0) = ((rowOf (off / 4 * 4)).map (·.rw1c)).getD 0 := by
    split
    · next r h => rw [h]; rfl
    · next h => rw [h]; rfl
  rw [← h]
  rfl

theorem State.lanes_byte (s : State) (off k : Nat) (d : Bytes) (hk : k < 4) (hd : off % 4 + d.length ≤ 4) :
    (s.lanes off d).toNat / 2 ^ (8 * k) % 256 =
      if off % 4 ≤ k ∧ k < off % 4 + d.length then (d.getD (k - off % 4) 0).toNat
      else (s.latest (off / 4 * 4) &&& ~~~(BitVec.ofNat 32 (((rowOf (off / 4 * 4)).map (·.rw1c)).getD 0))).toNat / 2 ^ (8 * k) % 256 := by
  rw [State.lanes_eq]
  generalize (s.latest (off / 4 * 4) &&& _).toNat = w
  rw [BitVec.toNat_ofNat, Nat.mod_eq_of_lt (b := 2 ^ 32) (leNum_lt _ 0 4), Nat.pow_mul, show (2 : Nat) ^ 8 = 256 from rfl,
    leNum_byte _ 0 4 k hk, Nat.zero_add,
    byteAt_patch _ _ _ _ (by simpa using hd), byteAt_toLe 4 w k hk]
  split
  · rfl
  · rw [BitVec.toNat_ofNat]

/-- A whole word is written as it comes. -/
theorem State.lanes_whole (s : State) {off : Nat} {d : Bytes} (ho : off % 4 = 0) (hd : d.length = 4) :
    s.lanes off d = BitVec.ofNat 32 (le d 0 4) := by
  rw [State.lanes_eq, ho]
  refine congrArg _ (leNum_congr 4 fun k hk => ?_)
  rw [byteAt_patch _ _ _ _ (by simp [hd]), if_pos (by omega), Nat.zero_add, Nat.sub_zero]

theorem byteAt_drop (b : Bytes) (n k : Nat) : byteAt (b.drop n) k = byteAt b (n + k) := by
  simp [byteAt, List.getD_eq_getElem?_getD]

/-! ### The host's writes and the side-band's (R297, R313) -/

theorem execRegisterWrite_off {off : BitVec 25} {data : Bytes} (hp : s.power = false) : execRegisterWrite off data s = .next s := by
  rw [execRegisterWrite, if_pos (by simp [hp])]

/-- A host write within a register is one of the whole register. -/
theorem execRegisterWrite_word {off : BitVec 25} {data : Bytes} (hp : s.power = true) (hd : data ≠ [])
    (hl : off.toNat % 4 + data.length ≤ 4) : execRegisterWrite off data s = .next (s.regWrite .host off.toNat (s.lanes off.toNat data)).1 := by
  rw [execRegisterWrite, if_neg (by simp [hp, hd]), List.take_of_length_le (by omega), if_neg (by omega)]

/-- A host write of 8 bytes is one of the lower word, and then one of the upper. -/
theorem execRegisterWrite_pair {off : BitVec 25} {data : Bytes} (hp : s.power = true) (hl : data.length = 8) (ho : off.toNat % 8 = 0)
    {t : State} (ht : execRegisterWrite off (data.take 4) s = .next t) (htp : t.power = true) :
    execRegisterWrite off data s = execRegisterWrite (off + 4) (data.drop 4) t := by
  have htake : (data.take 4).length = 4 := by simp [hl]
  have hdrop : (data.drop 4).length = 4 := by simp [hl]
  have hoff : (off + 4).toNat = off.toNat + 4 := by
    have := off.isLt
    rw [BitVec.toNat_add]
    show (off.toNat + 4) % 2 ^ 25 = _
    omega
  rw [execRegisterWrite_word hp (List.ne_nil_of_length_pos (by omega)) (by omega)] at ht
  obtain rfl := Host.Outcome.next.inj ht
  rw [execRegisterWrite_word htp (List.ne_nil_of_length_pos (by omega)) (by omega), hoff, State.lanes_whole _ (by omega) hdrop,
    leNum_congr 4 (c := data) (j := 4) fun k _ => by rw [byteAt_drop, Nat.zero_add]]
  have hne : data ≠ [] := List.ne_nil_of_length_pos (by omega)
  rw [execRegisterWrite, if_neg (by simp [hp, hne]), if_pos ⟨hl, by omega⟩, show 4 - off.toNat % 4 = 4 by omega]

/-- REG_WRITE under the module's own IANA number is a side-band write. -/
theorem execRegWrite_own (s : State) (off : BitVec 25) (v : Word) :
    execRegWrite (s.rd 0xD0001C) off v s = .next (s.sideWrite (off.toNat / 4 * 4) v) := by
  rw [execRegWrite, State.vendor, if_pos rfl]

theorem execRegWrite_other {iana : Word} (off : BitVec 25) (v : Word) (h : iana ≠ s.rd 0xD0001C) :
    execRegWrite iana off v s = .next (s.out (.sideband 0x30 [])) := by
  rw [execRegWrite, State.vendor, if_neg h]

end Sys2Proof.Machine

namespace Sys2Proof.Machine

open Sys2Proof.Bits Sys2Proof.Safety

variable {s t u : State} {path : Path} {at_ o : Nat} {v x : Word} {r : WRow}

/-! ### What a write of a register answers, case by case (R9) -/

section writeCases

variable (ho : at_ / 4 * 4 = o)
include ho

theorem regWrite_reserved (hr : rowOf o = none) :
    s.regWrite path at_ v = (if reportedRo.any fun e => inRow o e.1 4 e.2 then s.refuseWrite path o v else s, ignored) := by
  rw [State.regWrite, ho, hr]

section row

variable (hr : rowOf o = some r) (hrung : o ≠ 0x1000008) (hman : inRow o 0x400000 4 32 = false)
include hr hrung hman

theorem regWrite_locked (hl : (inStepOff o = true ∧ s.mstate = 4) ∨ s.locked r o v = true) :
    s.regWrite path at_ v = (s.refuseWrite path o v, 0x20) := by
  simp only [State.regWrite, ho, hr, if_neg hrung, hman, Bool.false_eq_true, if_false, if_pos hl]

variable (hl : ¬ ((inStepOff o = true ∧ s.mstate = 4) ∨ s.locked r o v = true))
include hl

theorem regWrite_outOfRange (hx : outOfRange o v = true ∨ s.relationBad o v = true) :
    s.regWrite path at_ v = (s.refuseWrite path o v, ignored) := by
  simp only [State.regWrite, ho, hr, if_neg hrung, hman, Bool.false_eq_true, if_false, if_neg hl, if_pos hx]

variable (hx : ¬ (outOfRange o v = true ∨ s.relationBad o v = true))
include hx

theorem regWrite_ignored (hi : s.ignores o v.toNat = true) : s.regWrite path at_ v = (s.applyWrite path r o v, ignored) := by
  simp only [State.regWrite, ho, hr, if_neg hrung, hman, Bool.false_eq_true, if_false, if_neg hl, if_neg hx, hi, if_true]

variable (hi : s.ignores o v.toNat = false)
include hi

theorem regWrite_mirrored (hm : inStepOff o = true ∧ s.twinActive = true) :
    s.regWrite path at_ v = (s.mirror (.write o v path), 0) := by
  simp only [State.regWrite, ho, hr, if_neg hrung, hman, Bool.false_eq_true, if_false, if_neg hl, if_neg hx, hi, if_pos hm]

theorem regWrite_accepted (hm : ¬ (inStepOff o = true ∧ s.twinActive = true)) : s.regWrite path at_ v =
    ((if s.roTouched r o v then s.refuseWrite path o v else s).applyWrite path r o v, 0) := by
  simp only [State.regWrite, ho, hr, if_neg hrung, hman, Bool.false_eq_true, if_false, if_neg hl, if_neg hx, hi, if_neg hm]

end row
end writeCases

/-! ### What a writer is answered -/

/-- A path of the two: the host's writes are answered by nothing, those of the side-band by a status. -/
def pathOf (ack : Bool) : Path := if ack then .sideband else .host

/-- The state after a write of a register and its answer. -/
def answer (ack : Bool) (o : Nat) (v : Word) (q : State × Nat) : State :=
  if ack then
    if q.2 = ignored then (q.1.out (.sideband q.1.freeStatus [])).useFree
    else (if q.2 = 0 then q.1.ev 0x0C0A o v.toNat 0x153 2 else q.1).out (.sideband q.2 [])
  else q.1

theorem State.sideWrite_answer (s : State) {o : Nat} (v : Word) (hh : inHif o = false) (hs : alwaysOn o = true ∨ s.mainServes = true) :
    s.sideWrite o v = answer true o v (s.regWrite .sideband o v) := by
  rw [State.sideWrite, if_neg (by simp [hh]), if_neg (not_not.2 hs)]
  rfl

theorem State.sideWrite_inHif (s : State) {o : Nat} (v : Word) (hh : inHif o = true) : s.sideWrite o v = s.out (.sideband 0x20 []) := by
  rw [State.sideWrite, if_pos hh]

theorem State.sideWrite_notServed (s : State) {o : Nat} (v : Word) (hh : inHif o = false) (ha : alwaysOn o = false)
    (hm : s.mainServes = false) : s.sideWrite o v = s.out (.sideband 0x30 []) := by
  rw [State.sideWrite, if_neg (by simp [hh]), if_pos (by simp [ha, hm])]

/-- What a status of the side-band adds to the outputs. -/
def told (ack : Bool) (st : Nat) : List Out := if ack then [.sideband st []] else []

/-- Nothing but the outputs, and the free values where a status is free, tells the answer of a write that is not accepted from its state. -/
theorem answer_frame (ack : Bool) (o : Nat) (v : Word) {q : State × Nat} (h0 : q.2 ≠ 0) :
    ∃ n, answer ack o v q = { q.1 with outs := q.1.outs ++ told ack (if q.2 = ignored then q.1.freeStatus else q.2), free := n } ∧
      (ack = false → n = q.1.free) := by
  cases ack
  · exact ⟨q.1.free, by simp [answer, told], fun _ => rfl⟩
  · by_cases h : q.2 = ignored
    · exact ⟨q.1.free + 1, by simp [answer, told, h, State.out, State.useFree], nofun⟩
    · exact ⟨q.1.free, by simp [answer, told, h, h0, State.out], nofun⟩

/-! ### Refusals -/

theorem fabricKept_of_regsOnly (h : regsOnly s t) : fabricKept s t := by
  rw [regsOnly] at h
  rw [h]
  exact ⟨rfl, rfl, rfl, rfl, rfl, rfl, rfl, rfl, rfl⟩

/-- What an event names and where it stands depend on the log and the beat counter alone. -/
theorem raisesAt_congr {code p0 p1 : Nat} (he : u.evl = s.evl) (hb : u.beat = s.beat) (h : raisesAt u t code p0 p1) :
    raisesAt s t code p0 p1 := by
  unfold Safety.raisesAt raises at h ⊢
  rwa [he, hb] at h

/-- A refusal is an event of its block, or nothing. -/
theorem State.refuseWrite_eq (s : State) (path : Path) (o : Nat) (v : Word) :
    (refusalOf o).1 = 0 ∧ s.refuseWrite path o v = s ∨
    (refusalOf o).1 ≠ 0 ∧ s.refuseWrite path o v = s.ev (refusalOf o).1 o v.toNat (refusalOf o).2 (pathCode path) := by
  by_cases h : (refusalOf o).1 = 0
  · exact .inl ⟨h, if_pos h⟩
  · exact .inr ⟨h, if_neg h⟩

theorem State.refuseWrite_logged (s : State) (path : Path) (o : Nat) (v : Word) : regsOnly s (s.refuseWrite path o v) ∧
    regsBut s (s.refuseWrite path o v) [0x130010C] ∧
    ((refusalOf o).1 ≠ 0 → raisesAt s (s.refuseWrite path o v) (refusalOf o).1 o v.toNat) := by
  rcases s.refuseWrite_eq path o v with ⟨h, he⟩ | ⟨-, he⟩
  · rw [he]
    exact ⟨rfl, fun _ _ => rfl, fun h' => absurd h h'⟩
  · obtain ⟨h1, h2, h3⟩ := s.ev_logged (refusalOf o).1 o v.toNat (refusalOf o).2 (pathCode path)
    rw [he]
    exact ⟨h1, h2, fun _ => h3⟩

/-- The write is refused: its block's event, the status to a writer who gets one, and nothing else. -/
def Refused (s : State) (o : Nat) (x : Word) (ack : Bool) (st : Nat) (t : State) : Prop :=
  regsBut s t [0x130010C] ∧ fabricKept s t ∧ t.outs = s.outs ++ (if ack then [.sideband st []] else []) ∧ (ack = false → regsOnly s t) ∧
  ((refusalOf o).1 ≠ 0 → raisesAt s t (refusalOf o).1 o x.toNat)

theorem refused_answer (s : State) (path : Path) (o : Nat) (x : Word) (ack : Bool) {code : Nat} (h0 : code ≠ 0) :
    Refused s o x ack (if code = ignored then s.freeStatus else code) (answer ack o x (s.refuseWrite path o x, code)) := by
  obtain ⟨hregs, hbut, hraise⟩ := s.refuseWrite_logged path o x
  generalize s.refuseWrite path o x = u at hregs hbut hraise
  obtain ⟨n, he, hn⟩ := answer_frame ack o x (q := (u, code)) h0
  have hfree : u.freeStatus = s.freeStatus := by rw [hregs]; rfl
  have houts : u.outs = s.outs := by rw [hregs]
  have hfab := fabricKept_of_regsOnly hregs
  rw [he]
  refine ⟨hbut, hfab, ?_, fun ha => ?_, fun hr => hraise hr⟩
  · show u.outs ++ _ = _
    rw [houts, ← hfree]
    rfl
  · subst ha
    rw [hn rfl]
    show ({ u with outs := u.outs ++ told false _ } : State) = _
    rw [told, if_neg Bool.false_ne_true, List.append_nil]
    exact hregs

/-! ### Mirrored writes (R375) -/

theorem le_mirrorBeat (m : List (Nat × Mirrored)) (size b n : Nat) : b ≤ mirrorBeat m size b n := by
  induction n generalizing b with
  | zero => exact Nat.le_refl b
  | succ n ih =>
    rw [mirrorBeat]
    split
    · exact Nat.le_refl b
    · exact (Nat.le_succ b).trans (ih (b + 1))

/-- A write joins the mirrored records of a beat that is not over. -/
theorem State.mirror_write (s : State) (o : Nat) (v : Word) (path : Path) : ∃ b, s.beat.toNat ≤ b ∧
    s.mirror (.write o v path) = { s with twn := { s.twn with mirror := s.twn.mirror ++ [(b, .write o v path)] } } := by
  refine ⟨_, ?_, rfl⟩
  refine Nat.le_trans ?_ (le_mirrorBeat ..)
  split
  · exact Nat.le_max_right _ _
  · exact Nat.le_refl _

end Sys2Proof.Machine

namespace Sys2Proof.Machine

open Sys2Proof.Bits Sys2Proof.Safety

variable {s t u : State} {path : Path} {o : Nat} {v x : Word} {r : WRow}

/-! ### Registers that start no operation -/

/-- A register whose accepted writes set fields and start nothing. -/
def Ordinary (o : Nat) : Prop := o ∉ [0x104, 0x200010, 0x500004, 0x500018, 0x600000, 0x600030, 0x600040, 0x800004, 0x800014, 0x900010,
    0x900014, 0xA00018, 0xB00050, 0xB00068, 0xD00004, 0xD00010, 0xE00004, 0xF00000, 0x1000008, 0x1100004, 0x1200000, 0x1300008] ∧
  inRow o 0x400000 4 32 = false ∧ inRow o 0x700000 4 512 = false ∧ inRow o 0xD01000 4 64 = false ∧ inRow o 0xD80000 4 1024 = false

theorem State.applyWrite_ordinary (s : State) (path : Path) (r : WRow) (v : Word) (h : Ordinary o) :
    s.applyWrite path r o v = s.plain r o v := by
  obtain ⟨hn, -, hle, hsq, hmsix⟩ := h
  simp only [List.mem_cons, List.not_mem_nil, or_false, not_or] at hn
  simp only [State.applyWrite, hle, hsq, hmsix, Bool.false_eq_true, if_false, hn]

/-- Such a register takes every write. -/
theorem State.ignores_ordinary (s : State) (n : Nat) (h : Ordinary o) : s.ignores o n = false := by
  obtain ⟨hn, hman, -⟩ := h
  simp only [List.mem_cons, List.not_mem_nil, or_false, not_or] at hn
  simp only [State.ignores, hman, Bool.false_eq_true, if_false, hn]

theorem State.plain_frame (s : State) (r : WRow) (o : Nat) (v : Word) : s.plain r o v = { s with regs := (s.plain r o v).regs } := rfl

/-- The writable bits are taken, and bits of class RW1C cleared by 1 (Table 0-3). -/
theorem State.rd_plain (s : State) (r : WRow) (o : Nat) (v : Word) (i : Nat) : (s.plain r o v).rd i =
    if i = o then ((s.rd o &&& ~~~(v &&& BitVec.ofNat 32 r.rw1c)) &&& ~~~(BitVec.ofNat 32 (r.rw + r.rws + r.rwl))) |||
      (v &&& BitVec.ofNat 32 (r.rw + r.rws + r.rwl)) else s.rd i := State.rd_wr ..

/-- The count of dropped events is no register that a write reaches. -/
theorem ne_qdrop_of_rowOf (h : rowOf o = some r) : o ≠ 0x130010C := by
  rintro rfl
  have hn : rowOf 0x130010C = none := by decide +kernel
  rw [hn] at h
  cases h

/-- Of the blocks where a write of read-only bits is an event, each has one (R333, R405). -/
theorem refusalOf_roTouched (h : s.roTouched r o v = true) : (refusalOf o).1 ≠ 0 := by
  simp only [State.roTouched, Bool.and_eq_true, decide_eq_true_eq] at h
  obtain ⟨h | h, -⟩ := h <;> rw [refusalOf, h] <;> decide

/-- What an accepted write of such a register leaves, before the side-band's own event. -/
theorem accepted_plain (s : State) (path : Path) (x : Word) (hrow : rowOf o = some r) :
    let u := (if s.roTouched r o x then s.refuseWrite path o x else s).plain r o x
    let m := BitVec.ofNat 32 (r.rw + r.rws + r.rwl)
    let old := s.rd o &&& ~~~(x &&& BitVec.ofNat 32 r.rw1c)
    regsOnly s u ∧ regsBut s u [o, 0x130010C] ∧ u.rd o = (old &&& ~~~m) ||| (x &&& m) ∧
    (s.roTouched r o x = true → ∃ org p, (s.ev (refusalOf o).1 o x.toNat org p).queueGrows u) ∧
    (s.roTouched r o x = false → u.evl = s.evl) := by
  intro u m old
  have hq := ne_qdrop_of_rowOf hrow
  obtain ⟨w, hw, hregs, hbut, hraise, hsame⟩ : ∃ w, u = w.plain r o x ∧ regsOnly s w ∧ regsBut s w [0x130010C] ∧
      (s.roTouched r o x = true → ∃ org p, w = s.ev (refusalOf o).1 o x.toNat org p) ∧ (s.roTouched r o x = false → w = s) := by
    refine ⟨_, rfl, ?_⟩
    cases hro : s.roTouched r o x
    · exact ⟨rfl, fun _ _ => rfl, nofun, fun _ => rfl⟩
    · obtain ⟨h1, h2, -⟩ := s.refuseWrite_logged path o x
      rcases s.refuseWrite_eq path o x with ⟨h, -⟩ | ⟨-, he⟩
      · exact absurd h (refusalOf_roTouched hro)
      · exact ⟨h1, h2, fun _ => ⟨_, _, he⟩, nofun⟩
  clear_value u
  have ho : w.rd o = s.rd o := hbut o (by simpa using hq)
  refine ⟨?_, fun i hi => ?_, ?_, fun hro => ?_, fun hro => ?_⟩
  · rw [regsOnly] at hregs ⊢
    rw [hw, w.plain_frame, hregs]
  · have hio : i ≠ o := List.ne_of_not_mem_cons hi
    rw [hw, State.rd_plain, if_neg hio]
    exact hbut i (List.not_mem_of_not_mem_cons hi)
  · rw [hw, State.rd_plain, if_pos rfl, ho]
  · obtain ⟨org, p, he⟩ := hraise hro
    exact ⟨org, p, [], by rw [hw, w.plain_frame, he, List.append_nil]⟩
  · rw [hw, w.plain_frame, hsame hro]

/-- The write is accepted: the writable bits are set, its event follows on the side-band, and nothing else changes. -/
def Accepted (s : State) (o : Nat) (r : WRow) (x : Word) (ack : Bool) (t : State) : Prop :=
  regsBut s t [o, 0x130010C] ∧ fabricKept s t ∧ t.outs = s.outs ++ (if ack then [.sideband 0 []] else []) ∧
  t.rd o = ((s.rd o &&& ~~~(x &&& BitVec.ofNat 32 r.rw1c)) &&& ~~~(BitVec.ofNat 32 (r.rw + r.rws + r.rwl))) |||
    (x &&& BitVec.ofNat 32 (r.rw + r.rws + r.rwl)) ∧
  (ack = false → regsOnly s t) ∧ (s.roTouched r o x = true → raisesAt s t (refusalOf o).1 o x.toNat) ∧
  (s.roTouched r o x = false → (ack = false → t.evl = s.evl) ∧ (ack = true → raisesAt s t 0xC0A o x.toNat))

theorem answer_host (o : Nat) (x : Word) (q : State × Nat) : answer false o x q = q.1 := rfl

/-- The side-band's answer to an accepted write: event 0x0C0A and OK. -/
theorem answer_ok (o : Nat) (x : Word) (u : State) :
    answer true o x (u, 0) = { u.ev 0x0C0A o x.toNat 0x153 2 with outs := u.outs ++ [.sideband 0 []] } := by
  simp [answer, ignored, State.out]

theorem accepted_answer (s : State) (path : Path) (x : Word) (ack : Bool) (hrow : rowOf o = some r) :
    Accepted s o r x ack (answer ack o x ((if s.roTouched r o x then s.refuseWrite path o x else s).plain r o x, 0)) := by
  have hq := ne_qdrop_of_rowOf hrow
  obtain ⟨hregs, hbut, hrd, hraise, hsame⟩ := accepted_plain s path x hrow
  generalize (if s.roTouched r o x then s.refuseWrite path o x else s).plain r o x = u at *
  have hbeat : u.beat = s.beat := by rw [hregs]
  have houts : u.outs = s.outs := by rw [hregs]
  cases ack
  · refine ⟨hbut, fabricKept_of_regsOnly hregs, ?_, hrd, fun _ => hregs, fun hro => ?_, fun hro => ⟨fun _ => hsame hro, nofun⟩⟩
    · exact houts.trans (List.append_nil _).symm
    · obtain ⟨org, p, hg⟩ := hraise hro
      exact hg.raisesAt
  · rw [answer_ok]
    obtain ⟨hev, hevBut, hevRaise⟩ := u.ev_logged 0x0C0A o x.toNat 0x153 2
    have hgrow := u.queue_ev_prefix 0x0C0A o x.toNat 0x153 2
    generalize u.ev 0x0C0A o x.toNat 0x153 2 = w at hev hevBut hevRaise hgrow
    have hw : regsOnly s w := by
      rw [regsOnly] at hregs hev ⊢
      rw [hev, hregs]
    have hfab := fabricKept_of_regsOnly hw
    refine ⟨fun i hi => ?_, hfab, ?_, ?_, nofun, fun hro => ?_, fun hro => ⟨nofun, fun _ => ?_⟩⟩
    · exact (hevBut i (List.not_mem_of_not_mem_cons hi)).trans (hbut i hi)
    · exact congrArg (· ++ _) houts
    · exact (hevBut o (by simpa using hq)).trans hrd
    · obtain ⟨org, p, hg⟩ := hraise hro
      exact State.queueGrows.raisesAt (hg.trans hgrow)
    · exact raisesAt_congr (hsame hro) hbeat hevRaise

/-! ### Writes that the active of a twin pair keeps for a later beat -/

/-- The write waits in the mirrored records; the side-band hears OK, with its event. -/
def Kept (s : State) (o : Nat) (x : Word) (ack : Bool) (t : State) : Prop :=
  regsBut s t [0x130010C] ∧ t.outs = s.outs ++ (if ack then [.sideband 0 []] else []) ∧ (ack = false → t.evl = s.evl) ∧
  (ack = true → raisesAt s t 0xC0A o x.toNat) ∧
  ∃ b, t.twn.mirror = s.twn.mirror ++ [(b, .write o x (if ack then .sideband else .host))] ∧ s.beat.toNat ≤ b

theorem kept_answer (s : State) (o : Nat) (x : Word) (ack : Bool) :
    Kept s o x ack (answer ack o x (s.mirror (.write o x (pathOf ack)), 0)) := by
  obtain ⟨b, hb, he⟩ := s.mirror_write o x (pathOf ack)
  cases ack
  · rw [answer_host, he]
    exact ⟨fun _ _ => rfl, (List.append_nil _).symm, fun _ => rfl, nofun, b, rfl, hb⟩
  · rw [answer_ok]
    generalize s.mirror (.write o x (pathOf true)) = u at he
    obtain ⟨hev, hevBut, hevRaise⟩ := u.ev_logged 0x0C0A o x.toNat 0x153 2
    generalize u.ev 0x0C0A o x.toNat 0x153 2 = w at hev hevBut hevRaise
    refine ⟨fun i hi => ?_, ?_, nofun, fun _ => ?_, b, ?_, hb⟩
    · exact (hevBut i hi).trans (by rw [he]; rfl)
    · rw [he]
      rfl
    · exact raisesAt_congr (by rw [he]) (by rw [he]) hevRaise
    · rw [regsOnly] at hev
      rw [hev, he]
      rfl

end Sys2Proof.Machine

namespace Sys2Proof.Machine

open Sys2Proof.Bits Sys2Proof.Safety

variable {s t u : State} {path : Path} {o : Nat} {v x : Word} {r : WRow}

/-! ### Writes that are ignored (R313, R333, R336, R369) -/

/-- Events may follow, but none of an accepted side-band write. -/
def Unaccepted (s t : State) : Prop := ∃ q, t.evl.queue = s.evl.queue ++ q ∧ ∀ e ∈ q, e.code ≠ 0xC0A

theorem Unaccepted.trans (h : Unaccepted s t) (h' : Unaccepted t u) : Unaccepted s u := by
  obtain ⟨q, hq, hc⟩ := h
  obtain ⟨q', hq', hc'⟩ := h'
  exact ⟨q ++ q', by rw [hq', hq, List.append_assoc], fun e he => (List.mem_append.1 he).elim (hc e) (hc' e)⟩

theorem Unaccepted.of_evl (h : t.evl = s.evl) : Unaccepted s t := ⟨[], by rw [h, List.append_nil], nofun⟩

theorem unaccepted_raise (s : State) {code : Nat} (p0 p1 p2 p3 org p : Nat) (hc : code ≠ 0xC0A) :
    Unaccepted s (s.raise code p0 p1 p2 p3 org p) := by
  by_cases hcl : s.evl.closed = true
  · exact ⟨[], by simp [State.raise, hcl], nofun⟩
  · by_cases hf : s.evl.queue.length ≥ 256
    · exact ⟨[], by simp [State.raise, hcl, hf], nofun⟩
    · exact ⟨_, congrArg Evl.queue (s.queue_raise code p0 p1 p2 p3 org p (by simpa using hcl) (by omega)), by simpa using hc⟩

theorem unaccepted_ev (s : State) {code : Nat} (p0 p1 org p : Nat) (hc : code ≠ 0xC0A) : Unaccepted s (s.ev code p0 p1 org p) :=
  unaccepted_raise s p0 p1 _ _ org p hc

theorem unaccepted_refuseWrite (s : State) (path : Path) (v : Word) (h : (refusalOf o).1 ≠ 0xC0A) :
    Unaccepted s (s.refuseWrite path o v) := by
  rcases s.refuseWrite_eq path o v with ⟨-, he⟩ | ⟨-, he⟩ <;> rw [he]
  · exact .of_evl rfl
  · exact unaccepted_ev s _ _ _ _ h

theorem unaccepted_secRefuse (s : State) (op slot status : Nat) (path : Path) : Unaccepted s (s.secRefuse op slot status path) :=
  (Unaccepted.of_evl (State.bump_evl s _)).trans (unaccepted_raise _ _ _ _ _ _ _ (by decide))

theorem State.renewNonce_evl (s : State) : s.renewNonce.evl = s.evl := rfl

/-- A reserved security operation, with GO or without (R327, R333). -/
theorem unaccepted_secCmd (s : State) (path : Path) {n : Nat} (h : ¬ (1 ≤ n % 16 ∧ n % 16 ≤ 7)) : Unaccepted s (s.secCmd path n) := by
  have hr := unaccepted_refuseWrite s path (o := 0xE00004) (BitVec.ofNat 32 n) (by decide)
  rw [State.secCmd, if_pos (by omega)]
  generalize s.refuseWrite path 0xE00004 (BitVec.ofNat 32 n) = t at hr
  dsimp only
  split
  · exact hr.trans ((Unaccepted.of_evl (State.setF_evl ..)).trans ((unaccepted_secRefuse ..).trans (.of_evl (State.renewNonce_evl _))))
  · exact hr

/-! The operation of each register that can ignore a write. -/

section operations

variable (s path r x)

theorem applyWrite_step : s.applyWrite path r 0xF00000 x = s.stepReq path x.toNat := by simp [State.applyWrite, inRow]

theorem applyWrite_security : s.applyWrite path r 0xE00004 x = s.secCmd path x.toNat := by simp [State.applyWrite, inRow]

theorem applyWrite_sequence :
    s.applyWrite path r 0x600030 x = (s.plain r 0x600030 (x &&& 0xFFFFFF00#32)).seqCtl path x.toNat := by simp [State.applyWrite]

theorem applyWrite_diagnosis : s.applyWrite path r 0x900010 x =
    if bit x.toNat 16 then (s.plain r 0x900010 (x &&& 0x1F7F#32)).diagRequest path (x.toNat % 128) (x.toNat / 256 % 32)
    else s.plain r 0x900010 (x &&& 0x1F7F#32) := by simp [State.applyWrite, inRow]

theorem applyWrite_collection :
    s.applyWrite path r 0x1200000 x = if bit x.toNat 0 then s.collRequest path x.toNat else s := by simp [State.applyWrite, inRow]

theorem applyWrite_log : s.applyWrite path r 0x1300008 x = s.logClear path x.toNat := by simp [State.applyWrite, inRow]

theorem applyWrite_receipts : s.applyWrite path r 0xB00050 x = s.rxHead path x.toNat := by simp [State.applyWrite, inRow]

theorem applyWrite_batches : s.applyWrite path r 0xB00068 x = s.bxHead path x.toNat := by simp [State.applyWrite, inRow]

end operations

/-- Every write that is ignored leaves an event of its block at most. -/
theorem unaccepted_applyWrite (s : State) (path : Path) (r : WRow) (x : Word) (hrung : o ≠ 0x1000008) (hman : inRow o 0x400000 4 32 = false)
    (hhif : inHif o = false) (h : s.ignores o x.toNat = true) : Unaccepted s (s.applyWrite path r o x) := by
  unfold State.ignores at h
  split_ifs at h with h1 h2 h3 h4 h5 h6 h7 h8 h9 h10
  · subst h1
    have hs : ¬ s.stepOk (x.toNat % 16) = true := by simpa using h
    rw [applyWrite_step, State.stepReq, if_neg hs]
    exact unaccepted_ev s _ _ _ _ (by decide)
  · subst h2
    rw [applyWrite_security]
    exact unaccepted_secCmd s path (of_decide_eq_false (by simpa only [Bool.not_eq_true'] using h))
  · subst h3
    obtain ⟨hstart, hstop⟩ := Bool.and_eq_true_iff.1 h
    rw [applyWrite_sequence, State.seqCtl, hstart, hstop]
    exact (Unaccepted.of_evl (congrArg State.evl (s.plain_frame ..))).trans (unaccepted_refuseWrite _ path _ (by decide))
  · subst h4
    simp only [Bool.and_eq_true, decide_eq_true_eq] at h
    obtain ⟨hgo, hcell⟩ := h
    rw [applyWrite_diagnosis, if_pos hgo, State.diagRequest, if_pos hcell]
    exact (Unaccepted.of_evl (congrArg State.evl (s.plain_frame ..))).trans (unaccepted_ev _ _ _ _ _ (by decide))
  · subst h5
    simp [inHif] at hhif
  · subst h6
    simp only [Bool.and_eq_true, decide_eq_true_eq] at h
    obtain ⟨hgo, hoff⟩ := h
    rw [applyWrite_collection, if_pos hgo, State.collRequest, if_pos hoff]
    exact unaccepted_ev s _ _ _ _ (by decide)
  · exact absurd h7 (by simp [hman])
  · subst h8
    rw [applyWrite_log, State.logClear, if_neg (by simpa [or_iff_not_imp_left] using h)]
    exact unaccepted_ev s _ _ _ _ (by decide)
  · subst h9
    rw [applyWrite_receipts, State.rxHead, if_pos (by simpa using h)]
    exact unaccepted_ev s _ _ _ _ (by decide)
  · subst h10
    rw [applyWrite_batches, State.bxHead, if_pos (by simpa using h)]
    exact unaccepted_ev s _ _ _ _ (by decide)

/-- The side-band's answer to a write that is ignored adds no event. -/
theorem unaccepted_answer (o : Nat) (x : Word) (h : Unaccepted s u) : Unaccepted s (answer true o x (u, ignored)) := by
  obtain ⟨n, he, -⟩ := answer_frame true o x (q := (u, ignored)) (show ignored ≠ 0 by decide)
  rw [he]
  exact h

end Sys2Proof.Machine

namespace Sys2Proof.Machine

open Sys2Proof.Bits Sys2Proof.Safety

variable {s t : State} {i : Instr} {at_ o : Nat} {x : Word} {ack : Bool}

/-! ### A write of a register, whoever writes it -/

/-- A write that reaches no writable register: it is ignored, and reported where the block reports it (R7, R10, R333, R405). -/
theorem write_reserved (ho : at_ / 4 * 4 = o) (hi : exec i s = .next (answer ack o x (s.regWrite (pathOf ack) at_ x)))
    (hr : rowOf o = none) :
    (reportedRo.any (fun e => inRow o e.1 4 e.2) = false → completes i s fun t => (ack = false → t = s) ∧
      (ack = true → t = { s with outs := s.outs ++ [.sideband s.freeStatus []], free := s.free + 1 })) ∧
    (reportedRo.any (fun e => inRow o e.1 4 e.2) = true → completes i s (Refused s o x ack s.freeStatus)) := by
  rw [regWrite_reserved ho hr] at hi
  refine ⟨fun hn => ?_, fun hy => ?_⟩
  · rw [hn, if_neg Bool.false_ne_true] at hi
    refine ⟨_, hi, fun ha => ?_, fun ha => ?_⟩ <;> rw [ha]
    · rfl
    · simp [answer, State.out, State.useFree]
  · rw [hy, if_pos rfl] at hi
    exact ⟨_, hi, refused_answer s (pathOf ack) o x ack (code := ignored) (by decide)⟩

/-- A write of a writable register, by the first of the rules that holds of it (R9). -/
theorem write_row (ho : at_ / 4 * 4 = o) (hi : exec i s = .next (answer ack o x (s.regWrite (pathOf ack) at_ x)))
    (hh : ack = true → inHif o = false) {r : WRow} (hr : rowOf o = some r) (hrung : o ≠ 0x1000008) (hman : inRow o 0x400000 4 32 = false) :
    ((inStepOff o = true ∧ s.mstate = 4) ∨ s.locked r o x = true → completes i s (Refused s o x ack 0x20)) ∧
    (¬ ((inStepOff o = true ∧ s.mstate = 4) ∨ s.locked r o x = true) →
      (outOfRange o x = true ∨ s.relationBad o x = true → completes i s (Refused s o x ack s.freeStatus)) ∧
      (outOfRange o x = false → s.relationBad o x = false →
        (s.ignores o x.toNat = true → ack = true → completes i s (Unaccepted s)) ∧
        (s.ignores o x.toNat = false → inStepOff o = true → s.twinActive = true → completes i s (Kept s o x ack)) ∧
        (Ordinary o → ¬ (inStepOff o = true ∧ s.twinActive = true) →
          completes i s (Accepted s o r x ack)))) := by
  refine ⟨fun hl => ?_, fun hl => ⟨fun hx => ?_, fun hx1 hx2 => ?_⟩⟩
  · rw [regWrite_locked ho hr hrung hman hl] at hi
    exact ⟨_, hi, refused_answer s (pathOf ack) o x ack (code := 0x20) (by decide)⟩
  · rw [regWrite_outOfRange ho hr hrung hman hl hx] at hi
    exact ⟨_, hi, refused_answer s (pathOf ack) o x ack (code := ignored) (by decide)⟩
  have hx : ¬ (outOfRange o x = true ∨ s.relationBad o x = true) := by simp [hx1, hx2]
  refine ⟨fun hg ha => ?_, fun hg hs ht => ?_, fun hord hm => ?_⟩
  · rw [regWrite_ignored ho hr hrung hman hl hx hg, ha] at hi
    exact ⟨_, hi, unaccepted_answer o x (unaccepted_applyWrite s _ r x hrung hman (hh ha) hg)⟩
  · rw [regWrite_mirrored ho hr hrung hman hl hx hg ⟨hs, ht⟩] at hi
    exact ⟨_, hi, kept_answer s o x ack⟩
  · rw [regWrite_accepted ho hr hrung hman hl hx (s.ignores_ordinary _ hord) hm, State.applyWrite_ordinary _ _ _ _ hord] at hi
    exact ⟨_, hi, accepted_answer s (pathOf ack) x ack hr⟩

/-! ### Commands that are writes (R313, R314) -/

/-- A command that is a side-band write is the REG_WRITE of its value. -/
theorem exec_regWrite_own (s : State) {at_ : BitVec 25} {off n : Nat} (ho : at_.toNat / 4 * 4 = off) :
    exec (.regWrite (s.rd 0xD0001C) at_ (BitVec.ofNat 32 n)) s = .next (s.sideWrite off (BitVec.ofNat 32 n)) :=
  ho ▸ execRegWrite_own s at_ (BitVec.ofNat 32 n)

/-- The register of an array's unit. -/
theorem arrayOff {base k : Nat} (hb : base % 4 = 0) (h : base + 4 * k < 2 ^ 25) :
    (BitVec.ofNat 25 (base + 4 * k)).toNat / 4 * 4 = base + 4 * k := by
  rw [BitVec.toNat_ofNat, Nat.mod_eq_of_lt h]
  omega

end Sys2Proof.Machine

open Sys2Proof Sys2Proof.Machine Sys2Proof.Safety in
/-- Settles O58: both paths write by `regWrite`, and each of its branches is one clause. -/
theorem registerWrites : Obligations.RegisterWrites := by
  intro s off data iana v o word host side says_ ordinary write via
  have hwrite : ∀ (i : Instr) (x : Word) (ack : Bool) (at_ : Nat), at_ / 4 * 4 = o →
      exec i s = .next (answer ack o x (s.regWrite (pathOf ack) at_ x)) → (ack = true → inHif o = false) → write i x ack := by
    intro i x ack at_ ho hi hh
    exact ⟨fun hr => write_reserved ho hi hr, fun r hr hrung hman => write_row ho hi hh hr hrung hman⟩
  have hvia : ∀ (i : Path → Instr) (at_ : BitVec 25) (n off : Nat), at_.toNat / 4 * 4 = off →
      exec (i .sideband) s = .next (s.sideWrite off (BitVec.ofNat 32 n)) → via i at_ n :=
    fun i at_ n off ho hi => hi.trans (exec_regWrite_own s ho).symm
  have hown : exec side s = .next (s.sideWrite o v) := execRegWrite_own s off v
  refine ⟨fun hp => ⟨s, execRegisterWrite_off hp, rfl⟩,
    fun hp hd hl => hwrite host word false off.toNat rfl (execRegisterWrite_word hp hd hl) nofun,
    fun k hk _ hl => s.lanes_byte _ k data hk hl, fun hp h8 ho t ht htp => execRegisterWrite_pair hp h8 ho ht htp,
    fun h => ⟨_, execRegWrite_other off v h, rfl⟩, fun hh => ⟨_, hown.trans (congrArg _ (s.sideWrite_inHif v hh)), rfl⟩,
    fun hh ha hm => ⟨_, hown.trans (congrArg _ (s.sideWrite_notServed v hh ha hm)), rfl⟩, fun hh hs => ?side,
    fun q f p h e l b w8 c j slot auth d => ?commands⟩
  case side =>
    have ho : o / 4 * 4 = o := by omega
    exact hwrite side v true o ho (hown.trans (congrArg _ (s.sideWrite_answer v hh hs))) fun _ => hh
  case commands =>
    have hman : (BitVec.ofNat 25 (0x400000 + 4 * p.val)).toNat / 4 * 4 = 0x400000 + 4 * p.val := arrayOff rfl (by omega)
    have hle : (BitVec.ofNat 25 (0x700000 + 4 * (8 * e.val + l.val))).toNat / 4 * 4 = 0x700000 + 4 * (8 * e.val + l.val) :=
      arrayOff rfl (by omega)
    intro sec
    have hsec : ∀ (i : Path → Fin 4 → Fin 4 → BitVec 6 → Instr) (op : Nat),
        exec (i .sideband slot auth d) s = .next (s.sideWrite 0xE00004 (BitVec.ofNat 32 (secWord op slot.val auth.val d.toNat))) →
          sec i op :=
      fun i op => hvia (fun x => i x slot auth d) 0xE00004 _ 0xE00004 rfl
    exact ⟨hvia (.safeReq · q) 0x104 _ 0x104 rfl rfl, hvia (.gateEn · v) 0x200010 _ 0x200010 rfl rfl,
      hvia (.manifestStart · p f) _ _ _ hman rfl, hvia (.manifestUnload · p) _ _ _ hman rfl,
      hvia (.preRetry ·) 0x500004 _ 0x500004 rfl rfl, hvia (.coolantReq · q) 0x500004 _ 0x500004 rfl rfl,
      hvia (.neighbourReq · q) 0x500004 _ 0x500004 rfl rfl, hvia (.seqStart ·) 0x600030 _ 0x600030 rfl rfl,
      hvia (.seqStop ·) 0x600030 _ 0x600030 rfl rfl, hvia (.thrForce · h) 0x600040 _ 0x600040 rfl rfl,
      hvia (.loopClear · e l) _ _ _ hle rfl, hvia (.exit · b) 0x800014 _ 0x800014 rfl rfl,
      hvia (.iso · w8) 0x800018 _ 0x800018 rfl rfl, hvia (.diagRequest · c j) 0x900010 _ 0x900010 rfl rfl,
      hvia (.isoRelease · l) 0x900014 _ 0x900014 rfl rfl, hvia (.reauth · l) 0xA00018 _ 0xA00018 rfl rfl,
      hvia (.ldgRxHead · v) 0xB00050 _ 0xB00050 rfl rfl, hvia (.ldgBxHead · v) 0xB00068 _ 0xB00068 rfl rfl,
      hsec .enrollOwner 1 rfl, hsec .revokeOwner 2 rfl, hsec .advanceSvn 3 rfl, hsec .setPackIssuer 4 rfl,
      hsec .clearPackIssuer 5 rfl, hsec .rotateLedger 6 rfl, hsec .enterRma 7 rfl,
      hvia (.rungRequest · v) 0x1000008 _ 0x1000008 rfl rfl, hvia (.switch ·) 0x1100004 _ 0x1100004 rfl rfl,
      hvia (.collectionRequest ·) 0x1200000 _ 0x1200000 rfl rfl, hvia (.logClear · v) 0x1300008 _ 0x1300008 rfl rfl⟩

namespace Sys2Proof.Machine

/-! ### SAFE_REQ beside a fault record outside its slots (R31, R217) -/

/-- A fault record (R217): its number is 1, and its bytes 24 to 27 are what TWN_FEED holds while both feeds are LOST (R387). -/
def strayRecord : Bytes := (List.range 60).map fun i => if i = 0 then 1 else if i = 25 ∨ i = 27 then 4 else 0

/-- An upstream frame whose fault section carries the record and passes its check (Table 9-2). -/
def strayFrame : Bytes := Bits.zeros 256 ++ strayRecord ++ Bits.toLe 4 (Bits.crc32c strayRecord).toNat

/-- A trained board whose next record would go to slot 147,392, at the registers from 0x1100000 on; R217 has slots 0 to 3. -/
def strayBoard : Board := { trained := true, map := [0], slot := (0x1100000 - 0x801000) / 64 }

/-- A module in service with SAFE_REQ set, feed A OK, and that board alone. -/
def straySt : State :=
  { ((State.reset.setF Reg.GLB_STATE_MSTATE 3).setF Reg.GLB_SAFE_CMD_SAFE_REQ 1).setF Reg.TWN_FEED_A_STATE 0 with
    stg := { boards := [(0, strayBoard)] }, twn := { fed := true }, beat := 4000, released := true }

/-- The record overwrites TWN_FEED: the loss of both feeds outranks SAFE_REQ, and the module stays IN_SERVICE. -/
theorem straySt_staysInService :
    (match exec (.upstreamFrame 0 strayFrame ⟨false, false, false, true, false⟩) straySt with
      | .next t => t.mstate
      | _ => 0) = 3 := by decide +kernel

end Sys2Proof.Machine

open Sys2Proof Sys2Proof.Machine Sys2Proof.Safety in
/-- Refutes O36: the clause of the beat's last upstream frame does not ask that the board's slot for fault records is one of R217's four.
In `straySt` it is not, so the frame's record lands on TWN_FEED instead, and SAFE_REQ is outranked by the loss of both feeds. -/
theorem not_safeStop : ¬ Obligations.SafeStop := by
  intro h
  obtain ⟨-, hframe, -⟩ := h straySt
  have hhigher : ¬ (straySt.feedsLost = true ∨ straySt.mpw.trip ≠ none ∨ straySt.chipDue = true) := by decide +kernel
  obtain ⟨hsafe, -⟩ := hframe 0 strayBoard strayFrame ⟨false, false, false, true, false⟩ rfl rfl nofun nofun (Nat.zero_le _)
    (by decide +kernel) hhigher
  obtain ⟨hreq, -⟩ := hsafe (by decide)
  obtain ⟨t, ht, hstop, -⟩ := hreq (.inl (by decide +kernel)) (by decide +kernel)
  have hstay := straySt_staysInService
  rw [ht] at hstay
  exact absurd (hstop.symm.trans hstay) (by decide)

namespace Sys2Proof.Bits

/-! ### Bytes of joined strings (R5) -/

theorem byteAt_append_left {a b : Bytes} {k : Nat} (h : k < a.length) : byteAt (a ++ b) k = byteAt a k :=
  List.getD_append _ _ _ _ h

theorem byteAt_append_right {a b : Bytes} {k n : Nat} (hn : a.length = n) : byteAt (a ++ b) (n + k) = byteAt b k := by
  rw [byteAt, List.getD_append_right _ _ _ _ (by omega), hn, Nat.add_sub_cancel_left]
  rfl

/-- A number inside the second of two joined strings. -/
theorem le_append_right {a b : Bytes} {k n : Nat} (m : Nat) (hn : a.length = n) : le (a ++ b) (n + k) m = le b k m :=
  leNum_congr m fun i _ => by rw [Nat.add_assoc, byteAt_append_right hn]

theorem le_toLe_append (n v : Nat) (b : Bytes) : le (toLe n v ++ b) 0 n = v % 256 ^ n := by
  induction n generalizing v with
  | zero => simp [le, Nat.mod_one]
  | succ n ih =>
    have hrest : le (toLe (n + 1) v ++ b) 1 n = le (toLe n (v / 256) ++ b) 0 n :=
      leNum_congr n fun i _ => by
        rw [Nat.add_comm 1 i, Nat.zero_add]
        rfl
    have hfirst : (byteAt (toLe (n + 1) v ++ b) 0).toNat = v % 256 := by simp [byteAt, toLe]
    rw [le, hrest, ih, hfirst, Nat.pow_succ', Nat.mod_mul]

theorem fit_length (b : Bytes) (n : Nat) : (fit b n).length = n := by
  simp [fit, zeros]
  omega

theorem zeros_length (n : Nat) : (zeros n).length = n := List.length_replicate

end Sys2Proof.Bits

namespace Sys2Proof.Machine

open Sys2Proof.Bits Sys2Proof.Safety

variable {s t u : State} {b : Nat} {P : Nat → Prop}

/-! ### What the composing of a frame changes (R195, R208) -/

/-- A frame of board b is being composed: registers, phases, boards and parts of frames may change, of the boards b alone; its command,
its state, the module's and the bus reference stay, as do the parts of P. -/
structure Composes (b : Nat) (P : Nat → Prop) (s t : State) : Prop where
  frame : t = { s with regs := t.regs, stg := { s.stg with boards := t.stg.boards, phases := t.stg.phases, shots := t.stg.shots } }
  others : ∀ j, j ≠ b → t.board j = s.board j
  force : (t.board b).force = (s.board b).force
  bstate : t.bstate b = s.bstate b
  mstate : t.mstate = s.mstate
  vref : t.f Reg.STG_VREF_VREF = s.f Reg.STG_VREF_VREF
  shots : ∀ n, P n → t.stg.shots.get n (0, []) = s.stg.shots.get n (0, [])

namespace Composes

theorem refl (s : State) : Composes b P s s := ⟨rfl, fun _ _ => rfl, rfl, rfl, rfl, rfl, fun _ _ => rfl⟩

theorem trans (h : Composes b P s t) (h' : Composes b P t u) : Composes b P s u where
  frame := by rw [h'.frame, h.frame]
  others j hj := (h'.others j hj).trans (h.others j hj)
  force := h'.force.trans h.force
  bstate := h'.bstate.trans h.bstate
  mstate := h'.mstate.trans h.mstate
  vref := h'.vref.trans h.vref
  shots n hn := (h'.shots n hn).trans (h.shots n hn)

theorem mono {Q : Nat → Prop} (h : Composes b P s t) (hQ : ∀ n, Q n → P n) : Composes b Q s t :=
  { h with shots := fun n hn => h.shots n (hQ n hn) }

/-- A view of the state that reads none of what changes. -/
theorem keeps {α : Sort _} (F : State → α)
    (hF : ∀ (s : State) r bs ph sh, F { s with regs := r, stg := { s.stg with boards := bs, phases := ph, shots := sh } } = F s)
    (h : Composes b P s t) : F t = F s := by
  rw [h.frame]
  exact hF s ..

theorem ite {c : Prop} {_ : Decidable c} (ht : Composes b P s t) (hu : Composes b P s u) : Composes b P s (if c then t else u) := by
  split
  · exact ht
  · exact hu

theorem foldl_range {f : State → Nat → State} (n : Nat) (h : Composes b P s t)
    (hf : ∀ t j, j < n → Composes b P s t → Composes b P s (f t j)) : Composes b P s ((List.range n).foldl f t) :=
  List.foldlRecOn _ _ h fun t ht j hj => hf t j (List.mem_range.1 hj) ht

theorem setPhase {n : Nat} {v : Phase} (h : Composes b P s t) : Composes b P s (t.setPhase n v) :=
  h.trans ⟨rfl, fun _ _ => rfl, rfl, rfl, rfl, rfl, fun _ _ => rfl⟩

/-- A field that is neither BSTATE of the board nor in GLB_STATE. -/
theorem setF {F : Fld} {v : Nat} (h : Composes b P s t) (hF : (F.off ≠ 0x800100 + 4 * b ∨ 3 ≤ F.lo) ∧ F.off ≠ 0x100 ∧ F.off ≠ 0x800008) :
    Composes b P s (t.setF F v) :=
  h.trans ⟨rfl, fun _ _ => rfl, rfl,
    State.f_setF_apart _ _ _ _ (hF.1.imp Ne.symm fun hb => ⟨by simp [Reg.STG_BOARD_STATUS_BSTATE], .inl hb⟩),
    State.f_setF_apart _ _ _ _ (.inl (Ne.symm hF.2.1)), State.f_setF_apart _ _ _ _ (.inl (Ne.symm hF.2.2)), fun _ _ => rfl⟩

/-- The board notes the frame whose ramps it has moved. -/
theorem tick {k : Nat} (h : Composes b P s t) : Composes b P s (t.setBoard b { t.board b with ticked := k }) :=
  h.trans ⟨rfl, fun _ hj => Tab.get_put_ne _ _ _ _ hj, (congrArg Board.force (Tab.get_put_self _ _ _ _)).trans rfl, rfl, rfl, rfl,
    fun _ _ => rfl⟩

/-- A part is kept in its place. -/
theorem putShot {n : Nat} {v : Nat × Bytes} (h : Composes b P s t) (hn : ¬ P n) :
    Composes b P s { t with stg := { t.stg with shots := t.stg.shots.put n v (0, []) } } :=
  h.trans ⟨rfl, fun _ _ => rfl, rfl, rfl, rfl, rfl, fun _ hm => Tab.get_put_ne _ _ _ _ (by rintro rfl; exact hn hm)⟩

/-- The registers of the phases stand apart from those of the boards, from GLB_STATE and from the bus reference. -/
theorem phase_apart {n lo : Nat} (hb : b < 24) : (0x800200 + 4 * n ≠ 0x800100 + 4 * b ∨ 3 ≤ lo) ∧ 0x800200 + 4 * n ≠ 0x100 ∧
    0x800200 + 4 * n ≠ 0x800008 := by omega

theorem setPstates {new : Nat → Nat} (h : Composes b P s t) (hb : b < 24) : Composes b P s (t.setPstates b new) := by
  unfold State.setPstates
  extract_lets before t1 run t2
  have h1 : Composes b P s t1 := h.foldl_range 4 fun w j _ hw => by
    extract_lets n w1 w2
    exact .ite hw ((ite (hw.setF (phase_apart hb)) hw).setPhase.setF (phase_apart hb))
  have h2 : Composes b P s t2 := .ite h1 (h1.foldl_range 4 fun _ _ _ hw => .ite hw.setPhase hw)
  exact h2.setF ⟨.inr (by decide : 3 ≤ 8), show 0x800100 + 4 * b ≠ 0x100 ∧ 0x800100 + 4 * b ≠ 0x800008 by omega⟩

theorem shedTick {k : Nat} (h : Composes b P s t) (hb : b < 24) : Composes b P s (t.shedTick b k) :=
  .ite h (h.tick.foldl_range 4 fun _ _ _ hw => .ite (.ite (hw.setPstates hb) hw.setPhase) hw)

end Composes

/-! ### The parts of a frame (Table 9-1) -/

section parts

variable {k i j : Nat}

/-- The parts of board b but part i. -/
abbrev otherParts (b i n : Nat) : Prop := n ≠ 4 * b + i

theorem State.takePart_taken (h : (s.stg.shots.get (4 * b + i) (0, [])).1 = k) : s.takePart b k i = s := if_pos h

/-- A part that was not taken before is taken from a state in which no field of the frame but the ramps has changed. -/
theorem State.takePart_fresh (hb : b < 24) (hx : bit s.stg.exits b = false) (h : (s.stg.shots.get (4 * b + i) (0, [])).1 ≠ k) :
    ∃ u, Composes b (fun _ => True) s u ∧ s.takePart b k i = { u with stg := { u.stg with
      shots := u.stg.shots.put (4 * b + i) (k, u.framePart b k i (u.frameMode b k) (u.srcActive k)) (0, []) } } := by
  have hjudge : s.judgeExit b = s := by rw [State.judgeExit, hx]; rfl
  refine ⟨if i = 1 then s.shedTick b k else if i = 2 then s.judgeExit b else s,
    .ite ((Composes.refl s).shedTick hb) (.ite (hjudge.symm ▸ Composes.refl s) (.refl s)), if_neg h⟩

theorem State.takePart_composes (hb : b < 24) (hx : bit s.stg.exits b = false) :
    Composes b (otherParts b i) s (s.takePart b k i) := by
  by_cases h : (s.stg.shots.get (4 * b + i) (0, [])).1 = k
  · rw [State.takePart_taken h]
    exact .refl s
  · obtain ⟨u, hu, ht⟩ := State.takePart_fresh hb hx h
    rw [ht]
    exact (hu.mono fun _ _ => trivial).putShot fun hn => hn rfl

/-- The bytes of a part that was not taken before. -/
theorem State.partOfFrame_fresh (hb : b < 24) (hx : bit s.stg.exits b = false) (h : (s.stg.shots.get (4 * b + i) (0, [])).1 ≠ k) :
    ∃ u, Composes b (fun _ => True) s u ∧
      (s.takePart b k i).partOfFrame b i = u.framePart b k i (u.frameMode b k) (u.srcActive k) := by
  obtain ⟨u, hu, ht⟩ := State.takePart_fresh hb hx h
  refine ⟨u, hu, ?_⟩
  rw [ht]
  exact congrArg Prod.snd (Tab.get_put_self ..)

theorem Composes.partOfFrame (h : Composes b P s t) (hj : P (4 * b + j)) : t.partOfFrame b j = s.partOfFrame b j :=
  congrArg Prod.snd (h.shots _ hj)

end parts

/-! ### The lengths of the parts (Table 9-1) -/

section lengths

variable (s) (k mode : Nat) (act : Bool)

theorem State.framePart0_eq : ∃ v : Bytes, v.length = 4 ∧
    s.framePart b k 0 mode act = v ++ toLe 4 (s.f Reg.STG_VREF_VREF) := ⟨_, by simp, rfl⟩

theorem State.framePart1_length : (s.framePart b k 1 mode act).length = 8 := by
  simp [State.framePart, List.range_succ]

theorem State.framePart3_length : (s.framePart b k 3 mode act).length = 8 := by
  simp [State.framePart, List.range_succ]

theorem State.framePart2_length : (s.framePart b k 2 mode act).length = 56 := by
  simp only [State.framePart, List.length_append]
  split <;> split <;> simp [List.range_succ, zeros_length]
  all_goals split <;> simp [zeros_length, fit_length]

/-- The third part begins with MODE. -/
theorem State.framePart2_mode : byteAt (s.framePart b k 2 mode act) 0 = BitVec.ofNat 8 mode := rfl

end lengths

/-! ### A frame leaves (R194, R195) -/

/-- The bytes of a frame under its check word. -/
def frameBody (k : Nat) (p0 p1 p2 p3 : Bytes) : Bytes := toLe 4 k ++ p0 ++ zeros 868 ++ p1 ++ zeros 120 ++ p2 ++ zeros 140 ++ p3

theorem frameOf_eq (k : Nat) (p0 p1 p2 p3 : Bytes) :
    frameOf k p0 p1 p2 p3 = frameBody k p0 p1 p2 p3 ++ toLe 4 (crc32c (frameBody k p0 p1 p2 p3)).toNat := rfl

/-- Where the fields of a frame stand whose parts have their lengths. -/
theorem frameOf_fields {k vref : Nat} {p0 p1 p2 p3 v : Bytes} (hv : v.length = 4) (h0 : p0 = v ++ toLe 4 vref) (h1 : p1.length = 8)
    (h2 : p2.length = 56) (h3 : p3.length = 8) (hvref : vref < 2 ^ 32) :
    (frameOf k p0 p1 p2 p3).length = 1216 ∧ le (frameOf k p0 p1 p2 p3) 0 4 = k % 2 ^ 32 ∧
    le (frameOf k p0 p1 p2 p3) 8 4 = vref ∧ byteAt (frameOf k p0 p1 p2 p3) 1008 = byteAt p2 0 := by
  subst h0
  have hk : (toLe 4 k ++ v).length = 8 := by simp [hv]
  have hpre : (toLe 4 k ++ (v ++ toLe 4 vref) ++ zeros 868 ++ p1 ++ zeros 120).length = 1008 := by simp [hv, h1, zeros_length]
  refine ⟨by simp [frameOf, hv, h1, h2, h3, zeros_length], ?_, ?_, ?_⟩
  · simp only [frameOf, List.append_assoc]
    exact le_toLe_append 4 k _
  · simp only [frameOf, List.append_assoc]
    rw [← List.append_assoc, show (8 : Nat) = 8 + 0 from rfl, le_append_right 4 hk, le_toLe_append]
    exact Nat.mod_eq_of_lt hvref
  · rw [frameOf_eq, frameBody, List.append_assoc, List.append_assoc, List.append_assoc, show (1008 : Nat) = 1008 + 0 from rfl,
      byteAt_append_right hpre, byteAt_append_left (by omega)]

/-- What a frame that leaves changes. -/
structure Leaves (b k : Nat) (fr : Bytes) (s t : State) : Prop where
  outs : t.outs = s.outs ++ (if s.clocked then [.downstream b fr] else [])
  sent : (t.board b).sent = some (k, fr)
  force : (t.board b).force = false
  mem : t.mem = s.mem
  evl : t.evl = s.evl
  others : ∀ j, j ≠ b → t.board j = s.board j

theorem State.drive_eq (s : State) (o : Out) : s.drive o = { s with outs := s.outs ++ (if s.clocked then [o] else []) } := by
  unfold State.drive
  split
  · rfl
  · rw [List.append_nil]

theorem State.giveFrame_leaves (s : State) (b k : Nat) (act : Bool) (fr : Bytes) : Leaves b k fr s (s.giveFrame b k act fr) := by
  unfold State.giveFrame
  extract_lets t1 t2 t3 B t4 G t5
  have hout : t4.outs = s.outs ∧ t4.clocked = s.clocked ∧ t4.mem = s.mem ∧ t4.evl = s.evl := by
    simp [t4, t3, t2, t1, State.setBoard, State.clocked]
  have hb : t4.board b = { B with force := false, sent := some (k, fr) } := Tab.get_put_self ..
  have hj (j : Nat) (h : j ≠ b) : t4.board j = s.board j :=
    (Tab.get_put_ne t3.stg.boards { B with force := false, sent := some (k, fr) } {} {} h :)
  have h5 : ∃ g, t5 = { t4 with stg := { t4.stg with fired := g } } := by
    by_cases h : bit (byteAt fr 1010).toNat 0
    · exact ⟨_, if_pos h⟩
    · exact ⟨_, if_neg h⟩
  obtain ⟨houts, hclk, hmem, hevl⟩ := hout
  obtain ⟨g, h5⟩ := h5
  rw [State.drive_eq, h5]
  clear_value t4
  exact
    { outs := by rw [← houts, ← hclk]; rfl
      sent := congrArg Board.sent hb
      force := congrArg Board.force hb
      mem := hmem
      evl := hevl
      others := hj }

theorem Composes.leaves {k : Nat} {fr : Bytes} (h : Composes b P s t) (h' : Leaves b k fr t u) : Leaves b k fr s u where
  outs := by rw [h'.outs, h.keeps State.outs fun _ _ _ _ _ => rfl, h.keeps State.clocked fun _ _ _ _ _ => rfl]
  sent := h'.sent
  force := h'.force
  mem := h'.mem.trans (h.keeps State.mem fun _ _ _ _ _ => rfl)
  evl := h'.evl.trans (h.keeps State.evl fun _ _ _ _ _ => rfl)
  others j hj := (h'.others j hj).trans (h.others j hj)

/-! ### The frame that is sent -/

section sent

variable {k : Nat}

/-- The parts of a list are taken, one after the other; the others stay. -/
theorem State.takeParts_composes (hb : b < 24) (hx : bit s.stg.exits b = false) (l : List Nat) :
    Composes b (fun n => ∀ i ∈ l, otherParts b i n) s (l.foldl (fun s i => s.takePart b k i) s) := by
  induction l generalizing s with
  | nil => exact .refl s
  | cons i l ih =>
    have h1 : Composes b (otherParts b i) s (s.takePart b k i) := State.takePart_composes hb hx
    have hx' : bit (s.takePart b k i).stg.exits b = false := (h1.keeps (bit ·.stg.exits b) fun _ _ _ _ _ => rfl).trans hx
    exact (h1.mono fun n hn => hn i List.mem_cons_self).trans ((ih hx').mono fun n hn j hj => hn j (List.mem_cons_of_mem i hj))

/-- A part that was taken at its cycle goes into the frame as it is. -/
theorem State.takeParts_taken (l : List Nat) (h : ∀ i ∈ l, (s.stg.shots.get (4 * b + i) (0, [])).1 = k) :
    l.foldl (fun s i => s.takePart b k i) s = s := by
  induction l with
  | nil => rfl
  | cons i l ih =>
    rw [List.foldl_cons, State.takePart_taken (h i List.mem_cons_self)]
    exact ih fun j hj => h j (List.mem_cons_of_mem i hj)

/-- A part that was not taken before is in the frame as a state composes it in which no field but the ramps has changed. -/
theorem State.takeParts_fresh (hb : b < 24) (hx : bit s.stg.exits b = false) {l : List Nat} (hl : l.Nodup)
    (h : ∀ i ∈ l, (s.stg.shots.get (4 * b + i) (0, [])).1 ≠ k) {i : Nat} (hi : i ∈ l) :
    ∃ u, Composes b (fun _ => False) s u ∧
      (l.foldl (fun s i => s.takePart b k i) s).partOfFrame b i = u.framePart b k i (u.frameMode b k) (u.srcActive k) := by
  induction l generalizing s with
  | nil => nomatch hi
  | cons j l ih =>
    obtain ⟨hj, hl⟩ := List.nodup_cons.1 hl
    have h1 : Composes b (otherParts b j) s (s.takePart b k j) := State.takePart_composes hb hx
    have hx' : bit (s.takePart b k j).stg.exits b = false := (h1.keeps (bit ·.stg.exits b) fun _ _ _ _ _ => rfl).trans hx
    have apart (m : Nat) (hm : m ∈ l) : otherParts b j (4 * b + m) := fun e => hj (by rwa [Nat.add_left_cancel e] at hm)
    rcases List.mem_cons.1 hi with rfl | hi
    · obtain ⟨u, hu, hp⟩ := State.partOfFrame_fresh hb hx (h i List.mem_cons_self)
      exact ⟨u, hu.mono fun _ => False.elim, ((State.takeParts_composes hb hx' l).partOfFrame fun m hm e =>
        apart m hm e.symm).trans hp⟩
    · obtain ⟨u, hu, hp⟩ := ih hx' hl (fun m hm => by
        rw [h1.shots _ (apart m hm)]
        exact h m (List.mem_cons_of_mem j hm)) hi
      exact ⟨u, (h1.mono fun _ => False.elim).trans hu, hp⟩

/-- MODE is that of the state before where no exit starts with the frame. -/
theorem Composes.frameMode (h : Composes b P s u) (hx : s.exitsWith b k = false) : u.frameMode b k =
    if (s.board b).force = true ∨ s.bstate b = 1 ∨ s.bstate b = 2 ∨ (s.mstate ≠ 4 ∧ s.mstate ≠ 3) then 1
    else if s.bstate b = 3 then 2 else 0 := by
  have hx' : u.exitsWith b k = false := (h.keeps (·.exitsWith b k) fun _ _ _ _ _ => rfl).trans hx
  unfold State.frameMode
  rw [h.force, h.bstate, h.mstate, hx']
  grind

/-- The frame goes out with the parts as they stand when all four are taken. -/
theorem State.sendFrame_leaves (hb : b < 24) (hx : bit s.stg.exits b = false) {w : State} (hk : s.beatN + 1 = k)
    (hw : (List.range 4).foldl (fun s i => s.takePart b k i) s = w) :
    Leaves b k (frameOf k (w.partOfFrame b 0) (w.partOfFrame b 1) (w.partOfFrame b 2) (w.partOfFrame b 3)) s
      (s.sendFrame b) := by
  have hp := State.takeParts_composes (k := k) hb hx (List.range 4)
  rw [hw] at hp
  have hs : s.sendFrame b = w.giveFrame b k (bit (byteAt (w.partOfFrame b 0) 2).toNat 1)
      (frameOf k (w.partOfFrame b 0) (w.partOfFrame b 1) (w.partOfFrame b 2) (w.partOfFrame b 3)) := by
    unfold State.sendFrame
    simp only [hk, hw]
  rw [hs]
  exact hp.leaves (State.giveFrame_leaves ..)

end sent

/-- With no loop bound there is no external word to take. -/
theorem State.takeExt_of_no_loops (h : s.loops = []) : s.takeExt = s := by
  rw [State.takeExt, h]
  rfl

/-- A board has one frame to send where it is trained, frames go, and the frame of the coming boundary has not left. -/
theorem exec_downstreamFrame (b : Fin 24) (s : State) : exec (.downstreamFrame b) s = .next
    (if (s.board b.val).trained = false ∨ s.stg.stopped = true ∨ (s.board b.val).sent.map (·.1) = some (s.beat.toNat + 1) then s
    else s.takeExt.takeBeat.sendFrame b.val) := by
  show execDownstreamFrame b s = _
  unfold execDownstreamFrame
  refine congrArg _ (if_congr ?_ rfl rfl)
  cases h : (s.board b.val).sent with
  | none => simp
  | some v =>
    simp only [Bool.not_eq_true, Option.map_some, Option.some.injEq]
    exact or_congr_right (or_congr_right decide_eq_true_iff)

end Sys2Proof.Machine

open Sys2Proof Sys2Proof.Machine Sys2Proof.Safety in
/-- Settles O29: the parts of a frame are composed one after the other, and composing one keeps the parts taken before, the board's
command and state, the module's state and the bus reference; then the fields are read at their places in the joined parts. -/
theorem downstreamFrames : Obligations.DownstreamFrames := by
  intro s b k mode shot
  refine ⟨fun h => ⟨s, (exec_downstreamFrame b s).trans (by rw [if_pos h]), rfl⟩,
    fun htrained hgo hunsent hloops htaken hexit => ⟨s.sendFrame b.val, ?_, ?_⟩⟩
  · rw [exec_downstreamFrame, if_neg (by rw [htrained, hgo]; exact fun h => h.elim nofun (·.elim nofun hunsent)), State.takeExt_of_no_loops hloops, State.takeBeat,
      if_pos (show s.beatN < s.stg.taken from htaken)]
  have hx : Bits.bit s.stg.exits b.val = false := by simp [Bits.bit, hexit]
  obtain ⟨w, hw⟩ : ∃ w, (List.range 4).foldl (fun s i => s.takePart b.val k i) s = w := ⟨_, rfl⟩
  have hl := State.sendFrame_leaves (k := k) b.isLt hx rfl hw
  refine ⟨_, _, hl.outs, hl.sent, hl.force, frameOf_eq .., hl.mem, hl.evl, hl.others, fun hfresh hnone => ?_, fun hshots => ?_⟩
  · have part (i : Nat) (hi : i < 4) := State.takeParts_fresh b.isLt hx List.nodup_range
      (fun i hi => hfresh i (List.mem_range.1 hi)) (List.mem_range.2 hi)
    rw [hw] at part
    obtain ⟨u0, hu0, h0⟩ := part 0 (by decide)
    obtain ⟨u1, -, h1⟩ := part 1 (by decide)
    obtain ⟨u2, hu2, h2⟩ := part 2 (by decide)
    obtain ⟨u3, -, h3⟩ := part 3 (by decide)
    obtain ⟨v, hv, hv0⟩ := u0.framePart0_eq k (u0.frameMode b.val k) (u0.srcActive k)
    obtain ⟨hlen, hnum, hvref, hmode⟩ := frameOf_fields (k := k) hv (h0.trans hv0) (h1 ▸ State.framePart1_length ..)
      (h2 ▸ State.framePart2_length ..) (h3 ▸ State.framePart3_length ..) (u0.f_lt _)
    refine ⟨hlen, hnum, hvref.trans hu0.vref, ?_⟩
    rw [hmode, h2, State.framePart2_mode, hu2.frameMode hnone]
    simp only [mode]
    split
    · rfl
    · split <;> rfl
  · rw [State.takeParts_taken _ fun i hi => hshots i (List.mem_range.1 hi)] at hw
    subst hw
    rfl

namespace Sys2Proof.Machine

open Sys2Proof.Bits Sys2Proof.Safety

/-! ### What an operation beside the fabric's work leaves (R30, R355, R362) -/

/-- The beat, recovery, the circulars, the partitions, and whether frames have stopped. -/
def State.standing (s : State) : BitVec 64 × Rcv × List Circ × Tab Part × Bool := (s.beat, s.rcv, s.circs, s.parts, s.stg.stopped)

/-- A cell that has no program or has stopped. -/
abbrev Cell.Halted (c : Cell) : Prop := c.run = 0 ∨ c.run = 3

/-- The registers of R keep their words, the queue of events only grows, what stands stays, and no cell or program starts. -/
structure Spares (R : Nat → Prop) (s t : State) : Prop where
  rd : ∀ r, R r → t.rd r = s.rd r
  queue : s.queueGrows t
  standing : t.standing = s.standing
  halted : ∀ n, (s.cell n).Halted → (t.cell n).Halted
  settled : ∀ n, (s.cell n).outst = 0 → (t.cell n).outst = 0
  unstarted : ∀ p x, (s.prog p x).start = none → (t.prog p x).start = none

namespace Spares

variable {R : Nat → Prop} {s t u : State}

theorem refl (s : State) : Spares R s s := ⟨fun _ _ => rfl, s.queueGrows_refl, rfl, fun _ => id, fun _ => id, fun _ _ => id⟩

theorem trans (h : Spares R s t) (h' : Spares R t u) : Spares R s u where
  rd r hr := (h'.rd r hr).trans (h.rd r hr)
  queue := h.queue.trans h'.queue
  standing := h'.standing.trans h.standing
  halted n hn := h'.halted n (h.halted n hn)
  settled n hn := h'.settled n (h.settled n hn)
  unstarted p x hx := h'.unstarted p x (h.unstarted p x hx)

/-- A register outside R is written. -/
theorem wr {o : Nat} {w : Word} (h : Spares R s t) (ho : ¬ R o) : Spares R s (t.wr o w) :=
  h.trans { refl (R := R) t with
    rd := fun r hr => by
      rw [State.rd_wr, if_neg]
      rintro rfl
      exact ho hr }

theorem setF {F : Fld} {v : Nat} (h : Spares R s t) (ho : ¬ R F.off) : Spares R s (t.setF F v) := h.wr ho

theorem bump {o : Nat} (h : Spares R s t) (ho : ¬ R o) : Spares R s (t.bump o) := h.wr ho

/-- Other parts of the state change. -/
theorem frame {pending released cycle power live latchHost latchSide mem kept clusters deadCells deadClusters net replies routes envs acks runs
    loops mon sst sec grd bud ldg mpw hif bup twn cnt outs free} {stg : Stg} (h : Spares R s t)
    (hstg : stg.stopped = t.stg.stopped := by rfl) : Spares R s
      ⟨pending, t.beat, released, cycle, power, t.regs, live, latchHost, latchSide, mem, kept, t.cells, clusters, deadCells, deadClusters,
       net, replies, t.circs, routes, envs, acks, t.parts, t.progs, t.rcv, runs, loops, stg, mon, sst, sec, grd, bud, ldg, mpw, hif, bup,
       twn, cnt, t.evl, outs, free⟩ :=
  h.trans {
    rd := fun _ _ => rfl
    queue := t.queueGrows_refl
    standing := by
      unfold State.standing
      dsimp only
      rw [hstg]
    halted := fun _ => id
    settled := fun _ => id
    unstarted := fun _ _ => id }

theorem ev {code p0 p1 o p : Nat} (h : Spares R s t) (ho : ¬ R 0x130010C) : Spares R s (t.ev code p0 p1 o p) := by
  have hf := t.ev_frame code p0 p1 o p
  have hst : (t.ev code p0 p1 o p).standing = t.standing := by
    rw [hf]
    rfl
  refine h.trans {
    rd := fun r hr => State.rd_ev _ _ _ _ _ _ fun e => ho (show R Reg.EVL_QDROP_CNT from e ▸ hr)
    queue := t.queue_ev_prefix ..
    standing := hst
    halted := fun n => ?_, settled := fun n => ?_, unstarted := fun p x => ?_ }
  all_goals
    rw [hf]
    exact id

theorem andThen (h : Spares R s t) (f : Spares R s t → Spares R s u) : Spares R s u := f h

theorem ite {c : Prop} {_ : Decidable c} (ht : Spares R s t) (hu : Spares R s u) : Spares R s (if c then t else u) := by
  split
  · exact ht
  · exact hu

theorem foldl {α : Type} {f : State → α → State} {l : List α} (h : Spares R s t) (hf : ∀ t, ∀ a ∈ l, Spares R s t → Spares R s (f t a)) :
    Spares R s (l.foldl f t) := List.foldlRecOn l f h fun t ht a ha => hf t a ha ht

theorem foldl_range {f : State → Nat → State} (n : Nat) (h : Spares R s t) (hf : ∀ t a, a < n → Spares R s t → Spares R s (f t a)) :
    Spares R s ((List.range n).foldl f t) := h.foldl fun t a ha => hf t a (List.mem_range.1 ha)

theorem beat (h : Spares R s t) : t.beat = s.beat := congrArg Prod.fst h.standing

theorem rcv (h : Spares R s t) : t.rcv = s.rcv := congrArg (·.2.1) h.standing

theorem circs (h : Spares R s t) : t.circs = s.circs := congrArg (·.2.2.1) h.standing

theorem parts (h : Spares R s t) : t.parts = s.parts := congrArg (·.2.2.2.1) h.standing

theorem stopped (h : Spares R s t) : t.stg.stopped = s.stg.stopped := congrArg (·.2.2.2.2) h.standing

theorem f (h : Spares R s t) {F : Fld} (hF : R F.off) : t.f F = s.f F := congrArg (fld · F.lo F.n) (h.rd _ hF)

theorem drive {o : Out} (h : Spares R s t) : Spares R s (t.drive o) := .ite h.frame h

end Spares

/-! ### The stage's, grid's and ledger's own registers (Table 20-1) -/

/-- The registers below the envelope block and from the host block on, but those of the twin's status and of dropped events. -/
abbrev outer (r : Nat) : Prop := (r < 0x300000 ∨ 0xD00000 ≤ r) ∧ r ≠ 0x1100008 ∧ r ≠ 0x130010C

namespace Spares

variable {s t : State}

/-- A register of a block from the envelopes' to the module power's. -/
theorem inner {base n : Nat} (h : 0x300000 ≤ base ∧ base + n < 0xD00000) : ¬ outer (base + n) := by
  unfold outer
  omega

theorem event {code p0 p1 o p : Nat} (h : Spares outer s t) : Spares outer s (t.ev code p0 p1 o p) := h.ev (by decide)

theorem setBState {b new cause : Nat} (h : Spares outer s t) (hb : b < 24) : Spares outer s (t.setBState b new cause) :=
  .ite h (h.setF (inner (by omega))).event

theorem commandLocal {b : Nat} (h : Spares outer s t) (hb : b < 24) : Spares outer s (t.commandLocal b) :=
  .ite (andThen h.frame fun h => .ite ((h.bump (by decide)).setBState hb) h) h

theorem setPstates {b : Nat} {new : Nat → Nat} (h : Spares outer s t) (hb : b < 24) : Spares outer s (t.setPstates b new) :=
  andThen (h.foldl_range 4 fun _ _ hj h => .ite h
      (andThen (.ite (h.setF (inner (by omega))) h) fun h => h.frame.setF (inner (by omega)))) fun h =>
    setF (.ite h (h.foldl fun _ _ _ h => .ite h.frame h)) (inner (by omega))

theorem shedTick {b k : Nat} (h : Spares outer s t) (hb : b < 24) : Spares outer s (t.shedTick b k) :=
  .ite h (foldl h.frame fun _ _ _ h => .ite (.ite (h.setPstates hb) h.frame) h)

theorem giveFrame {b k : Nat} {act : Bool} {fr : Bytes} (h : Spares outer s t) (hb : b < 24) : Spares outer s (t.giveFrame b k act fr) :=
  andThen (((h.setF (F := Reg.TWN_STATUS_ACTIVE) (by decide)).setF (F := Reg.STG_BOARD_STATUS_EN b) (inner (by omega))).setF
      (F := Reg.STG_BOARD_STATUS_FIRE b) (inner (by omega))).frame fun h => drive (.ite h.frame h)

theorem localFrames (h : Spares outer s t) : Spares outer s t.localFrames := by
  unfold State.localFrames
  refine h.foldl_range 24 fun u b hb h => ?_
  split
  · exact (h.shedTick hb).giveFrame hb
  · exact h

theorem toGrd {new rank : Nat} (h : Spares outer s t) : Spares outer s (t.toGrd new rank) :=
  .ite h (andThen (.ite (h.setF (F := Reg.GRD_STATE_GSTATE) (by decide)).frame (h.setF (F := Reg.GRD_STATE_GSTATE) (by decide))) fun h =>
    andThen (.ite (h.bump (by decide)) (.ite (h.bump (by decide)) h)) fun h => andThen (.ite h.frame h) fun h => (ite h.frame h).event)

theorem wr64 {o v : Nat} (h : Spares outer s t) (ho : ¬ outer o ∧ ¬ outer (o + 4) := by decide) : Spares outer s (t.wr64 o v) :=
  (h.wr ho.1).wr ho.2

theorem wrBytes {n : Nat} (h : Spares outer s t) (o : Nat) (b : Bytes) (ho : 0x300000 ≤ o ∧ o + 4 * n < 0xD00000) :
    Spares outer s (t.wrBytes o b n) := by
  induction n generalizing t o b with
  | zero => exact h
  | succ n ih => exact ih (h.wr (inner (n := 0) (by omega))) _ _ (by omega)

/-! ### Throttle lines, the ledger and the storage at the entry to HOLDUP (R151, R261, R250) -/

theorem relines {u : State} (h : Spares outer s t) : Spares outer s (t.relines u) := by
  unfold State.relines
  extract_lets B t1 was grid t2 t3 t4 lines before t5
  have h1 : Spares outer s t1 := .ite h.frame h
  have h3 : Spares outer s t3 := ((h1.setF (F := Reg.BUD_THR_SRC_GRID) (by decide)).setF (F := Reg.BUD_THR_SRC_SAFE) (by decide)).setF
    (F := Reg.GRD_STATE_THROTTLING) (by decide)
  have h4 : Spares outer s t4 := h3.foldl fun w l _ hw => .ite hw.frame (.ite hw.event.frame hw)
  have h5 : Spares outer s t5 := h4.foldl fun w l _ hw => .ite hw hw.frame
  exact h5.frame.setF (F := Reg.BUD_THR_STATE_LINES) (by decide)

theorem useFree (h : Spares outer s t) : Spares outer s t.useFree := h.frame

theorem checkpoint {holdup : Bool} (h : Spares outer s t) : Spares outer s (t.checkpoint holdup) :=
  (ite (c := (pickSlot t.ldg.ckptA t.ldg.ckptB).isSome) h h.useFree).frame

theorem closeBatch {holdup : Bool} (h : Spares outer s t) : Spares outer s (t.closeBatch holdup) := by
  unfold State.closeBatch
  extract_lets b t1 t2 L t3
  have h1 : Spares outer s t1 := h.wr64.bump (o := Reg.LDG_BATCH_CNT) (by decide)
  have h3 : Spares outer s t3 := h1.frame
  exact h3.checkpoint

theorem batchDue (h : Spares outer s t) : Spares outer s t.batchDue :=
  .ite (h.frame.bump (o := Reg.LDG_BATCH_DEFER_CNT) (by decide)).event h.closeBatch

theorem ldgHoldup (h : Spares outer s t) : Spares outer s t.ldgHoldup := .ite h (.ite h.batchDue.checkpoint h.closeBatch)

theorem writeSlot {st : Nat} {body : Bytes} (hst : st < 8) (h : Spares outer s t) : Spares outer s (t.writeSlot (recBase st) body).1 := by
  have hplace {k : Nat} (hk : k < 2) : 0x300000 ≤ recBase st + 64 * k ∧ recBase st + 64 * k + 4 * 16 < 0xD00000 := by
    unfold recBase
    omega
  unfold State.writeSlot
  rcases t.inForce (recBase st) with _ | ⟨r, b⟩
  · exact h.useFree.wrBytes _ _ (hplace (Nat.mod_lt _ (by decide)))
  · exact h.wrBytes _ _ (hplace (by omega))

theorem setString {st : Nat} {v : Str} (h : Spares outer s t) : Spares outer s (t.setString st v) := h.frame

theorem writeRecord {st : Nat} (hst : st < 8) (h : Spares outer s t) : Spares outer s (t.writeRecord st) := by
  have hslot : ¬ outer (Reg.SST_STRING_STATUS_SLOT st).off := inner (by omega)
  unfold State.writeRecord
  refine .ite ?_ ?_
  · unfold State.carryRecord
    split
    · exact h
    · exact (((h.writeSlot hst).setF hslot).bump (by decide)).setString
  · exact (((h.writeSlot hst).setF hslot).bump (by decide)).setString

theorem sstHoldup (h : Spares outer s t) : Spares outer s t.sstHoldup :=
  h.foldl_range 8 fun _ _ hst h => .ite h (h.writeRecord hst)

end Spares

/-! ### The entry to HOLDUP (Table 1-7) -/

section holdup

variable {s t : State}

/-- The first of a queue has no cycle: it is written first. -/
theorem firstEv_of_cycle {e : Ev} {q : List Ev} (h : e.cycle = none) : firstEv (e :: q) = some (e, q) := by
  simp [firstEv, h]

/-- The events that wait, the new one first where the log took it (R30). -/
theorem State.toMstate_holdup (s : State) : ∃ q, s.toMstate 6 5 = (({ s.ev 0x0F01 (s.mstate + 16 * 6 + 256 * 5) 0 with
      evl := { (s.ev 0x0F01 (s.mstate + 16 * 6 + 256 * 5) 0).evl with queue := q } } : State).setF Reg.GLB_STATE_MSTATE 6).setF
        Reg.GLB_STATE_LAST_CAUSE 5 ∧
      (s.evl.closed = false → s.evl.queue.length < 256 → ∃ v r, q = v :: r ∧ v.cycle = none ∧ v.code = 0xF01 ∧
        v.p0 = BitVec.ofNat 32 (s.mstate + 16 * 6 + 256 * 5) ∧ v.hold = true) := by
  refine ⟨_, rfl, fun h1 h2 => ?_⟩
  have hq := congrArg Evl.queue (s.queue_raise 0x0F01 (s.mstate + 16 * 6 + 256 * 5) 0 s.beatLo s.beatHi 0xFFF 0 h1 h2)
  change (s.ev 0x0F01 (s.mstate + 16 * 6 + 256 * 5) 0).evl.queue = _ at hq
  rw [hq]
  simp

theorem State.mstate_toMstate_holdup (s : State) : (s.toMstate 6 5).mstate = 6 := by
  obtain ⟨q, h, -⟩ := s.toMstate_holdup
  rw [h, State.mstate, State.f_setF_apart _ _ _ _ (.inr (by decide)), State.f_setF_self _ _ _ (by decide)]
  rfl

theorem State.cause_toMstate_holdup (s : State) : (s.toMstate 6 5).f Reg.GLB_STATE_LAST_CAUSE = 5 := by
  obtain ⟨q, h, -⟩ := s.toMstate_holdup
  rw [h, State.f_setF_self _ _ _ (by decide)]
  rfl

theorem State.cstate_toMstate_holdup (s : State) {c : Nat} (hc : c < 640) : (s.toMstate 6 5).cstate c = s.cstate c := by
  obtain ⟨q, h, -⟩ := s.toMstate_holdup
  have hoff : (Reg.FAB_CLUSTER_STATE_CSTATE c).off ≠ 0x100 ∧ (Reg.FAB_CLUSTER_STATE_CSTATE c).off ≠ Reg.EVL_QDROP_CNT := by
    simp [Reg.FAB_CLUSTER_STATE_CSTATE, Reg.EVL_QDROP_CNT]
    omega
  rw [h, State.cstate, State.f_setF_apart _ _ _ _ (.inl hoff.1), State.f_setF_apart _ _ _ _ (.inl hoff.1)]
  exact State.f_ev _ _ _ _ _ _ hoff.2

/-- In HOLDUP the ledger does not run. -/
theorem Spares.ldgFollow_holdup (h : Spares outer s t) (hm : t.mstate = 6) : Spares outer s t.ldgFollow := by
  have hrun : (t.b Reg.MAN_SHELF_VALID && decide (t.mstate = 3 ∨ t.mstate = 4 ∨ t.mstate = 5)) = false := by simp [hm]
  unfold State.ldgFollow
  rw [hrun]
  dsimp only
  rw [Bool.false_and, if_neg Bool.false_ne_true]
  exact .ite (h.setF (by decide)) h

/-- What follows the change as the module enters HOLDUP. -/
theorem Spares.enter_holdup (s : State) : Spares outer (s.toMstate 6 5) (s.enter 6 5) := by
  unfold State.enter
  extract_lets s0 old t1 t2 t3 H t4 t5
  have e2 : t2 = t1.toGrd 0 0 := (if_neg (by decide)).trans ((if_neg (by decide)).trans (if_neg (by decide)))
  have e3 : t3 = (List.range 24).foldl State.commandLocal t2 := (if_neg (by decide)).trans (if_neg (by decide))
  have e5 : t5 = t4 := if_neg (by decide)
  have h2 : Spares outer t1 t2 := e2 ▸ (Spares.refl t1).toGrd
  have h3 : Spares outer t1 t3 := e3 ▸ h2.foldl_range 24 fun _ _ hb h => h.commandLocal hb
  have h4 : Spares outer t1 t4 := .ite (.ite h3 h3.frame) h3.frame
  have h5 : Spares outer t1 t5 := e5 ▸ h4
  clear_value t5
  exact h5.relines.ldgFollow_holdup ((h5.relines.f (by decide)).trans s.mstate_toMstate_holdup)

/-- The clusters that are not in reset are gated. -/
def State.gateAll (s : State) (n : Nat) : State :=
  (List.range n).foldl (fun s c => if s.cstate c = 3 then s else s.setF (Reg.FAB_CLUSTER_STATE_CSTATE c) 0) s

theorem State.gateAll_succ (s : State) (n : Nat) : s.gateAll (n + 1) =
    if (s.gateAll n).cstate n = 3 then s.gateAll n else (s.gateAll n).setF (Reg.FAB_CLUSTER_STATE_CSTATE n) 0 := by
  rw [State.gateAll, List.range_succ, List.foldl_append]
  rfl

theorem State.gateAll_keeps {α : Type} (F : State → α) (hF : ∀ (s : State) r, F { s with regs := r } = F s) (s : State) (n : Nat) :
    F (s.gateAll n) = F s :=
  foldl_keeps F _ (fun s c => by
    split
    · rfl
    · exact hF s _) _ s

theorem State.gateAll_rd (s : State) {n r : Nat} (hr : r < 0x201000) : (s.gateAll n).rd r = s.rd r := by
  induction n with
  | zero => rfl
  | succ n ih =>
    rw [State.gateAll_succ]
    split
    · exact ih
    · rw [State.rd_setF_ne _ _ (by simp [Reg.FAB_CLUSTER_STATE_CSTATE]; omega), ih]

theorem State.gateAll_cstate (s : State) (n c : Nat) : (s.gateAll n).cstate c = if c < n ∧ s.cstate c ≠ 3 then 0 else s.cstate c := by
  induction n generalizing c with
  | zero => rfl
  | succ n ih =>
    have hn : (s.gateAll n).cstate n = s.cstate n := (ih n).trans (if_neg (by simp))
    have hset : ((s.gateAll n).setF (Reg.FAB_CLUSTER_STATE_CSTATE n) 0).cstate c = if c = n then 0 else (s.gateAll n).cstate c := by
      split
      · next h => subst h; exact State.f_setF_self _ _ _ (by simp [Reg.FAB_CLUSTER_STATE_CSTATE])
      · next h => exact State.f_setF_apart _ _ _ _ (.inl (by simpa [Reg.FAB_CLUSTER_STATE_CSTATE] using h))
    rw [State.gateAll_succ, hn]
    by_cases h : s.cstate n = 3
    · rw [if_pos h, ih]
      grind
    · rw [if_neg h, hset, ih]
      grind

/-- Before its clusters are gated, a module that enters HOLDUP has stopped its frames. -/
theorem State.holdup_spares (s : State) : ∃ u w, Spares outer (s.toMstate 6 5) u ∧ Spares outer { u with
      stg := { u.stg with stopped := true }, twn := { u.twn with fed := false } } w ∧ s.holdup = w.gateAll 640 :=
  ⟨_, _, Spares.ite (c := s.ldgRuns) (Spares.enter_holdup s).localFrames.ldgHoldup (Spares.enter_holdup s).localFrames,
    (Spares.refl _).sstHoldup, rfl⟩

/-- The module enters HOLDUP: its state, the cause, frames stopped, clusters gated, and the event of the change first (R30). -/
theorem State.holdup_enters (s : State) : s.holdup.mstate = 6 ∧ s.holdup.f Reg.GLB_STATE_LAST_CAUSE = 5 ∧ s.holdup.stg.stopped = true ∧
    (∀ c, c < 640 → s.cstate c ≠ 3 → s.holdup.cstate c = 0) ∧
    (s.evl.closed = false → s.evl.queue.length < 256 → ∃ v q, firstEv s.holdup.evl.queue = some (v, q) ∧ v.code = 0xF01 ∧
      v.p0 = BitVec.ofNat 32 (s.mstate + 16 * 6 + 256 * 5) ∧ v.hold = true) := by
  obtain ⟨u, w, hu, hw, hs⟩ := s.holdup_spares
  have hrd (r : Nat) (hr : outer r) : w.rd r = (s.toMstate 6 5).rd r := (hw.rd r hr).trans (hu.rd r hr)
  have hglb : s.holdup.rd 0x100 = (s.toMstate 6 5).rd 0x100 := by
    rw [hs, State.gateAll_rd _ (by decide), hrd _ (by decide)]
  refine ⟨(congrArg (fld · 0 4) hglb).trans s.mstate_toMstate_holdup, (congrArg (fld · 16 4) hglb).trans s.cause_toMstate_holdup,
    ?_, fun c hc hne => ?_, fun h1 h2 => ?_⟩
  · rw [hs, State.gateAll_keeps (·.stg.stopped) fun _ _ => rfl]
    exact hw.stopped
  · have hcs : w.cstate c = s.cstate c := (congrArg (fld · 0 2) (hrd (0x201000 + 4 * c) (by unfold outer; omega))).trans
      (s.cstate_toMstate_holdup hc)
    rw [hs, State.gateAll_cstate, hcs, if_pos ⟨hc, hne⟩]
  · obtain ⟨q, hq, hfirst⟩ := s.toMstate_holdup
    obtain ⟨v, r, rfl, hcycle, hv⟩ := hfirst h1 h2
    obtain ⟨r', hr'⟩ := hu.queue.trans (hw.queue)
    refine ⟨v, r ++ r', ?_, hv⟩
    rw [hs, State.gateAll_keeps (·.evl.queue) fun _ _ => rfl, hr', hq]
    exact firstEv_of_cycle hcycle

end holdup

end Sys2Proof.Machine

namespace Sys2Proof.Machine

open Sys2Proof.Bits Sys2Proof.Safety

theorem fabricKept_trans {s t u : State} (h : fabricKept s t) (h' : fabricKept t u) : fabricKept s u := by
  obtain ⟨a1, a2, a3, a4, a5, a6, a7, a8, a9⟩ := h
  obtain ⟨b1, b2, b3, b4, b5, b6, b7, b8, b9⟩ := h'
  exact ⟨b1.trans a1, b2.trans a2, b3.trans a3, b4.trans a4, b5.trans a5, b6.trans a6, b7.trans a7, b8.trans a8, b9.trans a9⟩

theorem raisesAt_of_evl {s t u : State} {code p0 p1 : Nat} (he : t.evl = s.evl) (hb : t.beat = s.beat) (h : raisesAt t u code p0 p1) :
    raisesAt s u code p0 p1 := by
  unfold raisesAt raises at h ⊢
  rwa [he, hb] at h

/-! ### Feed samples (R387) -/

theorem regsOnly.of_regs {s t u : State} {r : Tab Word} (hu : u = { s with regs := r }) (h : regsOnly u t) : regsOnly s t := by
  subst hu
  exact h

theorem regsOnly.regs {s t : State} {r : Tab Word} (h : regsOnly s t) : regsOnly s { t with regs := r } := by
  unfold regsOnly at h ⊢
  rw [h]


/-- A feed's state and voltage are shown: the state's field F takes a state, with its event on a change, and the voltage's field V takes
the voltage. -/
def State.showFeed (s : State) (F V : Fld) (i v new : Nat) (counts : Prop) [Decidable counts] : State :=
  if s.f F = new then s.setF V v
  else
    let t := ((s.setF V v).setF F new).ev 0x1006 (i + 2 * s.f F + 8 * new) v 0x152
    if counts then t.bump Reg.TWN_FEED_LOSS_CNT else t

/-- The fields of TWN_FEED. -/
abbrev feedFlds : List Fld := [Reg.TWN_FEED_A_STATE, Reg.TWN_FEED_VA_DV, Reg.TWN_FEED_B_STATE, Reg.TWN_FEED_VB_DV]

section feeds

variable {s t : State} {F V : Fld} {i v new : Nat} {counts : Prop} {dec : Decidable counts}

/-- What showing a feed changes. -/
structure FeedShown (F V : Fld) (i v new : Nat) (w : Twn) (s t : State) : Prop where
  frame : t = { s with regs := t.regs, evl := t.evl, twn := w }
  others : regsBut s t [0x1100018, 0x110011C, 0x130010C]
  state : t.f F = new
  volts : t.f V = v
  rest : ∀ G ∈ feedFlds, G ≠ F → G ≠ V → t.f G = s.f G
  quiet : s.f F = new → t.evl = s.evl
  queue : s.queueGrows t
  raises : s.f F ≠ new → raisesAt s t 0x1006 (i + 2 * s.f F + 8 * new) v

/-- Two fields of TWN_FEED lie apart. -/
theorem feedFlds_apart : ∀ F ∈ feedFlds, F.off = 0x1100018 ∧ F.lo + F.n ≤ 32 ∧
    ∀ G ∈ feedFlds, F ≠ G → F.lo + F.n ≤ G.lo ∨ G.lo + G.n ≤ F.lo := by decide

theorem State.showFeed_shown (hF : F ∈ feedFlds) (hV : V ∈ feedFlds) (hFV : F ≠ V) (hnew : new < 2 ^ F.n) (hv : v < 2 ^ V.n) :
    FeedShown F V i v new s.twn s (s.showFeed F V i v new counts) := by
  obtain ⟨hFoff, hFn, hFG⟩ := feedFlds_apart F hF
  obtain ⟨hVoff, hVn, hVG⟩ := feedFlds_apart V hV
  have hapart {G X : Fld} (hG : G ∈ feedFlds) (hX : X ∈ feedFlds) (h : G ≠ X) (w : State) (n : Nat) : (w.setF X n).f G = w.f G :=
    State.f_setF_apart _ _ _ _ (.inr ⟨(feedFlds_apart G hG).2.1, (feedFlds_apart G hG).2.2 X hX h⟩)
  have hvolts (w : State) : (w.setF V v).f V = v := (State.f_setF_self _ _ _ hVn).trans (Nat.mod_eq_of_lt hv)
  have hstate (w : State) : (w.setF F new).f F = new := (State.f_setF_self _ _ _ hFn).trans (Nat.mod_eq_of_lt hnew)
  unfold State.showFeed
  split
  · next h =>
    exact
      { frame := rfl
        others := fun r hr => State.rd_setF_ne _ _ (by rw [hVoff]; exact List.ne_of_not_mem_cons hr)
        state := (hapart hF hV hFV _ _).trans h
        volts := hvolts s
        rest := fun G hG _ hGV => hapart hG hV hGV _ _
        quiet := fun _ => rfl
        queue := s.queueGrows_refl
        raises := fun hne => absurd h hne }
  · next h =>
    generalize hw : (s.setF V v).setF F new = w
    have hframe : w = { s with regs := w.regs } := by rw [← hw]; rfl
    have hev := w.ev_logged 0x1006 (i + 2 * s.f F + 8 * new) v 0x152 0
    extract_lets t
    have hcount : ∃ r, (if counts then t.bump Reg.TWN_FEED_LOSS_CNT else t) = { t with regs := r } ∧
        ∀ o, o ≠ 0x110011C → Tab.get r o (resetWord o) = t.rd o := by
      split
      · exact ⟨_, rfl, fun o ho => (State.rd_bump ..).trans (if_neg ho)⟩
      · exact ⟨_, rfl, fun _ _ => rfl⟩
    obtain ⟨r, hr, hrd⟩ := hcount
    rw [hr]
    have hshown (G : Fld) (hG : G ∈ feedFlds) : ({ t with regs := r } : State).f G = w.f G := by
      have ho : G.off = 0x1100018 := (feedFlds_apart G hG).1
      exact congrArg (fld · G.lo G.n) ((hrd _ (by rw [ho]; decide)).trans (hev.2.1 _ (by rw [ho]; decide)))
    exact
      { frame := regsOnly.regs (regsOnly.of_regs hframe hev.1)
        others := fun o ho => by
          have h1 : o ≠ 0x1100018 := List.ne_of_not_mem_cons ho
          simp only [List.mem_cons, not_or] at ho
          rw [State.rd, hrd o ho.2.1, hev.2.1 o (by simpa using ho.2.2.1), ← hw, State.rd_setF_ne _ _ (by rwa [hFoff]),
            State.rd_setF_ne _ _ (by rwa [hVoff])]
        state := by rw [hshown F hF, ← hw, hstate]
        volts := by rw [hshown V hV, ← hw, hapart hV hF (Ne.symm hFV), hvolts]
        rest := fun G hG hGF hGV => by rw [hshown G hG, ← hw, hapart hG hF hGF, hapart hG hV hGV]
        quiet := fun he => absurd he h
        queue := by
          have hevl : w.evl = s.evl := (congrArg State.evl hframe :)
          rw [State.queueGrows, ← hevl]
          exact w.queue_ev_prefix ..
        raises := fun _ => raisesAt_of_frame ⟨w.regs, s.mpw, hframe⟩ hev.2.2 }

/-- A feed that is low once more, or whose run of good samples is one longer, follows its voltage (R387). -/
theorem feedNext_runs (old v low high : Nat) :
    feedNext old v (if v < 360 then low + 1 else 0) (if 400 ≤ v ∧ v ≤ 600 then high + 1 else 0) =
      if v < 360 ∧ 1 ≤ low then 1 else if v < 360 then old else if v < 400 then 2 else if 600 < v then 3 else if 9 ≤ high then 0 else old := by
  unfold feedNext
  grind

theorem feedNext_lt {old : Nat} (h : old < 4) (v low high : Nat) : feedNext old v low high < 4 := by
  unfold feedNext
  grind

/-- The runs of low and of good samples that a voltage leaves (R387). -/
abbrev lowRun (n v : Nat) : Nat := if v < 360 then n + 1 else 0

abbrev goodRun (n v : Nat) : Nat := if 400 ≤ v ∧ v ≤ 600 then n + 1 else 0

theorem State.feed_zero (s : State) (v : Nat) : ∃ c d, s.feed 0 v = @State.showFeed { s with twn := { s.twn with
    low := (lowRun s.twn.low.1 v, s.twn.low.2), high := (goodRun s.twn.high.1 v, s.twn.high.2) } } Reg.TWN_FEED_A_STATE
      Reg.TWN_FEED_VA_DV 0 v (feedNext (s.f Reg.TWN_FEED_A_STATE) v (lowRun s.twn.low.1 v) (goodRun s.twn.high.1 v)) c d :=
  ⟨_, _, rfl⟩

theorem State.feed_one (s : State) (v : Nat) : ∃ c d, s.feed 1 v = @State.showFeed { s with twn := { s.twn with
    low := (s.twn.low.1, lowRun s.twn.low.2 v), high := (s.twn.high.1, goodRun s.twn.high.2 v) } } Reg.TWN_FEED_B_STATE
      Reg.TWN_FEED_VB_DV 1 v (feedNext (s.f Reg.TWN_FEED_B_STATE) v (lowRun s.twn.low.2 v) (goodRun s.twn.high.2 v)) c d :=
  ⟨_, _, rfl⟩

theorem FeedShown.fabricKept {w : Twn} (h : FeedShown F V i v new w s t) : fabricKept s t := by
  rw [h.frame]
  exact ⟨rfl, rfl, rfl, rfl, rfl, rfl, rfl, rfl, rfl⟩

theorem FeedShown.of_twn {w : Twn} (hF : F ∈ feedFlds) (hV : V ∈ feedFlds) (hFV : F ≠ V) (hnew : new < 2 ^ F.n) (hv : v < 2 ^ V.n) :
    FeedShown F V i v new w s (State.showFeed { s with twn := w } F V i v new counts) := by
  obtain ⟨h1, h2, h3, h4, h5, h6, h7, h8⟩ := State.showFeed_shown (s := { s with twn := w }) (i := i) (counts := counts) hF hV hFV hnew hv
  exact ⟨h1, h2, h3, h4, h5, h6, h7, h8⟩

theorem State.feed_zero_shown (s : State) (v : BitVec 10) : FeedShown Reg.TWN_FEED_A_STATE Reg.TWN_FEED_VA_DV 0 v.toNat
    (feedNext (s.f Reg.TWN_FEED_A_STATE) v.toNat (lowRun s.twn.low.1 v.toNat) (goodRun s.twn.high.1 v.toNat))
    { s.twn with low := (lowRun s.twn.low.1 v.toNat, s.twn.low.2), high := (goodRun s.twn.high.1 v.toNat, s.twn.high.2) } s
    (s.feed 0 v.toNat) := by
  obtain ⟨c, d, h⟩ := s.feed_zero v.toNat
  rw [h]
  exact .of_twn (F := Reg.TWN_FEED_A_STATE) (V := Reg.TWN_FEED_VA_DV) (by decide) (by decide) (by decide)
    (feedNext_lt (s.f_lt Reg.TWN_FEED_A_STATE) ..) v.isLt

theorem State.feed_one_shown (s : State) (v : BitVec 10) : FeedShown Reg.TWN_FEED_B_STATE Reg.TWN_FEED_VB_DV 1 v.toNat
    (feedNext (s.f Reg.TWN_FEED_B_STATE) v.toNat (lowRun s.twn.low.2 v.toNat) (goodRun s.twn.high.2 v.toNat))
    { s.twn with low := (s.twn.low.1, lowRun s.twn.low.2 v.toNat), high := (s.twn.high.1, goodRun s.twn.high.2 v.toNat) } s
    (s.feed 1 v.toNat) := by
  obtain ⟨c, d, h⟩ := s.feed_one v.toNat
  rw [h]
  exact .of_twn (F := Reg.TWN_FEED_B_STATE) (V := Reg.TWN_FEED_VB_DV) (by decide) (by decide) (by decide)
    (feedNext_lt (s.f_lt Reg.TWN_FEED_B_STATE) ..) v.isLt

theorem exec_feedSample (s : State) (va vb : BitVec 10) (ia ib : Nat) : exec (.feedSample va vb ia ib) s =
    .next (if s.released = true ∧ (s.beat.toNat % 10 ≠ 0 ∨ s.mpw.feedAt = some s.beat.toNat) then s else s.feedSample va vb ia ib) := rfl

end feeds

/-! ### The entry to HOLDUP and its closing (R30, R432) -/

section closing

variable {s t u : State}

theorem exec_bothFeedsLost (s : State) : exec .bothFeedsLost s = .next (if s.feedsLost then s.holdup else s) := rfl

theorem State.feedsLost_iff (s : State) : s.feedsLost = true ↔
    s.twn.fed = true ∧ s.mstate ≠ 6 ∧ s.f Reg.TWN_FEED_A_STATE = 1 ∧ s.f Reg.TWN_FEED_B_STATE = 1 := by simp [State.feedsLost]

theorem exec_holdupClosed (s : State) : exec .holdupClosed s = .next (if s.mstate = 6 ∧ ¬ s.evl.closed = true then
    if s.mpw.tripHeld then s.logClose.wholeReset 3 else s.logClose else s) := rfl

/-- Records are written to the log: its registers, a vector and what is driven out change; GLB_STATE does not. -/
structure Logs (s t : State) : Prop where
  frame : t = { s with regs := t.regs, evl := t.evl, outs := t.outs }
  state : t.rd 0x100 = s.rd 0x100

namespace Logs

theorem refl (s : State) : Logs s s := ⟨rfl, rfl⟩

theorem trans (h : Logs s t) (h' : Logs t u) : Logs s u := ⟨by rw [h'.frame, h.frame], h'.state.trans h.state⟩

theorem wr {o : Nat} {w : Word} (h : Logs s t) (ho : 0x100 ≠ o) : Logs s (t.wr o w) := h.trans ⟨rfl, (t.rd_wr ..).trans (if_neg ho)⟩

theorem setF {F : Fld} {v : Nat} (h : Logs s t) (ho : 0x100 ≠ F.off := by decide) : Logs s (t.setF F v) := h.wr ho

theorem bump {o : Nat} (h : Logs s t) (ho : 0x100 ≠ o := by decide) : Logs s (t.bump o) := h.wr ho

theorem log {e : Evl} (h : Logs s t) : Logs s { t with evl := e } := h.trans ⟨rfl, rfl⟩

theorem ite {c : Prop} {_ : Decidable c} (ht : Logs s t) (hu : Logs s u) : Logs s (if c then t else u) := by
  split
  · exact ht
  · exact hu

theorem vector {n : Nat} (h : Logs s t) : Logs s (t.vector n) :=
  .ite h (.ite (h.wr (by omega)) (h.trans ⟨rfl, rfl⟩))

theorem logWrite {e : Ev} (h : Logs s t) : Logs s (t.logWrite e) := by
  unfold State.logWrite
  extract_lets n sev last r E t1 t2 t3
  have h2 : Logs s t2 := (h.log.setF (F := Reg.EVL_TAIL_TAIL)).bump (o := Reg.EVL_APPEND_CNT)
  have h3 : Logs s t3 := .ite (h2.setF (F := Reg.EVL_STATUS_FULL)) h2
  exact .ite h.log.bump (.ite h.bump (.ite h3.vector h3))

theorem logNext (h : Logs s t) : Logs s t.logNext := by
  unfold State.logNext
  split
  · exact h
  · exact .ite h.log.logWrite h.log.logWrite.log

theorem logFlush {n : Nat} (h : Logs s t) : Logs s (t.logFlush n) := by
  induction n generalizing t with
  | zero => exact h
  | succ n ih => exact ih h.logNext

theorem fabricKept (h : Logs s t) : fabricKept s t := by
  rw [h.frame]
  exact ⟨rfl, rfl, rfl, rfl, rfl, rfl, rfl, rfl, rfl⟩

end Logs

theorem State.logClose_logs (s : State) : Logs s s.logClose := (Logs.refl s).logFlush.log

end closing

/-! ### A whole-chip reset, whatever clusters are dead (R11) -/

section clearing

variable {s t u : State}

/-- What a reset leaves of a state: NOT_READY with its cause, no memory, no partition, no fault, and the queue of events. -/
structure Cleared (s t : State) : Prop where
  mstate : t.mstate = 1
  cause : t.f Reg.GLB_STATE_LAST_CAUSE = s.f Reg.GLB_STATE_LAST_CAUSE
  mem : t.mem = []
  parts : t.parts = []
  beat : t.beat = 0
  faults : t.rcv.faults = []
  queue : s.queueGrows t

/-- The dead clusters' fields show it; GLB_STATE and what is no register stay. -/
theorem Cleared.deadShown (h : Cleared s t) (l : List Nat) :
    Cleared s (l.foldl (fun t c => t.setF (Reg.FAB_CLUSTER_STATE_CSTATE c) 3) t) := by
  refine List.foldlRecOn l _ h fun t h c _ => ?_
  have hrd : (t.setF (Reg.FAB_CLUSTER_STATE_CSTATE c) 3).rd 0x100 = t.rd 0x100 :=
    State.rd_setF_ne _ _ (by simp [Reg.FAB_CLUSTER_STATE_CSTATE]; omega)
  exact { h with
    mstate := (congrArg (fld · 0 4) hrd).trans h.mstate
    cause := (congrArg (fld · 16 4) hrd).trans h.cause }

theorem State.restoreOffsets_rcv (s : State) : s.restoreOffsets.rcv = s.rcv := by
  unfold State.restoreOffsets
  exact foldl_keeps State.rcv _ (fun s d => by rw [apply_ite State.rcv, State.setF_rcv, ite_self]) _ s

theorem State.rcv_hif (s : State) (h : Hif) : ({ s with hif := h } : State).rcv = s.rcv := rfl

theorem State.renewNonce_rcv (s : State) : s.renewNonce.rcv = s.rcv := rfl

theorem State.resetAll_cleared (s : State) : Cleared s s.resetAll := by
  unfold State.resetAll
  extract_lets s1 fusing cause module live kept boards boards' t0 sec t1 t2 t3 t4 t5 t6 hif t7
  have hs : LeadsTo s s1 := .ite (LeadsTo.refl s).ev (.refl s)
  have hbase : IsReset s1 ((t1.setF Reg.GLB_STATE_LAST_CAUSE cause).setF Reg.TWN_STATUS_MODULE module) :=
    .of_base (f := fusing) ⟨rfl, rfl, rfl, rfl, rfl, rfl, rfl, rfl, rfl, rfl, rfl, rfl, rfl, rfl, rfl⟩ rfl
      (fun _ => get_filter_put s1.regs (survives fusing)) s1.queueGrows_refl
  have hf1 : t1.rcv.faults = [] := rfl
  clear_value s1 fusing cause module live kept boards boards' t1
  have h2 : Settles _ t2 := .renewNonce (.refl ((t1.setF Reg.GLB_STATE_LAST_CAUSE cause).setF Reg.TWN_STATUS_MODULE module))
  have h5 : Settles _ t5 := h2.setF.setF.setF.setF.setF.restoreOffsets
  have hf5 : t5.rcv = t1.rcv := by simp [t5, t4, t3, t2, State.restoreOffsets_rcv, State.renewNonce_rcv]
  have h6 : Settles _ t6 := h5.setF
  have hf6 : t6.rcv = t5.rcv := State.setF_rcv ..
  clear_value t5 t6 hif
  have h7 : Settles _ t7 := .ite h6.blocks h5
  have hf7 : t7.rcv = t5.rcv := iteInduction (motive := (State.rcv · = t5.rcv)) (fun _ => (State.rcv_hif t6 _).trans hf6) fun _ => rfl
  have hr : IsReset s t7 := hs.reset (hbase.settle h7)
  clear_value t7
  obtain ⟨hbeat, -, hmem, -, -, -, hparts, -⟩ := hr.emptied
  exact Cleared.deadShown ⟨hr.mstate, hr.cause, hmem, hparts, hbeat, by rw [hf7, hf5, hf1], hr.queue⟩ _

theorem State.logOpen_queue (s : State) : s.queueGrows s.logOpen := by
  unfold State.logOpen
  split
  · exact s.queueGrows_refl
  · unfold State.queueGrows
    dsimp only
    split
    · exact ⟨[], (List.append_nil _).symm⟩
    · exact ⟨_, rfl⟩

/-- The log opens again after a reset. -/
theorem Cleared.logOpen (h : Cleared s t) : Cleared s t.logOpen := by
  have hq := h.queue.trans t.logOpen_queue
  rw [t.logOpen_frame] at hq ⊢
  exact ⟨h.mstate, h.cause, h.mem, h.parts, h.beat, h.faults, hq⟩

theorem State.wholeReset_clears (s : State) {cause : Nat} (hc : cause < 16) : (s.wholeReset cause).mstate = 1 ∧
    (s.wholeReset cause).f Reg.GLB_STATE_LAST_CAUSE = cause ∧ (s.wholeReset cause).mem = [] ∧ (s.wholeReset cause).parts = [] ∧
    (s.wholeReset cause).beat = 0 ∧ (s.wholeReset cause).rcv.faults = [] ∧
    (s.ev 0x0F01 (s.mstate + 16 + 256 * cause) 0).queueGrows (s.wholeReset cause) := by
  have hall := (LeadsTo.refl (s.toMstate 1 cause)).toGrd (new := 0) (rank := 0) |>.abandonLoads.commandLocals.localFrames
  generalize hu : State.localFrames _ = u at hall
  have h : Cleared u (s.wholeReset cause) := by
    rw [← hu]
    unfold State.wholeReset
    exact iteInduction (fun _ => State.resetAll_cleared _) fun _ => (State.resetAll_cleared _).logOpen
  refine ⟨h.mstate, h.cause.trans ((congrArg (fld · 16 4) hall.state).trans (s.cause_toMstate_notReady hc)), h.mem, h.parts, h.beat,
    h.faults, ?_⟩
  have hq := hall.queue.trans h.queue
  unfold State.queueGrows at hq ⊢
  rwa [s.evl_toMstate_notReady] at hq

end clearing

/-! ### The heartbeat and the loss of the host (R308) -/

section host

variable {s t : State}

/-- A field that fills its word is the word. -/
theorem fld_whole (w : Word) : fld w 0 32 = w.toNat := by
  rw [fld, Nat.pow_zero, Nat.div_one]
  exact Nat.mod_eq_of_lt w.isLt

theorem setFld_whole (w v : Word) : setFld w 0 32 v.toNat = v :=
  BitVec.eq_of_toNat_eq (by
    rw [← fld_whole (setFld w 0 32 v.toNat), fld_setFld _ _ _ _ (by decide)]
    exact Nat.mod_eq_of_lt v.isLt)

theorem exec_heartbeat (s : State) (v : Word) : exec (.heartbeat v) s = .next (if s.rd 0xD00004 = v then s
    else { s.wr 0xD00004 v with hif := { s.hif with hbPrev := s.hif.hbAt, hbAt := some s.beat.toNat, hbLast := some s.beat.toNat } }) := by
  have hf : s.f Reg.HIF_HB_VALUE = v.toNat ↔ s.rd 0xD00004 = v := by
    rw [State.f, show Reg.HIF_HB_VALUE = ⟨0xD00004, 0, 32⟩ from rfl, fld_whole]
    exact BitVec.toNat_inj
  have hset : s.setF Reg.HIF_HB_VALUE v.toNat = s.wr 0xD00004 v := congrArg (s.wr 0xD00004) (setFld_whole _ _)
  show Host.Outcome.next (s.heartbeat v.toNat) = _
  unfold State.heartbeat
  rw [hset]
  exact congrArg _ (if_congr hf rfl rfl)

/-- The causes of a lost host while the monitor runs (R308). -/
theorem State.hostCause_watched {w : Nat} (hw : s.hif.watch = some w) : s.hostCause =
    ofBool (decide (max w (s.hif.hbAt.getD w) + s.lf Reg.HIF_HB_CFG_HB_TIMEOUT_MS * 1000 ≤ s.beat.toNat)) +
    2 * ofBool (decide (s.f Reg.HIF_LINK_DL_UP = 0 ∧ max w s.hif.downAt + s.lf Reg.HIF_HB_CFG_HB_TIMEOUT_MS * 1000 ≤ s.beat.toNat)) := by
  have hfrom : s.hbFrom = some (s.hif.hbAt.getD w) := by
    rw [State.hbFrom, hw]
    cases s.hif.hbAt <;> rfl
  have hdown : (!s.b Reg.HIF_LINK_DL_UP) = decide (s.f Reg.HIF_LINK_DL_UP = 0) := by
    have := s.f_lt Reg.HIF_LINK_DL_UP
    rw [State.b, ← decide_not]
    exact decide_eq_decide.2 (by simp [Reg.HIF_LINK_DL_UP] at this ⊢; omega)
  rw [State.hostCause, hw]
  dsimp only
  rw [hfrom, hdown, ← Bool.decide_and]
  rfl

theorem Spares.gridHostLost (h : Spares outer s t) : Spares outer s t.gridHostLost := by
  unfold State.gridHostLost
  extract_lets again G t1 G2 t2
  have h1 : Spares outer s t1 := h.frame
  have h2 : Spares outer s t2 := h1.frame
  exact .ite (.ite h1.event h1) (.ite h2 (.ite h1
    (andThen (h2.setF (F := Reg.GRD_STATE_HOST_LOST) (by decide)).event fun h => .ite h.toGrd h)))

/-- The host's loss is shown with its cause. -/
def State.markHostLost (s : State) (c : Nat) : State :=
  { (s.setF Reg.HIF_STATUS_HOST_LOST 1).setF Reg.HIF_STATUS_CAUSE c with hif := { s.hif with hbPrev := none } }

theorem State.markHostLost_rd (s : State) (c r : Nat) :
    (s.markHostLost c).rd r = ((s.setF Reg.HIF_STATUS_HOST_LOST 1).setF Reg.HIF_STATUS_CAUSE c).rd r := rfl

theorem State.markHostLost_f (s : State) (c : Nat) (F : Fld) :
    (s.markHostLost c).f F = ((s.setF Reg.HIF_STATUS_HOST_LOST 1).setF Reg.HIF_STATUS_CAUSE c).f F :=
  congrArg (fld · F.lo F.n) (s.markHostLost_rd c F.off)

theorem State.markHostLost_lost (s : State) (c : Nat) : (s.markHostLost c).f Reg.HIF_STATUS_HOST_LOST = 1 := by
  rw [State.markHostLost_f, State.f_setF_apart _ _ _ _ (.inr (by decide)), State.f_setF_self _ _ _ (by decide)]
  rfl

theorem State.markHostLost_cause (s : State) {c : Nat} (hc : c < 4) : (s.markHostLost c).f Reg.HIF_STATUS_CAUSE = c := by
  rw [State.markHostLost_f, State.f_setF_self _ _ _ (by decide)]
  exact Nat.mod_eq_of_lt hc

theorem State.markHostLost_count (s : State) (c : Nat) : (s.markHostLost c).rd 0xD0600C = s.rd 0xD0600C := by
  rw [State.markHostLost_rd, State.rd_setF_ne _ _ (by decide), State.rd_setF_ne _ _ (by decide)]

/-- The host is found lost: what the state shows, the count, the event, and grid control's part (R308, R168). -/
theorem exec_hostLost (s : State) : exec .hostLost s = .next (if s.hostCause = 0 ∨ s.f Reg.HIF_STATUS_HOST_LOST = 1 then s
    else (((s.markHostLost s.hostCause).bump 0xD0600C).ev 0x0C02 (1 + 2 * s.hostCause) (s.markHostLost s.hostCause).hbAge
      0x153).gridHostLost) := by
  show execHostLost s = _
  unfold execHostLost
  refine congrArg _ (if_congr (or_congr_right (by simp [State.b])) rfl rfl)

/-- The age of the last heartbeat while the monitor runs. -/
theorem State.hbAge_watched {w : Nat} (hw : s.hif.watch = some w) :
    s.hbAge = min 65535 ((s.beat.toNat - (s.hif.hbLast).getD w) / 1000) := by
  rw [State.hbAge, hw]
  cases s.hif.hbLast <;> rfl

/-- A counter of 32 bits that counts on saturates (R6). -/
theorem toNat_satAdd (n k : Nat) : (BitVec.ofNat 32 (satAdd 32 n k)).toNat = min (2 ^ 32 - 1) (n + k) := by
  rw [BitVec.toNat_ofNat, satAdd]
  exact Nat.mod_eq_of_lt (by omega)

/-- The host that was not lost is: what the state shows, with the count and the event. -/
theorem hostLost_completes {w c : Nat} (hw : s.hif.watch = some w) (h0 : s.f Reg.HIF_STATUS_HOST_LOST = 0) (hc : s.hostCause = c)
    (hc0 : c ≠ 0) (hc4 : c < 4) : completes .hostLost s fun t => t.f Reg.HIF_STATUS_HOST_LOST = 1 ∧ t.f Reg.HIF_STATUS_CAUSE = c ∧
      counts s t 0xD0600C ∧ raisesAt s t 0xC02 (1 + 2 * c) (min 65535 ((s.beat.toNat - (s.hif.hbLast).getD w) / 1000)) := by
  have hexec := exec_hostLost s
  have hage : (s.markHostLost c).hbAge = min 65535 ((s.beat.toNat - (s.hif.hbLast).getD w) / 1000) := State.hbAge_watched hw
  rw [hc, if_neg (by simp [hc0, h0]), hage] at hexec
  refine ⟨_, hexec, ?_⟩
  generalize min 65535 _ = age
  have he : (s.markHostLost c).evl = s.evl ∧ (s.markHostLost c).beat = s.beat := ⟨rfl, rfl⟩
  have hn := s.markHostLost_count c
  have hlost := s.markHostLost_lost c
  have hcause := s.markHostLost_cause hc4
  generalize s.markHostLost c = u at *
  generalize hv : u.bump 0xD0600C = v
  have hve : v.evl = u.evl ∧ v.beat = u.beat := hv ▸ ⟨rfl, rfl⟩
  have hvrd (r : Nat) : v.rd r = if r = 0xD0600C then BitVec.ofNat 32 (satAdd 32 (s.rd 0xD0600C).toNat 1) else u.rd r := by
    rw [← hv, State.rd_bump, hn]
  have hg := (Spares.refl (v.ev 0x0C02 (1 + 2 * c) age 0x153)).gridHostLost
  have hrd (r : Nat) (hr : outer r) : ((v.ev 0x0C02 (1 + 2 * c) age 0x153).gridHostLost).rd r = v.rd r := by
    rw [hg.rd r hr, State.rd_ev _ _ _ _ _ _ hr.2.2]
  refine ⟨?_, ?_, ?_, raisesAt_of_evl (hve.1.trans he.1) (hve.2.trans he.2) hg.queue.raisesAt⟩
  · exact (congrArg (fld · 0 1) ((hrd 0xD0000C (by decide)).trans ((hvrd _).trans (if_neg (by decide))))).trans hlost
  · exact (congrArg (fld · 1 2) ((hrd 0xD0000C (by decide)).trans ((hvrd _).trans (if_neg (by decide))))).trans hcause
  · rw [counts, hrd _ (by decide), hvrd, if_pos rfl, toNat_satAdd]

end host

end Sys2Proof.Machine

open Sys2Proof Sys2Proof.Machine Sys2Proof.Safety in
/-- Settles O38: a sample shows the two feeds one after the other (`FeedShown`); what follows the change to HOLDUP, or the host's loss,
spares what the change has set (`Spares`); and a reset clears the chip whatever clusters are dead (`Cleared`). -/
theorem feedsHoldupHeartbeat : Obligations.FeedsHoldupHeartbeat := by
  unfold Obligations.FeedsHoldupHeartbeat
  refine ⟨fun s va vb ia ib => ?_, fun s v w => ?_⟩
  · intro next a b a' b' off
    refine ⟨fun hoff => ?_, fun hoff => ?_, fun hm hfed ha hb => ?_, fun h => ?_, fun hm hopen hheld => ?_, fun hm hopen hheld => ?_, fun h => ?_⟩
    · exact ⟨s, by rw [exec_feedSample, if_pos hoff], rfl⟩
    · obtain hA := s.feed_zero_shown va
      generalize ht1 : s.feed 0 va.toNat = t1 at hA
      have htwn : t1.twn = _ := congrArg State.twn hA.frame
      have hB := t1.feed_one_shown vb
      generalize ht2 : t1.feed 1 vb.toNat = t2 at hB
      have hBstate : t1.f Reg.TWN_FEED_B_STATE = b := hA.rest _ (by decide) (by decide) (by decide)
      rw [hBstate, htwn, feedNext_runs] at hB
      rw [feedNext_runs] at hA
      have hAA : t2.f Reg.TWN_FEED_A_STATE = a' := (hB.rest _ (by decide) (by decide) (by decide)).trans hA.state
      have hAV : t2.f Reg.TWN_FEED_VA_DV = va.toNat := (hB.rest _ (by decide) (by decide) (by decide)).trans hA.volts
      have hbeat : t1.beat = s.beat := (congrArg State.beat hA.frame :)
      have hbeat' : t2.beat = s.beat := (congrArg State.beat hB.frame :).trans hbeat
      refine ⟨_, by rw [exec_feedSample, if_neg hoff], ?_⟩
      unfold State.feedSample
      rw [ht1, ht2]
      refine ⟨?_, ?_, hAA, hB.state, hAV, hB.volts, rfl, ?_, rfl, ?_, ?_, ?_, ?_⟩
      · exact fabricKept_trans hA.fabricKept hB.fabricKept
      · exact fun r hr => (hB.others r hr).trans (hA.others r hr)
      · exact congrArg (fun n : BitVec 64 => some n.toNat) hbeat'
      · exact (congrArg (·.twn.low) hB.frame :)
      · intro hne
        have h := raises_grows (hA.raises (Ne.symm hne)) hB.queue
        rwa [Nat.zero_add] at h
      · exact fun he hne => raisesAt_of_evl (hA.quiet he.symm) hbeat (hBstate ▸ hB.raises (hBstate.trans_ne (Ne.symm hne)))
      · exact fun he he' => (hB.quiet (hBstate.trans he'.symm)).trans (hA.quiet he.symm)
    · exact ⟨s.holdup, by rw [exec_bothFeedsLost, if_pos (s.feedsLost_iff.2 ⟨hfed, hm, ha, hb⟩)], s.holdup_enters⟩
    · refine ⟨s, ?_, rfl⟩
      rw [exec_bothFeedsLost, if_neg fun hl => ?_]
      obtain ⟨h1, h2, h3, h4⟩ := s.feedsLost_iff.1 hl
      simp [h1, h2, h3, h4, a, b] at h
    · exact ⟨s.logClose, by rw [exec_holdupClosed, if_pos ⟨hm, by simp [hopen]⟩, if_neg (by simp [hheld])], rfl, rfl,
        (congrArg (Bits.fld · 0 4) s.logClose_logs.state).trans hm, s.logClose_logs.fabricKept⟩
    · obtain ⟨h1, h2, h3, h4, h5, -⟩ := s.logClose.wholeReset_clears (cause := 3) (by decide)
      exact ⟨_, by rw [exec_holdupClosed, if_pos ⟨hm, by simp [hopen]⟩, if_pos hheld], h1, h2, h3, h4, h5⟩
    · refine ⟨s, ?_, rfl⟩
      rw [exec_holdupClosed, if_neg]
      rintro ⟨h1, h2⟩
      exact h.elim (· h1) h2
  · intro h timeout late down lost
    refine ⟨fun hv => ?_, fun hv => ?_, fun h => ?_, fun hw h0 => ⟨fun hl hd => ?_, fun hl hd => ?_, fun hl hd => ?_, fun hl hd => ?_⟩⟩
    · refine ⟨_, by rw [exec_heartbeat, if_neg hv], ?_, fun r hr => ?_, rfl⟩
      · exact (State.rd_wr ..).trans (if_pos rfl)
      · exact (State.rd_wr ..).trans (if_neg (List.ne_of_not_mem_cons hr))
    · exact ⟨s, by rw [exec_heartbeat, if_pos hv], rfl⟩
    · refine ⟨s, by rw [exec_hostLost, if_pos (h.imp_left fun hn => by simp [State.hostCause, hn])], rfl⟩
    all_goals have hcause := s.hostCause_watched hw
    · rw [decide_eq_true hl, decide_eq_true hd] at hcause
      exact hostLost_completes hw h0 hcause (by decide) (by decide)
    · rw [decide_eq_true hl, decide_eq_false hd] at hcause
      exact hostLost_completes hw h0 hcause (by decide) (by decide)
    · rw [decide_eq_false hl, decide_eq_true hd] at hcause
      exact hostLost_completes hw h0 hcause (by decide) (by decide)
    · rw [decide_eq_false hl, decide_eq_false hd] at hcause
      exact ⟨s, by rw [exec_hostLost, if_pos (.inl hcause)], rfl⟩

namespace Sys2Proof.Machine

open Sys2Proof.Bits Sys2Proof.Safety

/-! ### A fault is named (R355 to R357) -/

section naming

variable {s u t : State}

/-- Where no rung has started within the window, no limit is reached: a fault takes its own rung (R357). -/
theorem State.choose_unreached (hstarts : s.rcv.starts = []) (hchip : s.rcv.chipStarts = []) (h4 : 1 ≤ s.lf Reg.RCV_CFG_CHIP_LIMIT)
    (h2 : 1 ≤ s.lf Reg.RCV_CFG_ENG_LIMIT) (h3 : 1 ≤ s.lf Reg.RCV_CFG_PART_LIMIT) {rung : Nat} (hr : 2 ≤ rung ∧ rung ≤ 4) (unit : Nat) :
    s.choose rung unit = (rung, if rung = 4 then 0 else unit, false, []) := by
  have hcount (r n : Nat) : s.rungCount r n = 0 := by simp [State.rungCount, hstarts]
  have hchips : s.chipCount = 0 := by simp [State.chipCount, hchip]
  obtain rfl | rfl | rfl : rung = 2 ∨ rung = 3 ∨ rung = 4 := by omega
  all_goals simp [State.choose, hcount, hchips, Nat.not_le.2 (Nat.lt_of_lt_of_le Nat.zero_lt_one _), h4, h2, h3]

/-- What naming a fault that is not absorbed, and takes its own rung, changes. -/
structure Named (w0 reason rung unit : Nat) (s t : State) : Prop where
  fault : ∃ g, t.rcv = { s.rcv with faults := s.rcv.faults ++ [g] } ∧ g.reason = reason ∧ g.rung = rung ∧ g.unit = unit ∧
    g.beat = s.beat.toNat ∧ g.w0 = w0
  event : raises s t 0xF02 w0 (reason + 256 * rung) 0 (s.beat.toNat % 2 ^ 32)
  fabric : fabricKept s t

/-- The context record and the event of a fault are written first, whether or not a rung follows. -/
theorem State.nameFault_eq {w0 reason rung unit rung' unit' o : Nat} {c : Option Nat} (hfree : s.underRung rung unit = false)
    (hch : s.choose rung unit = (rung', unit', false, [])) (hreason : reason ≠ 0x10) : ∃ w u,
    u = (State.histFault { s with twn := w } w0 0 (reason + 256 * rung') s.beatLo).raise 0x0F02 w0 (reason + 256 * rung') 0 s.beatLo o ∧
    s.nameFault w0 0 reason 0 rung unit o c = { u with rcv := { u.rcv with faults := u.rcv.faults ++ [
      { w0 := w0, w1 := 0, reason := reason, idx := 0, beat := u.beatN, rung := rung', unit := unit', cluster := c }] } } := by
  unfold State.nameFault
  extract_lets lost T s1 ab ch esc w2 s2 s3 s4 s5 R
  have hab : ab = false := hfree
  have hc : ch = (rung', unit', false, []) := hch
  have hw2 : w2 = reason + 256 * rung' := by simp [w2, esc, hab, hc, ofBool]
  have h4 : s4 = s3 := if_neg hreason
  have h5 : s5 = s4 := by simp only [s5, hc, List.foldl_nil]
  refine ⟨s1.twn, s3, ?_, ?_⟩
  · have hlo : s2.beatLo = s.beatLo := congrArg (fun b : BitVec 64 => b.toNat % 4294967296) (State.histFault_beat ..)
    simp only [s3, hlo]
    simp only [s2, hw2]
    rfl
  · rw [hab, if_neg Bool.false_ne_true]
    simp only [R, esc, hc, h5, h4]
    rfl

theorem State.nameFault_named {w0 reason rung unit rung' unit' o : Nat} {c : Option Nat} (hfree : s.underRung rung unit = false)
    (hch : s.choose rung unit = (rung', unit', false, [])) (hreason : reason ≠ 0x10) :
    Named w0 reason rung' unit' s (s.nameFault w0 0 reason 0 rung unit o c) := by
  have kept {α : Type} (F : State → α) (hF : ∀ (s : State) r e v t, F { s with regs := r, evl := e, rcv := v, twn := t } = F s) :
      F (s.nameFault w0 0 reason 0 rung unit o c) = F s := State.nameFault_keeps F hF ..
  refine ⟨?_, ?_, kept _ fun _ _ _ _ _ => rfl, kept _ fun _ _ _ _ _ => rfl, kept _ fun _ _ _ _ _ => rfl, kept _ fun _ _ _ _ _ => rfl,
    kept _ fun _ _ _ _ _ => rfl, kept _ fun _ _ _ _ _ => rfl, kept _ fun _ _ _ _ _ => rfl, kept _ fun _ _ _ _ _ => rfl,
    kept _ fun _ _ _ _ _ => rfl⟩
  all_goals
    obtain ⟨w, u, hu, ht⟩ := State.nameFault_eq (o := o) (c := c) hfree hch hreason
    rw [ht]
  · have hrcv : u.rcv = s.rcv := by rw [hu, State.raise_rcv, State.histFault_rcv]
    have hbeat : u.beat = s.beat := by simp [hu, State.histFault]
    exact ⟨_, by rw [hrcv], rfl, rfl, rfl, congrArg BitVec.toNat hbeat, rfl⟩
  · have h := State.raises_raise (State.histFault { s with twn := w } w0 0 (reason + 256 * rung') s.beatLo) 0x0F02 w0
      (reason + 256 * rung') 0 s.beatLo o 0
    rw [← hu] at h
    unfold raises at h ⊢
    rwa [State.histFault_evl] at h

end naming

/-! ### Watchdogs (R354) -/

section watchdogs

variable {s : State}

/-- A new window of a unit begins. -/
def State.newWindow (s : State) (n : Nat) : State := { s with rcv := { s.rcv with still := s.rcv.still.put n 0 0 } }

theorem State.newWindow_still (s : State) (n : Nat) : (s.newWindow n).still n = 0 :=
  Tab.get_put_self s.rcv.still n 0 0

/-- The fault that a watched unit's expiry names (Tables 17-1 and 17-3). -/
def State.watchFault (s : State) : WatchUnit → State
  | .sequencer p c => s.nameFault (p.val + 32 * c.val + 3 * 536870912) 0 0x11 0 3 p.val p.val (some (20 * p.val + c.val))
  | .loopEngine e => s.unitFault e.val 0x12 2
  | .ledger => s.unitFault 64 0x12 2
  | .franker => s.unitFault 65 0x12 2
  | .stage => s.unitFault 80 0x13 4
  | .monitor => s.unitFault 81 0x13 4
  | .twin => s.unitFault 82 0x13 4
  | .host => s.unitFault 83 0x13 4
  | .postmaster => s.unitFault 84 0x14 4
  | .memory e => s.unitFault e.toNat 0x16 2

theorem exec_watchdogExpiry (s : State) (u : WatchUnit) (hu : ∀ e, u ≠ .memory e) : exec (.watchdogExpiry u) s = .next
    (if s.watches u && decide (unitWindow u ≤ s.still (unitNo u)) then (s.newWindow (unitNo u)).watchFault u else s) := by
  cases u with
  | memory e => exact absurd rfl (hu e)
  | loopEngine e =>
    refine congrArg Host.Outcome.next (if_congr Iff.rfl ?_ rfl)
    exact if_pos (show e.val ≤ 65 by omega)
  | _ => rfl

theorem exec_watchdogExpiry_memory (s : State) (u : BitVec 7) : exec (.watchdogExpiry (.memory u)) s =
    .next (if u.toNat ≤ 65 then s.unitFault u.toNat 0x16 2 else s) := rfl

/-- A unit that is not watched names nothing. -/
theorem watchdog_unwatched {u : WatchUnit} (hu : ∀ e, u ≠ .memory e) (hw : s.watches u = false) :
    completes (.watchdogExpiry u) s fun t => t = s := ⟨s, by rw [exec_watchdogExpiry s u hu, hw]; rfl, rfl⟩

/-- No rung runs or has started within the window, and each limit is at least 1: what fault comes takes its own rung (R357). -/
structure Unescalated (s : State) : Prop where
  rungs : s.rcv.rungs = []
  starts : s.rcv.starts = []
  chipStarts : s.rcv.chipStarts = []
  chip : 1 ≤ s.lf Reg.RCV_CFG_CHIP_LIMIT
  engine : 1 ≤ s.lf Reg.RCV_CFG_ENG_LIMIT
  part : 1 ≤ s.lf Reg.RCV_CFG_PART_LIMIT

/-- The command names a fault of the state's beat, with its event. -/
abbrev NamesFault (s : State) (i : Instr) (w0 reason rung unit : Nat) : Prop := completes i s fun t =>
  (∃ g, t.rcv.faults = s.rcv.faults ++ [g] ∧ g.reason = reason ∧ g.rung = rung ∧ g.unit = unit ∧ g.beat = s.beat.toNat ∧ g.w0 = w0) ∧
  t.rcv.rungs = [] ∧ raises s t 0xF02 w0 (reason + 256 * rung) 0 (s.beat.toNat % 2 ^ 32) ∧ fabricKept s t

theorem Unescalated.named (h : Unescalated s) {w0 reason rung unit o : Nat} {c : Option Nat} (hr : 2 ≤ rung ∧ rung ≤ 4)
    (hheld : rung = 3 → s.held unit = false) (hreason : reason ≠ 0x10) :
    Named w0 reason rung (if rung = 4 then 0 else unit) s (s.nameFault w0 0 reason 0 rung unit o c) := by
  refine State.nameFault_named ?_ (State.choose_unreached h.starts h.chipStarts h.chip h.engine h.part hr unit) hreason
  have h1 : rung ≠ 1 := by omega
  by_cases h3 : rung = 3 <;> simp [State.underRung, h.rungs, h1, h3, hheld]

/-- The expiry of a watched unit names its fault where its window has passed, and begins a new one. -/
theorem Unescalated.expires (h : Unescalated s) {u : WatchUnit} (hu : ∀ e, u ≠ .memory e) (hw : s.watches u = true)
    {w0 reason rung unit o : Nat} {c : Option Nat} (hf : ∀ t : State, t.watchFault u = t.nameFault w0 0 reason 0 rung unit o c)
    (hr : 2 ≤ rung ∧ rung ≤ 4) (hheld : rung = 3 → s.held unit = false) (hreason : reason ≠ 0x10) :
    (unitWindow u ≤ s.still (unitNo u) → NamesFault s (.watchdogExpiry u) w0 reason rung (if rung = 4 then 0 else unit) ∧
      completes (.watchdogExpiry u) s fun t => t.still (unitNo u) = 0) ∧
    (s.still (unitNo u) < unitWindow u → completes (.watchdogExpiry u) s fun t => t = s) := by
  have hexec := exec_watchdogExpiry s u hu
  rw [hw, hf] at hexec
  have hnew : Unescalated (s.newWindow (unitNo u)) := ⟨h.rungs, h.starts, h.chipStarts, h.chip, h.engine, h.part⟩
  have hn := hnew.named (w0 := w0) (o := o) (c := c) hr hheld hreason
  refine ⟨fun hlate => ?_, fun hlt => ⟨s, by rw [hexec, decide_eq_false (Nat.not_le.2 hlt)]; rfl, rfl⟩⟩
  rw [decide_eq_true hlate] at hexec
  obtain ⟨g, hrcv, hg⟩ := hn.fault
  refine ⟨⟨_, hexec, ⟨g, ?_, hg⟩, ?_, hn.event, hn.fabric⟩, ⟨_, hexec, ?_⟩⟩
  · exact congrArg Rcv.faults hrcv
  · exact (congrArg Rcv.rungs hrcv).trans h.rungs
  · exact (congrArg (fun r : Rcv => r.still.get (unitNo u) 0) hrcv).trans (s.newWindow_still _)

/-- An expiry's outcome, where the window has passed and where it has not. -/
abbrev Expires (s : State) (u : WatchUnit) (n window w0 reason rung unit : Nat) : Prop :=
  (window ≤ s.still n → NamesFault s (.watchdogExpiry u) w0 reason rung unit ∧ completes (.watchdogExpiry u) s fun t => t.still n = 0) ∧
  (s.still n < window → completes (.watchdogExpiry u) s fun t => t = s)

/-- An engine's expiry starts the engine's rung (Table 17-3). -/
theorem Unescalated.engineExpires (h : Unescalated s) {u : WatchUnit} (hu : ∀ e, u ≠ .memory e) (hw : s.watches u = true)
    (hf : ∀ t : State, t.watchFault u = t.unitFault (unitNo u) 0x12 2) :
    Expires s u (unitNo u) (unitWindow u) (unitNo u + 2 * 2 ^ 29) 0x12 2 (unitNo u) :=
  h.expires (rung := 2) (unit := unitNo u) hu hw hf (by decide) nofun (by decide)

/-- Another unit's expiry starts the chip's rung. -/
theorem Unescalated.chipExpires (h : Unescalated s) {u : WatchUnit} {reason : Nat} (hu : ∀ e, u ≠ .memory e) (hw : s.watches u = true)
    (hf : ∀ t : State, t.watchFault u = t.unitFault (unitNo u) reason 4) (hreason : reason ≠ 0x10) :
    Expires s u (unitNo u) (unitWindow u) (unitNo u + 2 ^ 31) reason 4 0 :=
  h.expires (rung := 4) (unit := 0) hu hw hf (by decide) nofun hreason

/-- A sequencer's expiry starts its partition's rung. -/
theorem Unescalated.sequencerExpires (h : Unescalated s) {p : Fin 32} {c : Fin 20} (hw : s.f (Reg.MAN_STATUS_STATE p.val) = 3)
    (hheld : s.held p.val = false) :
    Expires s (.sequencer p c) (1000 + 20 * p.val + c.val) 2 (p.val + 32 * c.val + 3 * 2 ^ 29) 0x11 3 p.val :=
  h.expires (u := .sequencer p c) (rung := 3) (unit := p.val) nofun (decide_eq_true hw) (fun _ => rfl) (by decide) (fun _ => hheld) (by decide)

theorem Unescalated.memoryFault (h : Unescalated s) (u : BitVec 7) :
    (u.toNat ≤ 65 → NamesFault s (.watchdogExpiry (.memory u)) (u.toNat + 2 * 2 ^ 29) 0x16 2 u.toNat) ∧
    (65 < u.toNat → completes (.watchdogExpiry (.memory u)) s fun t => t = s) := by
  have hexec := exec_watchdogExpiry_memory s u
  refine ⟨fun hle => ?_, fun hlt => ⟨s, by rw [hexec, if_neg (Nat.not_le.2 hlt)], rfl⟩⟩
  rw [if_pos hle] at hexec
  obtain ⟨⟨g, hrcv, hg⟩, hevent, hfabric⟩ := h.named (w0 := u.toNat + 2 * 536870912) (reason := 0x16) (rung := 2) (unit := u.toNat)
    (o := 0x100 + u.toNat) (c := none) (by decide) nofun (by decide)
  exact ⟨_, hexec, ⟨g, congrArg Rcv.faults hrcv, hg⟩, (congrArg Rcv.rungs hrcv).trans h.rungs, hevent, hfabric⟩

end watchdogs

end Sys2Proof.Machine

namespace Sys2Proof.Machine

open Sys2Proof.Bits Sys2Proof.Safety

/-! ### What stops cells and ends envelopes spares (R94, R104, R359, R362) -/

/-- The counts of rungs begun, and the partitions' recovery registers (Table 20-1). -/
abbrev tallied (r : Nat) : Prop := (0x1000800 ≤ r ∧ r ≤ 0x1000808) ∨ (0x1000100 ≤ r ∧ r < 0x1000180)

theorem untallied {r : Nat} (h : r < 0x1000000 ∨ 0x1000900 ≤ r) : ¬ tallied r := by
  unfold tallied
  omega

namespace Spares

variable {s t : State}

theorem happens {code p0 p1 o p : Nat} (h : Spares tallied s t) : Spares tallied s (t.ev code p0 p1 o p) := h.ev (by decide)

/-- A cell takes a value that is halted, and has nothing outstanding, where the cell was. -/
theorem setCell {R : Nat → Prop} {n : Nat} {c : Cell} (h : Spares R s t) (hh : (t.cell n).Halted → c.Halted)
    (ho : (t.cell n).outst = 0 → c.outst = 0) : Spares R s (t.setCell n c) :=
  h.trans
    { rd := fun _ _ => rfl
      queue := t.queueGrows_refl
      standing := rfl
      halted := fun m hm => by
        rw [State.cell_setCell]
        split
        · next e => exact hh (e ▸ hm)
        · exact hm
      settled := fun m hm => by
        rw [State.cell_setCell]
        split
        · next e => exact ho (e ▸ hm)
        · exact hm
      unstarted := fun _ _ => id }

theorem startWake {c : Nat} (h : Spares tallied s t) : Spares tallied s (t.startWake c) := by
  unfold State.startWake
  split
  · next hc =>
    have hoff (F : Fld) (hF : F.off = 0x201000 + 4 * c) : ¬ tallied F.off := untallied (.inl (by omega))
    exact (((h.setF (hoff _ rfl)).frame).setF (hoff _ rfl))
  · exact h

theorem wakeAll {l : List Nat} (h : Spares tallied s t) : Spares tallied s (t.wakeAll l) := h.foldl fun _ _ _ h => h.startWake

theorem reply {l : Letter} {status : Nat} {d : Bytes} (h : Spares tallied s t) : Spares tallied s (t.reply l status d) := by
  unfold State.reply
  split
  · exact h
  · exact h.frame

theorem enqueue {c : Nat} {l : Letter} {ecc : Ecc} {hit : Bool} (h : Spares tallied s t) : Spares tallied s (t.enqueue c l ecc hit) :=
  .ite (startWake h.frame) h.frame

theorem land {n off : Nat} {d : Bytes} (h : Spares tallied s t) : Spares tallied s (t.land n off d) :=
  setCell h.frame id id

theorem replyPart {n off : Nat} {d : Bytes} (h : Spares tallied s t) : Spares tallied s (t.replyPart n off d) :=
  .ite h (.ite h.land h.enqueue)

theorem outcome {e : Env} {hd status : Nat} (h : Spares tallied s t) : Spares tallied s (t.outcome e hd status) :=
  h.foldl fun _ _ _ h => h.replyPart

/-- The registers of a partition's envelopes. -/
theorem envReg {base p : Nat} (hb : 0x300000 ≤ base ∧ base ≤ 0x300300) (hp : p < 32) : ¬ tallied (base + 4 * p) ∧ ¬ tallied (base + 8 * p) :=
  ⟨untallied (.inl (by omega)), untallied (.inl (by omega))⟩

theorem putEnv {p sl : Nat} {e : Env} (hp : p < 32) (h : Spares tallied s t) : Spares tallied s (t.putEnv p sl e) := by
  have hoff := (envReg (base := 0x300100) (by decide) hp).1
  exact (((h.frame).setF (F := Reg.ENV_PART_STATUS_OPEN p) hoff).setF (F := Reg.ENV_PART_STATUS_BUF_USED p) hoff).setF
    (F := Reg.ENV_PART_STATUS_OPEN_HWM p) hoff

theorem abortNote {p hd status x : Nat} {e : Env} (h : Spares tallied s t) : Spares tallied s (t.abortNote p hd status e x) :=
  .ite (h.bump (by decide)).happens (.ite (h.bump (by decide)).happens (.ite (h.bump (by decide)).happens
    (.ite (h.bump (by decide)) (h.bump (by decide)).happens)))

theorem abortEnv {p sl status x : Nat} (hp : p < 32) (h : Spares tallied s t) : Spares tallied s (t.abortEnv p sl status x) := by
  have hoff := (envReg (base := 0x300200) (by decide) hp).2
  have hoff' := (envReg (base := 0x300204) (by decide) hp).2
  exact .ite (((h.abortNote.wr hoff).wr hoff').outcome.putEnv hp) h

theorem endMember {n hd : Nat} (h : Spares tallied s t) : Spares tallied s (t.endMember n hd) := by
  unfold State.endMember
  split
  · exact h.putEnv (Nat.mod_lt _ (by decide))
  · exact h

theorem dropContext {n : Nat} (h : Spares tallied s t) : Spares tallied s (t.dropContext n) := by
  unfold State.dropContext
  dsimp only
  split
  · exact h
  · exact h.setCell id id
  · exact (h.abortEnv (Nat.mod_lt _ (by decide))).endMember.setCell id id

theorem restless {c : Nat} (h : Spares tallied s t) : Spares tallied s (t.restless c) := h.frame

theorem stopCell {n : Nat} (h : Spares tallied s t) : Spares tallied s (t.stopCell n) :=
  .ite h.dropContext (restless (h.dropContext.setCell (fun _ => .inr rfl) id))

theorem resetCell {n : Nat} (h : Spares tallied s t) : Spares tallied s (t.resetCell n) :=
  h.stopCell.setCell id fun _ => rfl

/-- An envelope's key names a partition. -/
theorem envKey_lt {α : Type} {l : Tab α} {e : Nat × α} (he : e ∈ l.within 0 2048) : e.1 / 64 < 32 := by
  have h := (List.mem_filter.1 he).2
  simp at h
  omega

theorem abortFor {p : Nat} (h : Spares tallied s t) : Spares tallied s (t.abortFor p) := by
  refine foldl (h.foldl fun w e he hw => ?_) fun w e he hw => .ite (hw.abortEnv (envKey_lt he)) hw
  split
  · exact hw.abortEnv (envKey_lt he)
  · exact hw

theorem flushCluster {c : Nat} (h : Spares tallied s t) : Spares tallied s (t.flushCluster c) :=
  foldl h.frame fun _ _ _ h => h.reply

theorem discardFor {c : Nat} {cells : List Nat} (h : Spares tallied s t) : Spares tallied s (t.discardFor c cells) :=
  foldl h.frame fun _ _ _ h => h.reply

/-- A program takes a value that no longer starts. -/
theorem setProg {R : Nat → Prop} {p x : Nat} {v : Prog} (h : Spares R s t) (hv : v.start = none) : Spares R s (t.setProg p x v) :=
  h.trans
    { rd := fun _ _ => rfl
      queue := t.queueGrows_refl
      standing := rfl
      halted := fun _ => id
      settled := fun _ => id
      unstarted := fun q y hq => by
        rw [State.prog_setProg]
        split
        · exact hv
        · exact hq }

theorem stopProgs {p : Nat} (h : Spares tallied s t) : Spares tallied s (t.stopProgs p) := by
  unfold State.stopProgs
  split
  · exact h
  · exact h.foldl fun _ _ _ h => h.setProg rfl

theorem degrade (h : Spares tallied s t) : Spares tallied s t.degrade := h.setF (by decide)

theorem ldgPartDown {p : Nat} (h : Spares tallied s t) : Spares tallied s (t.ldgPartDown p) := by
  have hcopy (q : Nat) : ¬ tallied (copyFld q).off := by
    unfold copyFld
    split <;> decide
  exact .ite h (.ite (h.setF (by decide)).happens (h.setF (hcopy p)).happens)

theorem rcvStatus (h : Spares tallied s t) : Spares tallied s t.rcvStatus :=
  ((h.setF (F := Reg.RCV_STATUS_BUSY) (by decide)).setF (F := Reg.RCV_STATUS_HIGHEST) (by decide)).degrade

end Spares

/-! ### Stopped cells and held partitions (R359, R362) -/

section stopping

variable {s t : State}

theorem State.stopCell_halts (s : State) (n : Nat) : ((s.stopCell n).cell n).Halted := by
  unfold State.stopCell
  dsimp only
  split
  · next h => exact (Spares.refl s).dropContext.halted n (.inl h)
  · exact .inr (congrArg Cell.run (State.cell_setCell_self ..))

theorem State.stopCells_halt (l : List Nat) (s : State) : ∀ n ∈ l, ((l.foldl State.stopCell s).cell n).Halted := by
  induction l generalizing s with
  | nil => nofun
  | cons m l ih =>
    intro n hn
    rcases List.mem_cons.1 hn with rfl | hn
    · exact (Spares.foldl (.refl (s.stopCell n)) fun _ _ _ h => h.stopCell).halted n (s.stopCell_halts n)
    · exact ih _ n hn

/-- The requests of cells are forgotten. -/
def State.forget (s : State) (l : List Nat) : State := l.foldl (fun s n => s.setCell n { s.cell n with outst := 0 }) s

theorem Spares.forget {l : List Nat} (h : Spares tallied s t) : Spares tallied s (t.forget l) :=
  h.foldl fun _ _ _ h => h.setCell id fun _ => rfl

theorem State.forget_settles (l : List Nat) (s : State) : ∀ n ∈ l, ((s.forget l).cell n).outst = 0 := by
  induction l generalizing s with
  | nil => nofun
  | cons m l ih =>
    intro n hn
    rcases List.mem_cons.1 hn with rfl | hn
    · exact (Spares.refl (s.setCell n { s.cell n with outst := 0 })).forget.settled n (congrArg Cell.outst (State.cell_setCell_self ..))
    · exact ih _ n hn

end stopping

end Sys2Proof.Machine

namespace Sys2Proof.Machine

open Sys2Proof.Bits Sys2Proof.Safety

/-! ### A rung begins (R356, R362) -/

section beginning

variable {s t u : State}

/-- The counts of rungs begun. -/
abbrev begunCount (r : Nat) : Prop := 0x1000800 ≤ r ∧ r ≤ 0x1000808

/-- Registers but those of R, the log and the twin's part change. -/
structure Shows (R : Nat → Prop) (s t : State) : Prop where
  frame : t = { s with regs := t.regs, evl := t.evl, twn := t.twn }
  rd : ∀ r, R r → t.rd r = s.rd r
  queue : s.queueGrows t

namespace Shows

variable {R : Nat → Prop}

theorem refl (s : State) : Shows R s s := ⟨rfl, fun _ _ => rfl, s.queueGrows_refl⟩

theorem trans (h : Shows R s t) (h' : Shows R t u) : Shows R s u :=
  ⟨by rw [h'.frame, h.frame], fun r hr => (h'.rd r hr).trans (h.rd r hr), h.queue.trans h'.queue⟩

theorem mono {Q : Nat → Prop} (h : Shows R s t) (hQ : ∀ r, Q r → R r) : Shows Q s t := { h with rd := fun r hr => h.rd r (hQ r hr) }

theorem wr {o : Nat} {w : Word} (h : Shows R s t) (ho : ¬ R o) : Shows R s (t.wr o w) :=
  h.trans
    { frame := rfl
      rd := fun r hr => by
        rw [State.rd_wr, if_neg]
        rintro rfl
        exact ho hr
      queue := t.queueGrows_refl }

theorem setF {F : Fld} {v : Nat} (h : Shows R s t) (ho : ¬ R F.off) : Shows R s (t.setF F v) := h.wr ho

theorem bump {o : Nat} (h : Shows R s t) (ho : ¬ R o) : Shows R s (t.bump o) := h.wr ho

theorem twn {w : Twn} (h : Shows R s t) : Shows R s { t with twn := w } := h.trans ⟨rfl, fun _ _ => rfl, t.queueGrows_refl⟩

theorem ev {code p0 p1 o p : Nat} (h : Shows R s t) (ho : ¬ R 0x130010C) : Shows R s (t.ev code p0 p1 o p) := by
  refine h.trans ⟨?_, fun r hr => State.rd_ev _ _ _ _ _ _ fun e => ho (show R Reg.EVL_QDROP_CNT from e ▸ hr), t.queue_ev_prefix ..⟩
  conv_lhs => rw [State.ev_frame]
  simp

theorem ite {c : Prop} {_ : Decidable c} (ht : Shows R s t) (hu : Shows R s u) : Shows R s (if c then t else u) := by
  split
  · exact ht
  · exact hu

theorem foldl_range {f : State → Nat → State} (n : Nat) (h : Shows R s t) (hf : ∀ t a, a < n → Shows R s t → Shows R s (f t a)) :
    Shows R s ((List.range n).foldl f t) := List.foldlRecOn _ f h fun t ht a ha => hf t a (List.mem_range.1 ha) ht

theorem syncClear {cause : Nat} (h : Shows begunCount s t) : Shows begunCount s (t.syncClear cause) := by
  have h1 := (h.twn (w := { t.twn with matched := 0, clean := 0 })).wr (o := 0x110000C) (w := 0#32) (by decide)
  exact .ite h (.ite ((h1.setF (by decide)).ev (by decide)) h1)

theorem rcvStatus (h : Shows begunCount s t) : Shows begunCount s t.rcvStatus :=
  ((h.setF (F := Reg.RCV_STATUS_BUSY) (by decide)).setF (F := Reg.RCV_STATUS_HIGHEST) (by decide)).setF (by decide)

theorem rcvCounts (h : Shows begunCount s t) : Shows begunCount s t.rcvCounts :=
  setF (h.foldl_range 32 fun _ p hp h => h.setF (by simp [Reg.RCV_PART_STATE_PART_CNT, begunCount]; omega)) (by decide)

end Shows

/-- Where a rung's begin is counted. -/
def rungCounter (rung : Nat) : Nat := if rung = 1 then 0x1000800 else if rung = 2 then 0x1000804 else 0x1000808

theorem rungCounter_begunCount (rung : Nat) : begunCount (rungCounter rung) := by
  unfold rungCounter
  split
  · decide
  · split <;> decide

/-- What the begin of a rung changes: the rungs that run, its count, its event, and what recovery shows. -/
structure Begins (r : Rung) (s t : State) : Prop where
  frame : t = { s with regs := t.regs, evl := t.evl, twn := t.twn, rcv := t.rcv }
  rungs : t.rcv.rungs = s.rcv.rungs ++ [r]
  faults : t.rcv.faults = s.rcv.faults
  count : counts s t (rungCounter r.rung)
  event : raisesAt s t 0xF03 (r.rung + 256 * rungName r.rung r.unit) r.reason

theorem Begins.fabricKept {r : Rung} (h : Begins r s t) : fabricKept s t := by
  rw [h.frame]
  exact ⟨rfl, rfl, rfl, rfl, rfl, rfl, rfl, rfl, rfl⟩

theorem frame_of_rcv {v : State} (h1 : t = { s with regs := t.regs, evl := t.evl, twn := t.twn }) (h2 : u = { t with rcv := u.rcv })
    (h3 : v = { u with regs := v.regs, evl := v.evl, twn := v.twn }) :
    v = { s with regs := v.regs, evl := v.evl, twn := v.twn, rcv := v.rcv } := by
  rw [h3, h2, h1]

theorem State.beginRung_begins (s : State) (r : Rung) (esc : Bool) : Begins r s (s.beginRung r esc) := by
  unfold State.beginRung
  extract_lets t1 t2 t3 starts R t4
  have h1 : Shows begunCount s t1 := (Shows.refl s).ev (by decide)
  have h3 : Shows begunCount t2 t3 := .ite ((Shows.refl t2).bump (by decide)) (.refl t2)
  have h03 : Shows (fun _ => False) s t3 := ((h1.mono fun _ => False.elim).bump id).trans (h3.mono fun _ => False.elim)
  have h5 : Shows begunCount t4 (t4.syncClear 3).rcvStatus.rcvCounts := (Shows.refl t4).syncClear.rcvStatus.rcvCounts
  generalize (t4.syncClear 3).rcvStatus.rcvCounts = t at h5
  have hoff : (if r.rung = 1 then Reg.RCV_CTX_CNT else if r.rung = 2 then Reg.RCV_ENG_CNT else Reg.RCV_PART_CNT) = rungCounter r.rung := rfl
  have hrcv : t.rcv = t4.rcv := (congrArg State.rcv h5.frame :)
  have hrcv3 : t3.rcv = s.rcv := (congrArg State.rcv h03.frame :)
  exact
    { frame := frame_of_rcv h03.frame rfl h5.frame
      rungs := by
        rw [hrcv, ← hrcv3]
      faults := by
        rw [hrcv, ← hrcv3]
      count := by
        have hcount : t2.rd (rungCounter r.rung) = BitVec.ofNat 32 (satAdd 32 (t1.rd (rungCounter r.rung)).toNat 1) :=
          (State.rd_bump ..).trans (if_pos rfl)
        have hrd : t.rd (rungCounter r.rung) = t2.rd (rungCounter r.rung) :=
          (h5.rd _ (rungCounter_begunCount _)).trans (h3.rd _ (rungCounter_begunCount _))
        rw [counts, hrd, hcount, toNat_satAdd, h1.rd _ (rungCounter_begunCount _)]
      event := raises_grows (s.ev_logged ..).2.2 (State.queueGrows.trans (t1.queue_bump _) (h3.queue.trans h5.queue)) }

end beginning

/-! ### The rung of an engine, a program and a partition (R359 to R362) -/

section rungs

variable {s t u : State} {f : FaultRec}

/-- The fault waits no longer, its rung runs and is counted, and its event is raised. -/
structure Begun (r : Rung) (s t : State) : Prop where
  rungs : t.rcv.rungs = s.rcv.rungs ++ [r]
  faults : t.rcv.faults = s.rcv.faults
  beat : t.beat = s.beat
  count : counts s t (rungCounter r.rung)
  event : raisesAt s t 0xF03 (r.rung + 256 * rungName r.rung r.unit) r.reason

theorem Begins.begun {r : Rung} (h : Begins r s t) : Begun r s t := ⟨h.rungs, h.faults, (congrArg State.beat h.frame :), h.count, h.event⟩

/-- What follows the begin of a rung leaves it begun. -/
theorem Begun.spares {r : Rung} (h : Begun r s t) (h' : Spares tallied t u) : Begun r s u where
  rungs := h'.rcv ▸ h.rungs
  faults := h'.rcv ▸ h.faults
  beat := h'.beat.trans h.beat
  count := by
    have := h.count
    rwa [counts, ← h'.rd _ (.inl (rungCounter_begunCount _))] at this
  event := raises_grows h.event h'.queue

theorem State.startEngine_begun (hfree : ∀ r ∈ s.rcv.rungs, r.rung ≠ 2) :
    Begun { rung := 2, unit := f.unit, reason := f.reason, start := s.beat.toNat } s (s.startEngine f) ∧ fabricKept s (s.startEngine f) := by
  have hnone : (s.rung? 2 f.unit).isSome = false := by
    simp only [State.rung?, Option.isSome_eq_false_iff, Option.isNone_iff_eq_none, List.find?_eq_none]
    intro r hr
    simp [hfree r hr]
  unfold State.startEngine
  rw [hnone, if_neg Bool.false_ne_true]
  by_cases h65 : f.unit = 65
  · simp only [if_pos h65]
    have h := State.beginRung_begins { s with sec := { s.sec with serving := 0 } }
      { rung := 2, unit := f.unit, reason := f.reason, start := s.beat.toNat } f.escalated
    obtain ⟨h1, h2, h3, h4, h5⟩ := h.begun
    exact ⟨⟨h1, h2, h3, h4, h5⟩, h.fabricKept⟩
  · simp only [if_neg h65]
    have h := s.beginRung_begins { rung := 2, unit := f.unit, reason := f.reason, start := s.beat.toNat } f.escalated
    exact ⟨h.begun, h.fabricKept⟩

/-- A program whose rung begins stands still: its cells have stopped and wait for no reply, and it does not start. -/
structure ProgramStopped (p x : Nat) (l : List Nat) (t : State) : Prop where
  halted : ∀ n ∈ l, (t.cell n).Halted
  settled : ∀ n ∈ l, (t.cell n).outst = 0
  unstarted : (t.prog p x).start = none

theorem ProgramStopped.spares {p x : Nat} {l : List Nat} (h : ProgramStopped p x l t) (h' : Spares tallied t u) : ProgramStopped p x l u where
  halted n hn := h'.halted n (h.halted n hn)
  settled n hn := h'.settled n (h.settled n hn)
  unstarted := h'.unstarted p x h.unstarted

/-- The clusters that a program's rung has named change neither what has begun nor what stands still. -/
theorem named_keeps {r : Rung} {p x : Nat} {l : List Nat} {named : List (Nat × Nat × Nat)} (h : Begun r s t ∧ ProgramStopped p x l t) :
    Begun r s { t with rcv := { t.rcv with named := named } } ∧ ProgramStopped p x l { t with rcv := { t.rcv with named := named } } := by
  obtain ⟨⟨h1, h2, h3, h4, h5⟩, ⟨h6, h7, h8⟩⟩ := h
  exact ⟨⟨h1, h2, h3, h4, h5⟩, ⟨h6, h7, h8⟩⟩

theorem State.startContext_begun (hfree : s.rcv.rungs = []) (hheld : s.held (f.unit / 1024) = false)
    (hcells : s.progCells (f.unit / 1024) (f.unit % 1024) ≠ []) :
    Begun { rung := 1, unit := f.unit, reason := f.reason, start := s.beat.toNat } s (s.startContext f) ∧
    ProgramStopped (f.unit / 1024) (f.unit % 1024) (s.progCells (f.unit / 1024) (f.unit % 1024)) (s.startContext f) := by
  have hgo : (s.held (f.unit / 1024) || (s.rung? 1 f.unit).isSome || (s.progCells (f.unit / 1024) (f.unit % 1024)).isEmpty) = false := by
    simp [hheld, State.rung?, hfree, hcells]
  unfold State.startContext
  extract_lets p x cells t1 t2 t3 t4 v t5 R t6
  rw [if_neg (by rw [hgo]; exact Bool.false_ne_true)]
  have h1 : Begun { rung := 1, unit := f.unit, reason := f.reason, start := s.beat.toNat } s t1 := (s.beginRung_begins ..).begun
  have h2 : Spares tallied t1 t2 := (Spares.refl t1).foldl fun _ _ _ h => h.stopCell
  have hhalt : ∀ n ∈ cells, (t2.cell n).Halted := State.stopCells_halt cells t1
  have h3 : Spares tallied t2 t3 := (Spares.refl t2).forget
  have hsettled : ∀ n ∈ cells, (t3.cell n).outst = 0 := State.forget_settles cells t2
  have h4 : Spares tallied t3 t4 := (Spares.refl t3).foldl fun _ _ _ h => h.discardFor
  have h5 : Spares tallied t4 t5 := (Spares.refl t4).setProg rfl
  have hunstarted : (t5.prog p x).start = none := congrArg Prog.start (State.prog_setProg_self ..)
  have hstopped : ProgramStopped p x cells t5 :=
    { halted := fun n hn => (h3.trans (h4.trans h5)).halted n (hhalt n hn)
      settled := fun n hn => (h4.trans h5).settled n (hsettled n hn)
      unstarted := hunstarted }
  have hbegun : Begun _ s t5 := h1.spares (h2.trans (h3.trans (h4.trans h5)))
  clear_value t5
  have h6 : Begun { rung := 1, unit := f.unit, reason := f.reason, start := s.beat.toNat } s t6 ∧ ProgramStopped p x cells t6 := by
    simp only [t6]
    split
    · split
      · exact ⟨hbegun, hstopped⟩
      · exact named_keeps ⟨hbegun, hstopped⟩
    · exact ⟨hbegun, hstopped⟩
  have h7 (l : List Nat) : Spares tallied t6 (t6.wakeAll l) := (Spares.refl t6).wakeAll
  exact ⟨h6.1.spares (h7 _), h6.2.spares (h7 _)⟩

/-- A partition is held: it stands in reset (R359). -/
structure PartHeld (p : Nat) (t : State) : Prop where
  held : (t.part p).held = true
  pstate : t.f (Reg.RCV_PART_STATE_PSTATE p) = 1

theorem PartHeld.spares {p : Nat} (h : PartHeld p t) (h' : Spares tallied t u) (hp : p < 32) : PartHeld p u where
  held := by
    rw [State.part, h'.parts]
    exact h.held
  pstate := (h'.f (.inr (by simp [Reg.RCV_PART_STATE_PSTATE]; omega))).trans h.pstate

/-- What follows in recovery's own registers leaves what has begun: the partitions' registers are not counts. -/
theorem Begun.setF {r : Rung} {F : Fld} {v : Nat} (h : Begun r s t) (hF : ¬ begunCount F.off) : Begun r s (t.setF F v) where
  rungs := h.rungs
  faults := h.faults
  beat := h.beat
  count := by
    have := h.count
    rwa [counts, ← State.rd_setF_ne t v fun e => hF (e ▸ rungCounter_begunCount r.rung)] at this
  event := h.event

/-- A partition's own record, and the circulars, are no part of what has begun. -/
theorem Begun.setPart {r : Rung} {p : Nat} {v : Part} (h : Begun r s t) : Begun r s (t.setPart p v) :=
  ⟨h.rungs, h.faults, h.beat, h.count, h.event⟩

theorem Begun.circ {r : Rung} {l : List Circ} (h : Begun r s t) : Begun r s { t with circs := l } :=
  ⟨h.rungs, h.faults, h.beat, h.count, h.event⟩

theorem PartHeld.circ {p : Nat} {l : List Circ} (h : PartHeld p t) : PartHeld p { t with circs := l } := ⟨h.held, h.pstate⟩

theorem State.holdPart_holds {r : Rung} {p : Nat} (hp : p < 32) (h : Begun r s t) :
    Begun r s (t.holdPart p 1) ∧ PartHeld p (t.holdPart p 1) ∧ (t.holdPart p 1).circs = t.circs := by
  unfold State.holdPart
  extract_lets t1 t2 t3 v t4 t5 t6
  have h3 : Spares tallied t t3 := Spares.foldl (Spares.foldl (Spares.refl t).abortFor fun _ _ _ h => h.resetCell) fun _ _ _ h => h.flushCluster
  have h4 : t4.part p = { v with held := true } := State.part_setPart_self ..
  have h5 : Spares tallied t4 t5 := (Spares.refl t4).wakeAll
  have h7 : Spares tallied t6 (t6.degrade.ldgPartDown p) := (Spares.refl t6).degrade.ldgPartDown
  have hbegun : Begun r s t6 := ((h.spares h3).setPart.spares h5).setF (by simp [Reg.RCV_PART_STATE_PSTATE, begunCount]; omega)
  have hheld : PartHeld p t6 :=
    { held := by
        rw [State.part, State.setF_parts, h5.parts]
        exact congrArg Part.held h4
      pstate := State.f_setF_self _ _ _ (by simp [Reg.RCV_PART_STATE_PSTATE]) }
  have hcircs : t6.circs = t.circs := (State.setF_circs ..).trans (h5.circs.trans ((State.setPart_circs ..).trans h3.circs))
  exact ⟨hbegun.spares h7, hheld.spares h7 hp, h7.circs.trans hcircs⟩

/-- A reset is counted in a partition's register beside its state (R359). -/
theorem State.countReset_holds {r : Rung} {p : Nat} (hp : p < 32) (h : Begun r s t) (hh : PartHeld p t) :
    Begun r s (t.countReset p) ∧ PartHeld p (t.countReset p) :=
  ⟨h.setF (by simp [Reg.RCV_PART_STATE_RESETS, begunCount]; omega),
    by rw [State.part, State.countReset, State.setF_parts]; exact hh.held,
    (State.f_setF_apart _ _ _ _ (.inr (by simp [Reg.RCV_PART_STATE_PSTATE, Reg.RCV_PART_STATE_RESETS]))).trans hh.pstate⟩

theorem State.peerCirc_issues {r : Rung} {p type cause effect : Nat} (hp : p < 32) (h : Begun r s t) (hh : PartHeld p t) :
    Begun r s (t.peerCirc type p cause effect) ∧ PartHeld p (t.peerCirc type p cause effect) ∧
    ∃ param, (t.peerCirc type p cause effect).circs = insertCirc { type := type, src := p, effect := effect, param := param } t.circs := by
  unfold State.peerCirc State.issueCirc
  extract_lets hit u
  have hu : Spares tallied t u := (Spares.refl t).foldl fun _ _ _ h => .ite h.startWake h
  exact ⟨(h.spares hu).circ, (hh.spares hu hp).circ, _, congrArg (insertCirc _) hu.circs⟩

/-- Where no rung runs, a partition's rung ends none of a program's. -/
theorem Begun.of_preempt {r : Rung} {p : Nat} (hfree : s.rcv.rungs = []) (h : Begun r (s.preemptContexts p) t) : Begun r s t where
  rungs := by
    rw [h.rungs, hfree]
    simp [State.preemptContexts, hfree]
  faults := h.faults
  beat := h.beat
  count := h.count
  event := h.event

/-- An ordered rung of a partition in service tests no cluster and leaves no slot empty. -/
theorem State.startPartition_eq (hout : f.out = false) (hreason : f.reason = 0x17)
    (hheld : s.held f.unit = false) (hload : s.f (Reg.MAN_STATUS_STATE f.unit) ≠ 1) (hrun : s.f (Reg.RCV_PART_STATE_PSTATE f.unit) = 0) :
    ∃ t u, t = (s.preemptContexts f.unit).beginRung { rung := 3, unit := f.unit, reason := f.reason, start := s.beatN } f.escalated ∧
      u = ((t.stopProgs f.unit).holdPart f.unit 1).countReset f.unit ∧
      s.startPartition f = (u.peerCirc 2 f.unit 1 (u.beatN + 2)).rcvStatus := by
  refine ⟨_, _, rfl, rfl, ?_⟩
  have htests : s.testsOf f = [] := if_pos hreason
  have habandon : s.abandonLoad f.unit = s := if_neg hload
  unfold State.startPartition
  simp only [hheld, hout, htests, habandon, hrun, Bool.false_eq_true, if_false]
  rfl

theorem State.startPartition_begun (hfree : s.rcv.rungs = []) (hout : f.out = false) (hreason : f.reason = 0x17) (hp : f.unit < 32)
    (hheld : s.held f.unit = false) (hload : s.f (Reg.MAN_STATUS_STATE f.unit) ≠ 1) (hrun : s.f (Reg.RCV_PART_STATE_PSTATE f.unit) = 0) :
    Begun { rung := 3, unit := f.unit, reason := f.reason, start := s.beat.toNat } s (s.startPartition f) ∧
    PartHeld f.unit (s.startPartition f) ∧
    ∃ param, (s.startPartition f).circs = insertCirc { type := 2, src := f.unit, effect := s.beat.toNat + 2, param := param } s.circs := by
  obtain ⟨t, u, ht, hu, heq⟩ := State.startPartition_eq hout hreason hheld hload hrun
  have h1 := (s.preemptContexts f.unit).beginRung_begins { rung := 3, unit := f.unit, reason := f.reason, start := s.beatN } f.escalated
  rw [← ht] at h1
  have hstop : Spares tallied t (t.stopProgs f.unit) := (Spares.refl t).stopProgs
  obtain ⟨h2, h3, h4⟩ := State.holdPart_holds hp ((Begun.of_preempt hfree h1.begun).spares hstop)
  obtain ⟨h5, h6⟩ := State.countReset_holds hp h2 h3
  rw [← hu] at h5 h6
  have hcircs : u.circs = s.circs := by
    rw [hu]
    exact (State.setF_circs ..).trans (h4.trans (hstop.circs.trans (congrArg State.circs h1.frame :)))
  obtain ⟨h7, h8, param, h9⟩ := State.peerCirc_issues (type := 2) (cause := 1) (effect := u.beatN + 2) hp h5 h6
  have hend := Spares.rcvStatus (.refl (u.peerCirc 2 f.unit 1 (u.beatN + 2)))
  rw [heq]
  refine ⟨h7.spares hend, h8.spares hend hp, param, ?_⟩
  rw [hend.circs, h9, hcircs, State.beatN, h5.beat]

end rungs

end Sys2Proof.Machine

namespace Sys2Proof.Machine

open Sys2Proof.Bits Sys2Proof.Safety

/-! ### Loop engines that are watched (Table 17-1) -/

theorem loopEngine_watched {s : State} {e : Fin 64} {l : Nat} (hl : l < 8) (hw : s.lstate (8 * e.val + l) ≠ 0) :
    s.watches (.loopEngine e) = true := List.any_eq_true.2 ⟨l, List.mem_range.2 hl, decide_eq_true hw⟩

theorem loopEngine_unwatched (s : State) (e : Fin 64) :
    s.watches (.loopEngine e) = false ↔ ∀ l, l < 8 → s.lstate (8 * e.val + l) = 0 := by
  simp [State.watches]

/-! ### The boundary at which rungs start (R356) -/

section starting

variable {s t : State} {f : FaultRec}

/-- No fault waits. -/
def State.noFaults (s : State) : State := { s with rcv := { s.rcv with faults := [] } }

theorem State.takeFaults_of_due (hf : t.rcv.faults = [f]) (hb : f.beat < t.beatN) :
    t.takeFaults = t.noFaults := by
  unfold State.takeFaults State.noFaults
  rw [hf, List.filter_cons_of_neg (by simpa using hb), List.filter_nil]

theorem startRung_engine (h : f.rung = 2) : s.startRung f = s.startEngine f := by simp [State.startRung, h]

theorem startRung_context (h : f.rung = 1) : s.startRung f = s.startContext f := by simp [State.startRung, h]

theorem startRung_partition (h : f.rung = 3) : s.startRung f = s.startPartition f := by simp [State.startRung, h]

/-- No fault of an earlier beat waits: nothing starts. -/
theorem exec_rungStart_idle (h : ∀ g ∈ s.rcv.faults, s.beat.toNat ≤ g.beat) : exec .rungStart s = .next s := by
  have h' : ∀ g ∈ s.rcv.faults, s.beatN ≤ g.beat := h
  have hdue : (s.rcv.faults.filter fun f => decide (f.beat < s.beatN)) = [] :=
    List.filter_eq_nil_iff.2 fun g hg => by simpa using h' g hg
  have hkeep : (s.rcv.faults.filter fun f => !decide (f.beat < s.beatN)) = s.rcv.faults :=
    List.filter_eq_self.2 fun g hg => by simpa using h' g hg
  show execRungStart s = _
  unfold execRungStart
  rw [hdue]
  refine congrArg Host.Outcome.next ?_
  show s.takeFaults = s
  rw [State.takeFaults, hkeep]

/-- One fault of an earlier beat waits. -/
theorem exec_rungStart_one (hf : s.rcv.faults = [f]) (hb : f.beat < s.beat.toNat) : exec .rungStart s = .next
    (if 4 ≤ f.rung then s.noFaults.chipRung f else (s.startRung f).takeFaults) := by
  have hb' : f.beat < s.beatN := hb
  have hdue : (s.rcv.faults.filter fun f => decide (f.beat < s.beatN)) = [f] := by
    rw [hf, List.filter_cons_of_pos (by simpa using hb'), List.filter_nil]
  show execRungStart s = _
  unfold execRungStart
  rw [hdue, State.takeFaults_of_due hf hb]
  by_cases h4 : 4 ≤ f.rung
  · simp [h4]
  · by_cases h3 : f.rung = 3 <;> simp [h3, h4, insertFault]

/-- A rung that has begun is taken from the faults that wait. -/
theorem Begun.taken {r : Rung} (h : Begun r s t) (hf : s.rcv.faults = [f]) (hb : f.beat < s.beat.toNat) :
    t.takeFaults = t.noFaults :=
  State.takeFaults_of_due (h.faults.trans hf) (by rwa [State.beatN, h.beat])

/-- A chip rung that HOLDUP, the feeds' loss or a junction trip outranks is logged (R31). -/
theorem State.chipRung_outranked (h : s.mstate = 6 ∨ s.feedsLost = true ∨ s.mpw.trip ≠ none) :
    s.chipRung f = s.ev 0x0F01 (s.mstate + 16 * s.mstate + 256 * 4) 1 := by
  have ho : s.mstate = 6 ∨ s.outranks 3 = true := h.imp_right fun h => by
    rw [State.outranks_chip, Bool.or_eq_true, Option.isSome_iff_ne_none]
    exact h
  exact if_pos ho

/-- The unit or partition that a chip rung's event names (Table 17-2). -/
theorem State.chipRung_acts (h4 : f.rung = 4) (hm : s.mstate ≠ 6) (hf : s.feedsLost = false) (ht : s.mpw.trip = none) : ∃ u,
    (s.ev 0xF03 (4 + 256 * (if f.w0 / 2 ^ 29 = 2 ∨ f.w0 / 2 ^ 29 = 4 then f.w0 % 128 else f.w0 % 32)) f.reason).queueGrows u ∧
    s.chipRung f = u.wholeReset 4 := by
  have ho : ¬ (s.mstate = 6 ∨ s.outranks 3 = true) := by
    rw [(s.outranks_chip_eq_false).2 ⟨hf, ht⟩]
    simp [hm]
  refine ⟨_, ?_, if_neg ho⟩
  rw [if_neg (show ¬ f.rung = 5 by omega)]
  exact State.queueGrows_refl _

end starting

end Sys2Proof.Machine

open Sys2Proof Sys2Proof.Machine Sys2Proof.Safety in
/-- Settles O45: a fault that no limit escalates takes its own rung (`Unescalated`); the begin of a rung counts it and raises its event
(`Begins`), and what stops cells, ends envelopes and holds the partition spares the counts and the rungs that run (`Spares`). -/
theorem faultsTakeRungs : Obligations.FaultsTakeRungs := by
  intro s p c e f
  refine ⟨fun h1 h2 h3 h4 h5 h6 => ?_, watchdog_unwatched (u := .postmaster) nofun,
    fun h => watchdog_unwatched (u := .sequencer p c) nofun (decide_eq_false h),
    fun h => watchdog_unwatched (u := .loopEngine e) nofun ((loopEngine_unwatched s e).2 h),
    watchdog_unwatched (u := .ledger) nofun, fun h => watchdog_unwatched (u := .franker) nofun (decide_eq_false (not_not_intro h)),
    fun h => watchdog_unwatched (u := .twin) nofun (decide_eq_false (by rw [h]; decide)),
    fun h h' => watchdog_unwatched (u := .host) nofun (decide_eq_false (by rw [h, h']; simp)),
    fun h => ⟨s, exec_rungStart_idle h, rfl⟩, fun hf hb => ?_⟩
  · have h : Unescalated s := ⟨h1, h2, h3, h4, h5, h6⟩
    exact ⟨fun hw => h.chipExpires (u := .postmaster) nofun hw (fun _ => rfl) (by decide), fun hw hh => h.sequencerExpires hw hh,
      fun l hl hw => h.engineExpires (u := .loopEngine e) nofun (loopEngine_watched hl hw) fun _ => rfl,
      fun hw => h.engineExpires (u := .ledger) nofun hw fun _ => rfl,
      fun hw => h.engineExpires (u := .franker) nofun (decide_eq_true hw) fun _ => rfl,
      fun ⟨b, hb, hw⟩ => h.chipExpires (u := .stage) nofun (List.any_eq_true.2 ⟨b, hb, hw⟩) (fun _ => rfl) (by decide),
      fun ⟨b, hb, hw⟩ => h.chipExpires (u := .monitor) nofun (List.any_eq_true.2 ⟨b, hb, hw⟩) (fun _ => rfl) (by decide),
      fun hw => h.chipExpires (u := .twin) nofun (decide_eq_true hw) (fun _ => rfl) (by decide),
      fun hw => h.chipExpires (u := .host) nofun (decide_eq_true hw) (fun _ => rfl) (by decide), fun u => h.memoryFault u⟩
  · have hexec := exec_rungStart_one hf hb
    refine ⟨fun hr hu hfree => ?_, fun hr hu hheld hfree hcells => ?_, fun hr hout hreason hu hheld hfree hload hrun => ?_, fun hr h => ?_,
      fun hr hm hfeeds htrip => ?_⟩
    · obtain ⟨h, hfab⟩ := State.startEngine_begun (f := f) hfree
      rw [if_neg (by omega), startRung_engine hr, h.taken hf hb] at hexec
      exact ⟨_, hexec, ⟨rfl, hr ▸ h.rungs⟩, h.count, h.event, hfab⟩
    · obtain ⟨h, hstop⟩ := State.startContext_begun (f := f) hfree hheld hcells
      rw [if_neg (by omega), startRung_context hr, h.taken hf hb] at hexec
      exact ⟨_, hexec, ⟨rfl, hr ▸ h.rungs⟩, h.count, h.event, hstop.unstarted, fun n hn => ⟨hstop.settled n hn, hstop.halted n hn⟩⟩
    · obtain ⟨h, hheld, hcirc⟩ := State.startPartition_begun hfree hout hreason hu hheld hload hrun
      rw [if_neg (by omega), startRung_partition hr, h.taken hf hb] at hexec
      exact ⟨_, hexec, ⟨rfl, hr ▸ h.rungs⟩, h.count, h.event, hheld.held, hheld.pstate, hcirc⟩
    · rw [if_pos (by omega), State.chipRung_outranked (s := s.noFaults) h] at hexec
      obtain ⟨hframe, hregs, hevent⟩ := s.noFaults.ev_logged 0x0F01 (s.mstate + 16 * s.mstate + 256 * 4) 1 0xFFF 0
      exact ⟨_, hexec, hframe, hregs, raisesAt_of_evl (t := s.noFaults) rfl rfl hevent⟩
    · obtain ⟨u, hq, hu⟩ := State.chipRung_acts (s := s.noFaults) hr hm hfeeds htrip
      rw [if_pos (by omega), hu] at hexec
      obtain ⟨h1, h2, h3, -, -, h4, h5⟩ := u.wholeReset_clears (cause := 4) (by decide)
      exact ⟨_, hexec, h1, h2, h3, h4, raisesAt_of_evl (t := s.noFaults) rfl rfl
        (hq.trans (State.queueGrows.trans (u.queue_ev_prefix ..) h5)).raisesAt⟩

namespace Sys2Proof.Machine

/-! ### A loop that trips at the take of EXT_U (R183, R187) -/

/-- A RUNNING EXTERNAL loop (FORM 0) with EN 1 whose limits of Table 8-1 are 0; its sample of this beat waits for the take of EXT_U. -/
def waitingLoop : Loop := { win := (List.range 64).map fun i => if i = 6 then 1 else 0, ys := some (some 1000) }

/-- A module in service at cycle 875 of a beat, with an empty queue and that loop alone. -/
def waitingSt : State :=
  { (State.reset.setF Reg.GLB_STATE_MSTATE 3).setF (Reg.LE_LOOP_STATUS_LSTATE 0) 2 with
    loops := [(0, waitingLoop)], beat := 4000, released := true, cycle := 875 }

/-- The sample is taken as the cycle passes: it lies beyond the plant limit, so the loop trips and sends its letter (R187). -/
theorem waitingSt_sends : (match step waitingSt with | .next t => t.net.length | _ => 0) = 1 := by decide +kernel

end Sys2Proof.Machine

open Sys2Proof Sys2Proof.Machine in
/-- Refutes O2: at cycle 875 the take of EXT_U evaluates the EXTERNAL loops' samples, and a loop that trips there sends a letter (R183,
R187); the statement has no letter sent at any cycle. In `waitingSt` such a loop is the only one bound. -/
theorem not_emptyQueuePassesACycle : ¬ Obligations.EmptyQueuePassesACycle := by
  intro h
  obtain ⟨t, ht, -, -, -, -, hnet, -⟩ := h waitingSt rfl
  have hsent := waitingSt_sends
  rw [ht] at hsent
  exact absurd (hsent.symm.trans (congrArg List.length hnet)) (by decide)

namespace Sys2Proof.Machine

open Sys2Proof.Bits Sys2Proof.Safety

/-! ### Numbers read from memory (R5, R35) -/

@[simp] theorem State.rdMem_setCell (s : State) (n : Nat) (c : Cell) (a len : Nat) : (s.setCell n c).rdMem a len = s.rdMem a len :=
  State.rdMem_congr (s.setCell_mem ..) a len

@[simp] theorem State.rdMem_setCl (s : State) (n : Nat) (c : Cluster) (a len : Nat) : (s.setCl n c).rdMem a len = s.rdMem a len :=
  State.rdMem_congr (s.setCl_mem ..) a len

@[simp] theorem State.rdMem_bump (s : State) (o a len : Nat) : (s.bump o).rdMem a len = s.rdMem a len :=
  State.rdMem_congr (s.bump_mem ..) a len

theorem byteAddress_add (k : CellId) (ea i : Nat) : byteAddress k (ea + i) = byteAddress k ea + i := (Nat.add_assoc ..).symm

theorem State.byteAt_rdMem (s : State) (a : Nat) {n i : Nat} (h : i < n) : byteAt (s.rdMem a n) i = s.rdByte (a + i) := by
  have hl : i < (s.rdMem a n).length := by rwa [State.rdMem_length]
  rw [byteAt, List.getD_eq_getElem _ _ hl, State.rdMem_getElem]

theorem State.le_rdMem_one (s : State) (a : Nat) : le (s.rdMem a 1) 0 1 = (s.rdByte a).toNat := by
  simp [le, s.byteAt_rdMem a]

theorem State.le_rdMem_two (s : State) (a : Nat) : le (s.rdMem a 2) 0 2 = (s.rdByte a).toNat + 2 ^ 8 * (s.rdByte (a + 1)).toNat := by
  simp [le, s.byteAt_rdMem a]

theorem State.le_rdMem_four (s : State) (a : Nat) : le (s.rdMem a 4) 0 4 = (s.rdByte a).toNat + 2 ^ 8 * (s.rdByte (a + 1)).toNat +
    2 ^ 16 * (s.rdByte (a + 2)).toNat + 2 ^ 24 * (s.rdByte (a + 3)).toNat := by
  simp [le, s.byteAt_rdMem a]
  omega

/-- A signed number of n bits, on 32 bits, is its pattern extended by its sign (R74). -/
theorem ofInt_sint {n : Nat} (hn : 0 < n) (v : Nat) : BitVec.ofInt 32 (sint n v) = (BitVec.ofNat n v).signExtend 32 := by
  have h2 : 2 ^ n = 2 * 2 ^ (n - 1) := by rw [← Nat.pow_succ', Nat.succ_eq_add_one, Nat.sub_add_cancel hn]
  rw [BitVec.signExtend, BitVec.toInt_eq_toNat_cond, BitVec.toNat_ofNat, sint]
  congr 1
  by_cases h : v % 2 ^ n < 2 ^ (n - 1)
  · rw [if_pos h, if_pos (by omega)]
  · rw [if_neg h, if_neg (by omega)]
    norm_cast

/-! ### A corrected error (R35) -/

/-- A corrected error of a load counts in FAB_ECC_CE_CNT and in the cell's cluster. -/
theorem State.eccCorrected_cell (s : State) (n off : Nat) : s.eccCorrected (.cell n off) =
    (s.bump 0x200028).setCl (clusterOf n) { s.cl (clusterOf n) with ecc := satAdd 32 (s.cl (clusterOf n)).ecc 1 } := rfl

/-! ### Local loads (R74) -/

/-- A load has put v into gd: the memory keeps every byte, and a corrected error counts. -/
def Loaded (s : State) (k : CellId) (d a : BitVec 4) (ecc : Ecc) (v : Word) (t : State) : Prop :=
  cellAfter s t k [a] none 1 ((s.cell (cellNo k)).work.setReg d v) ((s.cell (cellNo k)).pc + 1) (some d) ∧
  t = { s with cells := t.cells, clusters := t.clusters, regs := t.regs } ∧
  (∀ m, m ≠ cellNo k → t.cell m = s.cell m) ∧
  (∀ r, t.rd r = if r = 0x200028 ∧ ecc = .corrected then BitVec.ofNat 32 (min (2 ^ 32 - 1) ((s.rd r).toNat + 1)) else s.rd r) ∧
  (t.cl (clusterOf (cellNo k))).ecc =
    if ecc = .corrected then min (2 ^ 32 - 1) ((s.cl (clusterOf (cellNo k))).ecc + 1) else (s.cl (clusterOf (cellNo k))).ecc

/-- An aligned load within WORK reads the number at its address, extended. -/
theorem State.load_loaded {s : State} {k : CellId} {d a : BitVec 4} {imm : BitVec 16} {ecc : Ecc} {w : Nat} (ext : Nat → Int)
    (hlast : notLast s k) (hrun : mayRun s k [a] none 1) (hecc : ecc ≠ .uncorrectable)
    (hrange : localAddr ((s.cell (cellNo k)).work.reg a) imm ≤ 0x7FF) (halign : localAddr ((s.cell (cellNo k)).work.reg a) imm % w = 0) :
    Loaded s k d a ecc (BitVec.ofInt 32 (ext (le (s.rdMem (byteAddress k (localAddr ((s.cell (cellNo k)).work.reg a) imm)) w) 0 w)))
      (s.load k d a imm ecc w ext) := by
  unfold State.load
  rw [State.instr_eq _ _ _ _ _ _ _ hrun]
  generalize hea : localAddr ((s.cell (cellNo k)).work.reg a) imm = ea at hrange halign
  simp only [State.issued, State.cell_setCell_self, hea, gt_iff_lt, Nat.not_lt.2 hrange, if_false, halign, ne_eq, not_true_eq_false]
  cases ecc with
  | uncorrectable => exact absurd rfl hecc
  | clean =>
    simp only [reduceCtorEq, if_false, cellAddr_eq, State.rdMem_setCell, Eff.finish]
    rw [State.retire_eq _ _ _ _ _ _ (.inl (by simpa using hlast))]
    refine ⟨by simp [cellAfter], by simp only [State.setCl, State.setCell], fun m hm => by simp [State.cell_setCell, hm], fun r => by simp [State.rd], by simp⟩
  | corrected =>
    simp only [if_true, cellAddr_eq, State.rdMem_setCell, State.rdMem_setCl, State.rdMem_bump, Eff.finish, State.eccCorrected_cell]
    rw [State.retire_eq _ _ _ _ _ _ (.inl (by simpa using hlast))]
    refine ⟨by simp [cellAfter], by simp only [State.setCl, State.setCell, State.bump, State.bumpBy, State.wr], fun m hm => by simp [State.cell_setCell, hm], fun r => ?_, by simp [satAdd]⟩
    simp only [State.setCl_rd, State.setCell_rd, State.rd_bump, satAdd, and_true]
    split
    · next hr => rw [hr]
    · rfl

end Sys2Proof.Machine

open Sys2Proof Sys2Proof.Machine Sys2Proof.Safety Sys2Proof.Bits in
/-- Settles O7: an instruction that may run has its effect in the issue state and retires, and that effect is one register of the cell and
the counts of a corrected error (`Loaded`). -/
theorem localLoads : Obligations.LocalLoads := by
  intro s k d a imm ecc hlast hrun hecc w ea b loads hrange
  have load (wd : Nat) (ext : Nat → Int) (halign : ea % wd = 0) := State.load_loaded (d := d) ext hlast hrun hecc hrange halign
  have hb (i : Nat) : b i = (s.rdByte (byteAddress k ea + i)).toNat := by rw [← byteAddress_add]
  refine ⟨fun h4 => ⟨_, rfl, ?_⟩, fun h2 => ⟨⟨_, rfl, ?_⟩, _, rfl, ?_⟩, _, rfl, ?_⟩
  · show Loaded s k d a ecc (BitVec.ofNat 32 (b 0 + 2 ^ 8 * b 1 + 2 ^ 16 * b 2 + 2 ^ 24 * b 3)) _
    rw [hb, hb, hb, hb, Nat.add_zero, ← State.le_rdMem_four, ← BitVec.ofInt_natCast]
    exact load 4 (fun v => v) h4
  · show Loaded s k d a ecc ((BitVec.ofNat 16 (b 0 + 2 ^ 8 * b 1)).signExtend 32) _
    rw [hb, hb, Nat.add_zero, ← State.le_rdMem_two, ← ofInt_sint (by decide)]
    exact load 2 (sint 16) h2
  · show Loaded s k d a ecc (BitVec.ofNat 32 (b 0 + 2 ^ 8 * b 1)) _
    rw [hb, hb, Nat.add_zero, ← State.le_rdMem_two, ← BitVec.ofInt_natCast]
    exact load 2 (fun v => v) h2
  · show Loaded s k d a ecc ((s.rdByte (byteAddress k ea)).signExtend 32) _
    have h := load 1 (sint 8) (Nat.mod_one _)
    rwa [State.le_rdMem_one, ofInt_sint (by decide), BitVec.ofNat_toNat, BitVec.setWidth_eq] at h

namespace Sys2Proof.Machine

open Sys2Proof.Bits Sys2Proof.Safety

/-! ### The operands of a format L instruction (R80, R81) -/

theorem lArgs_eq (w : Work) (f : LFields) : lArgs w f =
    { addr := (w.reg (BitVec.ofNat 4 (2 * f.aHalf.toNat) + 1)).toNat % 2 ^ 16 * 2 ^ 32 + (w.reg (BitVec.ofNat 4 (2 * f.aHalf.toNat))).toNat
      loff := (w.reg f.b).toNat % 2 ^ 11, len := (w.reg f.b).toNat / 2 ^ 16 % 2 ^ 7, coff := (w.reg f.c).toNat % 2 ^ 11 } := by
  simp [lArgs, fld]

/-- The registers that a format L instruction reads: gc where a reply is wanted. -/
abbrev letterReads (f : LFields) (want : Bool) : List (BitVec 4) :=
  [BitVec.ofNat 4 (2 * f.aHalf.toNat), BitVec.ofNat 4 (2 * f.aHalf.toNat) + 1, f.b] ++ if want then [f.c] else []

/-- A letter that wants a reply (R46). -/
abbrev LOp.wants (op : LOp) (f : LFields) : Bool := op != .put || f.reply

/-- A PUT or GET of no bytes, of more than 64, past its line or past WORK. -/
abbrev LArgs.misfits (x : LArgs) : Prop := x.len = 0 ∨ 64 < x.len ∨ 64 < x.addr % 64 + x.len ∨ 2048 < x.loff + x.len

/-- An atomic of another width than 4 or 8, off its alignment, or whose operands lie past WORK. -/
abbrev LArgs.misfitsAtomic (x : LArgs) (n : Nat) : Prop :=
  (x.len ≠ 4 ∧ x.len ≠ 8) ∨ x.loff % x.len ≠ 0 ∨ x.addr % x.len ≠ 0 ∨ 2048 < x.loff + n

theorem lBad_ordinary {op : LOp} (h : LOp.atomic op = false) (x : LArgs) (want : Bool) :
    lBad op x want = true ↔ x.misfits ∨ (want = true ∧ x.coff % 4 ≠ 0) := by
  cases op with
  | put | get => simp [lBad, LOp.atomic, or_assoc]
  | add | swap | cas | max | min => cases h

theorem lBad_atomic {op : LOp} (h : LOp.atomic op = true) (x : LArgs) (want : Bool) :
    lBad op x want = true ↔ x.misfitsAtomic (localBytes op x.len) ∨ (want = true ∧ x.coff % 4 ≠ 0) := by
  cases op with
  | put | get => cases h
  | add | swap | cas | max | min => simp [lBad, LOp.atomic, localBytes, or_assoc]

/-! ### What a format L instruction does, case by case -/

@[simp] theorem State.issued_ctx (s : State) (n : Nat) : ((s.issued n).cell n).ctx = (s.cell n).ctx := by simp [State.issued]
@[simp] theorem State.issued_work (s : State) (n : Nat) : ((s.issued n).cell n).work = (s.cell n).work := by simp [State.issued]
@[simp] theorem State.issued_outst (s : State) (n : Nat) : ((s.issued n).cell n).outst = (s.cell n).outst := by simp [State.issued]
@[simp] theorem State.issued_pc (s : State) (n : Nat) : ((s.issued n).cell n).pc = (s.cell n).pc := by simp [State.issued]
@[simp] theorem State.issued_handleEnv (s : State) (n h : Nat) : (s.issued n).handleEnv h = s.handleEnv h := rfl

section letterOp

variable {s : State} {k : CellId} {f : LFields} {op : LOp}

/-- The cycle at which an instruction that may run issues (R84). -/
abbrev State.issueCycle (s : State) (k : CellId) (reads : List (BitVec 4)) : Nat :=
  max (s.cell (cellNo k)).next s.now + stall s k reads none

theorem State.letterOp_sequence (hrun : mayRun s k (letterReads f (LOp.wants op f)) none 1) (henv : f.env = true)
    (hctx : (s.cell (cellNo k)).ctx = .none) : s.letterOp k f op =
      (s.issued (cellNo k)).cellFault (cellNo k) envSequence envSequence (s.cell (cellNo k)).pc.toNat := by
  unfold State.letterOp
  rw [State.instr_eq _ _ _ _ _ _ _ hrun]
  simp only [State.issued_ctx, State.issued_work, State.issued_outst, State.issued_pc, henv, hctx, decide_true, Bool.and_self, if_true, Eff.finish]

theorem State.letterOp_form (hrun : mayRun s k (letterReads f (LOp.wants op f)) none 1) (hctx : f.env = true → (s.cell (cellNo k)).ctx ≠ .none)
    (hbad : lBad op (lArgs (s.cell (cellNo k)).work f) (LOp.wants op f) = true ∨ (f.env = true ∧ LOp.wants op f = true)) : s.letterOp k f op =
      (s.issued (cellNo k)).cellFault (cellNo k) letterForm (LOp.code op + 16 * (lArgs (s.cell (cellNo k)).work f).len)
        (s.cell (cellNo k)).pc.toNat := by
  have h1 : (f.env && decide ((s.cell (cellNo k)).ctx = .none)) = false := by
    cases he : f.env with
    | false => rfl
    | true => simp [hctx he]
  have h2 : (lBad op (lArgs (s.cell (cellNo k)).work f) (LOp.wants op f) || (f.env && LOp.wants op f)) = true := by
    simpa only [Bool.or_eq_true, Bool.and_eq_true] using hbad
  unfold State.letterOp
  rw [State.instr_eq _ _ _ _ _ _ _ hrun]
  simp only [State.issued_ctx, State.issued_work, State.issued_outst, State.issued_pc, h1, h2, Bool.false_eq_true, if_false, if_true, Eff.finish]

/-- The instruction is well formed and no context forbids it. -/
abbrev State.forms (s : State) (k : CellId) (f : LFields) (op : LOp) : Prop :=
  (f.env = true → (s.cell (cellNo k)).ctx ≠ .none ∧ LOp.wants op f = false) ∧ lBad op (lArgs (s.cell (cellNo k)).work f) (LOp.wants op f) = false

theorem State.forms_conditions (h : s.forms k f op) : (f.env && decide ((s.cell (cellNo k)).ctx = .none)) = false ∧
    (lBad op (lArgs (s.cell (cellNo k)).work f) (LOp.wants op f) || (f.env && LOp.wants op f)) = false := by
  obtain ⟨hctx, hbad⟩ := h
  cases he : f.env with
  | false => simp [hbad]
  | true => simpa [hctx he] using hbad

/-- While 16 replies are outstanding a letter that wants one does not issue (R81). -/
theorem State.letterOp_waits (hrun : mayRun s k (letterReads f (LOp.wants op f)) none 1) (h : s.forms k f op) (hwant : LOp.wants op f = true)
    (hout : 16 ≤ (s.cell (cellNo k)).outst) : s.letterOp k f op = s := by
  obtain ⟨h1, h2⟩ := State.forms_conditions h
  unfold State.letterOp
  rw [State.instr_eq _ _ _ _ _ _ _ hrun]
  rw [hwant] at h2
  simp only [State.issued_ctx, State.issued_work, State.issued_outst, h1, h2, hwant, hout, Bool.false_eq_true, decide_true, Bool.and_self, if_false,
    if_true, Eff.finish]

/-- A letter in no envelope leaves. -/
theorem State.letterOp_leaves (hrun : mayRun s k (letterReads f (LOp.wants op f)) none 1) (h : s.forms k f op) (henv : f.env = false)
    (hout : LOp.wants op f = true → (s.cell (cellNo k)).outst < 16) : s.letterOp k f op =
      ((s.issued (cellNo k)).leave k f op none (s.issueCycle k (letterReads f (LOp.wants op f)))).finish (s.issued (cellNo k)) (cellNo k)
        (s.issueCycle k (letterReads f (LOp.wants op f))) (stall s k (letterReads f (LOp.wants op f)) none + 1) 1 := by
  obtain ⟨h1, h2⟩ := State.forms_conditions h
  have h3 : (LOp.wants op f && decide ((s.cell (cellNo k)).outst ≥ 16)) = false := by
    cases hw : LOp.wants op f with
    | false => rfl
    | true => simpa using hout hw
  unfold State.letterOp
  rw [State.instr_eq _ _ _ _ _ _ _ hrun]
  rw [henv] at h1 h2
  simp only [State.issued_ctx, State.issued_work, State.issued_outst, h1, h2, h3, henv, Bool.false_eq_true, if_false]

/-- A letter in an envelope that is gone, or from the void context, is dropped. -/
theorem State.letterOp_dropped (hrun : mayRun s k (letterReads f (LOp.wants op f)) none 1) (h : s.forms k f op) (henv : f.env = true)
    (hgone : ∀ i, (s.cell (cellNo k)).ctx = .member i → ∀ e ∈ s.handleEnv i.toNat, e.st ≠ .open ∧ e.st ≠ .sealed) : s.letterOp k f op =
      (s.issued (cellNo k)).retire (cellNo k) (s.issueCycle k (letterReads f (LOp.wants op f)))
        (stall s k (letterReads f (LOp.wants op f)) none + 1) 1 none := by
  obtain ⟨h1, h2⟩ := State.forms_conditions h
  have hw : LOp.wants op f = false := (h.1 henv).2
  unfold State.letterOp
  rw [State.instr_eq _ _ _ _ _ _ _ hrun]
  rw [henv] at h1
  rw [henv, hw] at h2
  simp only [State.issued_ctx, State.issued_work, State.issued_outst, h1, h2, hw, henv, Bool.false_and, Bool.false_eq_true, if_false, if_true]
  cases hc : (s.cell (cellNo k)).ctx with
  | none => exact absurd hc (h.1 henv).1
  | void _ => rfl
  | member i =>
    simp only [State.issued_handleEnv]
    split
    · next e he =>
      obtain ⟨ho, hs⟩ := hgone i hc e he
      rw [if_neg (by simp [ho, hs])]
      rfl
    · rfl

/-- A letter in an open or sealed envelope leaves, and its member counts it. -/
theorem State.letterOp_member (hrun : mayRun s k (letterReads f (LOp.wants op f)) none 1) (h : s.forms k f op) (henv : f.env = true)
    {i : BitVec 16} {e : Env} (hctx : (s.cell (cellNo k)).ctx = .member i) (he : s.handleEnv i.toNat = some e) (hst : e.st = .open ∨ e.st = .sealed) :
    s.letterOp k f op =
      (((s.issued (cellNo k)).setEnv (hPart i.toNat) (hSlot i.toNat)
        { e with members := updMember (cellNo k) (fun m => { m with sent := m.sent + 1 }) e.members }).leave k f op (some i)
          (s.issueCycle k (letterReads f (LOp.wants op f)))).finish (s.issued (cellNo k)) (cellNo k)
        (s.issueCycle k (letterReads f (LOp.wants op f))) (stall s k (letterReads f (LOp.wants op f)) none + 1) 1 := by
  obtain ⟨h1, h2⟩ := State.forms_conditions h
  have hw : LOp.wants op f = false := (h.1 henv).2
  unfold State.letterOp
  rw [State.instr_eq _ _ _ _ _ _ _ hrun]
  rw [henv, hctx] at h1
  rw [henv, hw] at h2
  simp only [State.issued_ctx, State.issued_work, State.issued_outst, h1, h2, hw, henv, State.issued_handleEnv, hctx, he, hst, letterReads, State.issueCycle, Bool.false_and, Bool.false_eq_true, if_false, if_true]

end letterOp

/-! ### The route and the cycle of issue (R44) -/

theorem le_routeIssue (r : RouteRun) (rate flits t : Nat) : t ≤ (routeIssue r rate flits t).1 := by
  simp only [routeIssue, apply_ite Prod.fst, ite_self]
  split <;> omega

theorem partOf_cellNo (k : CellId) : partOf (cellNo k) = k.p.val := by
  simp only [partOf, cellNo]
  omega

/-- A letter's route changes its own account and FAB_DET_PACED_CNT alone. -/
theorem State.pace_frame (s : State) (t : Nat) (x : Option (Nat × Nat × RouteRun)) :
    ∃ R G, (s.pace t x).1 = { s with routes := R, regs := G } := by
  rcases x with _ | ⟨i, t', r⟩
  · exact ⟨_, _, rfl⟩
  · simp only [State.pace]
    split <;> exact ⟨_, _, rfl⟩

theorem State.pace_rd (s : State) (t : Nat) (x : Option (Nat × Nat × RouteRun)) {r : Nat} (h : r ≠ 0x200020) : (s.pace t x).1.rd r = s.rd r := by
  rcases x with _ | ⟨i, t', q⟩
  · rfl
  · simp only [State.pace]
    split
    · rw [State.rd_bump, if_neg h]
      rfl
    · rfl

theorem State.le_pace (s : State) (k : CellId) (x : LArgs) (n t : Nat) : t ≤ (s.pace t (s.issueOf k x n t)).2 := by
  unfold State.issueOf
  split
  · exact le_routeIssue ..
  · exact Nat.le_refl t

theorem State.issueOf_none {s : State} {k : CellId} {x : LArgs} (h : s.routeOf (partOf (cellNo k)) (.cell k) x.addr = none) (n t : Nat) :
    s.issueOf k x n t = none := by
  rw [State.issueOf, h]

/-! ### The letter that leaves (R80, R81) -/

/-- One letter has left the cell in the state t: the letter l, and what sending it changes. -/
def Sent (s : State) (k : CellId) (f : LFields) (x : LArgs) (op : LOp) (n : Nat) (want : Bool) (env : Option (BitVec 16)) (t : State) (l : Letter) :
    Prop :=
  let c := s.cell (cellNo k)
  let T := max c.next s.now + stall s k (letterReads f want) none
  t = { s with net := s.net ++ [l], cells := t.cells, clusters := t.clusters, routes := t.routes, envs := t.envs, regs := t.regs } ∧
  l.op = op ∧ l.len = x.len ∧ l.env = env ∧
  l.hdr = { sender := .cell k, addr := BitVec.ofNat 48 x.addr, tag := f.tag
            reply := if want then .cell k (BitVec.ofNat 11 x.loff) (BitVec.ofNat 11 x.coff) else .none } ∧
  l.data = (List.range n).map (fun j => s.rdByte (byteAddress k (x.loff + j))) ∧
  (env = none → t.envs = s.envs) ∧
  (∀ h e, env = some h → s.handleEnv h.toNat = some e →
    t.envs = s.envs.put (64 * (h.toNat / 2 ^ 11 % 32) + h.toNat / 2 ^ 5 % 64)
      { e with members := e.members.map fun m => if m.cell = cellNo k ∧ m.active = true then { m with sent := m.sent + 1 } else m } {}) ∧
  T ≤ l.issued ∧ (s.routeOf k.p.val (.cell k) x.addr = none → l.issued = T ∧ t.regs = s.regs ∧ t.routes = s.routes) ∧
  (∀ r, r ≠ 0x200020 → t.rd r = s.rd r) ∧
  t.cell (cellNo k) = { c with
    pc := c.pc + 1, charged := c.charged + (stall s k (letterReads f want) none + 1), next := l.issued + 1, lastLoad := none
    outst := c.outst + if want then 1 else 0 } ∧
  (∀ m, m ≠ cellNo k → t.cell m = s.cell m) ∧
  (t.cl (clusterOf (cellNo k))).sent = min (2 ^ 32 - 1) ((s.cl (clusterOf (cellNo k))).sent + 1)

theorem State.rdMem_eq_map (s : State) (a n : Nat) : s.rdMem a n = (List.range n).map fun j => s.rdByte (a + j) :=
  List.ext_getElem (by simp) fun i h _ => by simp [State.rdMem_getElem _ _ _ _ h]

theorem hPart_eq (h : Nat) : hPart h = h / 2 ^ 11 % 32 := rfl
theorem hSlot_eq (h : Nat) : hSlot h = h / 2 ^ 5 % 64 := rfl

@[simp] theorem State.send_envs (s : State) (l : Letter) : (s.send l).envs = s.envs := rfl
@[simp] theorem State.send_routes (s : State) (l : Letter) : (s.send l).routes = s.routes := rfl
@[simp] theorem State.send_regs (s : State) (l : Letter) : (s.send l).regs = s.regs := rfl
@[simp] theorem State.send_rd (s : State) (l : Letter) (r : Nat) : (s.send l).rd r = s.rd r := rfl
@[simp] theorem State.send_cell (s : State) (l : Letter) (n : Nat) : (s.send l).cell n = s.cell n := rfl
@[simp] theorem State.send_cl (s : State) (l : Letter) (n : Nat) : (s.send l).cl n = s.cl n := rfl

/-- The letter leaves in the issue state, with the envelopes E. -/
theorem State.leave_sent {s : State} {k : CellId} {f : LFields} {op : LOp} {env : Option (BitVec 16)} (E : Tab Env) (hlast : notLast s k)
    (hnone : env = none → E = s.envs)
    (hsome : ∀ h e, env = some h → s.handleEnv h.toNat = some e → E = (s.envs.put (64 * hPart h.toNat + hSlot h.toNat)
      { e with members := updMember (cellNo k) (fun m => { m with sent := m.sent + 1 }) e.members } {})) :
    ∃ l, Sent s k f (lArgs (s.cell (cellNo k)).work f) op (localBytes op (lArgs (s.cell (cellNo k)).work f).len) (LOp.wants op f) env
      (({ s.issued (cellNo k) with envs := E }.leave k f op env (s.issueCycle k (letterReads f (LOp.wants op f)))).finish (s.issued (cellNo k))
        (cellNo k) (s.issueCycle k (letterReads f (LOp.wants op f))) (stall s k (letterReads f (LOp.wants op f)) none + 1) 1) l := by
  generalize hu : { s.issued (cellNo k) with envs := E } = u
  have hcell : u.cell (cellNo k) = { s.cell (cellNo k) with lastLoad := none } := by rw [← hu]; exact State.cell_setCell_self ..
  generalize hT : s.issueCycle k (letterReads f (LOp.wants op f)) = T
  unfold State.leave
  simp only [hcell, Eff.finish]
  generalize hx : lArgs (s.cell (cellNo k)).work f = x
  generalize hi : u.issueOf k x (localBytes op x.len) T = i
  have hle : T ≤ (u.pace T i).2 := hi ▸ u.le_pace k x _ T
  have hrd (r : Nat) (hr : r ≠ 0x200020) := u.pace_rd T i hr
  have hplain (h : s.routeOf k.p.val (.cell k) x.addr = none) : u.pace T i = (u, T) := by
    have hroute : u.routeOf (partOf (cellNo k)) (.cell k) x.addr = none := by rw [← hu, partOf_cellNo]; exact h
    rw [← hi, State.issueOf_none hroute]
    rfl
  obtain ⟨R, G, hframe⟩ := u.pace_frame T i
  have hdata : (u.letterOf k f op env i.isSome (u.pace T i).2).data =
      (List.range (localBytes op x.len)).map fun j => s.rdByte (byteAddress k (x.loff + j)) := by
    have hmem : u.mem = s.mem := by rw [← hu]; rfl
    simp only [State.letterOf, hcell, hx, cellAddr_eq, byteAddress_add, ← State.rdMem_eq_map, State.rdMem_congr hmem]
  have hletter : (u.letterOf k f op env i.isSome (u.pace T i).2).len = x.len ∧
      (u.letterOf k f op env i.isSome (u.pace T i).2).hdr = { sender := .cell k, addr := BitVec.ofNat 48 x.addr, tag := f.tag
                                                              reply := if LOp.wants op f then .cell k (BitVec.ofNat 11 x.loff) (BitVec.ofNat 11 x.coff)
                                                                else .none } := by
    simp only [State.letterOf, hcell, hx, and_self]
  have hissued : (u.letterOf k f op env i.isSome (u.pace T i).2).issued = (u.pace T i).2 := rfl
  have hop : (u.letterOf k f op env i.isSome (u.pace T i).2).op = op ∧ (u.letterOf k f op env i.isSome (u.pace T i).2).env = env := ⟨rfl, rfl⟩
  generalize u.letterOf k f op env i.isSome (u.pace T i).2 = l at *
  generalize u.pace T i = r at *
  obtain ⟨v, T'⟩ := r
  simp only at hframe hrd hplain hle hissued ⊢
  have hvcell (m : Nat) : v.cell m = if m = cellNo k then { s.cell (cellNo k) with lastLoad := none } else s.cell m := by
    rw [hframe, ← hu]
    exact State.cell_setCell ..
  have hucl (m : Nat) : u.cl m = s.cl m := by rw [← hu]; rfl
  have henvs : v.envs = E := by rw [hframe, ← hu]
  refine ⟨l, ?_⟩
  rw [State.retire_eq _ _ _ _ _ _ (.inl (by simpa using hlast))]
  refine ⟨?_, hop.1, hletter.1, hop.2, hletter.2, hdata, ?_, ?_, ?_, ?_, ?_, ?_, ?_, ?_⟩
  · rw [hframe, ← hu]
    simp only [State.setCl, State.setCell, State.send, State.issued]
  · simpa only [State.setCl_envs, State.setCell_envs, State.send_envs, henvs] using hnone
  · simpa only [State.setCl_envs, State.setCell_envs, State.send_envs, henvs, updMember, hPart_eq, hSlot_eq, Bool.and_eq_true,
      decide_eq_true_eq] using hsome
  · rw [hissued]
    exact Nat.le_trans (Nat.le_of_eq hT) hle
  · intro h
    obtain ⟨hv, hT'⟩ := Prod.mk.inj (hplain h)
    simp only [State.setCl_routes, State.setCl_regs, State.setCell_routes, State.setCell_regs, State.send_routes, State.send_regs, hv, hissued, hT', ← hT]
    refine ⟨trivial, ?_, ?_⟩ <;> (rw [← hu]; rfl)
  · intro r hr
    simp only [State.setCl_rd, State.setCell_rd, State.send_rd, hrd r hr]
    rw [← hu]; rfl
  · simp [hissued, Bits.ofBool]
  · intro m hm
    simp [State.cell_setCell, hm, hvcell]
  · simp [hucl, satAdd]

section letterOp

variable {s : State} {k : CellId} {f : LFields} {op : LOp} {x : LArgs}

/-- A well-formed letter in no envelope leaves, with 16 replies outstanding only where it wants none. -/
theorem State.letterOp_sent (hx : lArgs (s.cell (cellNo k)).work f = x) (hlast : notLast s k)
    (hrun : mayRun s k (letterReads f (LOp.wants op f)) none 1) (henv : f.env = false) (hgood : lBad op x (LOp.wants op f) = false)
    (hout : LOp.wants op f = true → (s.cell (cellNo k)).outst < 16) :
    ∃ l, Sent s k f x op (localBytes op x.len) (LOp.wants op f) none (s.letterOp k f op) l := by
  subst hx
  rw [State.letterOp_leaves hrun ⟨fun h => absurd (h.symm.trans henv) nofun, hgood⟩ henv hout]
  exact State.leave_sent s.envs hlast (fun _ => rfl) nofun

/-- A well-formed letter that wants no reply leaves in an open or sealed envelope. -/
theorem State.letterOp_sent_member (hx : lArgs (s.cell (cellNo k)).work f = x) (hlast : notLast s k)
    (hrun : mayRun s k (letterReads f (LOp.wants op f)) none 1) (henv : f.env = true) (hwant : LOp.wants op f = false)
    (hgood : lBad op x (LOp.wants op f) = false) {i : BitVec 16} {e : Env} (hctx : (s.cell (cellNo k)).ctx = .member i)
    (he : s.handleEnv i.toNat = some e) (hst : e.st = .open ∨ e.st = .sealed) :
    ∃ l, Sent s k f x op (localBytes op x.len) (LOp.wants op f) (some i) (s.letterOp k f op) l := by
  subst hx
  rw [State.letterOp_member hrun ⟨fun _ => ⟨by rw [hctx]; nofun, hwant⟩, hgood⟩ henv hctx he hst]
  refine State.leave_sent _ hlast nofun fun h e' hh he' => ?_
  cases hh
  cases he.symm.trans he'
  rfl

end letterOp

end Sys2Proof.Machine

open Sys2Proof Sys2Proof.Machine Sys2Proof.Safety Sys2Proof.Bits in
/-- Settles O17: a well-formed instruction that need not wait leaves with the letter of its operands (`Sent`). -/
theorem lettersFromCells : Obligations.LettersFromCells := by
  intro s k f hlast c w ra addr loff len coff reads sends ordinary atomic answers
  have hx : lArgs w f = { addr := addr, loff := loff, len := len, coff := coff } := lArgs_eq w f
  have plain (op : LOp) (henv : f.env = false) (hrun : mayRun s k (letterReads f (LOp.wants op f)) none 1)
      (hgood : lBad op _ (LOp.wants op f) ≠ true) (hout : LOp.wants op f = true → c.outst < 16) :=
    State.letterOp_sent hx hlast hrun henv (Bool.eq_false_iff.2 hgood) hout
  have one {op : LOp} (hop : LOp.atomic op = false) (want : Bool) (ho : ordinary) (ha : want = true → answers) :
      lBad op { addr := addr, loff := loff, len := len, coff := coff } want ≠ true := by
    rw [ne_eq, lBad_ordinary hop]
    rintro (h | ⟨hw, h⟩)
    · obtain ⟨h1, h2, h3, h4⟩ := ho
      simp only [LArgs.misfits] at h
      omega
    · exact h (ha hw).1
  have two {op : LOp} (hop : LOp.atomic op = true) (ho : atomic (localBytes op len)) (ha : answers) :
      lBad op { addr := addr, loff := loff, len := len, coff := coff } true ≠ true := by
    rw [ne_eq, lBad_atomic hop]
    rintro (h | ⟨hw, h⟩)
    · obtain ⟨h1, h2, h3, h4⟩ := ho
      simp only [LArgs.misfitsAtomic] at h
      omega
    · exact h ha.1
  refine ⟨fun henv hrun ho ha => ⟨_, rfl, plain .put henv hrun (one rfl _ ho ha) fun h => (ha h).2⟩,
    fun henv hrun => ⟨fun ho ha => ⟨_, rfl, plain .get henv hrun (one rfl _ ho fun _ => ha) fun _ => ha.2⟩, fun ho ha => ?_, fun ho ha => ?_⟩,
    fun h e henv hrep hrun ho hctx he hst => ⟨_, rfl, ?_⟩⟩
  · exact ⟨⟨_, rfl, plain .add henv hrun (two rfl ho ha) fun _ => ha.2⟩, ⟨_, rfl, plain .swap henv hrun (two rfl ho ha) fun _ => ha.2⟩,
      ⟨_, rfl, plain .max henv hrun (two rfl ho ha) fun _ => ha.2⟩, ⟨_, rfl, plain .min henv hrun (two rfl ho ha) fun _ => ha.2⟩⟩
  · exact ⟨_, rfl, plain .cas henv hrun (two rfl ho ha) fun _ => ha.2⟩
  · have hw : LOp.wants .put f = false := hrep
    have h := State.letterOp_sent_member (op := .put) hx hlast (by rwa [hw]) henv hw
      (by rw [hw]; exact Bool.eq_false_iff.2 (one rfl false ho nofun)) hctx he hst
    rwa [hw] at h

namespace Sys2Proof.Machine

open Sys2Proof.Bits Sys2Proof.Safety

/-! ### A cell that faults in an envelope (R85, R103) -/

/-- No letter has been sent, and no cell has started or stopped. -/
structure Unsent (s t : State) : Prop where
  net : t.net = s.net
  run : ∀ n, (t.cell n).run = (s.cell n).run

namespace Unsent

variable {s t u : State}

theorem refl (s : State) : Unsent s s := ⟨rfl, fun _ => rfl⟩

theorem trans (h : Unsent s t) (h' : Unsent t u) : Unsent s u := ⟨h'.net.trans h.net, fun n => (h'.run n).trans (h.run n)⟩

/-- Other parts of the state change. -/
theorem frame {regs mem kept clusters envs evl} (h : Unsent s t) :
    Unsent s { t with regs := regs, mem := mem, kept := kept, clusters := clusters, envs := envs, evl := evl } :=
  h.trans ⟨rfl, fun _ => rfl⟩

theorem wr {o : Nat} {w : Word} (h : Unsent s t) : Unsent s (t.wr o w) := h.trans ⟨rfl, fun _ => rfl⟩

theorem setF {F : Fld} {v : Nat} (h : Unsent s t) : Unsent s (t.setF F v) := h.wr

theorem bump {o : Nat} (h : Unsent s t) : Unsent s (t.bump o) := h.wr

theorem ev {code p0 p1 o p : Nat} (h : Unsent s t) : Unsent s (t.ev code p0 p1 o p) := by
  rw [t.ev_frame]
  exact h.frame

theorem setCell {n : Nat} {c : Cell} (h : Unsent s t) (hc : c.run = (t.cell n).run := by rfl) : Unsent s (t.setCell n c) :=
  h.trans ⟨rfl, fun m => by
    rw [State.cell_setCell]
    split
    · next e => rw [hc, e]
    · rfl⟩

theorem ite {c : Prop} {_ : Decidable c} (ht : Unsent s t) (hu : Unsent s u) : Unsent s (if c then t else u) := by
  split
  · exact ht
  · exact hu

theorem startWake {c : Nat} (h : Unsent s t) : Unsent s (t.startWake c) := by
  unfold State.startWake
  split
  · exact (h.setF.frame).setF
  · exact h

theorem land {n off : Nat} {d : Bytes} (h : Unsent s t) : Unsent s (t.land n off d) := h.frame.setCell

theorem enqueue {c : Nat} {l : Letter} {ecc : Ecc} {hit : Bool} (h : Unsent s t) : Unsent s (t.enqueue c l ecc hit) :=
  ite h.frame.startWake h.frame

theorem replyPart {n off : Nat} {d : Bytes} (h : Unsent s t) : Unsent s (t.replyPart n off d) := ite h (ite h.land h.enqueue)

theorem outcome {e : Env} {hd status : Nat} (h : Unsent s t) : Unsent s (t.outcome e hd status) :=
  List.foldlRecOn e.members _ h fun _ h _ _ => h.replyPart

theorem abortNote {p hd status x : Nat} {e : Env} (h : Unsent s t) : Unsent s (t.abortNote p hd status e x) :=
  ite h.bump.ev (ite h.bump.ev (ite h.bump.ev (ite h.bump h.bump.ev)))

theorem putEnv {p sl : Nat} {e : Env} (h : Unsent s t) : Unsent s (t.putEnv p sl e) := h.frame.setF.setF.setF

theorem abortEnv {p sl status x : Nat} (h : Unsent s t) : Unsent s (t.abortEnv p sl status x) := ite h.abortNote.wr.wr.outcome.putEnv h

theorem endMember {n hd : Nat} (h : Unsent s t) : Unsent s (t.endMember n hd) := by
  unfold State.endMember
  split
  · exact h.putEnv
  · exact h

theorem dropContext {n : Nat} (h : Unsent s t) : Unsent s (t.dropContext n) := by
  unfold State.dropContext
  dsimp only
  split
  · exact h
  · exact h.setCell
  · exact h.abortEnv.endMember.setCell

end Unsent

/-- A cell that faults with LETTER_FORM stops and sends nothing, and the event of its letter is queued. -/
theorem State.cellFault_form (s : State) (n x idx : Nat) : ((s.cellFault n 4 x idx).cell n).run = 3 ∧ (s.cellFault n 4 x idx).net = s.net ∧
    raises s (s.cellFault n 4 x idx) 0x106 (cellParam n) x idx s.beatLo := by
  unfold State.cellFault
  extract_lets c p s1 s2 s3
  have hnet : s1.net = s.net := State.raise_keeps State.net (fun _ _ _ => rfl) ..
  have hraise : raises s s1 0x106 (cellParam n) x idx s.beatLo := State.raises_raise _ _ _ _ _ _ _ _
  clear_value s1
  have hdrop : Unsent (s1.setCell n { c with run := 3 }) s2 := (Unsent.refl _).dropContext
  have hgrow : s1.queueGrows s2 := (Spares.refl (s1.setCell n { c with run := 3 })).dropContext.queue
  clear_value s2
  refine ⟨?_, ?_, raises_grows hraise (hgrow.trans (State.queue_nameFault s3 ..))⟩
  · rw [State.nameFault_keeps (fun t => (t.cell n).run) (fun _ _ _ _ _ => rfl)]
    exact (hdrop.run n).trans (congrArg Cell.run (State.cell_setCell_self ..))
  · rw [State.nameFault_keeps State.net (fun _ _ _ _ _ => rfl)]
    exact hdrop.net.trans hnet

/-! ### An instruction that reads less may run too -/

theorem stall_mono {s : State} {k : CellId} {r r' : List (BitVec 4)} (h : r ⊆ r') : stall s k r none ≤ stall s k r' none := by
  simp only [stall]
  refine max_le_max ?_ (Nat.le_refl _)
  split
  · next d _ =>
    by_cases hd : d ≠ 0 ∧ d ∈ r
    · rw [if_pos hd, if_pos ⟨hd.1, h hd.2⟩]
    · rw [if_neg hd]
      exact Nat.zero_le _
  · exact Nat.le_refl _

theorem letterReads_subset (f : LFields) (want : Bool) : letterReads f want ⊆ letterReads f true := by
  cases want <;> simp [letterReads]

theorem mayRun_letterReads {s : State} {k : CellId} {f : LFields} (want : Bool) (h : mayRun s k (letterReads f true) none 1) :
    mayRun s k (letterReads f want) none 1 :=
  ⟨h.1, Nat.le_trans (Nat.add_le_add_left (Nat.add_le_add_right (stall_mono (letterReads_subset f want)) 1) _) h.2⟩

/-! ### Letters that break a rule of form -/

theorem LOp.wants_of_ne {op : LOp} (f : LFields) (h : op ≠ .put) : LOp.wants op f = true := by simp [h]

section letterOp

variable {s : State} {k : CellId} {f : LFields} {op : LOp} {x : LArgs}

theorem State.letterOp_stops (hx : lArgs (s.cell (cellNo k)).work f = x) (hrun : mayRun s k (letterReads f true) none 1) (henv : f.env = false)
    (hctx : (s.cell (cellNo k)).ctx = .none) (hbad : lBad op x (LOp.wants op f) = true) :
    cellStops s (s.letterOp k f op) k 0x106 (LOp.code op + 16 * x.len) := by
  subst hx
  rw [State.letterOp_form (mayRun_letterReads _ hrun) (fun h => absurd (h.symm.trans henv) nofun) (.inl hbad)]
  exact State.cellStops_cellFault s k 4 _ hctx

theorem State.letterOp_stops_context (hrun : mayRun s k (letterReads f true) none 1) (henv : f.env = true)
    (hctx : (s.cell (cellNo k)).ctx = .none) : cellStops s (s.letterOp k f op) k 0x107 6 := by
  rw [State.letterOp_sequence (mayRun_letterReads _ hrun) henv hctx]
  exact State.cellStops_cellFault s k envSequence envSequence hctx

theorem State.letterOp_stops_member (hx : lArgs (s.cell (cellNo k)).work f = x) (hrun : mayRun s k (letterReads f true) none 1)
    (henv : f.env = true) (hctx : (s.cell (cellNo k)).ctx ≠ .none) (hwant : LOp.wants op f = true) :
    ((s.letterOp k f op).cell (cellNo k)).run = 3 ∧ (s.letterOp k f op).net = s.net ∧
      raises s (s.letterOp k f op) 0x106 (k.p.val + 256 * k.c.val + 65536 * k.k.val) (LOp.code op + 16 * x.len)
        (s.cell (cellNo k)).pc.toNat (s.beat.toNat % 2 ^ 32) := by
  subst hx
  rw [State.letterOp_form (mayRun_letterReads _ hrun) (fun _ => hctx) (.inr ⟨henv, hwant⟩), ← cellParam_cellNo]
  exact State.cellFault_form (s.issued (cellNo k)) ..

/-- A letter that is dropped is an instruction with no effect. -/
theorem State.letterOp_idle (hlast : notLast s k) (hrun : mayRun s k (letterReads f (LOp.wants op f)) none 1) (h : s.forms k f op)
    (henv : f.env = true)
    (hgone : ∀ i, (s.cell (cellNo k)).ctx = .member i → ∀ e ∈ s.handleEnv i.toNat, e.st ≠ .open ∧ e.st ≠ .sealed) :
    cellAfter s (s.letterOp k f op) k (letterReads f (LOp.wants op f)) none 1 (s.cell (cellNo k)).work ((s.cell (cellNo k)).pc + 1) ∧
      onlyCell s (s.letterOp k f op) k ∧ counted s (s.letterOp k f op) k := by
  rw [State.letterOp_dropped hrun h henv hgone, State.issued, State.retire_eq _ _ _ _ _ _ (.inl (by simpa using hlast))]
  refine ⟨by simp [cellAfter], ⟨?_, ?_, ?_⟩, by simp [counted]⟩
  · simp only [State.setCl, State.setCell]
  · intro m hm; simp [State.cell_setCell, hm]
  · intro j hj; simp [State.cl_setCl, hj]

end letterOp

end Sys2Proof.Machine

open Sys2Proof Sys2Proof.Machine Sys2Proof.Safety Sys2Proof.Bits in
/-- Settles O18: a letter that breaks a rule of form faults its cell, and a dropped one is an instruction with no effect. -/
theorem lettersNotSent : Obligations.LettersNotSent := by
  intro s k f hlast c w ra addr loff len reads bad hrun
  have hx : lArgs w f = { addr := addr, loff := loff, len := len, coff := (w.reg f.c).toNat % 2 ^ 11 } := lArgs_eq w f
  have good (hfits : 1 ≤ len ∧ len ≤ 64 ∧ addr % 64 + len ≤ 64 ∧ loff + len ≤ 2048) (op : LOp) (hop : LOp.atomic op = false)
      (hw : LOp.wants op f = true → (w.reg f.c).toNat % 2 ^ 11 % 4 = 0) : lBad op (lArgs w f) (LOp.wants op f) = false := by
    rw [hx, Bool.eq_false_iff, ne_eq, lBad_ordinary hop]
    rintro (h | ⟨h, h'⟩)
    · simp only [LArgs.misfits] at h
      omega
    · exact h' (hw h)
  refine ⟨fun henv hctx => ?_, fun henv hctx i hi => ?_, fun henv hctx => ?_, fun henv hrep hfits => ?_, fun henv hout hfits hc => ?_⟩
  · have stops (op : LOp) (h : lBad op _ (LOp.wants op f) = true) := State.letterOp_stops hx hrun henv hctx h
    have one {op : LOp} (hop : LOp.atomic op = false) (h : len = 0 ∨ 64 < len ∨ 64 < addr % 64 + len ∨ 2048 < loff + len) :=
      stops op ((lBad_ordinary hop _ _).2 (.inl h))
    have two {op : LOp} (hop : LOp.atomic op = true)
        (h : (len ≠ 4 ∧ len ≠ 8) ∨ loff % len ≠ 0 ∨ addr % len ≠ 0 ∨ 2048 < loff + localBytes op len) :=
      stops op ((lBad_atomic hop _ _).2 (.inl h))
    have word (hc : (w.reg f.c).toNat % 2 ^ 11 % 4 ≠ 0) (op : LOp) (hop : LOp.wants op f = true) : cellStops s (s.letterOp k f op) k 0x106 _ :=
      stops op <| by
        cases ha : LOp.atomic op with
        | false => exact (lBad_ordinary ha _ _).2 (.inr ⟨hop, hc⟩)
        | true => exact (lBad_atomic ha _ _).2 (.inr ⟨hop, hc⟩)
    refine ⟨fun h => ⟨⟨_, rfl, one rfl h⟩, _, rfl, one rfl h⟩, fun h => ?_, fun h => ⟨_, rfl, two rfl (.inr (.inr (.inr h)))⟩, fun hc => ?_⟩
    · have hcas : (len ≠ 4 ∧ len ≠ 8) ∨ loff % len ≠ 0 ∨ addr % len ≠ 0 ∨ 2048 < loff + 2 * len := by omega
      exact ⟨⟨_, rfl, two rfl h⟩, ⟨_, rfl, two rfl h⟩, ⟨_, rfl, two rfl hcas⟩, ⟨_, rfl, two rfl h⟩, _, rfl, two rfl h⟩
    · have answered (op : LOp) (h : op ≠ .put) := word hc op (LOp.wants_of_ne f h)
      exact ⟨fun hrep => ⟨_, rfl, word hc .put hrep⟩, ⟨_, rfl, answered .get nofun⟩, ⟨_, rfl, answered .add nofun⟩,
        ⟨_, rfl, answered .swap nofun⟩, ⟨_, rfl, answered .cas nofun⟩, ⟨_, rfl, answered .max nofun⟩, _, rfl, answered .min nofun⟩
  · have stops (op : LOp) := State.letterOp_stops_context (op := op) hrun henv hctx
    simp only [List.mem_cons, List.not_mem_nil, or_false] at hi
    rcases hi with rfl | rfl | rfl | rfl | rfl | rfl | rfl
    · exact ⟨_, rfl, stops .put⟩
    · exact ⟨_, rfl, stops .get⟩
    · exact ⟨_, rfl, stops .add⟩
    · exact ⟨_, rfl, stops .swap⟩
    · exact ⟨_, rfl, stops .cas⟩
    · exact ⟨_, rfl, stops .max⟩
    · exact ⟨_, rfl, stops .min⟩
  · have stops (op : LOp) (h : LOp.wants op f = true) := State.letterOp_stops_member hx hrun henv hctx h
    have answered (op : LOp) (h : op ≠ .put) := stops op (LOp.wants_of_ne f h)
    exact ⟨fun hrep => ⟨_, rfl, stops .put hrep⟩, ⟨_, rfl, answered .get nofun⟩, ⟨_, rfl, answered .add nofun⟩,
      ⟨_, rfl, answered .swap nofun⟩, ⟨_, rfl, answered .cas nofun⟩, ⟨_, rfl, answered .max nofun⟩, _, rfl, answered .min nofun⟩
  · have hwant : LOp.wants .put f = false := hrep
    have idle (hctx : c.ctx ≠ .none) (hgone : ∀ i, c.ctx = .member i → ∀ e ∈ s.handleEnv i.toNat, e.st ≠ .open ∧ e.st ≠ .sealed) :
        setsWork (.lput k f) s k (reads false) none 1 w := by
      have h := State.letterOp_idle (op := .put) hlast (mayRun_letterReads _ hrun)
        ⟨fun _ => ⟨hctx, hwant⟩, good hfits .put rfl fun h => absurd (hwant.symm.trans h) nofun⟩ henv hgone
      rw [hwant] at h
      exact ⟨_, rfl, h⟩
    exact ⟨fun st hctx => idle (by rw [hctx]; nofun) fun i h => absurd (hctx.symm.trans h) nofun,
      fun i hctx hgone => idle (by rw [hctx]; nofun) fun i' h => by cases hctx.symm.trans h; exact hgone⟩
  · exact ⟨_, rfl, State.letterOp_waits (op := .get) hrun ⟨fun h => absurd (h.symm.trans henv) nofun, good hfits .get rfl fun _ => hc⟩ rfl hout⟩

namespace Sys2Proof.Machine

open Sys2Proof.Bits Sys2Proof.Safety

/-! ### Bytes that land in a cell (R50, R67) -/

theorem get_keptWrite_outside (m : Tab Byte) (a : Nat) (d : Bytes) (x : Nat) (h : x < a ∨ a + d.length ≤ x) :
    (keptWrite m a d).get x 0 = m.get x 0 := by
  induction d generalizing m a with
  | nil => rfl
  | cons b r ih =>
    rw [List.length_cons] at h
    rw [keptWrite, ih _ _ (by omega), Tab.get_put_ne _ _ _ _ (by omega)]

theorem get_keptWrite_inside (m : Tab Byte) (a : Nat) (d : Bytes) (i : Nat) (h : i < d.length) : (keptWrite m a d).get (a + i) 0 = d[i] := by
  induction d generalizing m a i with
  | nil => exact absurd h (Nat.not_lt_zero _)
  | cons b r ih =>
    cases i with
    | zero =>
      rw [Nat.add_zero, keptWrite, get_keptWrite_outside _ _ _ a (.inl (by omega)), Tab.get_put_self]
      rfl
    | succ i =>
      have hi := ih (m.put a b 0) (a + 1) i (Nat.lt_of_succ_lt_succ h)
      rwa [Nat.add_assoc, Nat.add_comm 1 i] at hi

theorem cellAddr_add (n off i : Nat) : cellAddr n (off + i) = cellAddr n off + i := (Nat.add_assoc ..).symm

/-- The bytes d have reached cell n at offset off: they stand in its memory, and in KEPT where they lie in the state window, and the cell's
slots may have counted them. -/
structure Arrived (s t : State) (n off : Nat) (d : Bytes) : Prop where
  frame : t = { s with mem := t.mem, kept := t.kept, cells := t.cells }
  cell : ∃ slots, t.cell n = { s.cell n with slots := slots }
  others : ∀ m, m ≠ n → t.cell m = s.cell m
  mem : ∀ (i : Nat) (h : i < d.length), t.rdByte (cellAddr n (off + i)) = d[i]
  mem_outside : ∀ x, (x < cellAddr n off ∨ cellAddr n off + d.length ≤ x) → t.rdByte x = s.rdByte x
  kept : ∀ (i : Nat) (h : i < d.length), off + i < 256 → t.kept.get (cellAddr n (off + i)) 0 = d[i]
  kept_outside : ∀ x, (x < cellAddr n off ∨ cellAddr n off + d.length ≤ x) → t.kept.get x 0 = s.kept.get x 0

theorem Arrived.nil (s : State) (n off : Nat) : Arrived s s n off [] where
  frame := rfl
  cell := ⟨_, rfl⟩
  others _ _ := rfl
  mem _ h := absurd h (Nat.not_lt_zero _)
  mem_outside _ _ := rfl
  kept _ h := absurd h (Nat.not_lt_zero _)
  kept_outside _ _ := rfl

theorem State.land_arrived (s : State) (n off : Nat) (d : Bytes) : Arrived s (s.land n off d) n off d where
  frame := by simp only [State.land, State.wrData, State.setCell, State.wrMem]
  cell := ⟨_, State.cell_setCell_self ..⟩
  others m hm := (State.cell_setCell ..).trans (if_neg hm)
  mem i h := by
    rw [cellAddr_add]
    exact s.rdByte_wrMem_inside (cellAddr n off) d i h
  mem_outside x h := s.rdByte_wrMem_outside (cellAddr n off) d x h
  kept i h h' := by
    have hlen : i < (d.take (256 - off)).length := by rw [List.length_take]; omega
    rw [cellAddr_add]
    exact (get_keptWrite_inside s.kept (cellAddr n off) _ i hlen).trans List.getElem_take
  kept_outside x h := get_keptWrite_outside s.kept (cellAddr n off) _ x (by rw [List.length_take]; omega)

/-- A reply reaches the cell's memory where its cluster runs, its partition is not held, no context restarts under it and it is alive. -/
def State.takesReply (s : State) (n : Nat) : Prop :=
  s.held (partOf n) = false ∧ s.underContext n = false ∧ s.deadCells.contains n = false ∧ s.cstate (clusterOf n) = 2

theorem State.replyPart_land {s : State} {n : Nat} (h : s.takesReply n) (off : Nat) (d : Bytes) : s.replyPart n off d = s.land n off d := by
  obtain ⟨hheld, hunder, hdead, hruns⟩ := h
  have hruns' : ¬ s.cstate (clusterOf n) = 3 := by omega
  unfold State.replyPart
  rw [hheld, hunder, hdead, decide_eq_false hruns', if_neg (by decide), if_pos hruns]

theorem Arrived.takesReply {s t : State} {n off : Nat} {d : Bytes} (h : Arrived s t n off d) (hs : s.takesReply n) : t.takesReply n := by
  obtain ⟨slots, hc⟩ := h.cell
  have hunder : t.underContext n = s.underContext n := by
    unfold State.underContext
    rw [hc, h.frame]
  obtain ⟨hheld, hunder', hdead, hruns⟩ := hs
  refine ⟨?_, hunder.trans hunder', ?_, ?_⟩
  · rw [h.frame]; exact hheld
  · rw [h.frame]; exact hdead
  · rw [h.frame]; exact hruns

/-- The oldest reply leaves the list, and the cell counts one outstanding reply less. -/
def State.answered (s : State) (rest : List Reply) (n : Nat) : State :=
  State.setCell { s with replies := rest } n { s.cell n with outst := (s.cell n).outst - 1 }

theorem State.answered_cell (s : State) (rest : List Reply) (n m : Nat) :
    (s.answered rest n).cell m = if m = n then { s.cell n with outst := (s.cell n).outst - 1 } else s.cell m := State.cell_setCell ..

theorem State.answered_takesReply {s : State} {n : Nat} (h : s.takesReply n) (rest : List Reply) : (s.answered rest n).takesReply n := by
  obtain ⟨hheld, hunder, hdead, hruns⟩ := h
  refine ⟨hheld, ?_, hdead, hruns⟩
  rw [← hunder]
  simp only [State.underContext, State.answered_cell, if_true]
  rfl

/-- A reply to a cell arrives: its data, then the completion word. -/
theorem execReplyArrival_cell {s : State} {r : Reply} {rest : List Reply} {k : CellId} {dOff sOff : BitVec 11} (hs : s.replies = r :: rest)
    (hr : r.dest = .cell k dOff sOff) (h : s.takesReply (cellNo k)) : ∃ v t, execReplyArrival s = .next t ∧
      Arrived (s.answered rest (cellNo k)) v (cellNo k) dOff.toNat r.data ∧ Arrived v t (cellNo k) sOff.toNat (toLe 4 (completionWord r)) := by
  have hu := State.answered_takesReply h rest
  have hexec : execReplyArrival s = .next ((if r.data = [] then s.answered rest (cellNo k)
      else (s.answered rest (cellNo k)).replyPart (cellNo k) dOff.toNat r.data).replyPart (cellNo k) sOff.toNat (toLe 4 (completionWord r))) := by
    unfold execReplyArrival
    simp only [hs, hr]
    rfl
  generalize s.answered rest (cellNo k) = u at *
  have hdata : Arrived u (if r.data = [] then u else u.replyPart (cellNo k) dOff.toNat r.data) (cellNo k) dOff.toNat r.data := by
    split
    · next h => rw [h]; exact .nil ..
    · rw [State.replyPart_land hu]; exact u.land_arrived ..
  refine ⟨_, _, hexec, hdata, ?_⟩
  rw [State.replyPart_land (hdata.takesReply hu)]
  exact State.land_arrived ..

theorem completionWord_bytes (r : Reply) {i : Nat} (h : i < 4) : (toLe 4 (completionWord r))[i]'(by rwa [toLe_length]) =
    BitVec.ofNat 8 ((r.status + 2 ^ 16 * LOp.code r.op + 2 ^ 20 * r.tag.toNat) / 2 ^ (8 * i)) := by
  have hb := byteAt_toLe 4 (completionWord r) i h
  rw [byteAt, List.getD_eq_getElem _ _ (by rwa [toLe_length])] at hb
  rw [hb, completionWord, Nat.pow_mul]
  norm_num

end Sys2Proof.Machine

open Sys2Proof Sys2Proof.Machine Sys2Proof.Safety Sys2Proof.Bits in
/-- Settles O22: the reply's data arrive, and then its completion word (`execReplyArrival_cell`). -/
theorem repliesArrive : Obligations.RepliesArrive := by
  intro s r rest k dOff sOff hs hr hruns hheld hdead hunder word
  obtain ⟨v, t, ht, hdata, hword⟩ := execReplyArrival_cell hs hr ⟨by rwa [partOf_cellNo], hunder, hdead, hruns⟩
  obtain ⟨slots, hv⟩ := hdata.cell
  obtain ⟨slots', htc⟩ := hword.cell
  rw [State.answered_cell, if_pos rfl] at hv
  rw [hv] at htc
  have hbyte (off : BitVec 11) (i : Nat) : byteAddress k (off.toNat + i) = cellAddr (cellNo k) (off.toNat + i) := (cellAddr_eq ..).symm
  have hbase (off : BitVec 11) : byteAddress k off.toNat = cellAddr (cellNo k) off.toNat := (cellAddr_eq ..).symm
  simp only [hbyte, hbase]
  have hlen : (toLe 4 (completionWord r)).length = 4 := toLe_length ..
  have hpast (i : Nat) (h : dOff.toNat + i < sOff.toNat ∨ sOff.toNat + 4 ≤ dOff.toNat + i) :
      cellAddr (cellNo k) (dOff.toNat + i) < cellAddr (cellNo k) sOff.toNat ∨
      cellAddr (cellNo k) sOff.toNat + (toLe 4 (completionWord r)).length ≤ cellAddr (cellNo k) (dOff.toNat + i) := by
    rw [hlen]
    unfold cellAddr
    omega
  refine ⟨t, ht, ?_, ?_, ?_, fun m hm => ?_, ?_, fun i hi => ?_, fun i hi h => ?_, fun i hi h => ?_, fun i hi hw h => ?_, fun x h h' => ?_⟩
  · rw [hword.frame, hdata.frame]; rfl
  · rw [htc]
  · rw [htc]
  · rw [hword.others m hm, hdata.others m hm, State.answered_cell, if_neg hm]
  · rw [hword.frame, hdata.frame]; rfl
  · rw [hword.mem i (by rwa [hlen]), completionWord_bytes r hi]
  · rw [hword.mem_outside _ (hpast i h), hdata.mem i hi]
  · rw [hword.kept i (by rwa [hlen]) h, completionWord_bytes r hi]
  · rw [hword.kept_outside _ (hpast i h), hdata.kept i hi hw]
  · rw [hword.mem_outside x (by rwa [hlen]), hdata.mem_outside x h']; rfl

namespace Sys2Proof.Machine

open Sys2Proof.Bits Sys2Proof.Safety

/-! ### The cell that an address names (Table 2-2) -/

theorem ctlTarget_ne_cell (p c o n off : Nat) : ctlTarget p c o ≠ .cell n off := by
  unfold ctlTarget
  repeat' split
  all_goals nofun

/-- The address of a byte of a cell is in the cells' space, and the cell's own address of the offset. -/
theorem target_cell {a n off : Nat} (h : target a = .cell n off) (ha : a < 2 ^ 48) :
    cellAddr n off = a ∧ a / 2 ^ 46 % 4 = 0 ∧ off = a % 2 ^ 27 := by
  unfold target at h
  split_ifs at h with h1 h2 h3 h4 h5 h6
  · simp only [Target.cell.injEq] at h
    obtain ⟨rfl, rfl⟩ := h
    simp only [cellAddr, partOf, clusterOf, indexOf, aPart, aCluster, aCell, aOff, aSpace] at *
    omega
  · exact (ctlTarget_ne_cell _ _ _ _ _ h).elim

/-! ### Wakes (R61, R62) -/

/-- The cluster's gate state is that of its register. -/
theorem State.cstate_congr {s t : State} {c : Nat} (h : t.rd (0x201000 + 4 * c) = s.rd (0x201000 + 4 * c)) : t.cstate c = s.cstate c :=
  congrArg (fun w => fld w 0 2) h

theorem State.cstate_setF {s : State} {c v : Nat} : (s.setF (Reg.FAB_CLUSTER_STATE_CSTATE c) v).cstate c = v % 4 :=
  State.f_setF_self _ _ _ (by decide : (0 : Nat) + 2 ≤ 32)

theorem State.cstate_setF_ne {s : State} {c d v : Nat} (h : d ≠ c) : (s.setF (Reg.FAB_CLUSTER_STATE_CSTATE c) v).cstate d = s.cstate d :=
  State.cstate_congr ((State.rd_setF ..).trans (if_neg (by show 0x201000 + 4 * d ≠ 0x201000 + 4 * c; omega)))

section startWake

variable (s : State) (c : Nat)

/-- A wake touches the cluster and its register alone. -/
theorem State.startWake_frame : ∃ R C, s.startWake c = { s with regs := R, clusters := C } := by
  unfold State.startWake
  split
  · obtain ⟨R, h⟩ := s.setF_frame (Reg.FAB_CLUSTER_STATE_WAKE_COUNT c) (satAdd 16 (s.f (Reg.FAB_CLUSTER_STATE_WAKE_COUNT c)) 1)
    rw [h]
    exact ⟨_, _, rfl⟩
  · exact ⟨_, _, rfl⟩

theorem State.startWake_rd {r : Nat} (h : r ≠ 0x201000 + 4 * c) : (s.startWake c).rd r = s.rd r := by
  unfold State.startWake
  split
  · exact (State.rd_setF ..).trans ((if_neg h).trans ((State.setCl_rd ..).trans ((State.rd_setF ..).trans (if_neg h))))
  · rfl

theorem State.startWake_mstate : (s.startWake c).mstate = s.mstate :=
  congrArg (fun w => fld w 0 4) (s.startWake_rd c (r := 0x100) (by omega))

theorem State.startWake_cstate_ne {d : Nat} (h : d ≠ c) : (s.startWake c).cstate d = s.cstate d :=
  State.cstate_congr (s.startWake_rd c (by omega))

variable {s c}

/-- A GATED cluster starts to wake, and counts it. -/
theorem State.startWake_gated (hc : c < 640) (hg : s.cstate c = 0) (hm : s.mstate ≠ 6) :
    (s.startWake c).cstate c = 1 ∧
    (s.startWake c).f (Reg.FAB_CLUSTER_STATE_WAKE_COUNT c) = min 65535 (s.f (Reg.FAB_CLUSTER_STATE_WAKE_COUNT c) + 1) ∧
    (s.startWake c).cl c = { s.cl c with wakes := min (2 ^ 32 - 1) ((s.cl c).wakes + 1), gatedUs := s.gatedUs c, wakeAt := s.now } := by
  rw [show s.startWake c = _ from if_pos ⟨hc, hg, hm⟩]
  refine ⟨State.cstate_setF, ?_, ?_⟩
  · rw [State.f_setF_apart _ _ _ _ (.inr ⟨(by decide : (16 : Nat) + 16 ≤ 32), .inr (by decide : (0 : Nat) + 2 ≤ 16)⟩)]
    rw [State.setCl_f, State.f_setF_self s _ _ (by decide : (16 : Nat) + 16 ≤ 32), satAdd]
    show _ % 2 ^ 16 = _
    omega
  · rw [State.setF_cl, State.cl_setCl_self, satAdd]

theorem State.startWake_held (h : s.cstate c ≠ 0 ∨ s.mstate = 6) : s.startWake c = s := by
  unfold State.startWake
  rw [if_neg]
  rintro ⟨-, hg, hm⟩
  exact h.elim (· hg) hm

end startWake

/-- The wakes of a list of clusters: those that are GATED wake, and the others stay. -/
theorem State.wakeAll_cstate (l : List Nat) (hl : ∀ c ∈ l, c < 640) {s : State} (hm : s.mstate ≠ 6) (d : Nat) :
    (s.wakeAll l).cstate d = if d ∈ l ∧ s.cstate d = 0 then 1 else s.cstate d := by
  induction l generalizing s with
  | nil => simp [State.wakeAll]
  | cons c l ih =>
    have hrest := ih (fun c h => hl c (List.mem_cons_of_mem _ h)) (s := s.startWake c) (by rwa [State.startWake_mstate])
    refine hrest.trans ?_
    by_cases hd : d = c
    · subst hd
      by_cases hg : s.cstate d = 0
      · rw [(State.startWake_gated (hl d List.mem_cons_self) hg hm).1, if_neg (by simp), if_pos ⟨List.mem_cons_self, hg⟩]
      · rw [State.startWake_held (.inl hg), if_neg (fun h => hg h.2), if_neg (fun h => hg h.2)]
    · rw [State.startWake_cstate_ne _ _ hd]
      simp only [List.mem_cons, hd, false_or]

/-- The wakes of clusters touch their registers and counters alone. -/
theorem State.wakeAll_frame (l : List Nat) (s : State) : ∃ R C, s.wakeAll l = { s with regs := R, clusters := C } := by
  induction l generalizing s with
  | nil => exact ⟨_, _, rfl⟩
  | cons c l ih =>
    obtain ⟨R, C, h⟩ := s.startWake_frame c
    obtain ⟨R', C', h'⟩ := ih (s.startWake c)
    exact ⟨R', C', h'.trans (by rw [h])⟩

theorem State.wakeAll_rd (l : List Nat) {s : State} {r : Nat} (hr : r < 0x201000) : (s.wakeAll l).rd r = s.rd r := by
  induction l generalizing s with
  | nil => rfl
  | cons c l ih => exact (ih (s := s.startWake c)).trans (s.startWake_rd c (by omega))

theorem State.wakeAll_holdup (l : List Nat) {s : State} (hm : s.mstate = 6) : s.wakeAll l = s := by
  induction l with
  | nil => rfl
  | cons c l ih => exact (congrArg (State.wakeAll · l) (State.startWake_held (.inr hm))).trans ih

/-! ### The gate enable (R63) -/

theorem fld_gateEn (v : Word) : fld (v &&& 0x1FFFF#32) 16 1 = v.toNat / 2 ^ 16 % 2 := by
  rw [fld, BitVec.toNat_and, show (0x1FFFF#32).toNat = 2 ^ 17 - 1 from rfl, Nat.and_two_pow_sub_one_eq_mod]
  omega

theorem State.gateCtl_eq (s : State) (v : Word) : s.gateCtl v =
    if v.toNat / 2 ^ 16 % 2 = 0 then (s.wr 0x200010 (v &&& 0x1FFFF#32)).wakeAll (s.wr 0x200010 (v &&& 0x1FFFF#32)).gatedClusters
    else s.wr 0x200010 (v &&& 0x1FFFF#32) := by
  have h : (s.wr 0x200010 (v &&& 0x1FFFF#32)).f Reg.FAB_GATE_CTL_GATE_EN = v.toNat / 2 ^ 16 % 2 := by
    rw [← fld_gateEn]
    exact congrArg (fun w => fld w 16 1) ((State.rd_wr ..).trans (if_pos rfl))
  unfold State.gateCtl
  dsimp only
  rw [h]

theorem State.mem_gatedClusters {s : State} {c : Nat} : c ∈ s.gatedClusters ↔ c < 640 ∧ s.cstate c = 0 := by
  simp [State.gatedClusters]

end Sys2Proof.Machine

namespace Sys2Proof.Machine

open Sys2Proof.Bits Sys2Proof.Safety

/-! ### A letter at its target (R46, R51, R55) -/

/-- The cluster counts one letter more. -/
def State.appliedAt (s : State) (t : Target) : State :=
  match t.cluster? with
  | some c => s.setCl c { s.cl c with applied := satAdd 32 (s.cl c).applied 1 }
  | none => s

/-- The cluster counts one letter more, and a corrected error that a reading letter meets. -/
def State.met (s : State) (t : Target) (reads : Bool) (ecc : Ecc) : State :=
  if reads && decide (ecc = .corrected) then (s.appliedAt t).eccCorrected t else s.appliedAt t

/-- A letter that only reads counts at the slots of a cell. -/
def State.readAt (s : State) (t : Target) (len : Nat) : State :=
  match t with
  | .cell n off => s.setCell n ((s.cell n).arrive off len)
  | _ => s

/-- What a letter does at the memory that serves it. -/
def State.serve (s : State) (t : Target) (l : Letter) : State :=
  let a := l.hdr.addr.toNat
  let old := s.readFor t a l.len (decide (l.op = .get))
  if l.op = .put then (s.writeFor t a l.data).reply l 0
  else if l.op = .get then (s.readAt t l.len).reply l 0 old
  else match atomicResult l.op l.len (le old 0 l.len) (le l.data 0 l.len) (le l.data l.len l.len) with
    | some v => (s.writeFor t a (toLe l.len v)).reply l 0 old
    | none => (s.readAt t l.len).reply l 0 old

section applyLetter

variable {s : State} {l : Letter} {ecc : Ecc} {t : Target} {n off : Nat}

theorem State.applyLetter_cell (ht : target l.hdr.addr.toNat = .cell n off) (hunder : s.underContext n = false)
    (hoff : off < 0x800 ∨ s.takesProgram n l.hdr.sender = true ∨ l.op = .get) (hecc : l.op = .put ∨ ecc ≠ .uncorrectable) :
    s.applyLetter l ecc = (((s.met (.cell n off) (l.op != .put) ecc).undoStore n).serve (.cell n off) l).redoStore n := by
  have hforbid : ¬ (off ≥ 0x800 ∧ l.op ≠ .get ∧ ¬ s.takesProgram n l.hdr.sender = true) := by
    rintro ⟨h1, h2, h3⟩
    exact hoff.elim (by omega) (·.elim h3 h2)
  have hlost : (l.op != .put && decide (ecc = .uncorrectable)) = false := by
    rcases hecc with h | h <;> simp [h]
  unfold State.applyLetter
  simp only [ht, Target.cluster?]
  generalize hu : s.setCl (clusterOf n) _ = u
  have h1 : u.underContext n = false := hu ▸ hunder
  have h2 : u.takesProgram n l.hdr.sender = s.takesProgram n l.hdr.sender := hu ▸ rfl
  rw [h1, h2, if_neg (by decide), if_neg hforbid, hlost, if_neg (by decide)]
  simp only [State.met, State.appliedAt, Target.cluster?, hu]
  rfl

/-- A PUT into a cell's program memory that may not write there. -/
theorem State.applyLetter_locked (ht : target l.hdr.addr.toNat = .cell n off) (hunder : s.underContext n = false) (hoff : 0x800 ≤ off)
    (hprog : s.takesProgram n l.hdr.sender = false) (hop : l.op = .put) :
    s.applyLetter l ecc = (s.met (.cell n off) false ecc).reply l 0x20 := by
  unfold State.applyLetter
  simp only [ht, Target.cluster?]
  generalize hu : s.setCl (clusterOf n) _ = u
  have h1 : u.underContext n = false := hu ▸ hunder
  have h2 : u.takesProgram n l.hdr.sender = false := hu ▸ hprog
  rw [h1, h2, if_neg (by decide), if_pos ⟨hoff, by rw [hop]; decide, by decide⟩]
  simp only [State.met, State.appliedAt, Target.cluster?, hu, Bool.false_and, Bool.false_eq_true, if_false]

theorem State.applyLetter_other (ht : target l.hdr.addr.toNat = t) (hmem : (∃ c o, t = .shared c o) ∨ ∃ p o, t = .dram p o)
    (hecc : l.op = .put ∨ ecc ≠ .uncorrectable) : s.applyLetter l ecc = (s.met t (l.op != .put) ecc).serve t l := by
  have hlost : (l.op != .put && decide (ecc = .uncorrectable)) = false := by
    rcases hecc with h | h <;> simp [h]
  unfold State.applyLetter
  rcases hmem with ⟨c, o, rfl⟩ | ⟨p, o, rfl⟩
  · simp only [ht, hlost, Bool.false_eq_true, if_false]
    rfl
  · simp only [ht, hlost, Bool.false_eq_true, if_false]
    rfl

/-- A reading letter that meets an uncorrectable error. -/
theorem State.applyLetter_lost (ht : target l.hdr.addr.toNat = t)
    (hmem : (∃ n o, t = .cell n o ∧ o < 0x800 ∧ s.underContext n = false) ∨ (∃ c o, t = .shared c o) ∨ ∃ p o, t = .dram p o) (hop : l.op ≠ .put)
    (hecc : ecc = .uncorrectable) : s.applyLetter l ecc = (s.met t false .clean).eccLost l := by
  have hlost : (l.op != .put && decide (ecc = .uncorrectable)) = true := by simp [hop, hecc]
  unfold State.applyLetter
  rcases hmem with ⟨n, o, rfl, ho, hunder⟩ | ⟨c, o, rfl⟩ | ⟨p, o, rfl⟩
  · simp only [ht, Target.cluster?]
    generalize hu : s.setCl (clusterOf n) _ = u
    have h1 : u.underContext n = false := hu ▸ hunder
    rw [h1, if_neg (by decide), if_neg (by omega), hlost, if_pos rfl]
    simp only [State.met, State.appliedAt, Target.cluster?, hu, Bool.false_and, Bool.false_eq_true, if_false]
  · simp only [ht, hlost, if_true]
    rfl
  · simp only [ht, hlost, if_true]
    rfl

end applyLetter

/-! ### A store of the same cycle (R55) -/

/-- The cell stored nothing in this cycle. -/
def State.unstored (s : State) (n : Nat) : Prop := ∀ st ∈ (s.cell n).stored, st.1 ≠ s.now

theorem State.undoStore_unstored {s : State} {n : Nat} (h : s.unstored n) : s.undoStore n = s := by
  unfold State.undoStore
  split
  · next t off old new hst => exact if_neg (h _ hst)
  · rfl

theorem State.redoStore_unstored {s : State} {n : Nat} (h : s.unstored n) : s.redoStore n = s := by
  unfold State.redoStore
  split
  · next t off old new hst => exact if_neg (h _ hst)
  · rfl

/-! ### Replies (R46, R52) -/

theorem State.reply_frame (s : State) (l : Letter) (st : Nat) (d : Bytes) : ∃ R, s.reply l st d = { s with replies := R } := by
  unfold State.reply
  split
  · exact ⟨_, rfl⟩
  · exact ⟨_, rfl⟩

theorem State.reply_replies (s : State) (l : Letter) (st : Nat) (d : Bytes) : (s.reply l st d).replies = s.replies ++
    if l.hdr.reply = .none then [] else
      [{ dest := l.hdr.reply, op := l.op, tag := l.hdr.tag, status := st, data := if st = 0 ∧ l.op ≠ .put then d else [] }] := by
  unfold State.reply
  split
  · next h => rw [if_pos h, List.append_nil]
  · next h => rw [if_neg h]

/-! ### What a letter leaves unchanged -/

/-- The cells' working registers and PCs, the envelopes, the partitions, the acknowledgements and every register but the counters of late
deliveries, corrected errors and dropped events are kept. -/
structure Undisturbed (s t : State) : Prop where
  cell : ∀ m, (t.cell m).work = (s.cell m).work ∧ (t.cell m).pc = (s.cell m).pc
  envs : t.envs = s.envs
  parts : t.parts = s.parts
  acks : t.acks = s.acks
  rd : ∀ r, r ≠ 0x200024 → r ≠ 0x200028 → r ≠ 0x130010C → t.rd r = s.rd r

theorem Undisturbed.refl (s : State) : Undisturbed s s := ⟨fun _ => ⟨rfl, rfl⟩, rfl, rfl, rfl, fun _ _ _ _ => rfl⟩

theorem Undisturbed.trans {s t u : State} (h : Undisturbed s t) (h' : Undisturbed t u) : Undisturbed s u where
  cell m := ⟨(h'.cell m).1.trans (h.cell m).1, (h'.cell m).2.trans (h.cell m).2⟩
  envs := h'.envs.trans h.envs
  parts := h'.parts.trans h.parts
  acks := h'.acks.trans h.acks
  rd r h1 h2 h3 := (h'.rd r h1 h2 h3).trans (h.rd r h1 h2 h3)

/-- Only memory, KEPT, the cells' slots and stores, and the replies have changed. -/
structure Served (s t : State) : Prop where
  frame : ∃ M K C R, t = { s with mem := M, kept := K, cells := C, replies := R }
  cell : ∀ m, (t.cell m).work = (s.cell m).work ∧ (t.cell m).pc = (s.cell m).pc

theorem Served.refl (s : State) : Served s s := ⟨⟨_, _, _, _, rfl⟩, fun _ => ⟨rfl, rfl⟩⟩

theorem Served.trans {s t u : State} (h : Served s t) (h' : Served t u) : Served s u where
  frame := by
    obtain ⟨_, _, _, _, rfl⟩ := h.frame
    obtain ⟨M, K, C, R, rfl⟩ := h'.frame
    exact ⟨M, K, C, R, rfl⟩
  cell m := ⟨(h'.cell m).1.trans (h.cell m).1, (h'.cell m).2.trans (h.cell m).2⟩

theorem Served.undisturbed {s t : State} (h : Served s t) : Undisturbed s t := by
  have hcell := h.cell
  obtain ⟨M, K, C, R, rfl⟩ := h.frame
  exact ⟨hcell, rfl, rfl, rfl, fun _ _ _ _ => rfl⟩

theorem Served.wrMem (s : State) (a : Nat) (d : Bytes) : Served s (s.wrMem a d) := ⟨⟨_, _, _, _, rfl⟩, fun _ => ⟨rfl, rfl⟩⟩

theorem Served.setCell {s : State} {n : Nat} {c : Cell} (hw : c.work = (s.cell n).work) (hp : c.pc = (s.cell n).pc) : Served s (s.setCell n c) :=
  ⟨⟨_, _, _, _, rfl⟩, fun m => by
    rw [State.cell_setCell]
    split
    · next e => exact ⟨e ▸ hw, e ▸ hp⟩
    · exact ⟨rfl, rfl⟩⟩

theorem Served.reply (s : State) (l : Letter) (st : Nat) (d : Bytes) : Served s (s.reply l st d) := by
  obtain ⟨R, h⟩ := s.reply_frame l st d
  rw [h]
  exact ⟨⟨_, _, _, _, rfl⟩, fun _ => ⟨rfl, rfl⟩⟩

theorem Served.land (s : State) (n off : Nat) (d : Bytes) : Served s (s.land n off d) :=
  Served.trans (t := s.wrData n off d) ⟨⟨_, _, _, _, rfl⟩, fun _ => ⟨rfl, rfl⟩⟩ (.setCell rfl rfl)

theorem Served.writeFor (s : State) (t : Target) (a : Nat) (d : Bytes) : Served s (s.writeFor t a d) := by
  unfold State.writeFor
  split
  · split
    · exact .land ..
    · exact .wrMem ..
  · exact .wrMem ..

theorem Served.readAt (s : State) (t : Target) (len : Nat) : Served s (s.readAt t len) := by
  unfold State.readAt
  split
  · exact .setCell rfl rfl
  · exact .refl s

theorem Served.undoStore (s : State) (n : Nat) : Served s (s.undoStore n) := by
  unfold State.undoStore
  split
  · split
    · exact .wrMem ..
    · exact .refl s
  · exact .refl s

theorem Served.redoStore (s : State) (n : Nat) : Served s (s.redoStore n) := by
  unfold State.redoStore
  split
  · split
    · refine Served.trans ?_ (.wrMem ..)
      exact .setCell rfl rfl
    · exact .refl s
  · exact .refl s

theorem Served.serve (s : State) (t : Target) (l : Letter) : Served s (s.serve t l) := by
  unfold State.serve
  dsimp only
  split
  · exact (Served.writeFor ..).trans (.reply ..)
  · split
    · exact (Served.readAt ..).trans (.reply ..)
    · split
      · exact (Served.writeFor ..).trans (.reply ..)
      · exact (Served.readAt ..).trans (.reply ..)

/-! ### The bytes a letter writes -/

theorem State.readAt_mem (s : State) (t : Target) (len : Nat) : (s.readAt t len).mem = s.mem ∧ (s.readAt t len).kept = s.kept ∧
    (s.readAt t len).replies = s.replies := by
  unfold State.readAt
  split <;> exact ⟨rfl, rfl, rfl⟩

theorem State.writeFor_replies (s : State) (t : Target) (a : Nat) (d : Bytes) : (s.writeFor t a d).replies = s.replies := by
  unfold State.writeFor
  split
  · split <;> rfl
  · rfl

/-- A cell's bytes lie at its own address of the offset. -/
def Target.names (t : Target) (a : Nat) : Prop := ∀ n off, t = .cell n off → cellAddr n off = a

theorem target_names {a : Nat} (ha : a < 2 ^ 48) : (target a).names a := fun _ _ h => (target_cell h ha).1

/-- A write at a target is a write of memory at the address. -/
theorem State.writeFor_mem {s : State} {t : Target} {a : Nat} (h : t.names a) (d : Bytes) : (s.writeFor t a d).mem = (s.wrMem a d).mem := by
  unfold State.writeFor
  split
  · next n off =>
    split
    · show (s.wrMem (cellAddr n off) d).mem = _
      rw [h n off rfl]
    · rfl
  · rfl

/-! ### The counters of a letter that arrives -/

theorem State.eccCorrected_frame (s : State) (t : Target) : ∃ R C, s.eccCorrected t = { s with regs := R, clusters := C } := by
  unfold State.eccCorrected
  split
  · exact ⟨(s.bump 0x200028).regs, _, rfl⟩
  · exact ⟨(s.bump 0x200028).regs, _, rfl⟩

theorem State.eccCorrected_rd (s : State) (t : Target) {r : Nat} (h : r ≠ 0x200028) : (s.eccCorrected t).rd r = s.rd r := by
  have hb : (s.bump 0x200028).rd r = s.rd r := (State.rd_bump ..).trans (if_neg h)
  unfold State.eccCorrected
  split
  · exact hb
  · exact hb

theorem State.appliedAt_frame (s : State) (t : Target) : ∃ C, s.appliedAt t = { s with clusters := C } := by
  unfold State.appliedAt
  split <;> exact ⟨_, rfl⟩

theorem State.appliedAt_queue (s : State) (t : Target) (j : Nat) : ((s.appliedAt t).cl j).queue = (s.cl j).queue := by
  unfold State.appliedAt
  split
  · next c _ =>
    rw [State.cl_setCl]
    split
    · next e => rw [e]
    · rfl
  · rfl

/-- The counters touch the clusters' counts and, for a corrected error, its register. -/
theorem State.met_frame (s : State) (t : Target) (reads : Bool) (ecc : Ecc) : ∃ R C, s.met t reads ecc = { s with regs := R, clusters := C } := by
  obtain ⟨C, h⟩ := s.appliedAt_frame t
  unfold State.met
  rw [h]
  split
  · obtain ⟨R, C', h'⟩ := State.eccCorrected_frame { s with clusters := C } t
    exact ⟨R, C', h'⟩
  · exact ⟨_, _, rfl⟩

theorem State.met_rd (s : State) (t : Target) (reads : Bool) (ecc : Ecc) {r : Nat} (h : r ≠ 0x200028) : (s.met t reads ecc).rd r = s.rd r := by
  have ha : (s.appliedAt t).rd r = s.rd r := by
    obtain ⟨C, h⟩ := s.appliedAt_frame t
    rw [h]
    rfl
  unfold State.met
  split
  · exact (State.eccCorrected_rd _ _ h).trans ha
  · exact ha

theorem State.met_silent (s : State) (t : Target) (ecc : Ecc) : s.met t false ecc = s.appliedAt t := rfl

theorem Undisturbed.met (s : State) (t : Target) (reads : Bool) (ecc : Ecc) : Undisturbed s (s.met t reads ecc) := by
  have hrd := fun r (h : r ≠ 0x200028) => s.met_rd t reads ecc h
  obtain ⟨R, C, h⟩ := s.met_frame t reads ecc
  rw [h] at hrd ⊢
  exact ⟨fun _ => ⟨rfl, rfl⟩, rfl, rfl, rfl, fun r _ h _ => hrd r h⟩

/-! ### A letter at a cell that stored nothing in this cycle -/

theorem State.reply_cell (s : State) (l : Letter) (st : Nat) (d : Bytes) (m : Nat) : (s.reply l st d).cell m = s.cell m := by
  obtain ⟨R, h⟩ := s.reply_frame l st d
  rw [h]
  rfl

theorem State.writeFor_stored (s : State) (t : Target) (a : Nat) (d : Bytes) (m : Nat) : ((s.writeFor t a d).cell m).stored = (s.cell m).stored := by
  unfold State.writeFor
  split
  · next n off =>
    split
    · unfold State.land
      rw [State.cell_setCell]
      split
      · next e => rw [e]; rfl
      · rfl
    · rfl
  · rfl

theorem State.readAt_stored (s : State) (t : Target) (len m : Nat) : ((s.readAt t len).cell m).stored = (s.cell m).stored := by
  unfold State.readAt
  split
  · next n off =>
    rw [State.cell_setCell]
    split
    · next e => rw [e]; rfl
    · rfl
  · rfl

theorem State.serve_stored (s : State) (t : Target) (l : Letter) (m : Nat) : ((s.serve t l).cell m).stored = (s.cell m).stored := by
  unfold State.serve
  dsimp only
  split
  · rw [State.reply_cell, State.writeFor_stored]
  · split
    · rw [State.reply_cell, State.readAt_stored]
    · split
      · rw [State.reply_cell, State.writeFor_stored]
      · rw [State.reply_cell, State.readAt_stored]

theorem State.met_unstored {s : State} {n : Nat} (h : s.unstored n) (t : Target) (reads : Bool) (ecc : Ecc) : (s.met t reads ecc).unstored n := by
  obtain ⟨R, C, hm⟩ := s.met_frame t reads ecc
  rw [hm]
  exact h

theorem State.serve_unstored {s : State} {n : Nat} (h : s.unstored n) (t : Target) (l : Letter) : (s.serve t l).unstored n := by
  obtain ⟨_, _, _, _, hframe⟩ := (Served.serve s t l).frame
  have hnow : (s.serve t l).now = s.now := by rw [hframe]; rfl
  unfold State.unstored at *
  rwa [State.serve_stored, hnow]

/-- The target's memory takes the letter: shared memory or DRAM, or a cell with no context restart under it, but for a write of its program
memory that may not be made (R53). -/
def State.takes (s : State) (t : Target) (l : Letter) : Prop :=
  (∃ n off, t = .cell n off ∧ s.underContext n = false ∧ (off < 0x800 ∨ s.takesProgram n l.hdr.sender = true ∨ l.op = .get)) ∨
  (∃ c o, t = .shared c o) ∨ ∃ p o, t = .dram p o

theorem State.applyLetter_serve {s : State} {l : Letter} {ecc : Ecc} {t : Target} (ht : target l.hdr.addr.toNat = t) (htakes : s.takes t l)
    (hstore : ∀ n off, t = .cell n off → s.unstored n) (hecc : l.op = .put ∨ ecc ≠ .uncorrectable) :
    s.applyLetter l ecc = (s.met t (l.op != .put) ecc).serve t l := by
  rcases htakes with ⟨n, off, rfl, hunder, hoff⟩ | hmem
  · have hu := State.met_unstored (hstore n off rfl) (.cell n off) (l.op != .put) ecc
    rw [State.applyLetter_cell ht hunder hoff hecc, State.undoStore_unstored hu, State.redoStore_unstored (State.serve_unstored hu _ _)]
  · exact State.applyLetter_other ht hmem hecc

/-- A PUT that is served writes its bytes, and its reply leaves. -/
theorem State.serve_put (s : State) (t : Target) {l : Letter} (hop : l.op = .put) :
    s.serve t l = (s.writeFor t l.hdr.addr.toNat l.data).reply l 0 := if_pos hop

theorem State.reply_rdByte (s : State) (l : Letter) (st : Nat) (d : Bytes) (x : Nat) : (s.reply l st d).rdByte x = s.rdByte x := by
  obtain ⟨R, h⟩ := s.reply_frame l st d
  rw [h]
  rfl

theorem State.writeFor_rdByte {s : State} {t : Target} {a : Nat} (h : t.names a) (d : Bytes) (x : Nat) :
    (s.writeFor t a d).rdByte x = (s.wrMem a d).rdByte x :=
  congrArg (fun m : List Host.Cell => Tab.get m x (memDefault x)) (State.writeFor_mem h d)

end Sys2Proof.Machine

namespace Sys2Proof.Machine

open Sys2Proof.Bits Sys2Proof.Safety

/-! ### A PUT that a router held (R62) -/

/-- A PUT to a cell touches no register and no router's queue, and a router's PUT to the cell's registers and memory writes its bytes. -/
theorem State.applyLetter_put {s : State} {l : Letter} {ecc : Ecc} {n off : Nat} (ht : target l.hdr.addr.toNat = .cell n off) (hop : l.op = .put)
    (hunder : s.underContext n = false) (hstored : (s.cell n).stored = none) (hoff : off + l.data.length ≤ 0x800) :
    (∀ r, (s.applyLetter l ecc).rd r = s.rd r) ∧ (∀ j, ((s.applyLetter l ecc).cl j).queue = (s.cl j).queue) ∧
    ∀ (j : Nat) (hj : j < l.data.length), (s.applyLetter l ecc).rdByte (l.hdr.addr.toNat + j) = l.data[j] := by
  have hqueue := s.appliedAt_queue (.cell n off)
  have hreads : (l.op != .put) = false := by rw [hop]; rfl
  obtain ⟨C, hmet⟩ := s.appliedAt_frame (.cell n off)
  by_cases hfree : off < 0x800 ∨ s.takesProgram n l.hdr.sender = true ∨ l.op = .get
  · have hun : s.unstored n := fun st h => by rw [hstored] at h; cases h
    rw [State.applyLetter_serve (t := .cell n off) ht (.inl ⟨n, off, rfl, hunder, hfree⟩) (fun n' off' e => by cases e; exact hun) (.inl hop), hreads,
      State.met_silent]
    obtain ⟨_, _, _, _, hserve⟩ := (Served.serve (s.appliedAt (.cell n off)) (.cell n off) l).frame
    refine ⟨fun r => ?_, fun j => ?_, fun j hj => ?_⟩
    · rw [hserve, hmet]; rfl
    · rw [← hqueue j, hserve]; rfl
    · rw [State.serve_put _ _ hop, State.reply_rdByte, State.writeFor_rdByte (ht ▸ target_names (by omega)), State.rdByte_wrMem_inside]
  · obtain ⟨hlow, hprog⟩ := not_or.1 hfree
    have hprog : s.takesProgram n l.hdr.sender = false := Bool.eq_false_iff.2 fun h => hprog (.inl h)
    rw [State.applyLetter_locked ht hunder (by omega) hprog hop, State.met_silent]
    obtain ⟨R, hreply⟩ := (s.appliedAt (.cell n off)).reply_frame l 0x20 []
    refine ⟨fun r => ?_, fun j => ?_, fun j hj => absurd hj (by omega)⟩
    · rw [hreply, hmet]; rfl
    · rw [← hqueue j, hreply]; rfl

/-- A cluster runs again, with its router's queue and circular landings taken. -/
def State.woken (s : State) (c : Nat) : State :=
  (s.setF (Reg.FAB_CLUSTER_STATE_CSTATE c) 2).setCl c { s.cl c with queue := [], landing := [] }

theorem State.woken_cstate (s : State) (c : Nat) : (s.woken c).cstate c = 2 := by
  unfold State.woken
  rw [State.setCl_cstate, State.cstate_setF]

theorem State.woken_queue (s : State) (c : Nat) : ((s.woken c).cl c).queue = [] := by
  unfold State.woken
  rw [State.cl_setCl_self]

theorem State.woken_rd (s : State) (c : Nat) {r : Nat} (h : r ≠ 0x201000 + 4 * c) : (s.woken c).rd r = s.rd r := by
  unfold State.woken
  rw [State.setCl_rd, State.rd_setF]
  exact if_neg h

/-- A wake with no circular landing applies the letters that the router held, in their order. -/
theorem State.wakeDone_eq {s : State} {c : Nat} (hl : (s.cl c).landing = []) :
    s.wakeDone c = ((s.cl c).queue.foldl (fun s e => s.applyLetter e.1 e.2) (s.woken c)).restless c := by
  unfold State.wakeDone
  dsimp only
  rw [hl]
  rfl

theorem State.restless_queue (s : State) (c : Nat) : ((s.restless c).cl c).queue = (s.cl c).queue := by
  unfold State.restless
  rw [State.cl_setCl_self]

end Sys2Proof.Machine

open Sys2Proof Sys2Proof.Machine Sys2Proof.Safety Sys2Proof.Bits in
/-- Settles O23: the four commands change the cluster's register and its counters, and GATE_EN 0 wakes the GATED clusters in turn. -/
theorem clusterGates : Obligations.ClusterGates := by
  refine ⟨fun s p c => ?_, fun s v => ?_⟩
  · intro k F
    have hk : k < 640 := by omega
    refine ⟨fun h1 h2 h3 h4 h5 h6 h7 h8 => ?_, fun hg hdue hm => ?_, fun h d n off hw ht hq hl htarget hk hoff hunder hstored => ?_,
      fun hw ht hq hl => ?_⟩
    · have hexec : execClusterGate p c s = .next ((s.setCl k { s.cl k with wakeAt := s.now }).setF F 0) :=
        congrArg Host.Outcome.next (if_pos ⟨h1, h2, by rw [h3]; decide, h4, h5, h6, h7, by rw [h8]; decide⟩)
      refine ⟨_, hexec, State.cstate_setF, ?_, fun r hr => (State.rd_setF ..).trans (if_neg hr)⟩
      obtain ⟨R, h⟩ := (s.setCl k { s.cl k with wakeAt := s.now }).setF_frame F 0
      rw [h]
      rfl
    · obtain ⟨hstate, hcount, hcl⟩ := State.startWake_gated hk hg hm
      refine ⟨_, congrArg Host.Outcome.next (if_pos hdue), hstate, ?_, hcount, congrArg Cluster.wakes hcl, congrArg Cluster.wakeAt hcl,
        fun r hr => s.startWake_rd k hr⟩
      obtain ⟨R, C, h⟩ := s.startWake_frame k
      rw [h]
    · refine ⟨_, congrArg Host.Outcome.next (if_pos ⟨hw, ht⟩), ?_⟩
      rw [State.wakeDone_eq hl, hq]
      obtain ⟨hrd, hqueue, hbytes⟩ := State.applyLetter_put (s := s.woken k) (ecc := .clean)
        (l := { op := .put, hdr := h, len := d.length, data := d }) htarget rfl hunder hstored hoff
      exact ⟨(State.cstate_congr (hrd _)).trans (s.woken_cstate k),
        (State.restless_queue ..).trans ((hqueue k).trans (s.woken_queue k)), hbytes⟩
    · refine ⟨_, congrArg Host.Outcome.next (if_pos ⟨hw, ht⟩), ?_⟩
      rw [State.wakeDone_eq hl, hq]
      exact ⟨s.woken_cstate k, rfl, rfl, fun r hr => s.woken_rd k hr⟩
  · have hrd : (s.wr 0x200010 (v &&& 0x1FFFF#32)).rd 0x200010 = v &&& 0x1FFFF#32 := (State.rd_wr ..).trans (if_pos rfl)
    have hcs (c : Nat) : (s.wr 0x200010 (v &&& 0x1FFFF#32)).cstate c = s.cstate c :=
      State.cstate_congr ((State.rd_wr ..).trans (if_neg (by omega)))
    have hms : (s.wr 0x200010 (v &&& 0x1FFFF#32)).mstate = s.mstate := congrArg (fun w => fld w 0 4) ((State.rd_wr ..).trans (if_neg (by decide)))
    refine ⟨s.gateCtl v, rfl, ?_⟩
    rw [State.gateCtl_eq]
    generalize hu : s.wr 0x200010 (v &&& 0x1FFFF#32) = u at *
    have hmem : u.mem = s.mem ∧ u.cells = s.cells ∧ u.evl = s.evl := by rw [← hu]; exact ⟨rfl, rfl, rfl⟩
    split
    · next h0 =>
      obtain ⟨R, C, hframe⟩ := u.wakeAll_frame u.gatedClusters
      refine ⟨(State.wakeAll_rd _ (by decide)).trans hrd, ?_, ?_, ?_, fun _ hm c hc hg => ?_, fun c hc h => ?_⟩
      · rw [hframe]; exact hmem.1
      · rw [hframe]; exact hmem.2.1
      · rw [hframe]; exact hmem.2.2
      · rw [State.wakeAll_cstate _ (fun d hd => (State.mem_gatedClusters.1 hd).1) (by rwa [hms]),
          if_pos ⟨State.mem_gatedClusters.2 ⟨hc, by rwa [hcs]⟩, by rwa [hcs]⟩]
      · by_cases hm : s.mstate = 6
        · rw [State.wakeAll_holdup _ (by rwa [hms]), hcs]
        · rw [State.wakeAll_cstate _ (fun d hd => (State.mem_gatedClusters.1 hd).1) (by rwa [hms]), hcs, if_neg]
          rintro ⟨-, hg⟩
          omega
    · next h0 => exact ⟨hrd, hmem.1, hmem.2.1, hmem.2.2, fun h => absurd h h0, fun c _ _ => hcs c⟩

namespace Sys2Proof.Machine

open Sys2Proof.Bits Sys2Proof.Safety

/-! ### A letter that leaves the network (R45, R49) -/

/-- Only the network, the record of the last error, the queue of events and the counters of late deliveries and dropped events have changed. -/
structure Delivered (s u : State) : Prop where
  frame : ∃ N W R V, u = { s with net := N, twn := W, regs := R, evl := V }
  rd : ∀ r, r ≠ 0x200024 → r ≠ 0x130010C → u.rd r = s.rd r

theorem Delivered.trans {s t u : State} (h : Delivered s t) (h' : Delivered t u) : Delivered s u where
  frame := by
    obtain ⟨_, _, _, _, rfl⟩ := h.frame
    obtain ⟨N, W, R, V, rfl⟩ := h'.frame
    exact ⟨N, W, R, V, rfl⟩
  rd r h1 h2 := (h'.rd r h1 h2).trans (h.rd r h1 h2)

theorem Delivered.late (s : State) : Delivered s (s.bump 0x200024) where
  frame := ⟨_, _, _, _, rfl⟩
  rd _ h1 _ := (State.rd_bump ..).trans (if_neg h1)

theorem Delivered.raise (s : State) (code p0 p1 p2 p3 o p : Nat) : Delivered s (s.raise code p0 p1 p2 p3 o p) where
  frame := ⟨_, _, _, _, State.raise_frame ..⟩
  rd _ _ h2 := State.rd_raise _ _ _ _ _ _ _ _ h2

theorem Delivered.cstate {s u : State} (h : Delivered s u) {c : Nat} (hc : c < 640) : u.cstate c = s.cstate c :=
  State.cstate_congr (h.rd _ (by omega) (by omega))

theorem Delivered.undisturbed {s u : State} (h : Delivered s u) : Undisturbed s u := by
  have hrd := h.rd
  obtain ⟨N, W, R, V, rfl⟩ := h.frame
  exact ⟨fun _ => ⟨rfl, rfl⟩, rfl, rfl, rfl, fun r h1 _ h3 => hrd r h1 h3⟩

theorem Delivered.underContext {s u : State} (h : Delivered s u) (n : Nat) : u.underContext n = s.underContext n := by
  obtain ⟨N, W, R, V, rfl⟩ := h.frame
  rfl

theorem Delivered.unstored {s u : State} (h : Delivered s u) {n : Nat} (hn : s.unstored n) : u.unstored n := by
  obtain ⟨N, W, R, V, rfl⟩ := h.frame
  exact hn

/-- A letter that arrives leaves the network; a late one counts, with its event. -/
theorem State.unflight_delivered (s : State) (op : LOp) (h : Hdr) : Delivered s (s.unflight op h) := by
  unfold State.unflight State.boundCheck
  split
  · exact ⟨⟨_, _, _, _, rfl⟩, fun _ _ _ => rfl⟩
  · next l _ =>
    have hnet (W : Twn) : Delivered s { s with net := s.net.erase l, twn := W } := ⟨⟨_, _, _, _, rfl⟩, fun _ _ _ => rfl⟩
    dsimp only
    split
    · exact ((hnet _).trans (.late _)).trans (.raise ..)
    · exact hnet _

/-! ### The way of a letter to its target (R36, R46, R49, R52) -/

theorem State.letterCmd_ok {s : State} {op : LOp} {h : Hdr} {len : Nat} {d : Bytes} {ecc : Ecc} (hok : letterOk op h.addr.toNat len = true) :
    s.letterCmd op h len d ecc = s.letterIn { op := op, hdr := h, len := len, data := d } ecc := if_pos hok

theorem letterOk_ordinary {op : LOp} (hop : LOp.atomic op = false) {a len : Nat} (h : 1 ≤ len ∧ len ≤ 64 ∧ a % 64 + len ≤ 64) :
    letterOk op a len = true := by
  unfold letterOk
  rw [hop, if_neg (by decide)]
  exact decide_eq_true h

theorem execPut_eq {s : State} {h : Hdr} {data : Bytes} (ht : s.telemTarget h.addr.toNat data.length = none) :
    execPut h data s = .next (s.letterCmd .put h data.length data .clean) := by
  unfold execPut
  dsimp only
  rw [ht]

/-- A letter that must wait does not arrive. -/
theorem State.letterIn_waits {s : State} {l : Letter} {ecc : Ecc} (h : s.mustWait l.op l.hdr = true) : s.letterIn l ecc = s := by
  unfold State.letterIn
  rw [if_pos h]

/-- A letter that need not wait, for no window and no channel that retrains, arrives. -/
theorem State.letterIn_arrives {s : State} {l : Letter} {ecc : Ecc} (hwait : s.mustWait l.op l.hdr = false)
    (hwindow : (target l.hdr.addr.toNat).isWindow = false) (hready : ∀ p o, target l.hdr.addr.toNat = .dram p o → s.retrains p o l.len = false) :
    s.letterIn l ecc = (s.unflight l.op l.hdr).arriveLetter l ecc := by
  have hbup : (s.unflight l.op l.hdr).bup = s.bup := by
    obtain ⟨_, _, _, _, h⟩ := (s.unflight_delivered l.op l.hdr).frame
    rw [h]
  unfold State.letterIn
  rw [hwait, if_neg (by decide)]
  dsimp only
  split
  · next p o ht =>
    rw [if_neg]
    unfold State.retrains at hready ⊢
    rw [hbup, hready p o ht]
    decide
  · rw [if_neg (by rw [hwindow]; decide)]

/-- A letter to DRAM whose channel retrains waits at the edge router. -/
theorem State.letterIn_retrains {s : State} {l : Letter} {ecc : Ecc} (hwait : s.mustWait l.op l.hdr = false) {p o : Nat}
    (ht : target l.hdr.addr.toNat = .dram p o) (h : s.retrains p o l.len = true) :
    s.letterIn l ecc = (s.unflight l.op l.hdr).chanWait (.letter l ecc) := by
  have hbup : (s.unflight l.op l.hdr).bup = s.bup := by
    obtain ⟨_, _, _, _, h⟩ := (s.unflight_delivered l.op l.hdr).frame
    rw [h]
  unfold State.letterIn
  rw [hwait, if_neg (by decide)]
  dsimp only
  rw [ht]
  dsimp only
  rw [if_pos]
  unfold State.retrains at h ⊢
  rwa [hbup]

/-! ### What a target answers -/

section arriveLetter

variable {s : State} {l : Letter} {ecc : Ecc}

theorem State.arriveLetter_nothing (h : target l.hdr.addr.toNat = .nothing) : s.arriveLetter l ecc = s.notReady l := by
  unfold State.arriveLetter
  rw [h, if_pos rfl]

/-- A partition in reset answers every sender but the Postmaster. -/
theorem State.arriveLetter_reset {p : Nat} (hp : (target l.hdr.addr.toNat).part? = some p) (hheld : s.held p = true)
    (hsender : l.hdr.sender ≠ postmaster) : s.arriveLetter l ecc = s.reply l 3 := by
  have hn : target l.hdr.addr.toNat ≠ .nothing := fun h => by rw [h] at hp; cases hp
  unfold State.arriveLetter
  dsimp only
  rw [if_neg hn, hp, if_pos]
  simp [hheld, hsender]

/-- A cell that is alive, of a partition with a manifest and not in reset: its router keeps the letter while its cluster sleeps. -/
theorem State.arriveLetter_cell {n off : Nat} (ht : target l.hdr.addr.toNat = .cell n off) (hheld : s.held (partOf n) = false)
    (hdead : s.deadCells.contains n = false) (hman : l.hdr.sender = postmaster ∨ (s.manOf (partOf n)).isSome = true)
    (hstate : s.cstate (clusterOf n) ≠ 3) : s.arriveLetter l ecc =
      if s.cstate (clusterOf n) = 0 ∨ s.cstate (clusterOf n) = 1 then s.enqueue (clusterOf n) l ecc (s.hits l) else s.applyLetter l ecc := by
  have hnames : s.namesNothing (.cell n off) l.hdr.sender = false := by
    unfold State.namesNothing
    dsimp only [Target.part?]
    rw [hdead, decide_eq_false hstate]
    rcases hman with h | h
    · simp [h]
    · simp [Option.isNone_eq_false_iff.2 h]
  unfold State.arriveLetter
  dsimp only
  rw [ht, if_neg nofun, if_neg (by simp [Target.part?, hheld]), hnames]
  rfl

end arriveLetter

theorem target_cell_cluster {a n off : Nat} (h : target a = .cell n off) : clusterOf n < 640 := by
  unfold target at h
  split_ifs at h with h1 h2 h3 h4 h5 h6
  · simp only [Target.cell.injEq] at h
    obtain ⟨rfl, -⟩ := h
    simp only [clusterOf, aPart, aCluster, aCell] at *
    omega
  · exact (ctlTarget_ne_cell _ _ _ _ _ h).elim

/-- NOT_READY (R52). -/
theorem State.notReady_answers (s : State) (l : Letter) : (s.notReady l).mem = s.mem ∧ (s.notReady l).kept = s.kept ∧
    (s.notReady l).replies = s.replies ++
      (if l.hdr.reply = .none then [] else [{ dest := l.hdr.reply, op := l.op, tag := l.hdr.tag, status := 0x30, data := [] }]) ∧
    ((s.notReady l).rd 0x20002C).toNat = min (2 ^ 32 - 1) ((s.rd 0x20002C).toNat + 1) := by
  unfold State.notReady
  dsimp only
  generalize hu : (s.bump 0x20002C).raise _ _ _ _ _ = u
  have hkeep {α : Type} (F : State → α) (hF : ∀ (s : State) r e, F { s with regs := r, evl := e } = F s) : F u = F s := by
    rw [← hu, State.raise_keeps F hF]
    exact hF s _ s.evl
  obtain ⟨R, h⟩ := u.reply_frame l 0x30 []
  refine ⟨?_, ?_, ?_, ?_⟩
  · rw [h]; exact hkeep State.mem fun _ _ _ => rfl
  · rw [h]; exact hkeep State.kept fun _ _ _ => rfl
  · rw [State.reply_replies, hkeep State.replies fun _ _ _ => rfl]
    rfl
  · rw [h]
    show (u.rd 0x20002C).toNat = _
    rw [← hu, State.rd_raise _ _ _ _ _ _ _ _ (by decide), State.rd_bump, if_pos rfl, BitVec.toNat_ofNat, satAdd]
    omega

theorem State.startWake_queue (s : State) (c : Nat) : ((s.startWake c).cl c).queue = (s.cl c).queue := by
  unfold State.startWake
  split
  · rw [State.setF_cl, State.cl_setCl_self]
  · rfl

/-- A letter that a router keeps stands last in its queue. -/
theorem State.enqueue_queue (s : State) (c : Nat) (l : Letter) (ecc : Ecc) (hit : Bool) : (s.enqueue c l ecc hit).mem = s.mem ∧
    (s.enqueue c l ecc hit).replies = s.replies ∧ ((s.enqueue c l ecc hit).cl c).queue = (s.cl c).queue ++ [(l, ecc)] := by
  unfold State.enqueue
  dsimp only
  generalize hu : s.setCl c { s.cl c with queue := (s.cl c).queue ++ [(l, ecc)] } = u
  have hq : u.mem = s.mem ∧ u.replies = s.replies ∧ (u.cl c).queue = (s.cl c).queue ++ [(l, ecc)] := by
    rw [← hu, State.cl_setCl_self]
    exact ⟨rfl, rfl, rfl⟩
  split
  · obtain ⟨R, C, hframe⟩ := u.startWake_frame c
    exact ⟨by rw [hframe]; exact hq.1, by rw [hframe]; exact hq.2.1, (u.startWake_queue c).trans hq.2.2⟩
  · exact hq

end Sys2Proof.Machine

namespace Sys2Proof.Machine

open Sys2Proof.Bits Sys2Proof.Safety

/-! ### Letters that nothing serves (R36, R38, R52, R53) -/

/-- The letter completes with a status, and no byte of memory or KEPT changes. -/
def Answered (s t : State) (h : Hdr) (op : LOp) (status : Nat) : Prop := t.mem = s.mem ∧ t.kept = s.kept ∧
  t.replies = s.replies ++ if h.reply = .none then [] else [{ dest := h.reply, op := op, tag := h.tag, status := status, data := [] }]

theorem Delivered.answered {s u t : State} {h : Hdr} {op : LOp} {status : Nat} (hu : Delivered s u) (ha : Answered u t h op status) :
    Answered s t h op status := by
  obtain ⟨N, W, R, V, rfl⟩ := hu.frame
  exact ha

theorem State.reply_answered (s : State) (l : Letter) (status : Nat) : Answered s (s.reply l status) l.hdr l.op status := by
  obtain ⟨R, h⟩ := s.reply_frame l status []
  refine ⟨by rw [h], by rw [h], ?_⟩
  rw [State.reply_replies, ite_self]

theorem Answered.of_appliedAt {s t : State} {x : Target} {h : Hdr} {op : LOp} {status : Nat} (ha : Answered (s.appliedAt x) t h op status) :
    Answered s t h op status := by
  obtain ⟨C, hframe⟩ := s.appliedAt_frame x
  rw [hframe] at ha
  exact ha

theorem State.notReady_answered (s : State) (l : Letter) : Answered s (s.notReady l) l.hdr l.op 0x30 := by
  obtain ⟨hmem, hkept, hreplies, -⟩ := s.notReady_answers l
  exact ⟨hmem, hkept, hreplies⟩

theorem window_of_part {t : Target} {p : Nat} (h : t.part? = some p) : t.isWindow = false := by
  cases t <;> cases h <;> rfl

end Sys2Proof.Machine

open Sys2Proof Sys2Proof.Machine Sys2Proof.Safety Sys2Proof.Bits in
/-- Settles O21: the letter leaves the network (`unflight_delivered`), and its target answers it or its router keeps it. -/
theorem lettersNotServed : Obligations.LettersNotServed := by
  intro s h data a ends hwait h1 h2 h3 htelem
  have hput : execPut h data s = .next (s.letterIn { op := .put, hdr := h, len := data.length, data := data } .clean) :=
    (execPut_eq htelem).trans (congrArg Host.Outcome.next (State.letterCmd_ok (letterOk_ordinary rfl ⟨h1, h2, h3⟩)))
  have hget : execGet h data.length .clean s = .next (s.letterIn { op := .get, hdr := h, len := data.length, data := [] } .clean) :=
    congrArg Host.Outcome.next (State.letterCmd_ok (letterOk_ordinary rfl ⟨h1, h2, h3⟩))
  refine ⟨fun ht => ?_, fun p o ht hretr => ?_, fun p hp hheld hsender hready => ?_, fun n off ht hdead hheld hman => ?_⟩
  · have arrives (l : Letter) (hl : l.hdr = h) : s.letterIn l .clean = (s.unflight l.op l.hdr).notReady l := by
      have ht' : target l.hdr.addr.toNat = .nothing := hl ▸ ht
      rw [State.letterIn_arrives (hl ▸ hwait l.op) (by rw [ht']; rfl) (fun p o e => by rw [ht'] at e; cases e), State.arriveLetter_nothing ht']
    refine ⟨⟨_, hput, ?_⟩, ⟨_, hget, ?_⟩, _, hput, ?_⟩
    · rw [arrives _ rfl]
      exact (State.unflight_delivered ..).answered (State.notReady_answered ..)
    · rw [arrives _ rfl]
      exact (State.unflight_delivered ..).answered (State.notReady_answered ..)
    · rw [arrives _ rfl, ← (s.unflight_delivered .put h).rd 0x20002C (by decide) (by decide)]
      exact (State.notReady_answers ..).2.2.2
  · refine ⟨_, hput, ?_⟩
    rw [State.letterIn_retrains (hwait .put) ht hretr]
    obtain ⟨N, W, R, V, hframe⟩ := (s.unflight_delivered .put h).frame
    rw [hframe]
    exact ⟨rfl, rfl, rfl⟩
  · have arrives (l : Letter) (hl : l.hdr = h) (hlen : l.len = data.length) : s.letterIn l .clean = (s.unflight l.op l.hdr).reply l 3 := by
      have hp' : (target l.hdr.addr.toNat).part? = some p := hl ▸ hp
      have hheld' : (s.unflight l.op l.hdr).held p = true := by
        obtain ⟨N, W, R, V, hframe⟩ := (s.unflight_delivered l.op l.hdr).frame
        rw [hframe]
        exact hheld
      have hready' (p' o : Nat) (e : target l.hdr.addr.toNat = .dram p' o) : s.retrains p' o l.len = false := by
        rw [e] at hp'
        cases hp'
        rw [hl] at e
        rw [hlen]
        exact hready o e
      rw [State.letterIn_arrives (hl ▸ hwait l.op) (window_of_part hp') hready', State.arriveLetter_reset hp' hheld' (hl ▸ hsender)]
    refine ⟨⟨_, hput, ?_⟩, _, hget, ?_⟩
    · rw [arrives _ rfl rfl]
      exact (State.unflight_delivered ..).answered (State.reply_answered ..)
    · rw [arrives _ rfl rfl]
      exact (State.unflight_delivered ..).answered (State.reply_answered ..)
  · have hcl : clusterOf n < 640 := target_cell_cluster ht
    have hu := s.unflight_delivered .put h
    have hstate := hu.cstate hcl
    have hprog : (s.unflight .put h).f (Reg.MAN_STATUS_STATE (partOf n)) = s.f (Reg.MAN_STATUS_STATE (partOf n)) :=
      have hp : partOf n < 32 := by unfold partOf; unfold clusterOf at hcl; omega
      congrArg (fun w => fld w 0 2) (hu.rd (0x400100 + 4 * partOf n) (by omega) (by omega))
    have hin := State.letterIn_arrives (s := s) (l := { op := .put, hdr := h, len := data.length, data := data }) (ecc := .clean) (hwait .put)
      (by rw [ht]; rfl) (fun p o e => by rw [ht] at e; cases e)
    have hparts : (s.unflight .put h).held (partOf n) = false ∧ (s.unflight .put h).deadCells.contains n = false ∧
        ((s.unflight .put h).manOf (partOf n)).isSome = true := by
      obtain ⟨N, W, R, V, hframe⟩ := hu.frame
      rw [hframe]
      exact ⟨hheld, hdead, hman⟩
    have hunder := hu.underContext n
    generalize s.unflight .put h = u at *
    obtain ⟨huheld, hudead, human⟩ := hparts
    have hcell (hc : s.cstate (clusterOf n) ≠ 3) := State.arriveLetter_cell (s := u)
      (l := { op := .put, hdr := h, len := data.length, data := data }) (ecc := .clean) ht huheld hudead (.inr human) (by rwa [hstate])
    refine ⟨fun hc hoff hsender hun => ⟨_, hput, ?_⟩, fun hc => ⟨_, hput, ?_⟩⟩
    · have htakes : u.takesProgram n h.sender = false := by
        unfold State.takesProgram
        rw [hprog, huheld]
        rcases hsender with h | h <;> simp [h]
      have hawake : ¬ (s.cstate (clusterOf n) = 0 ∨ s.cstate (clusterOf n) = 1) := by omega
      have harrive := (hcell (by omega)).trans ((if_neg (hstate ▸ hawake)).trans (State.applyLetter_locked ht (hunder.trans hun) hoff htakes rfl))
      rw [hin, harrive, State.met_silent]
      exact hu.answered ((State.reply_answered ..).of_appliedAt)
    · rw [hin, hcell (by omega), hstate, if_pos hc]
      obtain ⟨hmem, hreplies, hqueue⟩ := u.enqueue_queue (clusterOf n) { op := .put, hdr := h, len := data.length, data := data } .clean
        (u.hits { op := .put, hdr := h, len := data.length, data := data })
      obtain ⟨N, W, R, V, hframe⟩ := hu.frame
      refine ⟨hmem.trans ?_, hreplies.trans ?_, hqueue.trans ?_⟩
      · rw [hframe]
      · rw [hframe]
      · rw [hframe]; rfl

namespace Sys2Proof.Machine

open Sys2Proof.Bits Sys2Proof.Safety

/-! ### A letter that a memory serves (R36, R46, R52) -/

theorem target_shared {a c o : Nat} (h : target a = .shared c o) : c < 640 ∧ a / 2 ^ 46 % 4 = 1 := by
  unfold target at h
  split_ifs at h with h1 h2 h3 h4 h5 h6
  · simp only [Target.shared.injEq] at h
    obtain ⟨rfl, -⟩ := h
    simp only [aPart, aCluster, aSpace] at *
    omega
  · unfold ctlTarget at h
    split_ifs at h

theorem target_dram {a p o : Nat} (h : target a = .dram p o) : a / 2 ^ 46 % 4 = 2 := by
  unfold target at h
  split_ifs at h with h1 h2 h3 h4 h5 h6
  · exact h2
  · unfold ctlTarget at h
    split_ifs at h

/-- The memory behind a target is there and its partition not in reset; its cluster runs. -/
structure State.serveable (s : State) (sender : Sender) (t : Target) : Prop where
  memory : (∃ n off, t = .cell n off ∧ off < 0x800 ∧ s.underContext n = false) ∨ (∃ c o, t = .shared c o) ∨ ∃ p o, t = .dram p o
  named : s.namesNothing t sender = false
  held : ∀ p, t.part? = some p → s.held p = false
  runs : ∀ c, t.cluster? = some c → c < 640 ∧ s.cstate c = 2

theorem unknown_false {m : Option Man} {sender : Sender} (h : sender = postmaster ∨ m.isSome = true) :
    (m.isNone && sender != postmaster) = false := by
  rcases h with rfl | h
  · simp
  · rw [Option.isNone_eq_false_iff.2 h, Bool.false_and]

theorem serves_serving {s : State} {sender : Sender} {a : Nat} (h : Safety.serves s sender a = true) : s.serveable sender (target a) := by
  unfold Safety.serves at h
  cases ht : target a with
  | cell n off =>
    simp only [ht, Target.part?, Target.cluster?, Bool.and_eq_true, Bool.or_eq_true, Bool.not_eq_true', decide_eq_true_eq] at h
    obtain ⟨⟨⟨⟨hoff, hdead⟩, hunder⟩, hheld, hman⟩, hruns⟩ := h
    refine ⟨.inl ⟨n, off, rfl, hoff, hunder⟩, ?_, fun p e => ?_, fun c e => ?_⟩
    · unfold State.namesNothing
      simp only [Target.part?, unknown_false hman, hdead, hruns]
      rfl
    · cases e; exact hheld
    · cases e; exact ⟨target_cell_cluster ht, hruns⟩
  | shared c o =>
    simp only [ht, Target.part?, Target.cluster?, Bool.true_and, Bool.and_eq_true, Bool.or_eq_true, Bool.not_eq_true', decide_eq_true_eq] at h
    obtain ⟨⟨hheld, hman⟩, hruns⟩ := h
    refine ⟨.inr (.inl ⟨c, o, rfl⟩), ?_, fun p e => ?_, fun c e => ?_⟩
    · unfold State.namesNothing
      simp only [Target.part?, unknown_false hman, hruns]
      rfl
    · cases e; exact hheld
    · cases e; exact ⟨(target_shared ht).1, hruns⟩
  | dram p o =>
    simp only [ht, Target.part?, Target.cluster?, Bool.and_true, Bool.and_eq_true, Bool.or_eq_true, Bool.not_eq_true', decide_eq_true_eq] at h
    obtain ⟨⟨hstaging, hledger⟩, hheld, hman⟩ := h
    refine ⟨.inr (.inr ⟨p, o, rfl⟩), ?_, fun p e => ?_, fun c e => ?_⟩
    · unfold State.namesNothing
      simp only [Target.part?, unknown_false hman, hstaging, hledger]
      rfl
    · cases e; exact hheld
    · cases e
  | cellCtl _ _ | clCtl _ _ | setpoint _ _ | loopStatus _ _ | actuator _ _ | balance _ _ | request _ | estimate _ | publication _ | nothing =>
    simp [ht] at h

section serveable

variable {s u : State} {sender : Sender} {t : Target}

theorem State.serveable.takes (h : s.serveable sender t) (l : Letter) : s.takes t l := by
  rcases h.memory with ⟨n, off, rfl, hoff, hunder⟩ | hmem
  · exact .inl ⟨n, off, rfl, hunder, .inl hoff⟩
  · exact .inr hmem

theorem State.serveable.window (h : s.serveable sender t) : t.isWindow = false := by
  rcases h.memory with ⟨n, off, rfl, -, -⟩ | ⟨c, o, rfl⟩ | ⟨p, o, rfl⟩
  · rfl
  · rfl
  · rfl

/-- A letter that leaves the network changes nothing of what serves it. -/
theorem Delivered.serveable (hu : Delivered s u) (h : s.serveable sender t) : u.serveable sender t := by
  have hcs (c : Nat) (hc : t.cluster? = some c) : u.cstate c = s.cstate c := hu.cstate (h.runs c hc).1
  have hnamed : u.namesNothing t sender = s.namesNothing t sender := by
    obtain ⟨N, W, R, V, hframe⟩ := hu.frame
    rcases h.memory with ⟨n, off, rfl, -, -⟩ | ⟨c, o, rfl⟩ | ⟨p, o, rfl⟩
    · unfold State.namesNothing
      simp only [hcs _ rfl]
      rw [hframe]
      rfl
    · unfold State.namesNothing
      simp only [hcs _ rfl]
      rw [hframe]
      rfl
    · rw [hframe]
      rfl
  refine ⟨?_, hnamed.trans h.named, fun p hp => ?_, fun c hc => ⟨(h.runs c hc).1, (hcs c hc).trans (h.runs c hc).2⟩⟩
  · rcases h.memory with ⟨n, off, rfl, hoff, hunder⟩ | hmem
    · exact .inl ⟨n, off, rfl, hoff, (hu.underContext n).trans hunder⟩
    · exact .inr hmem
  · obtain ⟨N, W, R, V, hframe⟩ := hu.frame
    rw [hframe]
    exact h.held p hp

theorem State.arriveLetter_serveable {l : Letter} {ecc : Ecc} (ht : target l.hdr.addr.toNat = t) (h : s.serveable l.hdr.sender t) :
    s.arriveLetter l ecc = s.applyLetter l ecc := by
  have awake {c : Nat} (hc : t.cluster? = some c) : ¬ (s.cstate c = 0 ∨ s.cstate c = 1) := by
    have := (h.runs c hc).2
    omega
  unfold State.arriveLetter
  dsimp only
  rw [ht, h.named]
  rcases h.memory with ⟨n, off, rfl, -, -⟩ | ⟨c, o, rfl⟩ | ⟨p, o, rfl⟩
  · simp only [Target.part?, Target.cluster?, h.held _ rfl, awake rfl, reduceCtorEq, Bool.false_and, Bool.false_eq_true, if_false]
  · simp only [Target.part?, Target.cluster?, h.held _ rfl, awake rfl, reduceCtorEq, Bool.false_and, Bool.false_eq_true, if_false]
  · simp only [Target.part?, Target.cluster?, h.held _ rfl, reduceCtorEq, Bool.false_and, Bool.false_eq_true, if_false]

end serveable

/-- The state in which a memory serves the letter: memory, KEPT and the replies are as before. -/
structure Reached (s v : State) : Prop where
  undisturbed : Undisturbed s v
  mem : v.mem = s.mem
  kept : v.kept = s.kept
  replies : v.replies = s.replies

/-- A letter that a memory serves is served in a state that keeps memory and replies. -/
theorem State.letterCmd_served {s : State} {op : LOp} {h : Hdr} {len : Nat} {d : Bytes} {ecc : Ecc} (hok : letterOk op h.addr.toNat len = true)
    (hwait : s.mustWait op h = false) (hserves : s.serveable h.sender (target h.addr.toNat))
    (hready : ∀ p o, target h.addr.toNat = .dram p o → s.retrains p o len = false)
    (hstore : ∀ n off, target h.addr.toNat = .cell n off → s.unstored n) (hecc : op = .put ∨ ecc ≠ .uncorrectable) :
    ∃ v, Reached s v ∧ s.letterCmd op h len d ecc = v.serve (target h.addr.toNat) { op := op, hdr := h, len := len, data := d } := by
  have hu := s.unflight_delivered op h
  have hu' := hu.serveable hserves
  refine ⟨_, ?_, (State.letterCmd_ok hok).trans ((State.letterIn_arrives hwait hserves.window hready).trans
    ((State.arriveLetter_serveable rfl hu').trans (State.applyLetter_serve rfl (hu'.takes _) (fun n off e => hu.unstored (hstore n off e)) hecc)))⟩
  have hund := hu.undisturbed.trans (.met _ (target h.addr.toNat) (op != .put) ecc)
  obtain ⟨R', C, hmet⟩ := (s.unflight op h).met_frame (target h.addr.toNat) (op != .put) ecc
  obtain ⟨N, W, R, V, hframe⟩ := hu.frame
  refine ⟨hund, ?_, ?_, ?_⟩
  · show (State.met _ _ _ _).mem = _
    rw [hmet, hframe]
  · show (State.met _ _ _ _).kept = _
    rw [hmet, hframe]
  · show (State.met _ _ _ _).replies = _
    rw [hmet, hframe]

/-- The letter's reply has left, with a status and data; or none was asked for. -/
def Replied (s t : State) (h : Hdr) (op : LOp) (status : Nat) (d : Bytes) : Prop := t.replies = s.replies ++
  if h.reply = .none then [] else [{ dest := h.reply, op := op, tag := h.tag, status := status, data := d }]

theorem State.readFor_memory (s : State) (t : Target) (a len : Nat) : s.readFor t a len false = s.rdMem a len := by
  unfold State.readFor
  split <;> rfl

theorem State.rdKeptN_congr {s t : State} (h : t.kept = s.kept) (a n : Nat) : t.rdKeptN a n = s.rdKeptN a n := by
  induction n generalizing a with
  | zero => rfl
  | succ n ih => rw [State.rdKeptN, State.rdKeptN, ih, State.rdKept, State.rdKept, h]

/-- What a GET of a served target reads: in a cell's state window the KEPT bank (R67). -/
theorem State.readFor_get {s w : State} {sender : Sender} {a : Nat} (ha : a < 2 ^ 48) (h : w.serveable sender (target a)) (len : Nat) :
    s.readFor (target a) a len true = if a / 2 ^ 46 % 4 = 0 ∧ a % 2 ^ 27 < 256 then s.rdKeptN a len else s.rdMem a len := by
  rcases h.memory with ⟨n, off, ht, -, -⟩ | ⟨c, o, ht⟩ | ⟨p, o, ht⟩
  · obtain ⟨-, hspace, hoff⟩ := target_cell ht ha
    rw [ht, ← hoff]
    simp only [State.readFor, hspace, Bool.true_and, decide_eq_true_eq, true_and]
  · have := (target_shared ht).2
    rw [ht, if_neg (by omega)]
    rfl
  · have := target_dram ht
    rw [ht, if_neg (by omega)]
    rfl

section serve

variable {s v : State} {h : Hdr} {op : LOp} {len n : Nat} {d : Bytes}

theorem Reached.reply (hv : Reached s v) {u : State} (hu : u.replies = v.replies) (l : Letter) (st : Nat) (b : Bytes) :
    Replied s (u.reply l st b) l.hdr l.op st (if st = 0 ∧ l.op ≠ .put then b else []) :=
  (State.reply_replies ..).trans (by rw [hu, hv.replies])

/-- The bytes d stand at the address, and every other byte is as before. -/
theorem Reached.bytes (hv : Reached s v) (b : Bytes) (l : Letter) (st : Nat) (r : Bytes) :
    (∀ (j : Nat) (hj : j < b.length), ((v.writeFor (target h.addr.toNat) h.addr.toNat b).reply l st r).rdByte (h.addr.toNat + j) = b[j]) ∧
    ∀ y, (y < h.addr.toNat ∨ h.addr.toNat + b.length ≤ y) →
      ((v.writeFor (target h.addr.toNat) h.addr.toNat b).reply l st r).rdByte y = s.rdByte y := by
  have hw (y : Nat) : ((v.writeFor (target h.addr.toNat) h.addr.toNat b).reply l st r).rdByte y = (v.wrMem h.addr.toNat b).rdByte y := by
    rw [State.reply_rdByte, State.writeFor_rdByte (target_names (by omega))]
  refine ⟨fun j hj => (hw _).trans (State.rdByte_wrMem_inside ..), fun y hy => (hw y).trans ((State.rdByte_wrMem_outside _ _ _ _ hy).trans ?_)⟩
  rw [State.rdByte, hv.mem]
  rfl

theorem Reached.put (hv : Reached s v) : let t := v.serve (target h.addr.toNat) { op := .put, hdr := h, len := d.length, data := d }
    Undisturbed s t ∧ Replied s t h .put 0 [] ∧ (∀ (j : Nat) (hj : j < d.length), t.rdByte (h.addr.toNat + j) = d[j]) ∧
    ∀ y, (y < h.addr.toNat ∨ h.addr.toNat + d.length ≤ y) → t.rdByte y = s.rdByte y := by
  intro t
  refine ⟨hv.undisturbed.trans (Served.serve ..).undisturbed, ?_⟩
  rw [show t = _ from State.serve_put _ _ rfl]
  exact ⟨hv.reply (State.writeFor_replies ..) .., hv.bytes ..⟩

theorem Reached.reads (hv : Reached s v) (t : Target) (l : Letter) (hop : l.op ≠ .put) (b : Bytes) :
    Replied s ((v.readAt t len).reply l 0 b) l.hdr l.op 0 b ∧ ((v.readAt t len).reply l 0 b).mem = s.mem ∧
    ((v.readAt t len).reply l 0 b).kept = s.kept := by
  obtain ⟨hmem, hkept, hreplies⟩ := v.readAt_mem t len
  have hr := hv.reply hreplies l 0 b
  rw [if_pos ⟨rfl, hop⟩] at hr
  obtain ⟨R, h⟩ := (v.readAt t len).reply_frame l 0 b
  exact ⟨hr, by rw [h]; exact hmem.trans hv.mem, by rw [h]; exact hkept.trans hv.kept⟩

theorem Reached.get (hv : Reached s v) (hs : s.serveable h.sender (target h.addr.toNat)) :
    let t := v.serve (target h.addr.toNat) { op := .get, hdr := h, len := len, data := d }
    (Undisturbed s t ∧ t.mem = s.mem ∧ t.kept = s.kept) ∧ Replied s t h .get 0
      (if h.addr.toNat / 2 ^ 46 % 4 = 0 ∧ h.addr.toNat % 2 ^ 27 < 256 then s.rdKeptN h.addr.toNat len else s.rdMem h.addr.toNat len) := by
  intro t
  obtain ⟨hr, hmem, hkept⟩ := hv.reads (len := len) (target h.addr.toNat) { op := .get, hdr := h, len := len, data := d } nofun
    (v.readFor (target h.addr.toNat) h.addr.toNat len true)
  have hread := v.readFor_get (by omega) hs len
  rw [State.rdKeptN_congr hv.kept, State.rdMem_congr hv.mem] at hread
  rw [← hread]
  exact ⟨⟨hv.undisturbed.trans (Served.serve ..).undisturbed, hmem, hkept⟩, hr⟩

section serve_atomic

variable {v : State} {l : Letter}

/-- An atomic letter reads the old value, and writes its result (R51). -/
theorem State.serve_result (hop : LOp.atomic l.op = true) {n : Nat}
    (hn : atomicResult l.op l.len (le (v.rdMem l.hdr.addr.toNat l.len) 0 l.len) (le l.data 0 l.len) (le l.data l.len l.len) = some n) :
    v.serve (target l.hdr.addr.toNat) l =
      (v.writeFor (target l.hdr.addr.toNat) l.hdr.addr.toNat (toLe l.len n)).reply l 0 (v.rdMem l.hdr.addr.toNat l.len) := by
  have hput : l.op ≠ .put := fun e => by rw [e] at hop; cases hop
  have hget : l.op ≠ .get := fun e => by rw [e] at hop; cases hop
  unfold State.serve
  dsimp only
  rw [if_neg hput, if_neg hget, decide_eq_false hget, State.readFor_memory, hn]

/-- A compare that does not find its value writes nothing. -/
theorem State.serve_noResult (hop : LOp.atomic l.op = true)
    (hn : atomicResult l.op l.len (le (v.rdMem l.hdr.addr.toNat l.len) 0 l.len) (le l.data 0 l.len) (le l.data l.len l.len) = none) :
    v.serve (target l.hdr.addr.toNat) l = (v.readAt (target l.hdr.addr.toNat) l.len).reply l 0 (v.rdMem l.hdr.addr.toNat l.len) := by
  have hput : l.op ≠ .put := fun e => by rw [e] at hop; cases hop
  have hget : l.op ≠ .get := fun e => by rw [e] at hop; cases hop
  unfold State.serve
  dsimp only
  rw [if_neg hput, if_neg hget, decide_eq_false hget, State.readFor_memory, hn]

end serve_atomic

/-- The letter has written n, len bytes wide, and answers the old value. -/
def Wrote (s t : State) (h : Hdr) (op : LOp) (len n : Nat) : Prop := Undisturbed s t ∧ Replied s t h op 0 (s.rdMem h.addr.toNat len) ∧
  (∀ j, j < len → t.rdByte (h.addr.toNat + j) = BitVec.ofNat 8 (n / 2 ^ (8 * j))) ∧
  ∀ y, (y < h.addr.toNat ∨ h.addr.toNat + len ≤ y) → t.rdByte y = s.rdByte y

theorem getElem_toLe {w n j : Nat} (h : j < (toLe w n).length) : (toLe w n)[j] = BitVec.ofNat 8 (n / 2 ^ (8 * j)) := by
  have hb := byteAt_toLe w n j (by rwa [toLe_length] at h)
  rw [byteAt, List.getD_eq_getElem _ _ h] at hb
  rw [hb, Nat.pow_mul]

theorem Reached.writes (hv : Reached s v) (hop : LOp.atomic op = true)
    (hn : atomicResult op len (le (s.rdMem h.addr.toNat len) 0 len) (le d 0 len) (le d len len) = some n) :
    Wrote s (v.serve (target h.addr.toNat) { op := op, hdr := h, len := len, data := d }) h op len n := by
  have hput : op ≠ .put := fun e => by rw [e] at hop; cases hop
  have hmem := State.rdMem_congr hv.mem h.addr.toNat len
  have hund : Undisturbed s (v.serve (target h.addr.toNat) { op := op, hdr := h, len := len, data := d }) :=
    hv.undisturbed.trans (Served.serve ..).undisturbed
  have hserve := State.serve_result (v := v) (l := { op := op, hdr := h, len := len, data := d }) hop (n := n) (by rwa [hmem])
  have hr := hv.reply (u := v.writeFor (target h.addr.toNat) h.addr.toNat (toLe len n)) (State.writeFor_replies ..)
    { op := op, hdr := h, len := len, data := d } 0 (s.rdMem h.addr.toNat len)
  obtain ⟨hin, hout⟩ := hv.bytes (h := h) (toLe len n) { op := op, hdr := h, len := len, data := d } 0 (s.rdMem h.addr.toNat len)
  rw [if_pos ⟨rfl, hput⟩] at hr
  rw [toLe_length] at hout
  dsimp only at hserve
  rw [hmem] at hserve
  rw [hserve] at hund ⊢
  exact ⟨hund, hr, fun j hj => (hin j (by rwa [toLe_length])).trans (getElem_toLe _), hout⟩

theorem Reached.compares (hv : Reached s v) (hop : LOp.atomic op = true)
    (hn : atomicResult op len (le (s.rdMem h.addr.toNat len) 0 len) (le d 0 len) (le d len len) = none) :
    let t := v.serve (target h.addr.toNat) { op := op, hdr := h, len := len, data := d }
    (Undisturbed s t ∧ t.mem = s.mem ∧ t.kept = s.kept) ∧ Replied s t h op 0 (s.rdMem h.addr.toNat len) := by
  intro t
  have hput : op ≠ .put := fun e => by rw [e] at hop; cases hop
  have hmem := State.rdMem_congr hv.mem h.addr.toNat len
  have hund : Undisturbed s t := hv.undisturbed.trans (Served.serve ..).undisturbed
  have hserve : t = _ := State.serve_noResult (v := v) (l := { op := op, hdr := h, len := len, data := d }) hop (by rwa [hmem])
  dsimp only at hserve
  rw [hmem] at hserve
  obtain ⟨hr, hm, hkept⟩ := hv.reads (len := len) (target h.addr.toNat) { op := op, hdr := h, len := len, data := d } hput
    (s.rdMem h.addr.toNat len)
  rw [hserve] at hund ⊢
  exact ⟨⟨hund, hm, hkept⟩, hr⟩

end serve

/-! ### The numbers that atomic letters carry -/

theorem le_toLe (w v : Nat) : le (toLe w v) 0 w = v % 2 ^ (8 * w) := by
  have h := le_toLe_append w v []
  rwa [List.append_nil, show (256 : Nat) = 2 ^ 8 from rfl, ← Nat.pow_mul] at h

theorem le_toLe_pair (w x y : Nat) : le (toLe w x ++ toLe w y) 0 w = x % 2 ^ (8 * w) ∧ le (toLe w x ++ toLe w y) w w = y % 2 ^ (8 * w) := by
  constructor
  · rw [le_toLe_append, show (256 : Nat) = 2 ^ 8 from rfl, ← Nat.pow_mul]
  · exact (le_append_right (k := 0) w (toLe_length w x)).trans (le_toLe w y)

/-- The signed number of a pattern (R51). -/
theorem sint_of_lt {n v : Nat} (h : v < 2 ^ n) : sint n v = (v : Int) - if 2 ^ (n - 1) ≤ v then 2 ^ n else 0 := by
  rw [sint, Nat.mod_eq_of_lt h]
  by_cases hv : v < 2 ^ (n - 1)
  · rw [if_pos hv, if_neg (by omega), Int.sub_zero]
  · rw [if_neg hv, if_pos (by omega)]

/-! ### An atomic letter that meets an uncorrectable error, and a store of the same cycle (R35, R55) -/

theorem State.letterCmd_lost {s : State} {op : LOp} {h : Hdr} {len : Nat} {d : Bytes} {ecc : Ecc} (hok : letterOk op h.addr.toNat len = true)
    (hwait : s.mustWait op h = false) (hserves : s.serveable h.sender (target h.addr.toNat))
    (hready : ∀ p o, target h.addr.toNat = .dram p o → s.retrains p o len = false) (hop : op ≠ .put) (hecc : ecc = .uncorrectable) :
    ∃ v, Reached s v ∧ s.letterCmd op h len d ecc = v.reply { op := op, hdr := h, len := len, data := d } 2 := by
  have hu := s.unflight_delivered op h
  have hu' := hu.serveable hserves
  refine ⟨_, ?_, (State.letterCmd_ok hok).trans ((State.letterIn_arrives hwait hserves.window hready).trans
    ((State.arriveLetter_serveable rfl hu').trans (State.applyLetter_lost rfl hu'.memory hop hecc)))⟩
  generalize s.unflight op h = u at *
  obtain ⟨C, happlied⟩ := u.appliedAt_frame (target h.addr.toNat)
  have hmet : Undisturbed u (u.appliedAt (target h.addr.toNat)) := .met u _ false .clean
  rw [State.met_silent]
  generalize u.appliedAt (target h.addr.toNat) = v at *
  have hnote (W : Twn) : Delivered v { v with twn := W } := ⟨⟨_, _, _, _, rfl⟩, fun _ _ _ => rfl⟩
  have hraise := (hnote { v.twn with eccAt := some v.beatN }).trans (.raise _ 0x0103 (h.addr.toNat % 4294967296) (h.addr.toNat / 4294967296)
    (senderIdent h.sender) (State.beatLo { v with twn := { v.twn with eccAt := some v.beatN } }) 0xFFF 0)
  obtain ⟨N, W, R, V, hframe⟩ := hu.frame
  obtain ⟨N', W', R', V', hframe'⟩ := hraise.frame
  refine ⟨(hu.undisturbed.trans hmet).trans hraise.undisturbed, ?_, ?_, ?_⟩
  · rw [hframe', happlied, hframe]
  · rw [hframe', happlied, hframe]
  · rw [hframe', happlied, hframe]

theorem State.undoStore_frame (s : State) (n : Nat) : ∃ M, s.undoStore n = { s with mem := M } := by
  unfold State.undoStore
  split
  · split <;> exact ⟨_, rfl⟩
  · exact ⟨_, rfl⟩

theorem State.redoStore_replies (s : State) (n : Nat) : (s.redoStore n).replies = s.replies := by
  unfold State.redoStore
  split
  · split <;> rfl
  · rfl

/-- The store made again stands in memory. -/
theorem State.redoStore_rdByte {s : State} {n off j : Nat} {old new : Bytes} (h : (s.cell n).stored = some (s.now, off, old, new))
    (hj : j < new.length) : (s.redoStore n).rdByte (cellAddr n off + j) = new[j] := by
  unfold State.redoStore
  rw [h]
  dsimp only
  rw [if_pos rfl, State.rdByte_wrMem_inside]

/-- A PUT to bytes that the cell stored in this cycle: the store stands. -/
theorem State.letterCmd_stored {s : State} {h : Hdr} {d old new : Bytes} {n off : Nat} (hok : letterOk .put h.addr.toNat d.length = true)
    (hwait : s.mustWait .put h = false) (ht : target h.addr.toNat = .cell n off) (hserves : s.serveable h.sender (.cell n off))
    (hstored : (s.cell n).stored = some (s.now, off, old, new)) : let t := s.letterCmd .put h d.length d .clean
    Undisturbed s t ∧ Replied s t h .put 0 [] ∧ ∀ (j : Nat) (hj : j < new.length), t.rdByte (h.addr.toNat + j) = new[j] := by
  have hu := s.unflight_delivered .put h
  have hu' := hu.serveable hserves
  have hmem : off < 0x800 ∧ (s.unflight .put h).underContext n = false := by
    rcases hu'.memory with ⟨n', off', e, hoff, hunder⟩ | ⟨c, o, e⟩ | ⟨p, o, e⟩
    · cases e; exact ⟨hoff, hunder⟩
    · cases e
    · cases e
  have hpath : s.letterCmd .put h d.length d .clean = _ := (State.letterCmd_ok hok).trans ((State.letterIn_arrives hwait
    (by rw [ht]; exact hserves.window) (fun p o e => by rw [ht] at e; cases e)).trans
    ((State.arriveLetter_serveable (t := .cell n off) ht hu').trans (State.applyLetter_cell ht hmem.2 (.inl hmem.1) (.inl rfl))))
  intro t
  have hund := hu.undisturbed.trans (.met _ (.cell n off) (LOp.put != .put) .clean)
  obtain ⟨R', C, hmet⟩ := (s.unflight .put h).met_frame (.cell n off) (LOp.put != .put) .clean
  obtain ⟨N, W, R, V, hframe⟩ := hu.frame
  generalize hv : (s.unflight .put h).met (.cell n off) (LOp.put != .put) .clean = v at *
  obtain ⟨M, hundo⟩ := v.undoStore_frame n
  have hundone := (Served.undoStore v n).undisturbed
  have hcells : (v.undoStore n).cells = s.cells ∧ (v.undoStore n).replies = s.replies ∧ (v.undoStore n).now = s.now := by
    rw [hundo, hmet, hframe]
    exact ⟨rfl, rfl, rfl⟩
  generalize v.undoStore n = w at *
  obtain ⟨hcells, hreplies, hnow⟩ := hcells
  have hserved := (Served.serve w (.cell n off) { op := .put, hdr := h, len := d.length, data := d })
  have hst : ((w.serve (.cell n off) { op := .put, hdr := h, len := d.length, data := d }).cell n).stored = some (s.now, off, old, new) := by
    rw [State.serve_stored, ← hstored, State.cell, hcells]
    rfl
  have hnow' : (w.serve (.cell n off) { op := .put, hdr := h, len := d.length, data := d }).now = s.now := by
    obtain ⟨_, _, _, _, hf⟩ := hserved.frame
    rw [hf]
    exact hnow
  have hr : (w.serve (.cell n off) { op := .put, hdr := h, len := d.length, data := d }).replies = _ :=
    (congrArg State.replies (State.serve_put _ _ rfl)).trans (State.reply_replies ..)
  rw [show t = _ from hpath]
  refine ⟨((hund.trans hundone).trans hserved.undisturbed).trans (Served.redoStore ..).undisturbed, ?_, fun j hj => ?_⟩
  · refine (State.redoStore_replies ..).trans (hr.trans ?_)
    rw [State.writeFor_replies, hreplies]
    rfl
  · rw [← (target_cell ht (by omega)).1]
    exact State.redoStore_rdByte (by rw [hst, hnow']) hj

end Sys2Proof.Machine

open Sys2Proof Sys2Proof.Machine Sys2Proof.Safety Sys2Proof.Bits in
/-- Settles O20: a letter that its memory serves is served in a state that keeps memory and replies (`letterCmd_served`). -/
theorem lettersAtMemory : Obligations.LettersAtMemory := by
  intro s h data len wide v c ecc a w old x signed answers frame keeps writes noStore
  have hw : w = 4 ∨ w = 8 := by cases wide; exacts [.inl rfl, .inr rfl]
  have sized {op : LOp} (hop : LOp.atomic op = false) {n : Nat} (h1 : 1 ≤ n) (h2 : n ≤ 64) (h3 : a % 64 + n ≤ 64) : letterOk op a n = true :=
    letterOk_ordinary hop ⟨h1, h2, h3⟩
  have hframe {t : State} (hu : Undisturbed s t) : frame t := ⟨hu.cell, hu.envs, hu.parts, hu.acks, hu.rd⟩
  refine ⟨fun htelem hwait h1 h2 h3 => ?_, fun hwait hserves hready => ?_⟩
  · have hok := State.letterCmd_ok (s := s) (d := data) (ecc := .clean) (sized (op := .put) rfl h1 h2 h3)
    exact ⟨_, execPut_eq htelem, hok.trans (State.letterIn_waits hwait)⟩
  · have hs := serves_serving hserves
    have served {op : LOp} {n : Nat} (d : Bytes) {ecc : Ecc} (hok : letterOk op a n = true) (hno : noStore) (hecc : op = .put ∨ ecc ≠ .uncorrectable) :=
      State.letterCmd_served (d := d) hok (hwait op) hs (fun p o e => hready p o e n) hno hecc
    have aligned {op : LOp} (hop : LOp.atomic op = true) (ha : a % w = 0) : letterOk op a w = true := by
      unfold letterOk
      rw [if_pos hop, decide_eq_true hw, decide_eq_true ha]
      rfl
    refine ⟨fun hno h1 h2 h3 htelem => ?_, fun n off old new ht hst h1 h2 h3 _ _ htelem => ?_, fun hno h1 h2 h3 hecc => ?_,
      fun hno ha hecc => ?_, fun ha => ?_⟩
    · obtain ⟨u, hu, hcmd⟩ := served data (ecc := .clean) (sized (op := .put) rfl h1 h2 h3) hno (.inl rfl)
      obtain ⟨hund, hr, hbytes⟩ := hu.put (h := h) (d := data)
      exact ⟨_, (execPut_eq htelem).trans (congrArg Host.Outcome.next hcmd), hframe hund, hr, hbytes⟩
    · obtain ⟨hund, hr, hbytes⟩ := State.letterCmd_stored (d := data) (sized rfl h1 h2 h3) (hwait .put) ht (ht ▸ hs) hst
      exact ⟨_, execPut_eq htelem, hframe hund, hr, hbytes⟩
    · obtain ⟨u, hu, hcmd⟩ := served [] (sized (op := .get) rfl h1 h2 h3) hno (.inr hecc)
      obtain ⟨⟨hund, hkeep⟩, hr⟩ := hu.get (h := h) (len := len) (d := []) hs
      exact ⟨_, congrArg Host.Outcome.next hcmd, ⟨hframe hund, hkeep⟩, hr⟩
    · have result {i : Instr} {op : LOp} {d : Bytes} {n : Nat} (hop : LOp.atomic op = true) (hi : exec i s = .next (s.letterCmd op h w d ecc))
          (hn : atomicResult op w old (le d 0 w) (le d w w) = some n) : writes i op n := by
        obtain ⟨u, hu, hcmd⟩ := served d (aligned hop ha) hno (.inr hecc)
        obtain ⟨hund, hr, hbytes⟩ := hu.writes hop hn
        exact ⟨_, hi.trans (congrArg Host.Outcome.next hcmd), hframe hund, hr, hbytes⟩
      have hx : le (toLe w v.toNat) 0 w = x := le_toLe ..
      obtain ⟨hc, hv⟩ := le_toLe_pair w c.toNat v.toNat
      have hold : sint (8 * w) old = signed old := sint_of_lt (by
        have := leNum_lt (s.rdMem a w) 0 w
        rwa [show (256 : Nat) = 2 ^ 8 from rfl, ← Nat.pow_mul] at this)
      have hsx : sint (8 * w) x = signed x := sint_of_lt (Nat.mod_lt _ (Nat.two_pow_pos _))
      refine ⟨result (op := .add) (d := toLe w v.toNat) rfl rfl ?_, result (op := .swap) (d := toLe w v.toNat) rfl rfl ?_,
        result (op := .max) (d := toLe w v.toNat) rfl rfl ?_, result (op := .min) (d := toLe w v.toNat) rfl rfl ?_,
        fun h => result (op := .cas) (d := toLe w c.toNat ++ toLe w v.toNat) rfl rfl ?_, fun hne => ?_⟩
      · rw [hx]; rfl
      · rw [hx]; rfl
      · rw [hx, atomicResult, hold, hsx]
      · rw [hx, atomicResult, hold, hsx]
      · rw [hc, hv, atomicResult, if_pos h]
      · obtain ⟨u, hu, hcmd⟩ := served (op := .cas) (toLe w c.toNat ++ toLe w v.toNat) (aligned rfl ha) hno (.inr hecc)
        obtain ⟨⟨hund, hkeep⟩, hr⟩ := hu.compares (op := .cas) (h := h) (d := toLe w c.toNat ++ toLe w v.toNat) rfl
          (by rw [hc, hv, atomicResult, if_neg hne])
        exact ⟨_, congrArg Host.Outcome.next hcmd, ⟨hframe hund, hkeep⟩, hr⟩
    · obtain ⟨u, hu, hcmd⟩ := State.letterCmd_lost (op := .add) (d := toLe w v.toNat) (aligned rfl ha) (hwait .add) hs
        (fun p o e => hready p o e w) nofun rfl
      have hr := hu.reply rfl { op := .add, hdr := h, len := w, data := toLe w v.toNat } 2 []
      obtain ⟨R, hreply⟩ := u.reply_frame { op := .add, hdr := h, len := w, data := toLe w v.toNat } 2 []
      refine ⟨_, congrArg Host.Outcome.next hcmd, ⟨hframe (hu.undisturbed.trans (Served.reply ..).undisturbed), ?_, ?_⟩, ?_⟩
      · rw [hreply]; exact hu.mem
      · rw [hreply]; exact hu.kept
      · rwa [ite_self] at hr

namespace Sys2Proof.Machine

open Sys2Proof.Bits Sys2Proof.Safety

/-! ### The order of circulars (R57) -/

theorem insertCirc_split (k : Circ) (l : List Circ) (h : l.Pairwise fun a b => a.effect ≤ b.effect) :
    ∃ before after, l = before ++ after ∧ insertCirc k l = before ++ k :: after ∧
      (∀ d ∈ before, d.effect ≤ k.effect) ∧ ∀ d ∈ after, k.effect < d.effect := by
  induction l with
  | nil => exact ⟨[], [], rfl, rfl, nofun, nofun⟩
  | cons d r ih =>
    obtain ⟨hd, hr⟩ := List.pairwise_cons.1 h
    by_cases hk : k.effect < d.effect
    · refine ⟨[], d :: r, rfl, if_pos hk, nofun, fun e he => ?_⟩
      rcases List.mem_cons.1 he with rfl | he
      · exact hk
      · exact Nat.lt_of_lt_of_le hk (hd e he)
    · obtain ⟨before, after, hl, hi, hb, ha⟩ := ih hr
      refine ⟨d :: before, after, by rw [hl]; rfl, ?_, fun e he => ?_, ha⟩
      · rw [insertCirc, if_neg hk, hi]
        rfl
      · rcases List.mem_cons.1 he with rfl | he
        · omega
        · exact hb e he

/-! ### The presentation to the clusters (R57) -/

theorem Served.landCirc (s : State) (c : Nat) (k : Circ) : Served s (s.landCirc c k) :=
  List.foldlRecOn (s.cellsIn c) _ (Served.refl s) fun t ht e _ => by
    split
    · exact ht.trans (.land ..)
    · exact ht

/-- Clusters and the cells that take landings have changed, and nothing of the registers, the circulars, the partitions or the programs. -/
structure Presents (s t : State) : Prop where
  regs : t.regs = s.regs
  circs : t.circs = s.circs
  parts : t.parts = s.parts
  progs : t.progs = s.progs
  beat : t.beat = s.beat

theorem Presents.refl (s : State) : Presents s s := ⟨rfl, rfl, rfl, rfl, rfl⟩

theorem Presents.trans {s t u : State} (h : Presents s t) (h' : Presents t u) : Presents s u :=
  ⟨h'.regs.trans h.regs, h'.circs.trans h.circs, h'.parts.trans h.parts, h'.progs.trans h.progs, h'.beat.trans h.beat⟩

theorem Presents.cstate {s t : State} (h : Presents s t) (c : Nat) : t.cstate c = s.cstate c :=
  State.cstate_congr (congrArg (fun R : Tab Word => R.get (0x201000 + 4 * c) (resetWord (0x201000 + 4 * c))) h.regs)

theorem Served.presents {s t : State} (h : Served s t) : Presents s t := by
  obtain ⟨_, _, _, _, rfl⟩ := h.frame
  exact ⟨rfl, rfl, rfl, rfl, rfl⟩

theorem Presents.setCl (s : State) (c : Nat) (v : Cluster) : Presents s (s.setCl c v) := ⟨rfl, rfl, rfl, rfl, rfl⟩

theorem Presents.presentTo (s : State) (k : Circ) (c : Nat) : Presents s (s.presentTo k c) := by
  unfold State.presentTo
  dsimp only
  split
  · exact (Presents.setCl ..).trans (Served.landCirc ..).presents
  · split
    · exact .setCl ..
    · exact (Presents.setCl ..).trans (.setCl ..)

/-- The circular that a cluster holds, and its landings. -/
theorem State.presentTo_cl (s : State) (k : Circ) (c d : Nat) :
    (d ≠ c → (s.presentTo k c).cl d = s.cl d) ∧ ((s.presentTo k c).cl c).circ = some k ∧
    (s.cstate c ≠ 3 → s.cstate c ≠ 2 → ((s.presentTo k c).cl c).landing = (s.cl c).landing ++ [k]) := by
  unfold State.presentTo
  dsimp only
  rw [State.setCl_cstate]
  split
  · next h =>
    obtain ⟨_, _, _, _, hf⟩ := (Served.landCirc (s.setCl c { s.cl c with circ := some k }) c k).frame
    have hcl (j : Nat) : ((s.setCl c { s.cl c with circ := some k }).landCirc c k).cl j = (s.setCl c { s.cl c with circ := some k }).cl j := by
      rw [hf]; rfl
    refine ⟨fun hd => ?_, ?_, fun _ h' => absurd h h'⟩
    · rw [hcl, State.cl_setCl, if_neg hd]
    · rw [hcl, State.cl_setCl_self]
  · split
    · next h => exact ⟨fun hd => by rw [State.cl_setCl, if_neg hd], by rw [State.cl_setCl_self], fun h' => absurd h h'⟩
    · refine ⟨fun hd => ?_, ?_, fun _ _ => ?_⟩
      · rw [State.cl_setCl, if_neg hd, State.cl_setCl, if_neg hd]
      · rw [State.cl_setCl_self, State.cl_setCl_self]
      · rw [State.cl_setCl_self, State.cl_setCl_self]

/-- The circular is presented to the clusters below n in turn. -/
def State.presentBelow (s : State) (k : Circ) (n : Nat) : State := (List.range n).foldl (fun s c => s.presentTo k c) s

theorem State.presentBelow_succ (s : State) (k : Circ) (n : Nat) : s.presentBelow k (n + 1) = (s.presentBelow k n).presentTo k n := by
  unfold State.presentBelow
  rw [List.range_succ, List.foldl_append]
  rfl

theorem Presents.below (s : State) (k : Circ) (n : Nat) : Presents s (s.presentBelow k n) := by
  induction n with
  | zero => exact .refl s
  | succ n ih =>
    rw [State.presentBelow_succ]
    exact ih.trans (.presentTo ..)

theorem State.presentBelow_cl (s : State) (k : Circ) (n c : Nat) : (n ≤ c → (s.presentBelow k n).cl c = s.cl c) ∧
    (c < n → ((s.presentBelow k n).cl c).circ = some k ∧
      (s.cstate c ≠ 3 → s.cstate c ≠ 2 → ((s.presentBelow k n).cl c).landing = (s.cl c).landing ++ [k])) := by
  induction n with
  | zero => exact ⟨fun _ => rfl, fun h => absurd h (Nat.not_lt_zero c)⟩
  | succ n ih =>
    obtain ⟨hother, hcirc, hland⟩ := (s.presentBelow k n).presentTo_cl k n c
    rw [State.presentBelow_succ]
    refine ⟨fun h => (hother (by omega)).trans (ih.1 (by omega)), fun h => ?_⟩
    by_cases hc : c = n
    · subst hc
      refine ⟨hcirc, fun h3 h2 => ?_⟩
      rw [hland (by rwa [(Presents.below s k c).cstate]) (by rwa [(Presents.below s k c).cstate]), ih.1 (Nat.le_refl c)]
    · rw [hother hc]
      exact ih.2 (by omega)

/-- The sequencers' load touches the images that the clusters hold. -/
theorem State.loadSequencers_spares (s : State) : Presents s s.loadSequencers ∧
    ∀ c, (s.loadSequencers.cl c).circ = (s.cl c).circ ∧ (s.loadSequencers.cl c).landing = (s.cl c).landing := by
  unfold State.loadSequencers
  generalize List.range 640 = l
  refine List.foldlRecOn (motive := fun t => Presents s t ∧ ∀ c, (t.cl c).circ = (s.cl c).circ ∧ (t.cl c).landing = (s.cl c).landing) l _
    ⟨.refl s, fun _ => ⟨rfl, rfl⟩⟩ fun t ⟨ht, hcl⟩ d _ => ?_
  split
  · exact ⟨ht, hcl⟩
  · refine ⟨ht.trans (.setCl ..), fun c => ?_⟩
    rw [State.cl_setCl]
    split
    · next e => exact e ▸ hcl c
    · exact hcl c

/-! ### PEER_DOWN and PEER_UP (R126, R363) -/

/-- A program that depends on the peer, and starts none, pauses. -/
theorem State.peerDown_one {s : State} {p q : Nat} {P : Part} {m : Man} {d : ProgDef} (hp : p < 32) (hparts : s.parts = [(p, P)])
    (hman : P.man = some m) (hprogs : m.progs = [d]) (hdep : d.depends / 2 ^ q % 2 = 1) (hpause : d.peerPause = true) (hpq : p ≠ q)
    (hstart : (s.prog p d.prog).start = none) : s.peerDown q =
      s.setProg p d.prog { s.prog p d.prog with paused := true, pausedBy := setBit (s.prog p d.prog).pausedBy q true } := by
  have hbit : bit d.depends q = true := decide_eq_true hdep
  have hwithin : s.parts.within 0 32 = [(p, P)] := by
    rw [hparts]
    simp [Tab.within, hp]
  unfold State.peerDown
  rw [hwithin]
  simp only [List.foldl_cons, List.foldl_nil, hman, hprogs, hpq, hbit, hstart, hpause, ne_eq, not_false_eq_true, and_self, if_true,
    Option.isSome_none, Bool.false_eq_true, if_false]

/-- A program that the peer alone paused goes on. -/
theorem State.peerUp_one {s : State} {p q : Nat} {P : Part} {m : Man} {d : ProgDef} (hp : p < 32) (hparts : s.parts = [(p, P)])
    (hman : P.man = some m) (hprogs : m.progs = [d]) (hpaused : (s.prog p d.prog).paused = true) (hby : (s.prog p d.prog).pausedBy = 2 ^ q) :
    s.peerUp q = s.setProg p d.prog { s.prog p d.prog with pausedBy := 0, paused := false, from_ := max (s.prog p d.prog).from_ s.beatN } := by
  have hbit : bit (2 ^ q) q = true := decide_eq_true (by rw [Nat.div_self (Nat.two_pow_pos q)])
  have hclear : setBit (2 ^ q) q false = 0 := by
    unfold setBit
    rw [Nat.div_eq_of_lt (Nat.pow_lt_pow_right (by decide) (Nat.lt_succ_self q)), Nat.mod_self]
    simp [ofBool]
  have hwithin : s.parts.within 0 32 = [(p, P)] := by
    rw [hparts]
    simp [Tab.within, hp]
  unfold State.peerUp
  rw [hwithin]
  simp only [List.foldl_cons, List.foldl_nil, hman, hprogs, hpaused, hby, hbit, hclear, and_self, if_true, ne_eq, not_true_eq_false, decide_false]

/-- The first circular has left the list, and every cluster has been given it. -/
def State.presented (s : State) (k : Circ) (rest : List Circ) : State := State.presentBelow { s with circs := rest } k 640

theorem State.presented_presents (s : State) (k : Circ) (rest : List Circ) : Presents { s with circs := rest } (s.presented k rest) := .below ..

theorem State.presented_cl (s : State) (k : Circ) (rest : List Circ) {c : Nat} (h : c < 640) : ((s.presented k rest).cl c).circ = some k ∧
    (s.cstate c ≠ 3 → s.cstate c ≠ 2 → ((s.presented k rest).cl c).landing = (s.cl c).landing ++ [k]) := by
  unfold State.presented
  exact (State.presentBelow_cl { s with circs := rest } k 640 c).2 h

/-- What a circular does besides its presentation (Table 2-9). -/
def State.act (s : State) (k : Circ) : State :=
  match k.type with
  | 1 =>
    let cur := match s.cnt.cur with | some (n, e, _) => some (n, e, true) | none => none
    { s with cnt := { s.cnt with cur := cur } }
  | 2 => s.peerDown (k.src % 32)
  | 3 => s.peerUp (k.src % 32)
  | 4 => s.loadSequencers
  | _ => s

theorem State.act_down {s : State} {k : Circ} (h : k.type = 2) : s.act k = s.peerDown (k.src % 32) := by
  unfold State.act
  rw [h]
  rfl

theorem State.act_up {s : State} {k : Circ} (h : k.type = 3) : s.act k = s.peerUp (k.src % 32) := by
  unfold State.act
  rw [h]
  rfl

/-- With no partition, only COUNTER_SET and the sequencers' load do more. -/
theorem State.act_alone {s : State} {k : Circ} (htype : k.type ≠ 1) (hparts : s.parts = []) : s.act k = s ∨ s.act k = s.loadSequencers := by
  have hdown (q : Nat) : s.peerDown q = s := by unfold State.peerDown; rw [hparts]; rfl
  have hup (q : Nat) : s.peerUp q = s := by unfold State.peerUp; rw [hparts]; rfl
  unfold State.act
  split
  · next e => exact absurd e htype
  · exact .inl (hdown _)
  · exact .inl (hup _)
  · exact .inr rfl
  · exact .inl rfl

section present

variable {s : State} {k : Circ} {rest : List Circ}

theorem State.present_early (hs : s.circs = k :: rest) (h : s.beatN < k.effect) : s.present = s := by
  unfold State.present
  rw [hs]
  dsimp only
  rw [if_pos h]

theorem State.present_eq (hs : s.circs = k :: rest) (h : k.effect ≤ s.beatN) : s.present = (s.presented k rest).act k := by
  unfold State.present
  rw [hs]
  dsimp only
  rw [if_neg (Nat.not_lt.2 h)]
  unfold State.presented State.presentBelow
  generalize List.foldl (fun s c => State.presentTo s k c) _ (List.range 640) = u
  rfl

end present

end Sys2Proof.Machine

open Sys2Proof Sys2Proof.Machine Sys2Proof.Safety Sys2Proof.Bits in
/-- Settles O26: a circular is inserted behind those of its beat (`insertCirc_split`), is presented to the clusters in turn
(`presentBelow_cl`), and acts (`State.act`). -/
theorem circularsArePresented : Obligations.CircularsArePresented := by
  refine ⟨insertCirc_split, fun s k rest hs => ⟨fun h => ⟨_, congrArg Host.Outcome.next (State.present_early hs h), rfl⟩,
    fun h htype hparts => ⟨_, congrArg Host.Outcome.next (State.present_eq hs h), ?_⟩,
    fun p P m d hp h hparts hman hprogs hdep hpause hpq hstart => ?_⟩⟩
  · have hpres := s.presented_presents k rest
    have hcl (c : Nat) (hc : c < 640) := s.presented_cl k rest hc
    generalize s.presented k rest = u at *
    rcases State.act_alone htype (hpres.parts.trans hparts) with e | e
    · rw [e]
      exact ⟨hpres.circs, hpres.regs, hcl⟩
    · obtain ⟨hseq, himage⟩ := u.loadSequencers_spares
      rw [e]
      refine ⟨hseq.circs.trans hpres.circs, hseq.regs.trans hpres.regs, fun c hc => ⟨?_, fun h3 h2 => ?_⟩⟩
      · exact (himage c).1.trans (hcl c hc).1
      · exact (himage c).2.trans ((hcl c hc).2 h3 h2)
  · have hpres := s.presented_presents k rest
    have heq := State.present_eq hs h
    generalize s.presented k rest = u at *
    have hprog : u.prog p d.prog = s.prog p d.prog := congrArg (fun x : Tab Prog => x.get (1024 * p + d.prog) {}) hpres.progs
    have hparts' := hpres.parts.trans hparts
    refine ⟨fun htype => ⟨_, congrArg Host.Outcome.next (heq.trans ((State.act_down htype).trans
      (State.peerDown_one hp hparts' hman hprogs hdep hpause hpq (by rwa [hprog])))), (State.setProg_circs ..).trans hpres.circs, ?_⟩,
      fun htype hpaused hby => ⟨_, congrArg Host.Outcome.next (heq.trans ((State.act_up htype).trans
      (State.peerUp_one hp hparts' hman hprogs (by rwa [hprog]) (by rwa [hprog])))), (State.setProg_circs ..).trans hpres.circs, ?_⟩⟩
    · rw [State.prog_setProg_self]
    · rw [State.prog_setProg_self]

namespace Sys2Proof.Machine

open Sys2Proof.Bits Sys2Proof.Safety

/-! ### What a beat boundary counts, and what it leaves (R58, R430) -/

/-- The counters that a beat boundary moves: the beat counter, the cycle within the beat, and the runs of the coolant and shelf pins. -/
structure Clocks where
  beat : BitVec 64
  cycle : Nat
  coolLow : Nat
  coolHigh : Nat
  shelfLow : Nat

def State.clocks (s : State) : Clocks := ⟨s.beat, s.cycle, s.grd.coolLow, s.grd.coolHigh, s.grd.shelfLow⟩

/-- The counters after a beat's end: the next beat, at its cycle 0. -/
def Clocks.turn (x : Clocks) : Clocks := { x with beat := x.beat + 1, cycle := 0 }

/-- The counters after the boundary's samples of the coolant and shelf pins. -/
def Clocks.sample (x : Clocks) (coolantN shelfN : Bool) : Clocks :=
  { x with
    coolLow := if coolantN then 0 else x.coolLow + 1
    coolHigh := if coolantN then x.coolHigh + 1 else 0
    shelfLow := if shelfN then 0 else x.shelfLow + 1 }

/-- The counters stand at x. -/
def Clocked (x : Clocks) (s : State) : Prop := s.clocks = x

namespace Clocked

variable {x : Clocks} {s t : State}

/-! ### How proofs about updates compose -/

/-- An update that keeps the beat counter, the cycle and the grid's record. -/
theorem frame {pending released power regs live latchHost latchSide mem kept cells clusters deadCells deadClusters net replies circs routes
    envs acks parts progs rcv runs loops stg mon sst sec bud ldg mpw hif bup twn cnt evl outs free} (h : Clocked x s) :
    Clocked x
      ⟨pending, s.beat, released, s.cycle, power, regs, live, latchHost, latchSide, mem, kept, cells, clusters, deadCells, deadClusters, net,
       replies, circs, routes, envs, acks, parts, progs, rcv, runs, loops, stg, mon, sst, sec, s.grd, bud, ldg, mpw, hif, bup, twn, cnt, evl, outs,
       free⟩ := h

/-- An update of the grid's record that keeps the pins' runs. -/
theorem grid {refUw tgtUw strUw loadUw out10 out100 ref100 lp astray busMv lossLogged lostRun presRun lostMask highRun calmRun preRun preAt
    disabled yieldAt steepest quiet coolAt coolHost coolDone nbrSrc shareRun under99 missed committed fcst errRun okRun errW telem
    orphanAt orphanOn regained reack plan replan cappedUs availRun telemAddr fcstAddr} (h : Clocked x s) :
    Clocked x
      { s with
        grd :=
          ⟨refUw, tgtUw, strUw, loadUw, out10, out100, ref100, lp, astray, busMv, lossLogged, lostRun, presRun, lostMask, highRun, calmRun,
            preRun, preAt, disabled, yieldAt, steepest, s.grd.coolLow, s.grd.coolHigh, s.grd.shelfLow, quiet, coolAt, coolHost, coolDone,
            nbrSrc, shareRun, under99, missed, committed, fcst, errRun, okRun, errW, telem, orphanAt, orphanOn, regained, reack, plan, replan,
            cappedUs, availRun, telemAddr, fcstAddr⟩ } := h

theorem withMem {m} (h : Clocked x s) : Clocked x { s with mem := m } := h.frame

theorem withLdg {l} (h : Clocked x s) : Clocked x { s with ldg := l } := h.frame

theorem andThen (h : Clocked x s) (f : Clocked x s → Clocked x t) : Clocked x t := f h

theorem ite {c : Prop} {_ : Decidable c} (hs : Clocked x s) (ht : Clocked x t) : Clocked x (if c then s else t) := by
  split
  · exact hs
  · exact ht

theorem ite_fst {α : Type} {c : Prop} {_ : Decidable c} {a b : State × α} (ha : Clocked x a.1) (hb : Clocked x b.1) :
    Clocked x (if c then a else b).1 := by
  split
  · exact ha
  · exact hb

theorem foldl {α : Type} {f : State → α → State} {l : List α} (h : Clocked x s)
    (hf : ∀ s a, Clocked x s → Clocked x (f s a)) : Clocked x (l.foldl f s) := List.foldlRecOn l f h fun t ht a _ => hf t a ht

theorem foldl_fst {α β : Type} {f : State × β → α → State × β} {l : List α} {b : β} (h : Clocked x s)
    (hf : ∀ r a, Clocked x r.1 → Clocked x (f r a).1) : Clocked x (l.foldl f (s, b)).1 :=
  List.foldlRecOn (motive := fun r => Clocked x r.1) l f h fun r hr a _ => hf r a hr

theorem wr {off w} (h : Clocked x s) : Clocked x (s.wr off w) := h.frame

theorem setF {F v} (h : Clocked x s) : Clocked x (s.setF F v) := h.wr

theorem stage {lo hi} (h : Clocked x s) : Clocked x (s.stage lo hi) := h.frame

theorem bumpBy {off k} (h : Clocked x s) : Clocked x (s.bumpBy off k) := h.wr

theorem bump {off} (h : Clocked x s) : Clocked x (s.bump off) := h.bumpBy

theorem wr64 {off v} (h : Clocked x s) : Clocked x (s.wr64 off v) := h.wr.wr

theorem bump64 {off k} (h : Clocked x s) : Clocked x (s.bump64 off k) := h.wr64

theorem wrBytes {off b n} (h : Clocked x s) : Clocked x (s.wrBytes off b n) := by
  induction n generalizing s off b with
  | zero => exact h
  | succ n ih => exact ih h.wr

theorem raise {code p0 p1 p2 p3 origin path} (h : Clocked x s) : Clocked x (s.raise code p0 p1 p2 p3 origin path) :=
  .ite h.bump.frame (.ite h.bump.frame h.frame)

theorem ev {code p0 p1 origin path} (h : Clocked x s) : Clocked x (s.ev code p0 p1 origin path) := h.raise

theorem out {o} (h : Clocked x s) : Clocked x (s.out o) := h.frame

theorem drive {o} (h : Clocked x s) : Clocked x (s.drive o) := .ite h.out h

theorem wrMem {a d} (h : Clocked x s) : Clocked x (s.wrMem a d) := h.frame

theorem holdFirst {took} (h : Clocked x s) : Clocked x (s.holdFirst took) := h.frame

theorem toMstate {m cause} (h : Clocked x s) : Clocked x (s.toMstate m cause) :=
  have h1 := Clocked.ite h.ev.holdFirst h.ev
  .ite h1.setF.setF h1.setF

theorem logTrigger {cause outranked} (h : Clocked x s) : Clocked x (s.logTrigger cause outranked) := h.ev

theorem outranked {cause} (h : Clocked x s) : Clocked x (s.outranked cause) := h.logTrigger

theorem useFree (h : Clocked x s) : Clocked x s.useFree := h.frame

theorem setBoard {b v} (h : Clocked x s) : Clocked x (s.setBoard b v) := h.frame

theorem setBState {b new cause} (h : Clocked x s) : Clocked x (s.setBState b new cause) := .ite h h.setF.ev

theorem commandLocal {b} (h : Clocked x s) : Clocked x (s.commandLocal b) :=
  .ite (.ite h.setBoard.bump.setBState h.setBoard) h

theorem send {l} (h : Clocked x s) : Clocked x (s.send l) := h.frame

theorem sendRouted {p l} (h : Clocked x s) : Clocked x (s.sendRouted p l) := by
  unfold State.sendRouted
  split
  · exact h.frame.send
  · exact h.send

theorem setLoop {k v} (h : Clocked x s) : Clocked x (s.setLoop k v) := h.frame

theorem loopEv {code k more p1} (h : Clocked x s) : Clocked x (s.loopEv code k more p1) := h.ev

theorem setU {k u} (h : Clocked x s) : Clocked x (s.setU k u) := h.setF

theorem emit {k u} (h : Clocked x s) : Clocked x (s.emit k u) :=
  .ite (h.foldl fun _ _ h1 => .ite h1.setLoop h1.setLoop) h

theorem loopTo {k new} (h : Clocked x s) : Clocked x (s.loopTo k new) :=
  have h1 := Clocked.ite h.setF h.setF.setU
  .ite h1.setF.loopEv h1.setF.loopEv.emit

theorem loopTrip {k why y} (h : Clocked x s) : Clocked x (s.loopTrip k why y) :=
  have h1 := h.setF.setF
  (Clocked.ite h1.setU.emit (.ite h1.commandLocal h1)).sendRouted.bump.loopEv

theorem loopRun {k y late} (h : Clocked x s) : Clocked x (s.loopRun k y late) :=
  have h1 := Clocked.ite h.setF.setF.bump h.setF.setF
  .ite h1.setLoop.loopTrip (.ite h1.setLoop.loopTo (h1.setLoop.setLoop.setU.setF.andThen fun h2 =>
    (Clocked.ite h2.setF.bump h2.setF).emit))

theorem loopNote {k y} (h : Clocked x s) : Clocked x (s.loopNote k y) := by
  unfold State.loopNote
  dsimp only
  split
  · exact h.setF.setF.setF
  · exact h.setF.setF.bump.loopEv

theorem extTake {k} (h : Clocked x s) : Clocked x (s.extTake k).1 := .ite_fst (.ite_fst h.setLoop h.bump.loopEv) h

theorem loopEval {k y} (h : Clocked x s) : Clocked x (s.loopEval k y) := by
  unfold State.loopEval
  dsimp only
  refine .ite h.loopNote.setLoop.setF.loopTo ?_
  refine .ite h.loopNote.setLoop.emit ?_
  refine .ite (.ite h.loopNote.setLoop.loopTo.setLoop h.loopNote.setLoop) ?_
  split
  · exact (Clocked.ite h.loopNote.setLoop.loopTo.setLoop h.loopNote.setLoop).extTake.loopRun
  · exact
      have h1 := Clocked.ite h.loopNote.setLoop.loopTo.setLoop h.loopNote.setLoop
      .ite h1.extTake.loopTo h1.extTake

theorem takeOne {k} (h : Clocked x s) : Clocked x (s.takeOne k) := by
  unfold State.takeOne
  split
  · exact h.setLoop.loopEval
  · exact h

theorem takeExt (h : Clocked x s) : Clocked x s.takeExt := h.foldl fun _ _ h1 => h1.takeOne

theorem askExit {b} (h : Clocked x s) : Clocked x (s.askExit b) := h.frame

theorem exitStarts (h : Clocked x s) : Clocked x s.exitStarts := h.foldl fun _ _ h1 => .ite h1.setBState h1

theorem fireEnd {byRelease first} (h : Clocked x s) : Clocked x (s.fireEnd byRelease first) := h.bump.bumpBy.ev.frame

theorem allFire (h : Clocked x s) : Clocked x s.allFire := by
  unfold State.allFire
  dsimp only
  split
  · exact .ite h.frame.fireEnd h.frame.frame
  · split
    · exact .ite h.frame.frame h.frame
    · exact h.frame

theorem frameMissed {b failed mismatch} (h : Clocked x s) : Clocked x (s.frameMissed b failed mismatch) := by
  unfold State.frameMissed
  dsimp only
  split
  · exact (Clocked.ev (h.setF.bump.andThen fun h1 => .ite h1.setBoard.frame h1.setBoard)).ev
  · exact Clocked.ev (h.setF.bump.andThen fun h1 => .ite h1.setBoard.frame h1.setBoard)

theorem fireOnce (h : Clocked x s) : Clocked x s.fireOnce := .ite h h.frame.allFire

theorem stageTake (h : Clocked x s) : Clocked x s.stageTake :=
  (h.foldl fun _ _ h1 => .ite h1.frameMissed h1).frame.fireOnce

theorem vrefStep (h : Clocked x s) : Clocked x s.vrefStep := (Clocked.ite h.stage.bump h.stage).frame.setF

theorem voltageSp (h : Clocked x s) : Clocked x s.voltageSp := h.foldl fun _ _ h1 => .ite h1.send h1

theorem setCmu {c v} (h : Clocked x s) : Clocked x (s.setCmu c v) := h.frame

theorem monOut {channel port fr} (h : Clocked x s) : Clocked x (s.monOut channel port fr) :=
  .ite h.frame h.frame.drive

theorem monLeave {c type port body} (h : Clocked x s) : Clocked x (s.monLeave c type port body) :=
  .ite h.frame.monOut h.setCmu.monOut

theorem lineBusy {c} (h : Clocked x s) : Clocked x (s.lineBusy c) := h.setCmu

theorem tryLeave {m} (h : Clocked x s) : Clocked x (s.tryLeave m) :=
  .ite (h.frame.monLeave.lineBusy.andThen fun h1 => .ite h1 (.ite h1.setCmu.frame h1.setCmu)) h

theorem monServe (h : Clocked x s) : Clocked x s.monServe := .ite h (h.foldl fun _ _ h1 => h1.tryLeave)

theorem monSend {c type body after} (h : Clocked x s) : Clocked x (s.monSend c type body after) := h.frame.monServe

theorem refAgain {c} (h : Clocked x s) : Clocked x (s.refAgain c) := by
  unfold State.refAgain
  split
  · exact .ite h h.setCmu.monSend
  · exact h

theorem monBoundary (h : Clocked x s) : Clocked x s.monBoundary :=
  (h.foldl fun _ _ h1 => .ite h1.refAgain h1).monServe

theorem setMeas {m d} (h : Clocked x s) : Clocked x (s.setMeas m d) := h.wrBytes

theorem frankerBegins (h : Clocked x s) : Clocked x s.frankerBegins := h.frame

theorem setString {st v} (h : Clocked x s) : Clocked x (s.setString st v) := h.frame

theorem writeSlot {base body} (h : Clocked x s) : Clocked x (s.writeSlot base body).1 := by
  unfold State.writeSlot
  cases s.inForce base with
  | none => exact h.useFree.wrBytes
  | some x => exact h.wrBytes

theorem carryRecord {st clear} (h : Clocked x s) : Clocked x (s.carryRecord st clear) := by
  unfold State.carryRecord
  split
  · exact h
  · exact h.writeSlot.setF.bump.setString

theorem fullRecord {st} (h : Clocked x s) : Clocked x (s.fullRecord st) := h.writeSlot.setF.bump.setString

theorem writeRecord {st} (h : Clocked x s) : Clocked x (s.writeRecord st) := .ite h.carryRecord h.fullRecord

theorem setInc {st v} (h : Clocked x s) : Clocked x (s.setInc st v) := .ite h h.setF.writeRecord

theorem showCapacity {st} (h : Clocked x s) : Clocked x (s.showCapacity st) := h.setF

theorem passSend {st kind msg off n} (h : Clocked x s) : Clocked x (s.passSend st kind msg off n) := by
  induction n generalizing s off with
  | zero => exact h
  | succ n ih => exact .ite h.monSend (ih h.monSend)

theorem passPull {st} (h : Clocked x s) : Clocked x (s.passPull st) := h.monSend

theorem passMsg {st kind msg} (h : Clocked x s) : Clocked x (s.passMsg st kind msg) := h.passSend.passPull.setString

theorem sendIncrement {st} (h : Clocked x s) : Clocked x (s.sendIncrement st) := h.setString.passMsg

theorem disagree {st} (h : Clocked x s) : Clocked x (s.disagree st) := by
  unfold State.disagree
  split
  · exact h
  · exact .ite h.setF.bump.ev h

theorem countCycle {st} (h : Clocked x s) : Clocked x (s.countCycle st) :=
  .ite h.setString.setF.showCapacity.writeRecord.sendIncrement.setInc h

theorem chargeBeat {st} (h : Clocked x s) : Clocked x (s.chargeBeat st) := by
  unfold State.chargeBeat
  cases s.stringCurrent st with
  | none => exact .ite h h.bump.setString.countCycle.disagree
  | some i => exact .ite h.setString h.setString.countCycle.disagree

theorem keepMv {st} (h : Clocked x s) : Clocked x (s.keepMv st) := by
  unfold State.keepMv
  split
  · exact h
  · split
    · exact h.setString
    · exact h

theorem sstTake (h : Clocked x s) : Clocked x s.sstTake := h.foldl fun _ _ h1 => h1.keepMv.chargeBeat

theorem publishString {st} (h : Clocked x s) : Clocked x (s.publishString st) := h.setString.setF.setF

theorem lineResp {l up} (h : Clocked x s) : Clocked x (s.lineResp l up) := h.frame

theorem relines {old} (h : Clocked x s) : Clocked x (s.relines old) :=
  (((Clocked.ite h.frame h).setF.setF.setF.foldl fun _ _ h2 => .ite h2.frame (.ite h2.ev.frame
    h2)).foldl fun _ _ h1 => .ite h1 h1.lineResp).frame.setF

theorem gridTake {p} (h : Clocked x s) : Clocked x (s.gridTake p) :=
  andThen (by split; exacts [h.grid.wr, h.grid]) fun h1 => .ite h1 h1.wr

theorem toGrd {new rank} (h : Clocked x s) : Clocked x (s.toGrd new rank) :=
  .ite h (andThen (.ite h.setF.grid h.setF) fun h1 => andThen (.ite h1.bump (.ite h1.bump h1))
    fun h2 => andThen (.ite h2.grid h2) fun h3 => (ite h3.frame h3).ev)

theorem startPrecharge (h : Clocked x s) : Clocked x s.startPrecharge := h.setF.setF.grid

theorem replan {dispatch} (h : Clocked x s) : Clocked x (s.replan dispatch) :=
  ((h.foldl fun _ _ h1 => h1.setString).grid).wr.ev

theorem replanDue {dispatch} (h : Clocked x s) : Clocked x (s.replanDue dispatch) := .ite h (.ite h.replan h.grid)

theorem setAvail (h : Clocked x s) : Clocked x s.setAvail := h.wr

theorem availActs {before} (h : Clocked x s) : Clocked x (s.availActs before) :=
  andThen h.grid fun h1 => andThen (.ite h1.frame.relines h1) fun h2 => .ite h2.setF h2

theorem limit (h : Clocked x s) : Clocked x s.limit := h.grid.wr

theorem update (h : Clocked x s) : Clocked x s.update := by
  unfold State.update
  dsimp only
  split
  · exact h.grid
  · split
    · exact h.grid
    · exact h.grid

theorem orphan (h : Clocked x s) : Clocked x s.orphan := .ite h.toGrd h

theorem gridHostLost (h : Clocked x s) : Clocked x s.gridHostLost := by
  have h1 : Clocked x { s with grd := { s.grd with regained := false, reack := false } } := h.grid
  have h2 : Clocked x { s with grd := { s.grd with regained := false, reack := false, orphanAt := s.beatN, orphanOn := false } } :=
    h.grid
  unfold State.gridHostLost
  refine .ite (.ite h1.ev h1) ?_
  exact .ite h2 (.ite h1 h2.setF.ev.orphan)

theorem hostFate (h : Clocked x s) : Clocked x s.hostFate := .ite h.gridHostLost h.orphan

theorem gridRegained (h : Clocked x s) : Clocked x s.gridRegained :=
  .ite (andThen h.setF.grid fun h1 => .ite h1.toGrd h1) h

theorem gridTarget {uw} (h : Clocked x s) : Clocked x (s.gridTarget uw) := h.grid

theorem lowPass (h : Clocked x s) : Clocked x s.lowPass := h.grid

theorem dispatchBoundary (h : Clocked x s) : Clocked x s.dispatchBoundary :=
  have h1 := h.stage.stage.foldl fun _ _ h => h.publishString
  .ite h1.replanDue.grid (andThen h1.replanDue.lowPass fun h2 =>
    andThen (by split; exacts [h2.bump.grid, h2.grid]) fun h3 => .ite h3.toGrd h3)

theorem dueTargets (h : Clocked x s) : Clocked x s.dueTargets :=
  h.foldl fun _ _ h1 => h1.foldl fun _ _ h2 => .ite h2.gridTarget h2

theorem lineTimes (h : Clocked x s) : Clocked x s.lineTimes := h.foldl fun _ _ h1 => .ite h1.bump h1

theorem setTotal {off v} (h : Clocked x s) : Clocked x (s.setTotal off v) := h.wr64

theorem setCopy {p v} (h : Clocked x s) : Clocked x (s.setCopy p v) := h.setF.ev

theorem meterBoard {slot run b} (h : Clocked x s) : Clocked x (s.meterBoard slot run b).1 := by
  unfold State.meterBoard
  split
  · exact h.frame
  · exact .ite h.bump.frame h

theorem meter (h : Clocked x s) : Clocked x s.meter.1 := h.foldl_fst fun _ _ h => h.meterBoard

theorem storeBatch {b} (h : Clocked x s) : Clocked x (s.storeBatch b) := h.wrMem

theorem placeCert {epoch beat pub} (h : Clocked x s) : Clocked x (s.placeCert epoch beat pub) :=
  .ite h.frame.wrBytes.setMeas h.frame.wrBytes

theorem dropKeys (h : Clocked x s) : Clocked x s.dropKeys := h.frame

theorem newEpoch {ready} (h : Clocked x s) : Clocked x (s.newEpoch ready) :=
  have h1 := h.setF.setF
  Clocked.dropKeys (by
    split
    · exact h1.ev.frame.placeCert
    · exact h1.ev.frame.setMeas)

theorem clearLedger (h : Clocked x s) : Clocked x s.clearLedger := h.withMem

theorem ldgCopies (h : Clocked x s) : Clocked x s.ldgCopies :=
  have h1 := Clocked.ite (.ite h h.setCopy) (Clocked.ite h h.setCopy).setCopy
  .ite h1.setF.ev h1

theorem ldgStart (h : Clocked x s) : Clocked x s.ldgStart :=
  Clocked.andThen ((Clocked.clearLedger (by split; exacts [h.ev, h])).frame.wr.ldgCopies.foldl fun _ _ h1 =>
    h1.setTotal).setF.newEpoch fun h2 => .ite h2.frame.useFree h2

theorem ldgFollow (h : Clocked x s) : Clocked x s.ldgFollow := .ite h.ldgStart (.ite h.setF h)

theorem reformReceipts {batch n k} (h : Clocked x s) : Clocked x (s.reformReceipts batch n k).1 := by
  induction k generalizing s n with
  | zero => exact h
  | succ k ih =>
    unfold State.reformReceipts
    exact ih h.wrMem.wrMem

theorem reformBatch {batch b} (h : Clocked x s) : Clocked x (s.reformBatch batch b).1 := h.reformReceipts.storeBatch

theorem ldgTakeover (h : Clocked x s) : Clocked x s.ldgTakeover :=
  .ite h (withLdg (reformReceipts (foldl_fst h.newEpoch fun _ _ h => h.reformBatch)))

theorem junction {tj} (h : Clocked x s) : Clocked x (s.junction tj) := h.frame.setF.setF

theorem powerBoundary {tj} (h : Clocked x s) : Clocked x (s.powerBoundary tj) :=
  (Clocked.foldl (by split; exacts [h.frame.setF.setF.setF.setF, h]) fun _ _ h1 => .ite h1.bump64 h1).junction

theorem snapshot (h : Clocked x s) : Clocked x s.snapshot := by
  unfold State.snapshot
  split
  · exact .ite h.frame h
  · exact h

theorem notActive (h : Clocked x s) : Clocked x s.notActive := h.frame

theorem enter {m cause} (h : Clocked x s) : Clocked x (s.enter m cause) :=
  have h1 := Clocked.ite (.ite h.toMstate h.toMstate.toGrd) (.ite (.ite h.toMstate.toGrd.startPrecharge h.toMstate)
    (.ite h.toMstate h.toMstate.toGrd))
  have h4 := Clocked.ite (.ite (h1.foldl fun _ _ h2 => .ite h2.askExit h2) h1) (.ite h1 (h1.foldl fun _ _ h3 =>
    h3.commandLocal))
  have h5 := Clocked.ite (.ite h4 h4.frame) h4.frame
  (Clocked.ite h5.notActive h5).relines.ldgFollow

theorem lowest {f} (h : Clocked x s) (hf : ∀ s, Clocked x s → Clocked x (f s)) :
    Clocked x (s.lowest f) :=
  .ite h.outranked (hf s h)

theorem safeStop {cause} (h : Clocked x s) : Clocked x (s.safeStop cause) := h.enter

theorem safeEval (h : Clocked x s) : Clocked x s.safeEval :=
  .ite (.ite h.frame.safeStop (.ite h.frame h.frame.logTrigger)) (.ite (h.frame.lowest (fun _ h1 => h1.enter))
    h.frame)

theorem linksEval (h : Clocked x s) : Clocked x s.linksEval :=
  .ite h.frame (.ite h.frame.safeStop (.ite h.frame h.frame.logTrigger))

theorem hostRegained (h : Clocked x s) : Clocked x s.hostRegained :=
  .ite (h.setF.ev.andThen fun h1 => (Clocked.ite h1.ev h1).frame) h

theorem syncClear {cause} (h : Clocked x s) : Clocked x (s.syncClear cause) :=
  .ite h (.ite h.frame.wr.setF.ev h.frame.wr)

theorem rcvCounts (h : Clocked x s) : Clocked x s.rcvCounts := (h.foldl fun _ _ h1 => h1.setF).setF

theorem watchUnits (h : Clocked x s) : Clocked x s.watchUnits := h.frame.useFree

theorem roleEvent {became cause} (h : Clocked x s) : Clocked x (s.roleEvent became cause) := h.ev

theorem newPair (h : Clocked x s) : Clocked x s.newPair := h.frame.wr.setF

theorem ownReference (h : Clocked x s) : Clocked x s.ownReference := h.setF.setF.setF

theorem takeControl {cause} (h : Clocked x s) : Clocked x (s.takeControl cause) :=
  have h1 := h.frame.setF.setF.setF.setF.bump
  have h2 := (Clocked.ite h1.bump h1).roleEvent.enter.newPair.ownReference
  .ite h2.ldgTakeover h2

theorem becomeActive {cause} (h : Clocked x s) : Clocked x (s.becomeActive cause) :=
  .ite h (h.lowest (fun _ h1 => h1.takeControl))

theorem selfCheck (h : Clocked x s) : Clocked x s.selfCheck := by
  unfold State.selfCheck
  split
  · exact .ite h.frame h
  · exact h

theorem twinFrame (h : Clocked x s) : Clocked x s.twinFrame.2 := .ite h.frame h

theorem switchTake (h : Clocked x s) : Clocked x s.switchTake := .ite h.becomeActive h

theorem twinEnd (h : Clocked x s) : Clocked x s.twinEnd := .ite h h.selfCheck.frame.twinFrame.drive

theorem digestCompare (h : Clocked x s) : Clocked x s.digestCompare := by
  unfold State.digestCompare
  dsimp only
  split
  · exact h
  · exact .ite h (.ite h.bump.ev.syncClear (.ite h.bump.frame h.frame))

theorem twinArrived (h : Clocked x s) : Clocked x s.twinArrived := .ite (.ite h.frame.setF.ev h.frame) h.bump.frame

theorem cleanTime (h : Clocked x s) : Clocked x s.cleanTime := .ite h.frame.wr h

theorem twinFresh (h : Clocked x s) : Clocked x s.twinFresh := h.frame

theorem twinBoundary (h : Clocked x s) : Clocked x s.twinBoundary :=
  (Clocked.ite h (Clocked.ite h.twinArrived.digestCompare h.twinArrived).cleanTime.switchTake).twinFresh

theorem takeBeat (h : Clocked x s) : Clocked x s.takeBeat :=
  .ite h h.stageTake.meter.gridTake.sstTake.linksEval.safeEval

theorem stageBeat (h : Clocked x s) : Clocked x s.stageBeat := h.stage.stage.stage.stage.stage

theorem operate (h : Clocked x s) : Clocked x s.operate := .ite (.ite h.frame h.frame.bump) h

theorem newSecond (h : Clocked x s) : Clocked x s.newSecond := .ite h.operate.rcvCounts h.operate

theorem markers (h : Clocked x s) : Clocked x s.markers := h.foldl fun _ _ h1 => .ite h1.drive h1

theorem turned (h : Clocked x s) : Clocked x.turn { s with beat := s.beat + 1, cycle := 0 } := by
  subst h
  rfl

theorem sampled {coolantN shelfN : Bool} {quiet} (h : Clocked x s) :
    Clocked (x.sample coolantN shelfN)
      { s with grd := { s.grd with
        coolLow := if coolantN then 0 else s.grd.coolLow + 1
        coolHigh := if coolantN then s.grd.coolHigh + 1 else 0
        shelfLow := if shelfN then 0 else s.grd.shelfLow + 1
        quiet := quiet } } := by
  subst h
  rfl

theorem gridBoundary {coolantN shelfN} (h : Clocked x s) : Clocked (x.sample coolantN shelfN) (s.gridBoundary coolantN shelfN) :=
  have h0 := h.sampled
  have h1 := Clocked.ite (.ite h0.grid h0.update) h0
  have h2 := Clocked.ite h1.dispatchBoundary h1.replanDue
  .ite h2 (h2.setAvail.availActs.hostFate.gridRegained.limit.andThen fun h3 => Clocked.andThen (.ite h3.grid.bump
    h3.grid) fun h4 => Clocked.andThen (.ite h4.bump h4) fun h5 => .ite (.ite h5.bump.grid h5.grid) h5)

theorem endBeat (h : Clocked x s) : Clocked x.turn s.endBeat :=
  h.takeExt.takeBeat.twinEnd.frankerBegins.watchUnits.snapshot.turned

theorem beginBeat {coolantN shelfN tj} (h : Clocked x s) : Clocked (x.sample coolantN shelfN) (s.beginBeat coolantN shelfN tj) :=
  h.stageBeat.vrefStep.exitStarts.markers.voltageSp.dueTargets.gridBoundary.lineTimes.powerBoundary.twinBoundary
    |>.hostRegained.monBoundary.newSecond

end Clocked

end Sys2Proof.Machine

open Sys2Proof Sys2Proof.Machine Sys2Proof.Safety Sys2Proof.Bits in
/-- Settles O57: the parts of the boundary each keep the counters, but for the beat's end, which moves the beat counter, and the
samples of the pins, which move their runs. -/
theorem beatBoundary : Obligations.BeatBoundary := by
  unfold Obligations.BeatBoundary
  refine fun s coolantN shelfN tj => ⟨fun hp hr => ?_, fun hoff => ?_⟩
  · have h : Clocked (s.clocks.turn.sample coolantN shelfN) (s.endBeat.beginBeat coolantN shelfN (tj.map BitVec.toNat)) :=
      (Clocked.endBeat rfl).beginBeat
    refine ⟨_, congrArg Host.Outcome.next (if_pos ⟨hp, hr⟩), ?_⟩
    obtain ⟨hbeat, hcycle, hlow, hhigh, hshelf⟩ := Clocks.mk.inj h
    exact ⟨hbeat, hcycle, hlow, hhigh, hshelf⟩
  · have hne : ¬(s.power = true ∧ s.released = true) := by simpa [or_iff_not_imp_left] using hoff
    exact ⟨s, congrArg Host.Outcome.next (if_neg hne), rfl⟩

namespace Sys2Proof.Machine

open Sys2Proof.Bits Sys2Proof.Safety

/-! ### General registers and FLAGS (R66, Table 3-1) -/

@[simp] theorem Work.setReg_flags (w : Work) (d : BitVec 4) (v : Word) : (w.setReg d v).flags = w.flags := by
  unfold Work.setReg
  split <;> rfl

@[simp] theorem Work.setReg_setFlags (w : Work) (d : BitVec 4) (v : Word) (f : BitVec 4) :
    ({ w with flags := f } : Work).setReg d v = { w.setReg d v with flags := f } := by
  unfold Work.setReg
  split <;> rfl

/-- C takes its value and the other flags keep theirs. -/
theorem Work.setC_eq (w : Work) (c : Bool) :
    w.setC c = { w with flags := BitVec.ofNat 4 (w.flags.toNat / 2 * 2 + if c then 1 else 0) } := by
  have h : ∀ (f : BitVec 4) (c : Bool), (f &&& 0b1110#4) ||| BitVec.ofNat 4 (ofBool c) = BitVec.ofNat 4 (f.toNat / 2 * 2 + if c then 1 else 0) := by
    decide
  rw [Work.setC, h]

theorem Work.orQsat_eq (w : Work) (b : Bool) : w.orQsat b = { w with flags := if b then w.flags ||| 2 else w.flags } := by
  cases b <;> rfl

theorem Work.orAsat_eq (w : Work) (b : Bool) : w.orAsat b = { w with flags := if b then w.flags ||| 4 else w.flags } := by
  cases b <;> rfl

/-! ### Instructions of working registers alone (R73, R84) -/

/-- An instruction whose meaning is a change f of the working registers sets them to what f gives. -/
theorem setsWork_of_alu {i : Instr} {s : State} {k : CellId} {reads : List (BitVec 4)} {cost : Nat} {f : Work → Work} {w : Work}
    (hi : exec i s = .next (s.alu k reads cost f)) (hlast : notLast s k) (hrun : mayRun s k reads none cost)
    (hw : f (s.cell (cellNo k)).work = w) : setsWork i s k reads none cost w := by
  obtain ⟨t, ht, h⟩ := State.alu_eq s k reads cost f hrun hlast
  rw [hw] at h
  exact ⟨t, by rw [hi, ht], h⟩

theorem ofNat_ofBool_decide {n : Nat} (p : Prop) [Decidable p] : BitVec.ofNat n (ofBool (decide p)) = if p then 1 else 0 := by
  by_cases h : p <;> simp [ofBool, h]

end Sys2Proof.Machine

open Sys2Proof Sys2Proof.Machine Sys2Proof.Safety Sys2Proof.Bits in
/-- Settles O4: each of these instructions is its word operation in gd (`setsWork_of_alu`). -/
theorem logicShiftCompareInstructions : Obligations.LogicShiftCompareInstructions := by
  intro s k d a b hlast w
  refine ⟨fun hrun => ⟨?_, ?_, ?_, ?_, ?_, ?_, ?_, ?_⟩, fun hrun => ?_⟩
  case refine_7 | refine_8 => exact setsWork_of_alu rfl hlast hrun (congrArg (w.setReg d) (ofNat_ofBool_decide _))
  case refine_9 => exact setsWork_of_alu rfl hlast hrun (congrArg (w.setReg d) (by rw [BitVec.ofInt_mul, BitVec.ofInt_toInt, BitVec.ofInt_toInt]))
  all_goals exact setsWork_of_alu rfl hlast hrun rfl

namespace Sys2Proof.Machine

open Sys2Proof.Bits Sys2Proof.Safety

/-! ### Saturation (R76) -/

/-- A signed number of n bits is its pattern read as two's complement. -/
theorem sint_eq_toInt {n : Nat} (hn : 0 < n) (v : Nat) : sint n v = (BitVec.ofNat n v).toInt := by
  have h2 : 2 ^ n = 2 * 2 ^ (n - 1) := by rw [← Nat.pow_succ', Nat.succ_eq_add_one, Nat.sub_add_cancel hn]
  rw [BitVec.toInt_eq_toNat_cond, BitVec.toNat_ofNat, sint]
  by_cases h : v % 2 ^ n < 2 ^ (n - 1)
  · rw [if_pos h, if_pos (by omega)]
  · rw [if_neg h, if_neg (by omega)]
    norm_cast

theorem half_eq_toInt (x : Word) (hi : Bool) : half x hi = (BitVec.ofNat 16 (x.toNat / if hi then 2 ^ 16 else 1)).toInt := by
  rw [half, sint_eq_toInt (by decide)]
  cases hi with
  | false => simp
  | true => rfl

/-- A clamp changes the numbers outside its bounds alone. -/
theorem clamp_ne_iff {lo hi v : Int} (h : lo ≤ hi) : clamp lo hi v ≠ v ↔ v < lo ∨ hi < v := by
  unfold clamp
  omega

end Sys2Proof.Machine

open Sys2Proof Sys2Proof.Machine Sys2Proof.Safety Sys2Proof.Bits in
/-- Settles O5: C is the carry or the borrow (`Work.setC_eq`), and QSAT is set where the clamp changes the sum (`clamp_ne_iff`). -/
theorem addSubtractCarryAndSaturation : Obligations.AddSubtractCarryAndSaturation := by
  constructor
  · intro s k d a b hlast hrun w x y c after
    have h (v : Word) (carry : Bool) : (w.setReg d v).setC carry = after v carry := by rw [Work.setC_eq, Work.setReg_flags]
    exact ⟨setsWork_of_alu rfl hlast hrun (h ..), setsWork_of_alu rfl hlast hrun (h ..), setsWork_of_alu rfl hlast hrun (h ..),
      setsWork_of_alu rfl hlast hrun (h ..)⟩
  · intro s k d a b hlast hrun w x y after
    have hx : half (w.reg a) false = x := by rw [half_eq_toInt]; simp [x]
    have hy : half (w.reg b) false = y := by rw [half_eq_toInt]; simp [y]
    have h (v : Int) : (w.setReg d (BitVec.ofInt 32 (sat16 v))).orQsat (decide (sat16 v ≠ v)) = after v := by
      have hs : sat16 v ≠ v ↔ ¬ (-32768 ≤ v ∧ v ≤ 32767) := (clamp_ne_iff (by decide)).trans (by omega)
      rw [Work.orQsat_eq, Work.setReg_flags]
      simp only [decide_eq_true_eq, hs, ite_not, after]
      rfl
    exact ⟨setsWork_of_alu rfl hlast hrun ((h _).trans (by rw [hx, hy])), setsWork_of_alu rfl hlast hrun ((h _).trans (by rw [hx, hy]))⟩

namespace Sys2Proof.Safety.onlyCell

open Sys2Proof.Machine

/-! ### A state that differs in one cell and its cluster's counters -/

variable {s t : State} {k : CellId}

theorem refl (s : State) (k : CellId) : onlyCell s s k := ⟨rfl, fun _ _ => rfl, fun _ _ => rfl⟩

theorem setCell {c : Cell} (h : onlyCell s t k) : onlyCell s (t.setCell (cellNo k) c) k := by
  obtain ⟨ht, hcell, hcl⟩ := h
  obtain ⟨C, L, rfl⟩ : ∃ C L, t = { s with cells := C, clusters := L } := ⟨_, _, ht⟩
  exact ⟨rfl, fun m hm => by rw [State.cell_setCell, if_neg hm, hcell m hm], hcl⟩

theorem setCl {v : Cluster} (h : onlyCell s t k) : onlyCell s (t.setCl (clusterOf (cellNo k)) v) k := by
  obtain ⟨ht, hcell, hcl⟩ := h
  obtain ⟨C, L, rfl⟩ : ∃ C L, t = { s with cells := C, clusters := L } := ⟨_, _, ht⟩
  exact ⟨rfl, hcell, fun j hj => by rw [State.cl_setCl, if_neg hj, hcl j hj]⟩

theorem issued (s : State) (k : CellId) : onlyCell s (s.issued (cellNo k)) k := (refl s k).setCell

theorem restless (h : onlyCell s t k) : onlyCell s (t.restless (clusterOf (cellNo k))) k := h.setCl

end Sys2Proof.Safety.onlyCell

namespace Sys2Proof.Machine

open Sys2Proof.Bits Sys2Proof.Safety

/-! ### An instruction that completes, once its effect is known (R74, R84) -/

@[simp] theorem State.restless_cell (s : State) (c n : Nat) : (s.restless c).cell n = s.cell n := rfl

/-- The cell past an instruction that issued at cycle t: the charge, the next issue cycle, the PC. -/
def Cell.past (c : Cell) (t ch cost : Nat) (tgt : Option (BitVec 8)) : Cell :=
  { c with charged := c.charged + ch, next := t + cost, pc := match tgt with | some x => x | none => c.pc + 1 }

/-- The conditions of `State.retire_eq`: the instruction is not the last, or jumps, or the cell has stopped. -/
abbrev Cell.goesOn (c : Cell) (tgt : Option (BitVec 8)) : Prop := c.pc.toNat + 1 < c.len ∨ tgt.isSome ∨ c.run ≠ 1

section retire

variable {s u : State} {k : CellId} {t ch cost : Nat} {tgt : Option (BitVec 8)}

theorem State.retire_cell (h : (u.cell (cellNo k)).goesOn tgt) :
    (u.retire (cellNo k) t ch cost tgt).cell (cellNo k) = (u.cell (cellNo k)).past t ch cost tgt := by
  rw [State.retire_eq _ _ _ _ _ _ h, State.setCl_cell, State.cell_setCell_self]
  cases tgt <;> rfl

theorem State.retire_onlyCell (h : (u.cell (cellNo k)).goesOn tgt) (hu : onlyCell s u k) :
    onlyCell s (u.retire (cellNo k) t ch cost tgt) k := by
  rw [State.retire_eq _ _ _ _ _ _ h]
  exact hu.setCell.setCl

theorem State.retire_counted (h : (u.cell (cellNo k)).goesOn tgt) (hu : u.cl (clusterOf (cellNo k)) = s.cl (clusterOf (cellNo k))) :
    counted s (u.retire (cellNo k) t ch cost tgt) k := by
  rw [State.retire_eq _ _ _ _ _ _ h, counted, State.cl_setCl_self, hu]

end retire

/-- The effect of an instruction that leaves the state u: it completes, or jumps to a target. -/
def Eff.past (u : State) : Option (BitVec 8) → Eff
  | none => .done u
  | some x => .jump u x

theorem Eff.finish_past (u s : State) (tgt : Option (BitVec 8)) (n t ch cost : Nat) :
    (Eff.past u tgt).finish s n t ch cost = u.retire n t ch cost tgt := by
  cases tgt <;> rfl

section past

variable {s u : State} {k : CellId} {reads : List (BitVec 4)} {acc : Option Bool} {charge cost : Cell → Nat} {body : State → Nat → Eff}
  {tgt : Option (BitVec 8)}

/-- An instruction whose effect completes or jumps retires in the state that its effect leaves. -/
theorem State.instr_past (hrun : mayRun s k reads acc (charge (s.cell (cellNo k))))
    (hbody : body (s.issued (cellNo k)) (max (s.cell (cellNo k)).next s.now + stall s k reads acc) = .past u tgt) :
    s.instr k reads acc false charge cost body = u.retire (cellNo k) (max (s.cell (cellNo k)).next s.now + stall s k reads acc)
      (stall s k reads acc + charge (s.cell (cellNo k))) (cost (s.cell (cellNo k))) tgt := by
  rw [State.instr_eq _ _ _ _ _ _ _ hrun, hbody, Eff.finish_past]

/-- An instruction puts the cell into c, with the charge and the PC still to count: the cell afterwards, and what is left alone. -/
theorem State.instr_setCell {c : Cell} (hrun : mayRun s k reads acc (charge (s.cell (cellNo k)))) (hc : c.goesOn tgt)
    (hbody : body (s.issued (cellNo k)) (max (s.cell (cellNo k)).next s.now + stall s k reads acc) =
      .past ((s.issued (cellNo k)).setCell (cellNo k) c) tgt) :
    let t := s.instr k reads acc false charge cost body
    t.cell (cellNo k) = c.past (max (s.cell (cellNo k)).next s.now + stall s k reads acc)
      (stall s k reads acc + charge (s.cell (cellNo k))) (cost (s.cell (cellNo k))) tgt ∧
      onlyCell s t k ∧ counted s t k := by
  have hc' : (((s.issued (cellNo k)).setCell (cellNo k) c).cell (cellNo k)).goesOn tgt := by rwa [State.cell_setCell_self]
  dsimp only
  rw [State.instr_past hrun hbody]
  exact ⟨by rw [State.retire_cell hc', State.cell_setCell_self], State.retire_onlyCell hc' (onlyCell.issued s k).setCell,
    State.retire_counted hc' rfl⟩

end past

/-! ### SYS (Table 3-4) -/

/-- An instruction sets the cell's working registers to w, which may depend on the issue state and cycle. -/
theorem setsWork_of_instr {i : Instr} {s : State} {k : CellId} {reads : List (BitVec 4)} {acc : Option Bool} {cost : Nat}
    {F : State → Nat → Work} {w : Work}
    (hi : exec i s = .next (s.instr k reads acc false (fun _ => cost) (fun _ => cost) fun s t => .done (s.setWork (cellNo k) (F s t))))
    (hlast : notLast s k) (hrun : mayRun s k reads acc cost)
    (hw : F (s.issued (cellNo k)) (max (s.cell (cellNo k)).next s.now + stall s k reads acc) = w) :
    setsWork i s k reads acc cost w :=
  ⟨_, hi, State.instr_setCell (c := { s.cell (cellNo k) with work := w, lastLoad := none }) (tgt := none) hrun (.inl hlast)
    (by rw [hw, State.setWork, State.issued, State.cell_setCell_self]; rfl)⟩

theorem cellIdent_cellNo (k : CellId) : cellIdent (cellNo k) = k.k.val + k.c.val * 512 + k.p.val * 16384 := by
  have := k.p.isLt; have := k.c.isLt; have := k.k.isLt
  simp only [cellIdent, indexOf, clusterOf, partOf, cellNo]
  omega

theorem Work.clearSticky_setReg (w : Work) (d : BitVec 4) (v : Word) :
    w.clearSticky.setReg d v = { w.setReg d v with flags := w.flags &&& 1 } := Work.setReg_setFlags ..

/-- What SYS reads, issued at cycle t (Table 3-4). -/
def State.sysValue (s : State) (k : CellId) (t : Nat) : Nat → Nat
  | 0 => cellIdent (cellNo k)
  | 1 => (s.prog (partOf (cellNo k)) (s.cell (cellNo k)).prog).begun
  | 2 => t - 1250 * (s.prog (partOf (cellNo k)) (s.cell (cellNo k)).prog).last
  | 3 => t / 1250
  | _ => (s.cell (cellNo k)).work.flags.toNat

theorem State.sysValue_issued (s : State) (k : CellId) (t sel : Nat) : (s.issued (cellNo k)).sysValue k t sel = s.sysValue k t sel := by
  unfold State.sysValue
  split <;> simp only [State.issued, State.setCell_prog, State.cell_setCell_self]

/-- SYS puts what it reads into gd; a read of FLAGS clears the sticky flags. -/
theorem sys_setsWork {s : State} {k : CellId} {d sel : BitVec 4} (hsel : sel.toNat ≤ 4) (hlast : notLast s k) (hrun : mayRun s k [] none 1) :
    setsWork (.sys k d sel) s k [] none 1
      ((if sel.toNat = 4 then (s.cell (cellNo k)).work.clearSticky else (s.cell (cellNo k)).work).setReg d
        (BitVec.ofNat 32 (s.sysValue k (max (s.cell (cellNo k)).next s.now + stall s k [] none) sel.toNat))) := by
  refine setsWork_of_instr (congrArg Host.Outcome.next (if_neg (Nat.not_lt.2 hsel))) hlast hrun ?_
  rw [← State.sysValue_issued]
  unfold State.sysValue
  simp only [State.issued_work] <;> rfl

end Sys2Proof.Machine

open Sys2Proof Sys2Proof.Machine Sys2Proof.Safety Sys2Proof.Bits in
/-- Settles O6: each of the immediate instructions is its word operation in gd (`setsWork_of_alu`), and SYS reads what its selector names
(`setsWork_of_instr`). -/
theorem immediateAndSystemInstructions : Obligations.ImmediateAndSystemInstructions := by
  constructor
  · intro s k d a b imm sh hlast w
    refine ⟨fun hrun => ⟨?_, ?_, ?_, ?_, ?_, ?_, ?_⟩, fun hrun => ⟨?_, ?_⟩, fun hrun => ?_⟩
    case refine_8 =>
      refine setsWork_of_alu rfl hlast hrun (congrArg (w.setReg d) (BitVec.eq_of_toNat_eq ?_))
      simp [Nat.shiftLeft_eq]
    all_goals exact setsWork_of_alu rfl hlast hrun rfl
  · intro s k d hlast hrun n w p t
    have hp : p = s.prog (partOf n) (s.cell n).prog := congrArg (s.prog · (s.cell n).prog) (partOf_cellNo k).symm
    have sys (sel : BitVec 4) (hsel : sel.toNat ≤ 4) := sys_setsWork (d := d) hsel hlast hrun
    refine ⟨?_, ?_, ?_, sys 3 (by decide), ?_⟩
    · rw [← cellIdent_cellNo]
      exact sys 0 (by decide)
    · rw [hp]
      exact sys 1 (by decide)
    · rw [hp]
      exact sys 2 (by decide)
    · rw [← Work.clearSticky_setReg]
      exact sys 4 (by decide)

namespace Sys2Proof.Machine

open Sys2Proof.Bits Sys2Proof.Safety

/-! ### Local stores (R67, R74) -/

/-- A store of n bytes has been made: the low bytes of gd stand at ea, and the cell holds them for letters of the same cycle. -/
def Stored (s : State) (k : CellId) (d a : BitVec 4) (ea n : Nat) (t : State) : Prop :=
  (let c := s.cell (cellNo k)
   let T := max c.next s.now + stall s k [a, d] none
   t.cell (cellNo k) = { c with
     pc := c.pc + 1, charged := c.charged + (stall s k [a, d] none + 1), next := T + 1, lastLoad := none
     stored := some (T, ea, s.rdMem (byteAddress k ea) n, toLe n (c.work.reg d).toNat) }) ∧
  t = { s with cells := t.cells, clusters := t.clusters, mem := t.mem } ∧
  (∀ m, m ≠ cellNo k → t.cell m = s.cell m) ∧ counted s t k ∧
  (∀ i, i < n → t.rdByte (byteAddress k (ea + i)) = BitVec.ofNat 8 (((s.cell (cellNo k)).work.reg d).toNat / 2 ^ (8 * i))) ∧
  ∀ x, (x < byteAddress k ea ∨ byteAddress k ea + n ≤ x) → t.rdByte x = s.rdByte x

/-- The cell once it has stored n bytes at ea in the cycle t. -/
def State.storedCell (s : State) (k : CellId) (d : BitVec 4) (ea n t : Nat) : Cell :=
  { s.cell (cellNo k) with
    lastLoad := none, stored := some (t, ea, s.rdMem (byteAddress k ea) n, toLe n ((s.cell (cellNo k)).work.reg d).toNat) }

theorem State.issued_wrMem (s : State) (n a : Nat) (b : Bytes) : (s.wrMem a b).issued n = (s.issued n).wrMem a b := rfl

/-- An aligned store within WORK writes the low bytes of gd in the issue state and retires. -/
theorem State.store_eq {s : State} {k : CellId} {d a : BitVec 4} {imm : BitVec 16} {n ea : Nat} (hrun : mayRun s k [a, d] none 1)
    (hea : localAddr ((s.cell (cellNo k)).work.reg a) imm = ea) (hrange : ea ≤ 0x7FF) (halign : ea % n = 0) :
    s.store k d a imm n = (((s.wrMem (byteAddress k ea) (toLe n ((s.cell (cellNo k)).work.reg d).toNat)).issued (cellNo k)).setCell (cellNo k)
      (s.storedCell k d ea n (max (s.cell (cellNo k)).next s.now + stall s k [a, d] none))).retire (cellNo k)
        (max (s.cell (cellNo k)).next s.now + stall s k [a, d] none) (stall s k [a, d] none + 1) 1 none := by
  unfold State.store
  dsimp only
  rw [State.instr_past (tgt := none) (charge := fun _ => 1) (u := ((s.wrMem (byteAddress k ea) _).issued (cellNo k)).setCell (cellNo k)
    (s.storedCell k d ea n (max (s.cell (cellNo k)).next s.now + stall s k [a, d] none))) hrun]
  simp only [State.issued_work, hea, gt_iff_lt, Nat.not_lt.2 hrange, if_false, halign, ne_eq, not_true_eq_false, cellAddr_eq,
    State.issued_wrMem]
  simp only [State.issued, State.rdMem_setCell, State.cell_setCell_self]
  rfl

theorem State.store_stored {s : State} {k : CellId} {d a : BitVec 4} {imm : BitVec 16} {n ea : Nat} (hlast : notLast s k)
    (hrun : mayRun s k [a, d] none 1) (hea : localAddr ((s.cell (cellNo k)).work.reg a) imm = ea) (hrange : ea ≤ 0x7FF)
    (halign : ea % n = 0) : Stored s k d a ea n (s.store k d a imm n) := by
  rw [State.store_eq hrun hea hrange halign]
  generalize hv : ((s.cell (cellNo k)).work.reg d).toNat = v
  generalize hw : s.wrMem (byteAddress k ea) (toLe n v) = w
  generalize hc : s.storedCell k d ea n _ = c
  have hgo : (((w.issued (cellNo k)).setCell (cellNo k) c).cell (cellNo k)).goesOn none := by
    rw [State.cell_setCell_self, ← hc]
    exact .inl hlast
  have hcell := State.retire_cell (t := max (s.cell (cellNo k)).next s.now + stall s k [a, d] none) (ch := stall s k [a, d] none + 1) (cost := 1) hgo
  have honly := State.retire_onlyCell (t := max (s.cell (cellNo k)).next s.now + stall s k [a, d] none) (ch := stall s k [a, d] none + 1)
    (cost := 1) hgo (onlyCell.issued w k).setCell
  have hcount := State.retire_counted (s := s) (t := max (s.cell (cellNo k)).next s.now + stall s k [a, d] none) (ch := stall s k [a, d] none + 1)
    (cost := 1) hgo (by rw [← hw]; rfl)
  generalize ((w.issued (cellNo k)).setCell (cellNo k) c).retire .. = t at *
  obtain ⟨ht, hothers, -⟩ := honly
  have hbyte (x : Nat) : t.rdByte x = w.rdByte x := by rw [ht]; rfl
  refine ⟨?_, ?_, ?_, hcount, fun i hi => ?_, fun x hx => ?_⟩
  · rw [hcell, State.cell_setCell_self, ← hc]
    rfl
  · rw [ht, ← hw]
    rfl
  · intro m hm
    rw [hothers m hm, ← hw, State.wrMem_cell]
  · have hi' : i < (toLe n v).length := by rwa [toLe_length]
    rw [hbyte, ← hw, byteAddress_add, State.rdByte_wrMem_inside _ _ _ _ hi', getElem_toLe, hv]
  · rw [hbyte, ← hw, State.rdByte_wrMem_outside _ _ _ _ (by rwa [toLe_length])]

end Sys2Proof.Machine

open Sys2Proof Sys2Proof.Machine Sys2Proof.Safety Sys2Proof.Bits in
/-- Settles O8: a store that may run, is in range and aligned has been made (`State.store_stored`). -/
theorem localStores : Obligations.LocalStores := by
  intro s k d a imm hlast hrun w ea stores hrange
  have store (n : Nat) (halign : ea % n = 0) := State.store_stored hlast hrun rfl hrange halign
  exact ⟨fun h => ⟨_, rfl, store 4 h⟩, fun h => ⟨_, rfl, store 2 h⟩, ⟨_, rfl, store 1 (Nat.mod_one _)⟩⟩

namespace Sys2Proof.Machine

open Sys2Proof.Bits Sys2Proof.Safety

/-! ### Faults of loads, stores and JR (R74, R85) -/

/-- An instruction of registers that the budget does not cover stops its cell before it (R120). -/
theorem State.alu_over {s : State} {k : CellId} {reads : List (BitVec 4)} {cost : Nat} {f : Work → Work} (hrun : s.canRun (cellNo k) = true)
    (h : s.budget (cellNo k) < (s.cell (cellNo k)).charged + (stall s k reads none + cost)) : s.alu k reads cost f =
      (s.setCell (cellNo k) { s.cell (cellNo k) with run := 3, overrun := true }).restless (clusterOf (cellNo k)) :=
  State.instr_over _ _ _ _ _ _ _ _ hrun h

/-- A store that the budget does not cover stops its cell before it (R120). -/
theorem State.store_over {s : State} {k : CellId} {d a : BitVec 4} {imm : BitVec 16} {n : Nat} (hrun : s.canRun (cellNo k) = true)
    (h : s.budget (cellNo k) < (s.cell (cellNo k)).charged + (stall s k [a, d] none + 1)) : s.store k d a imm n =
      (s.setCell (cellNo k) { s.cell (cellNo k) with run := 3, overrun := true }).restless (clusterOf (cellNo k)) := by
  unfold State.store
  exact State.instr_over _ _ _ _ _ _ _ _ hrun h

/-- The effect of JR. -/
def State.jrEff (s : State) (k : CellId) (a : BitVec 4) : Eff :=
  if ((s.cell (cellNo k)).work.reg a).toNat % 256 ≥ (s.cell (cellNo k)).len then .fault pcRange pcRange
  else .jump s (BitVec.ofNat 8 (((s.cell (cellNo k)).work.reg a).toNat % 256))

theorem exec_jr (k : CellId) (a : BitVec 4) (s : State) :
    exec (.jr k a) s = .next (s.instr k [a] none false (fun _ => 2) (fun _ => 2) fun s _ => s.jrEff k a) := rfl

section faults

variable {s : State} {k : CellId} {d a : BitVec 4} {imm : BitVec 16} {ecc : Ecc} {n : Nat}

/-- An instruction that may run and whose effect is a fault stops its cell, if the cell is in no envelope. -/
theorem State.instr_stops {reads : List (BitVec 4)} {acc : Option Bool} {charge cost : Cell → Nat} {body : State → Nat → Eff} {reason x : Nat}
    (hrun : mayRun s k reads acc (charge (s.cell (cellNo k)))) (hctx : (s.cell (cellNo k)).ctx = .none)
    (hbody : body (s.issued (cellNo k)) (max (s.cell (cellNo k)).next s.now + stall s k reads acc) = .fault reason x) :
    cellStops s (s.instr k reads acc false charge cost body) k
      (if reason = 4 then 0x106 else if reason = 3 then 0x103 else 0x107) (if reason = 4 ∨ reason = 3 then x else reason) := by
  rw [State.instr_eq _ _ _ _ _ _ _ hrun, hbody, Eff.finish, State.issued_pc]
  exact State.cellStops_cellFault s k reason x hctx

theorem State.load_range {ext : Nat → Int} (hrun : mayRun s k [a] none 1) (hctx : (s.cell (cellNo k)).ctx = .none)
    (h : 0x7FF < localAddr ((s.cell (cellNo k)).work.reg a) imm) : cellStops s (s.load k d a imm ecc n ext) k 0x107 1 :=
  State.instr_stops (reason := memRange) (x := memRange) hrun hctx (by simp only [State.issued_work, gt_iff_lt, h, if_true])

theorem State.load_align {ext : Nat → Int} (hrun : mayRun s k [a] none 1) (hctx : (s.cell (cellNo k)).ctx = .none)
    (hrange : localAddr ((s.cell (cellNo k)).work.reg a) imm ≤ 0x7FF) (h : localAddr ((s.cell (cellNo k)).work.reg a) imm % n ≠ 0) :
    cellStops s (s.load k d a imm ecc n ext) k 0x107 2 :=
  State.instr_stops (reason := memAlign) (x := memAlign) hrun hctx
    (by simp only [State.issued_work, gt_iff_lt, Nat.not_lt.2 hrange, if_false, ne_eq, h, not_false_eq_true, if_true])

theorem State.load_uncorrectable {ext : Nat → Int} (hrun : mayRun s k [a] none 1) (hctx : (s.cell (cellNo k)).ctx = .none)
    (hrange : localAddr ((s.cell (cellNo k)).work.reg a) imm ≤ 0x7FF) (h : localAddr ((s.cell (cellNo k)).work.reg a) imm % n = 0) :
    cellStops s (s.load k d a imm .uncorrectable n ext) k 0x103 (byteAddress k (localAddr ((s.cell (cellNo k)).work.reg a) imm)) :=
  State.instr_stops (reason := memUncorrectable) (x := byteAddress k _) hrun hctx
    (by simp only [State.issued_work, gt_iff_lt, Nat.not_lt.2 hrange, if_false, ne_eq, h, not_true_eq_false, cellAddr_eq])

/-- A JR to a target at or beyond the program's length stops its cell with PC_RANGE. -/
theorem State.jr_stops (hrun : mayRun s k [a] none 2) (hctx : (s.cell (cellNo k)).ctx = .none)
    (h : (s.cell (cellNo k)).len ≤ ((s.cell (cellNo k)).work.reg a).toNat % 256) :
    cellStops s (s.instr k [a] none false (fun _ => 2) (fun _ => 2) fun s _ => s.jrEff k a) k 0x107 5 :=
  State.instr_stops (reason := pcRange) (x := pcRange) hrun hctx (if_pos (by simpa [State.issued] using h))

theorem State.store_range (hrun : mayRun s k [a, d] none 1) (hctx : (s.cell (cellNo k)).ctx = .none)
    (h : 0x7FF < localAddr ((s.cell (cellNo k)).work.reg a) imm) : cellStops s (s.store k d a imm n) k 0x107 1 :=
  State.instr_stops (reason := memRange) (x := memRange) hrun hctx (by simp only [State.issued_work, gt_iff_lt, h, if_true])

theorem State.store_align (hrun : mayRun s k [a, d] none 1) (hctx : (s.cell (cellNo k)).ctx = .none)
    (hrange : localAddr ((s.cell (cellNo k)).work.reg a) imm ≤ 0x7FF) (h : localAddr ((s.cell (cellNo k)).work.reg a) imm % n ≠ 0) :
    cellStops s (s.store k d a imm n) k 0x107 2 :=
  State.instr_stops (reason := memAlign) (x := memAlign) hrun hctx
    (by simp only [State.issued_work, gt_iff_lt, Nat.not_lt.2 hrange, if_false, ne_eq, h, not_false_eq_true, if_true])

end faults

/-! ### Execution past the last instruction (R74, R120) -/

/-- A cell that runs may execute. -/
theorem State.run_of_canRun {s : State} {n : Nat} (h : s.canRun n = true) : (s.cell n).run = 1 := by
  simp only [State.canRun, Bool.and_eq_true, decide_eq_true_eq] at h
  exact h.1.1.1.1

/-- The state in which an instruction at the program's end is counted and its cell advanced. -/
def State.retired (s : State) (n t ch cost : Nat) : State :=
  (s.setCell n ((s.cell n).past t ch cost none)).setCl (clusterOf n)
    { s.cl (clusterOf n) with instr := satAdd 64 (s.cl (clusterOf n)).instr 1 }

theorem State.retired_cell (s : State) (n t ch cost : Nat) : (s.retired n t ch cost).cell n = (s.cell n).past t ch cost none := by
  rw [State.retired, State.setCl_cell, State.cell_setCell_self]

/-- An instruction at the program's end stops its cell: without a fault where it spends the budget, else with PC_RANGE. -/
theorem State.retire_end (s : State) (n t ch cost : Nat) (hend : (s.cell n).len ≤ (s.cell n).pc.toNat + 1) (hrun : (s.cell n).run = 1) :
    s.retire n t ch cost none =
      if s.budget n ≤ (s.cell n).charged + ch then
        ((s.retired n t ch cost).setCell n { (s.retired n t ch cost).cell n with run := 3, overrun := true }).restless (clusterOf n)
      else (s.retired n t ch cost).cellFault n pcRange 0 ((s.cell n).pc.toNat + 1) := by
  unfold State.retire
  extract_lets c fell pc u k v w
  have hfell : fell = true := by simp [fell, c, hend, hrun]
  have hbudget : w.budget n = s.budget n := by
    simp only [w, u, State.budget, State.setCl_manOf, State.setCell_manOf, State.setCl_cell, State.cell_setCell_self]
    rfl
  rw [if_pos hfell, hbudget]
  rfl

/-- A NOP at the program's end advances its cell and stops it at a state v that keeps memory, what leaves the cell and the log. -/
theorem State.nop_end_eq {s : State} {k : CellId} (hrun : mayRun s k [] none 1)
    (hend : (s.cell (cellNo k)).len ≤ (s.cell (cellNo k)).pc.toNat + 1) :
    let c := s.cell (cellNo k)
    ∃ v : State, (s.alu k [] 1 id = if s.budget (cellNo k) ≤ c.charged + (stall s k [] none + 1) then
          (v.setCell (cellNo k) { v.cell (cellNo k) with run := 3, overrun := true }).restless (clusterOf (cellNo k))
        else v.cellFault (cellNo k) pcRange 0 (c.pc.toNat + 1)) ∧
      ((v.cell (cellNo k)).work = c.work ∧ (v.cell (cellNo k)).ctx = c.ctx) ∧
      v.mem = s.mem ∧ v.kept = s.kept ∧ v.net = s.net ∧ v.evl = s.evl ∧ v.beat = s.beat := by
  intro c
  generalize hu : (s.issued (cellNo k)).setWork (cellNo k) c.work = u
  have hcell : u.cell (cellNo k) = { c with lastLoad := none } := by
    rw [← hu, State.setWork, State.cell_setCell_self, State.issued, State.cell_setCell_self]
  have hbudget : u.budget (cellNo k) = s.budget (cellNo k) := by
    simp only [State.budget, hcell]
    rw [← hu]
    rfl
  have hframe : u.mem = s.mem ∧ u.kept = s.kept ∧ u.net = s.net ∧ u.evl = s.evl ∧ u.beat = s.beat := by
    rw [← hu]
    exact ⟨rfl, rfl, rfl, rfl, rfl⟩
  have hpast : s.alu k [] 1 id = u.retire (cellNo k) (max c.next s.now + stall s k [] none) (stall s k [] none + 1) 1 none :=
    State.instr_past (charge := fun _ => 1) hrun (by rw [← hu, id_eq, State.issued_work]; rfl)
  have hstops := hpast.trans (State.retire_end _ _ _ _ _ (by rwa [hcell]) (by rw [hcell]; exact State.run_of_canRun hrun.1))
  rw [hbudget, show (u.cell (cellNo k)).charged = c.charged by rw [hcell], show (u.cell (cellNo k)).pc = c.pc by rw [hcell]] at hstops
  refine ⟨_, hstops, ?_, ?_⟩
  · rw [State.retired_cell, hcell]
    exact ⟨rfl, rfl⟩
  · exact hframe

/-- A fault of a cell in no envelope stops it; its registers, memory and what has left it stay. -/
theorem State.cellFault_stops {v : State} {n reason x pc : Nat} (hctx : (v.cell n).ctx = .none) :
    let t := v.cellFault n reason x pc
    (t.cell n).run = 3 ∧ (t.cell n).work = (v.cell n).work ∧ t.mem = v.mem ∧ t.kept = v.kept ∧ t.net = v.net := by
  intro t
  have keeps {α : Type} (F : State → α) (hF : ∀ (s : State) r c l e v t,
      F { s with regs := r, cells := c, clusters := l, evl := e, rcv := v, twn := t } = F s) : F t = F v :=
    State.cellFault_keeps F hF _ _ _ _ _ hctx
  have hcell : t.cell n = { v.cell n with run := 3 } := (State.cell_cellFault _ _ _ _ _ hctx n).trans (if_pos rfl)
  exact ⟨by rw [hcell], by rw [hcell], keeps State.mem fun _ _ _ _ _ _ _ => rfl, keeps State.kept fun _ _ _ _ _ _ _ => rfl,
    keeps State.net fun _ _ _ _ _ _ _ => rfl⟩

/-- A NOP at the program's end stops its cell: without a fault where it spends the budget, else with PC_RANGE at the PC past the end. -/
theorem State.nop_end {s : State} {k : CellId} (hrun : mayRun s k [] none 1) (hctx : (s.cell (cellNo k)).ctx = .none)
    (hend : (s.cell (cellNo k)).len ≤ (s.cell (cellNo k)).pc.toNat + 1) :
    let c := s.cell (cellNo k)
    let t := s.alu k [] 1 id
    (t.cell (cellNo k)).run = 3 ∧ (t.cell (cellNo k)).work = c.work ∧ t.mem = s.mem ∧ t.kept = s.kept ∧ t.net = s.net ∧
      (c.charged + (stall s k [] none + 1) = s.budget (cellNo k) → (t.cell (cellNo k)).overrun = true ∧ t.evl = s.evl) ∧
      (c.charged + (stall s k [] none + 1) < s.budget (cellNo k) →
        raises s t 0x107 (k.p.val + 256 * k.c.val + 65536 * k.k.val) 5 (c.pc.toNat + 1) (s.beat.toNat % 2 ^ 32)) := by
  intro c t
  obtain ⟨v, ht, ⟨hwork, hvctx⟩, hmem, hkept, hnet, hevl, hbeat⟩ := State.nop_end_eq hrun hend
  rw [show s.alu k [] 1 id = t from rfl] at ht
  clear_value t
  by_cases hspent : s.budget (cellNo k) ≤ c.charged + (stall s k [] none + 1)
  · rw [if_pos hspent] at ht
    subst ht
    refine ⟨?_, ?_, hmem, hkept, hnet, fun _ => ⟨?_, hevl⟩, fun h => absurd h (Nat.not_lt.2 hspent)⟩
    · rw [State.restless_cell, State.cell_setCell_self]
    · rw [State.restless_cell, State.cell_setCell_self]
      exact hwork
    · rw [State.restless_cell, State.cell_setCell_self]
  · rw [if_neg hspent] at ht
    have hnone : (v.cell (cellNo k)).ctx = .none := hvctx.trans hctx
    obtain ⟨h1, h2, h3, h4, h5⟩ := State.cellFault_stops (reason := pcRange) (x := 0) (pc := c.pc.toNat + 1) hnone
    have hraise := State.raises_cellFault v (cellNo k) pcRange 0 (c.pc.toNat + 1) hnone
    rw [if_neg (by decide), if_neg (by decide), cellParam_cellNo] at hraise
    simp only [raises, hevl, State.beatLo, State.beatN, hbeat] at hraise
    rw [← ht] at h1 h2 h3 h4 h5 hraise
    exact ⟨h1, h2.trans hwork, h3.trans hmem, h4.trans hkept, h5.trans hnet, fun h => absurd (Nat.le_of_eq h.symm) hspent, fun _ => hraise⟩

end Sys2Proof.Machine

open Sys2Proof Sys2Proof.Machine Sys2Proof.Safety Sys2Proof.Bits in
/-- Settles O9: a fault stops the cell with its event (`State.instr_stops`), and an instruction that the budget does not cover stops the cell
before it (`State.instr_over`). -/
theorem cellFaultsAndBudgetStops : Obligations.CellFaultsAndBudgetStops := by
  constructor
  · intro s k d a imm ecc hctx c ea stops
    refine ⟨fun hrun => ⟨fun h => ?_, fun hr h => ?_, fun hr h => ?_, fun hr h => ?_, fun hr h => ?_, fun hr => ?_⟩,
      fun hrun => ⟨fun h => ?_, fun hr h => ?_, fun hr h => ?_⟩, fun hrun h => ?_, fun hrun hend => ?_⟩
    · exact ⟨⟨_, rfl, State.load_range hrun hctx h⟩, ⟨_, rfl, State.load_range hrun hctx h⟩, ⟨_, rfl, State.load_range hrun hctx h⟩,
        ⟨_, rfl, State.load_range hrun hctx h⟩⟩
    · exact ⟨_, rfl, State.load_align hrun hctx hr h⟩
    · exact ⟨⟨_, rfl, State.load_align hrun hctx hr h⟩, ⟨_, rfl, State.load_align hrun hctx hr h⟩⟩
    · exact ⟨_, rfl, State.load_uncorrectable hrun hctx hr h⟩
    · exact ⟨⟨_, rfl, State.load_uncorrectable hrun hctx hr h⟩, ⟨_, rfl, State.load_uncorrectable hrun hctx hr h⟩⟩
    · exact ⟨_, rfl, State.load_uncorrectable hrun hctx hr (Nat.mod_one _)⟩
    · exact ⟨⟨_, rfl, State.store_range hrun hctx h⟩, ⟨_, rfl, State.store_range hrun hctx h⟩, ⟨_, rfl, State.store_range hrun hctx h⟩⟩
    · exact ⟨_, rfl, State.store_align hrun hctx hr h⟩
    · exact ⟨_, rfl, State.store_align hrun hctx hr h⟩
    · exact ⟨_, exec_jr k a s, State.jr_stops hrun hctx h⟩
    · exact ⟨_, rfl, State.nop_end hrun hctx hend⟩
  · intro s k d a b hrun c stopped
    have stops {i : Instr} {t : State} (hi : exec i s = .next t)
        (ht : t = (s.setCell (cellNo k) { c with run := 3, overrun := true }).restless (clusterOf (cellNo k))) : stopped i := by
      refine ⟨t, hi, ?_⟩
      rw [ht]
      exact ⟨by rw [State.restless_cell, State.cell_setCell_self], (onlyCell.refl s k).setCell.restless, rfl, by
        rw [State.restless, State.cl_setCl_self]; rfl⟩
    exact ⟨fun h => ⟨stops rfl (State.alu_over hrun h), stops rfl (State.alu_over hrun h)⟩,
      fun h => stops rfl (State.store_over hrun h), fun h => stops rfl (State.instr_over _ _ _ _ _ _ _ _ hrun h)⟩

namespace Sys2Proof.Machine

open Sys2Proof.Bits Sys2Proof.Safety

/-! ### MAC instructions (R75, R78, R284) -/

@[simp] theorem State.macIssue_cell (s : State) (n fmt m : Nat) : (s.macIssue n fmt).cell m = s.cell m := rfl

/-- The working registers of a MAC instruction's cell after it: accumulator n is A, and ASAT is set where it was clamped. -/
theorem Work.orAsat_setAcc (w : Work) (n : Bool) (A : Acc) (clamped : Bool) : (w.setAcc n A).orAsat clamped =
    { w with
      acc0 := if n then w.acc0 else A, acc1 := if n then A else w.acc1
      flags := if clamped then w.flags ||| 4 else w.flags } := by
  rw [Work.orAsat_eq]
  cases n <;> rfl

/-- The state in which a MAC instruction has its effect differs in the cell and its cluster alone; the instruction has counted. -/
theorem State.issueState_mac (s : State) (k : CellId) (t1 t : Nat) :
    let u := s.issueState (cellNo k) true t1 t
    u.cell (cellNo k) = { s.cell (cellNo k) with lastLoad := none } ∧ onlyCell s u k ∧
      (u.cl (clusterOf (cellNo k))).mac = satAdd 64 (s.cl (clusterOf (cellNo k))).mac 1 := by
  simp only [State.issueState, if_true]
  exact ⟨State.cell_setCell_self .., (onlyCell.refl s k).setCell.setCl, by rw [State.cl_setCl_self]; rfl⟩

theorem State.mac_retire {s : State} {k : CellId} {t ch cost : Nat} {tgt : Option (BitVec 8)} (h : (s.cell (cellNo k)).goesOn tgt) :
    ((s.retire (cellNo k) t ch cost tgt).cl (clusterOf (cellNo k))).mac = (s.cl (clusterOf (cellNo k))).mac := by
  rw [State.retire_eq _ _ _ _ _ _ h, State.cl_setCl_self]

theorem State.mac_macIssue (s : State) (n fmt : Nat) : ((s.macIssue n fmt).cl (clusterOf n)).mac = (s.cl (clusterOf n)).mac := by
  rw [State.macIssue, State.cl_setCl_self]

/-- A MAC instruction that may run puts what f gives of the working registers into accumulator n. -/
theorem macs_of_macOp {i : Instr} {s : State} {k : CellId} {a b : BitVec 4} {n : Bool} {fmt : Nat} {f : Work → Acc × Bool} {A : Acc}
    {clamped : Bool} (hi : exec i s = .next (s.macOp fmt k a b n f)) (hlast : notLast s k) (hrun : mayRun s k [a, b] none 1)
    (hf : f (s.cell (cellNo k)).work = (A, clamped)) : macs i s k [a, b] n A clamped := by
  refine ⟨_, hi, ?_⟩
  dsimp only
  obtain ⟨hcell, honly, hmac⟩ := s.issueState_mac k (max (s.cell (cellNo k)).next s.now + stall s k [a, b] none) (macCycle s k [a, b])
  unfold State.macOp
  dsimp only
  rw [State.instr_mac_eq _ _ _ _ _ _ hrun]
  generalize s.issueState (cellNo k) true _ _ = u at *
  simp only [hcell, hf, Work.orAsat_setAcc, Eff.finish]
  generalize hc : (if n then _ else _ : Cell) = c'
  have hgo : (((u.setCell (cellNo k) c').macIssue (cellNo k) fmt).cell (cellNo k)).goesOn none := by
    rw [State.macIssue_cell, State.cell_setCell_self, ← hc]
    cases n
    all_goals exact .inl hlast
  refine ⟨State.retire_onlyCell hgo honly.setCell.setCl, ?_, ?_⟩
  · rw [State.retire_cell hgo, State.macIssue_cell, State.cell_setCell_self, ← hc]
    cases n <;> rfl
  · rw [State.mac_retire hgo, State.mac_macIssue]
    exact hmac

end Sys2Proof.Machine

open Sys2Proof Sys2Proof.Machine Sys2Proof.Safety Sys2Proof.Bits in
/-- Settles O10: the instruction accumulates x × y (`macs_of_macOp`), and the clamp acts outside 40 bits alone (`clamp_ne_iff`). -/
theorem q15MultiplyAccumulate : Obligations.Q15MultiplyAccumulate := by
  intro s k a b n ha hb hlast hrun w acc x y after clamped
  have hmac (sub : Bool) : macq (w.acc n) (half (w.reg a) ha) (half (w.reg b) hb) sub =
      (after (if sub then acc.v.toInt - x * y else acc.v.toInt + x * y), clamped (if sub then acc.v.toInt - x * y else acc.v.toInt + x * y)) := by
    rw [half_eq_toInt, half_eq_toInt]
    exact Prod.ext rfl (decide_eq_decide.2 (clamp_ne_iff (by decide)))
  exact ⟨macs_of_macOp rfl hlast hrun (hmac false), macs_of_macOp rfl hlast hrun (hmac true)⟩

namespace Sys2Proof.Machine

open Sys2Proof.Bits Sys2Proof.Safety

/-! ### Block arithmetic (R77, R78) -/

/-- The lane sum of MACB8 and MACB4 is the sum of the products of the signed lanes. -/
theorem laneSum_eq_sum {m : Nat} (hm : 0 < m) (a b : Word) (n : Nat) : laneSum m a b n = ((List.range n).map fun i =>
    (BitVec.ofNat m (a.toNat / 2 ^ (m * i))).toInt * (BitVec.ofNat m (b.toNat / 2 ^ (m * i))).toInt).sum := by
  induction n with
  | zero => rfl
  | succ n ih =>
    rw [laneSum, ih, List.range_succ, List.map_append, List.sum_append, sint_eq_toInt hm, sint_eq_toInt hm, Int.add_comm]
    simp

end Sys2Proof.Machine

open Sys2Proof Sys2Proof.Machine Sys2Proof.Safety Sys2Proof.Bits in
/-- Settles O11: the lanes' products are summed (`laneSum_eq_sum`), and the clamps act outside 32 bits alone (`clamp_ne_iff`). -/
theorem blockMultiplyAccumulate : Obligations.BlockMultiplyAccumulate := by
  intro s k a b n hlast hrun w acc pe ex lane sum sat clamps does
  have hclamp (v : Int) : decide (sat32 v ≠ v) = clamps v := decide_eq_decide.2 (clamp_ne_iff (by decide))
  have block {i : Instr} {fmt : Nat} {f : Work → Acc × Bool} {S : Int} (hi : exec i s = .next (s.macOp fmt k a b n f))
      (hf : f w = macb acc S pe) : does i S := by
    simp only [does]
    split
    · next hempty =>
      refine macs_of_macOp hi hlast hrun (hf.trans ?_)
      rw [macb, if_pos hempty, hclamp]
      rfl
    · next hempty =>
      refine macs_of_macOp hi hlast hrun (hf.trans ?_)
      rw [macb, if_neg hempty]
      simp only [hclamp]
      rfl
  exact ⟨block rfl (by rw [laneSum_eq_sum (by decide)]; rfl), block rfl (by rw [laneSum_eq_sum (by decide)]; rfl)⟩

namespace Sys2Proof.Bits

/-! ### Rounding half to even (R76) -/

/-- A nearest multiple q of d = 2h to v, taken up from the floor where the rest is more than h, or is h and the floor is odd. -/
theorem nearest_even {v h q r : Int} (hv : v = q * (2 * h) + r) (h0 : 0 ≤ r) (h1 : r < 2 * h) :
    let x := if r > h ∨ (r = h ∧ q % 2 ≠ 0) then q + 1 else q
    2 * (x * (2 * h) - v) ≤ 2 * h ∧ 2 * (v - x * (2 * h)) ≤ 2 * h ∧
    ((2 * (x * (2 * h) - v) = 2 * h ∨ 2 * (v - x * (2 * h)) = 2 * h) → x % 2 = 0) := by
  intro x
  by_cases hup : r > h ∨ (r = h ∧ q % 2 ≠ 0)
  · have hx : x = q + 1 := if_pos hup
    rw [hx, Int.add_mul, Int.one_mul]
    generalize q * (2 * h) = m at hv
    omega
  · have hx : x = q := if_neg hup
    rw [hx]
    generalize q * (2 * h) = m at hv
    omega

/-- A rounded quotient is that of the floor and its rest. -/
theorem rhe_eq {v : Int} {n : Nat} (h0 : n ≠ 0) (hn : n ≤ 62) : rhe v n =
    let q := v / 2 ^ n
    let r := v % 2 ^ n
    if r > 2 ^ (n - 1) ∨ (r = 2 ^ (n - 1) ∧ q % 2 ≠ 0) then q + 1 else q := by
  have hq : v.fdiv ((2 : Int) ^ n) = v / 2 ^ n := Int.fdiv_eq_ediv_of_nonneg _ (by positivity)
  have hr : v - v / 2 ^ n * (2 : Int) ^ n = v % 2 ^ n := by rw [Int.emod_def, Int.mul_comm]
  simp only [rhe, h0, if_false, Nat.min_eq_left hn, hq, hr]

end Sys2Proof.Bits

open Sys2Proof Sys2Proof.Machine Sys2Proof.Safety Sys2Proof.Bits in
/-- Settles O12: rhe takes the floor of the quotient or the next number, by the rest (`rhe_eq`, `nearest_even`). -/
theorem roundHalfToEven : Obligations.RoundHalfToEven := by
  intro v n hn q
  rcases Nat.eq_zero_or_pos n with rfl | hpos
  · have hq : q = v := rfl
    rw [hq]
    omega
  · have h2 : (2 : Int) ^ n = 2 * 2 ^ (n - 1) := by rw [← pow_succ', Nat.sub_add_cancel hpos]
    have hq : q = _ := rhe_eq hpos.ne' hn
    have hfloor : v = v / 2 ^ n * 2 ^ n + v % 2 ^ n := by rw [Int.mul_comm, Int.mul_ediv_add_emod]
    have hrest : 0 ≤ v % 2 ^ n ∧ v % 2 ^ n < (2 : Int) ^ n := ⟨Int.emod_nonneg _ (by positivity), Int.emod_lt_of_pos _ (by positivity)⟩
    rw [hq]
    rw [h2] at *
    exact nearest_even hfloor hrest.1 hrest.2

namespace Sys2Proof.Machine

open Sys2Proof.Bits Sys2Proof.Safety

/-! ### Accumulators read and written (R76, Table 3-4) -/

/-- An instruction that writes an accumulator puts what f gives into it, and the accumulator is ready 3 cycles later. -/
theorem State.accOp_writes {s : State} {k : CellId} {reads : List (BitVec 4)} {n : Bool} {f : Work → Acc} {A : Acc} (hlast : notLast s k)
    (hrun : mayRun s k reads none 1) (hf : f (s.cell (cellNo k)).work = A) :
    let t := s.accOp k reads n f
    let c := s.cell (cellNo k)
    let T := max c.next s.now + stall s k reads none
    onlyCell s t k ∧ counted s t k ∧
      t.cell (cellNo k) = { c with
        work := { c.work with acc0 := if n then c.work.acc0 else A, acc1 := if n then A else c.work.acc1 }
        pc := c.pc + 1, charged := c.charged + (stall s k reads none + 1), next := T + 1, lastLoad := none
        ready0 := if n then c.ready0 else T + 3, ready1 := if n then T + 3 else c.ready1 } := by
  intro t c T
  have hissued : (s.issued (cellNo k)).cell (cellNo k) = { c with lastLoad := none } := State.cell_setCell_self ..
  obtain ⟨hcell, honly, hcount⟩ : t.cell (cellNo k) = _ ∧ onlyCell s t k ∧ counted s t k :=
    State.instr_setCell (tgt := none) (charge := fun _ => 1) (c := { c with
      work := { c.work with acc0 := if n then c.work.acc0 else A, acc1 := if n then A else c.work.acc1 }, lastLoad := none
      ready0 := if n then c.ready0 else T + 3, ready1 := if n then T + 3 else c.ready1 }) hrun (.inl hlast) (by
        rw [hissued, ← hf]
        cases n <;> rfl)
  exact ⟨honly, hcount, hcell⟩

/-- An instruction that reads an accumulator puts what f gives of it into gd; QSAT is set where f says so. -/
theorem setsWork_of_fromAcc {i : Instr} {s : State} {k : CellId} {d : BitVec 4} {n : Bool} {f : Acc → Word × Bool} {w : Work}
    (hi : exec i s = .next (s.fromAcc k d n f)) (hlast : notLast s k) (hrun : mayRun s k [] (some n) 1)
    (hw : ((s.cell (cellNo k)).work.setReg d (f ((s.cell (cellNo k)).work.acc n)).1).orQsat (f ((s.cell (cellNo k)).work.acc n)).2 = w) :
    setsWork i s k [] (some n) 1 w :=
  setsWork_of_instr hi hlast hrun (by simpa only [State.issued_work] using hw)

end Sys2Proof.Machine

open Sys2Proof Sys2Proof.Machine Sys2Proof.Safety Sys2Proof.Bits in
/-- Settles O13: CLRA and SETA write an accumulator (`State.accOp_writes`); GETA, EXTQ and EXTB read one into gd (`setsWork_of_fromAcc`). -/
theorem accumulatorMoves : Obligations.AccumulatorMoves := by
  intro s k d a n sh hlast c w acc writes extract
  have hextract (e : Int) : (w.setReg d (BitVec.ofInt 32 (ext16 acc.v.toInt e))).orQsat (ext16Sat acc.v.toInt e) = extract e := by
    rw [Work.orQsat_eq, Work.setReg_flags]
  refine ⟨fun hrun => ⟨_, rfl, State.accOp_writes hlast hrun rfl⟩, fun hrun => ⟨?_, ?_, ?_, ?_⟩, fun hrun => ⟨?_, ?_, ?_, ?_, ?_, ?_⟩⟩
  case refine_1 | refine_2 | refine_3 | refine_4 => exact ⟨_, rfl, State.accOp_writes hlast hrun rfl⟩
  all_goals refine setsWork_of_fromAcc rfl hlast hrun ?_
  · rfl
  · show w.setReg d (BitVec.ofInt 32 (sint 8 (acc.v.toNat / 4294967296))) = _
    rw [ofInt_sint (by decide)]
    rfl
  · rfl
  · show w.setReg d (BitVec.ofNat 32 (ofBool acc.empty)) = _
    cases acc.empty <;> rfl
  · exact hextract _
  · exact hextract _

namespace Sys2Proof.Machine

open Sys2Proof.Bits Sys2Proof.Safety

/-! ### Branches and jumps (R73, R74) -/

theorem State.issued_cell_self (s : State) (n : Nat) : (s.issued n).cell n = { s.cell n with lastLoad := none } := State.cell_setCell_self ..

/-- An instruction that changes no register of its cell: the cell goes on from the next instruction or the target. -/
theorem State.instr_issued {s : State} {k : CellId} {reads : List (BitVec 4)} {acc : Option Bool} {charge cost : Cell → Nat}
    {body : State → Nat → Eff} {tgt : Option (BitVec 8)} (hrun : mayRun s k reads acc (charge (s.cell (cellNo k))))
    (hgo : (s.cell (cellNo k)).goesOn tgt)
    (hbody : body (s.issued (cellNo k)) (max (s.cell (cellNo k)).next s.now + stall s k reads acc) = .past (s.issued (cellNo k)) tgt) :
    let t := s.instr k reads acc false charge cost body
    t.cell (cellNo k) = Cell.past { s.cell (cellNo k) with lastLoad := none } (max (s.cell (cellNo k)).next s.now + stall s k reads acc)
      (stall s k reads acc + charge (s.cell (cellNo k))) (cost (s.cell (cellNo k))) tgt ∧
      onlyCell s t k ∧ counted s t k := by
  have hgo' : ((s.issued (cellNo k)).cell (cellNo k)).goesOn tgt := by rwa [State.issued_cell_self]
  dsimp only
  rw [State.instr_past hrun hbody]
  exact ⟨by rw [State.retire_cell hgo', State.issued_cell_self], State.retire_onlyCell hgo' (onlyCell.issued s k),
    State.retire_counted hgo' rfl⟩

/-- The condition of a BR in its cell. -/
def Cell.branches (c : Cell) (a b : BitVec 4) (cond : BitVec 3) : Bool := brHolds cond (c.work.reg a) (c.work.reg b) c.work.carry

/-- A BR is taken to its target with 2 cycles, or goes on with 1. -/
theorem exec_br (k : CellId) (a b : BitVec 4) (cond : BitVec 3) (tgt : BitVec 8) (s : State) : exec (.br k a b cond tgt) s = .next
    (s.instr k (brReads cond a b) none false (fun c => 1 + ofBool (c.branches a b cond)) (fun c => 1 + ofBool (c.branches a b cond)) fun s _ =>
      if (s.cell (cellNo k)).branches a b cond then .jump s tgt else .done s) := rfl

/-- A BR, taken or not. -/
theorem State.br_goes {s : State} {k : CellId} {a b : BitVec 4} {cond : BitVec 3} {tgt : BitVec 8} {taken : Bool}
    (htaken : (s.cell (cellNo k)).branches a b cond = taken) (hrun : mayRun s k (brReads cond a b) none (1 + ofBool taken))
    (hgo : taken = true ∨ notLast s k) :
    completes (.br k a b cond tgt) s fun t =>
      cellAfter s t k (brReads cond a b) none (1 + ofBool taken) (s.cell (cellNo k)).work (if taken then tgt else (s.cell (cellNo k)).pc + 1) ∧
        onlyCell s t k ∧ counted s t k := by
  subst htaken
  refine ⟨_, exec_br k a b cond tgt s, ?_⟩
  obtain ⟨hcell, honly⟩ := State.instr_issued (tgt := if (s.cell (cellNo k)).branches a b cond then some tgt else none)
    (charge := fun c => 1 + ofBool (c.branches a b cond)) (cost := fun c => 1 + ofBool (c.branches a b cond))
    (body := fun s _ => if (s.cell (cellNo k)).branches a b cond then .jump s tgt else .done s) hrun
    (by
      split
      · exact .inr (.inl rfl)
      · next h => exact .inl (hgo.resolve_left h)) (by
      have hissued : ((s.issued (cellNo k)).cell (cellNo k)).branches a b cond = (s.cell (cellNo k)).branches a b cond := by
        rw [State.issued_cell_self]
        rfl
      simp only [hissued]
      split <;> rfl)
  refine ⟨hcell.trans ?_, honly⟩
  split <;> rfl

end Sys2Proof.Machine

open Sys2Proof Sys2Proof.Machine Sys2Proof.Safety Sys2Proof.Bits in
/-- Settles O14: a BR goes by its condition (`State.br_goes`); JAL and JR jump (`State.instr_setCell`, `State.instr_issued`). -/
theorem branchesAndJumps : Obligations.BranchesAndJumps := by
  intro s k d a b cond tgt c w x y holds goes reads
  have hholds : c.branches a b cond = holds := rfl
  refine ⟨fun htaken hrun => State.br_goes (hholds.trans htaken) hrun (.inl rfl),
    fun htaken hlast hrun => State.br_goes (hholds.trans htaken) hrun (.inr hlast), fun hrun => ?_, fun hrun hlt => ?_⟩
  · refine ⟨_, rfl, State.instr_setCell (c := { c with work := w.setReg d (BitVec.ofNat 32 (c.pc.toNat + 1)), lastLoad := none })
      (tgt := some tgt) (charge := fun _ => 2) hrun (.inr (.inl rfl)) ?_⟩
    simp only [State.setWork, State.issued_cell_self]
    rfl
  · refine ⟨_, exec_jr k a s, State.instr_issued (tgt := some (BitVec.ofNat 8 x.toNat)) (charge := fun _ => 2) hrun (.inr (.inl rfl)) ?_⟩
    rw [State.jrEff, State.issued_cell_self, if_neg (Nat.not_le.2 hlt)]
    exact congrArg (Eff.jump _) (BitVec.eq_of_toNat_eq (by simp [x, w, c]))

namespace Sys2Proof.Machine

open Sys2Proof.Bits Sys2Proof.Safety

/-! ### WAIT and DONE (R70, R83) -/

/-- An instruction that stops or blocks its cell: the cell is c with the charge and the PC counted, and only it and its cluster change. -/
theorem State.instr_rests {s : State} {k : CellId} {reads : List (BitVec 4)} {acc : Option Bool} {charge cost : Cell → Nat}
    {body : State → Nat → Eff} {c : Cell} (hrun : mayRun s k reads acc (charge (s.cell (cellNo k)))) (hc : c.run ≠ 1)
    (hbody : body (s.issued (cellNo k)) (max (s.cell (cellNo k)).next s.now + stall s k reads acc) =
      .done (((s.issued (cellNo k)).setCell (cellNo k) c).restless (clusterOf (cellNo k)))) :
    let t := s.instr k reads acc false charge cost body
    t.cell (cellNo k) = c.past (max (s.cell (cellNo k)).next s.now + stall s k reads acc)
      (stall s k reads acc + charge (s.cell (cellNo k))) (cost (s.cell (cellNo k))) none ∧ onlyCell s t k := by
  have hgo : ((((s.issued (cellNo k)).setCell (cellNo k) c).restless (clusterOf (cellNo k))).cell (cellNo k)).goesOn none := by
    rw [State.restless_cell, State.cell_setCell_self]
    exact .inr (.inr hc)
  dsimp only
  rw [State.instr_past (tgt := none) hrun hbody]
  exact ⟨by rw [State.retire_cell hgo, State.restless_cell, State.cell_setCell_self],
    State.retire_onlyCell hgo (onlyCell.issued s k).setCell.restless⟩

end Sys2Proof.Machine

open Sys2Proof Sys2Proof.Machine Sys2Proof.Safety Sys2Proof.Bits in
/-- Settles O15: both instructions leave the cell resting (`State.instr_rests`), WAIT with what it waits for. -/
theorem waitAndDone : Obligations.WaitAndDone := by
  intro s k d mask time hrun c T ends
  refine ⟨fun hwaits => ?_, fun hctx => ?_⟩
  · refine ⟨_, congrArg Host.Outcome.next (if_neg (by tauto)), State.instr_rests (c := { c with
      run := 2, lastLoad := none
      waiting := some { mask := mask, dst := d, untilBeat := if time = 0 then none else some (T / 1250 + time.toNat) } })
      (charge := fun _ => 1) hrun (by simp) ?_⟩
    rw [State.issued_cell_self]
  · refine ⟨_, rfl, State.instr_rests (c := { c with run := 3, done := true, lastLoad := none }) (charge := fun _ => 1) hrun (by simp) ?_⟩
    simp only [State.issued_cell_self]
    exact if_neg (not_not.2 hctx)

namespace Sys2Proof.Machine

open Sys2Proof.Bits Sys2Proof.Safety

/-! ### The end of a WAIT (R83) -/

/-- A slot of the mask counts: its COUNT is above 0. -/
abbrev Cell.slotCounts (c : Cell) (mask : BitVec 8) (i : Nat) : Prop :=
  mask.toNat.testBit i = true ∧ 0 < (c.slots.get i 0).toNat / 2 ^ 16 % 2 ^ 8

theorem Cell.slotCounts_iff (c : Cell) (mask : BitVec 8) (i : Nat) :
    (bit mask.toNat i && decide (slotCount (c.slots.get i 0) > 0)) = true ↔ c.slotCounts mask i := by
  rw [Cell.slotCounts, Nat.testBit_eq_decide_div_mod_eq]
  simp [bit, slotCount, fld]

/-- The slot that a WAIT resumes with is the lowest that counts. -/
theorem Cell.ready_eq_some {c : Cell} {mask : BitVec 8} {i : Nat} (hi : i < 8) (hcounts : c.slotCounts mask i)
    (hlowest : ∀ j, j < i → ¬ c.slotCounts mask j) : c.ready mask = some i := by
  refine List.find?_range_eq_some.2 ⟨(c.slotCounts_iff mask i).2 hcounts, List.mem_range.2 hi, fun j hj => ?_⟩
  rw [Bool.not_eq_true', ← Bool.not_eq_true, c.slotCounts_iff]
  exact hlowest j hj

theorem Cell.ready_eq_none {c : Cell} {mask : BitVec 8} (h : ∀ i, i < 8 → ¬ c.slotCounts mask i) : c.ready mask = none :=
  List.find?_eq_none.2 fun i hi => by
    rw [c.slotCounts_iff]
    exact h i (List.mem_range.1 hi)

/-- A slot word whose COUNT is above 0, with the COUNT one less (Table 2-4). -/
theorem setFld_count_pred {v : Word} (h : 0 < v.toNat / 2 ^ 16 % 2 ^ 8) :
    setFld v 16 8 (slotCount v - 1) = BitVec.ofNat 32 (v.toNat - 2 ^ 16) := by
  refine congrArg (BitVec.ofNat 32) ?_
  simp only [slotCount, fld]
  generalize v.toNat = x at h
  norm_num at h ⊢
  omega

/-- A cell that goes on within its program is not past its end. -/
theorem State.resumeCheck_within {s : State} {n : Nat} (hpc : (s.cell n).pc.toNat < (s.cell n).len)
    (hwrap : (s.cell n).pc ≠ 0 ∨ (s.cell n).len < 256) : s.resumeCheck n = s := by
  refine if_neg ?_
  rintro (h | ⟨h, h'⟩)
  · exact absurd hpc (Nat.not_lt.2 h)
  · exact hwrap.elim (fun h'' => h'' h) fun h'' => absurd h'' (by omega)

section resume

variable {s : State} {k : CellId} {w : WaitSt} (hwait : (s.cell (cellNo k)).waiting = some w) (hclock : s.cstate (clusterOf (cellNo k)) = 2)
  (hheld : s.held (partOf (cellNo k)) = false)

include hwait hclock hheld

theorem exec_waitSlotResume {i : Nat} (hready : (s.cell (cellNo k)).ready w.mask = some i) : exec (.waitSlotResume k) s = .next
    ((s.setCell (cellNo k) { s.cell (cellNo k) with
      slots := (s.cell (cellNo k)).slots.put i (setFld ((s.cell (cellNo k)).slots.get i 0) 16 8 (slotCount ((s.cell (cellNo k)).slots.get i 0) - 1)) 0
      run := 1, waiting := none
      work := (s.cell (cellNo k)).work.setReg w.dst (BitVec.ofNat 32 i), next := max (s.cell (cellNo k)).next (s.now + 1) }).resumeCheck
        (cellNo k)) := by
  show execWaitSlotResume k s = _
  unfold execWaitSlotResume
  simp only [hwait, hready, hclock, hheld, Bool.false_eq_true, not_false_eq_true, and_self, if_true]

theorem exec_waitBeatResume {e : Nat} (hbeat : w.untilBeat = some e) (he : e ≤ s.beatN) (hready : (s.cell (cellNo k)).ready w.mask = none) :
    exec (.waitBeatResume k) s = .next ((s.setCell (cellNo k) { s.cell (cellNo k) with
      run := 1, waiting := none, next := max (s.cell (cellNo k)).next s.now
      work := (s.cell (cellNo k)).work.setReg w.dst 8 }).resumeCheck (cellNo k)) := by
  show execWaitBeatResume k s = _
  unfold execWaitBeatResume
  simp only [hwait, hbeat, he, hready, hclock, hheld, Bool.false_eq_true, not_false_eq_true, and_self, if_true]

end resume

end Sys2Proof.Machine

open Sys2Proof Sys2Proof.Machine Sys2Proof.Safety Sys2Proof.Bits in
/-- Settles O16: a cell goes on by the lowest slot that counts (`Cell.ready_eq_some`), at its beat, or with its result word. -/
theorem cellsGoOn : Obligations.CellsGoOn := by
  constructor
  · intro s k w c hwait hclock hheld hpc hwrap counts resumes
    have within {u : Cell} (hu : u.pc = c.pc ∧ u.len = c.len) : (s.setCell (cellNo k) u).resumeCheck (cellNo k) = s.setCell (cellNo k) u :=
      State.resumeCheck_within (by rwa [State.cell_setCell_self, hu.1, hu.2]) (by rwa [State.cell_setCell_self, hu.1, hu.2])
    refine ⟨fun i hi hcounts hlowest => ?_, fun e hbeat he hnone => ?_⟩
    · refine ⟨_, (exec_waitSlotResume hwait hclock hheld (Cell.ready_eq_some hi hcounts hlowest)).trans
        (congrArg Host.Outcome.next (within ⟨rfl, rfl⟩)), ?_⟩
      rw [setFld_count_pred hcounts.2]
      generalize BitVec.ofNat 32 (_ - _) = v
      exact ⟨State.cell_setCell_self .., (onlyCell.refl s k).setCell⟩
    · refine ⟨_, (exec_waitBeatResume hwait hclock hheld hbeat he (Cell.ready_eq_none hnone)).trans
        (congrArg Host.Outcome.next (within ⟨rfl, rfl⟩)), ?_⟩
      exact ⟨State.cell_setCell_self .., (onlyCell.refl s k).setCell⟩
  · intro s k d v c hresult
    refine ⟨s.setCell (cellNo k) { c with result := none, next := max c.next s.now, work := c.work.setReg d v }, ?_,
      State.cell_setCell_self .., (onlyCell.refl s k).setCell, rfl⟩
    show execEnvResultWord k s = _
    unfold execEnvResultWord
    simp only [show (s.cell (cellNo k)).result = some (d, v) from hresult]
    rfl

namespace Sys2Proof.Machine

open Sys2Proof.Bits Sys2Proof.Safety

/-! ### An envelope that aborts (R102, R103) -/

@[simp] theorem State.envStatus_env (s : State) (p q sl : Nat) : (s.envStatus p).env q sl = s.env q sl := by
  unfold State.envStatus
  extract_lets o t u
  exact (State.setF_env ..).trans ((State.setF_env ..).trans (State.setF_env ..))

/-- A cell in no envelope that goes on, or stops at its program's end, leaves the envelopes alone. -/
theorem State.retire_envs {s : State} {n t ch cost : Nat} {tgt : Option (BitVec 8)} (hctx : (s.cell n).ctx = .none) :
    (s.retire n t ch cost tgt).envs = s.envs := by
  unfold State.retire
  extract_lets c fell pc u k v w
  have hw : (w.cell n).ctx = .none := by
    rw [State.setCl_cell, State.cell_setCell_self]
    exact hctx
  have hdef : w.envs = s.envs := rfl
  clear_value w
  split
  · split
    · exact hdef
    · exact (State.cellFault_keeps State.envs (fun _ _ _ _ _ _ _ => rfl) _ _ _ _ _ hw).trans hdef
  · exact hdef

theorem State.handleEnv_of_envs {s t : State} (h : t.envs = s.envs) (hd : Nat) : t.handleEnv hd = s.handleEnv hd := by
  unfold State.handleEnv State.env
  rw [h]

/-- An open or sealed envelope in no commit vector aborts with the status that ranks first (R103). -/
theorem State.abortEnv_env {s : State} {p sl status x : Nat} (hst : (s.env p sl).st = .open ∨ (s.env p sl).st = .sealed)
    (hvec : (s.env p sl).vec = none) : (s.abortEnv p sl status x).env p sl = Env.settle { s.env p sl with
      st := .aborted, held := [], blocks := [], status := (s.rankAbort p (s.env p sl) status x).1 } := by
  unfold State.abortEnv
  dsimp only
  rw [if_pos ⟨hst, hvec⟩, State.putEnv, State.envStatus_env, State.env_setEnv_self]

/-- An envelope that holds a letter to a partition which enters reset aborts with status 3, whatever else aborts it (R103). -/
theorem State.rankAbort_target {s : State} {p status x : Nat} {e : Env} {l : Letter} {q : Nat} (hl : l ∈ e.held)
    (hq : (target l.hdr.addr.toNat).part? = some q) (hreset : s.resetsNow q = true) : (s.rankAbort p e status x).1 = 3 := by
  unfold State.rankAbort
  split
  · rfl
  · next hnone =>
    have h := List.find?_eq_none.1 hnone l hl
    rw [hq] at h
    exact absurd hreset h

/-- An ENV_ABORT of a contributor leaves the envelopes that the abort and the end of the contribution leave. -/
theorem State.envAbort_envs {s : State} {k : CellId} {d : BitVec 4} {h : BitVec 16} {e : Env} (hrun : mayRun s k [] none 1)
    (hctx : (s.cell (cellNo k)).ctx = .member h) (he : s.handleEnv h.toNat = some e) (hst : e.st ≠ .aborted) :
    ∃ t, exec (.envAbort k d) s = .next t ∧
      t.envs = (((s.issued (cellNo k)).abortEnv (hPart h.toNat) (hSlot h.toNat) 2).endMember (cellNo k) h.toNat).envs := by
  refine ⟨_, rfl, ?_⟩
  unfold State.endEnv
  dsimp only
  rw [State.instr_eq _ _ _ _ _ _ _ hrun]
  simp only [State.issued_ctx, hctx, State.abortEnvelope, State.issued_handleEnv, he, hst, if_false, Eff.finish]
  rw [State.retire_envs (by rw [State.cell_setCell_self])]
  rfl

/-- The contribution of a cell to the envelope of a handle has ended. -/
theorem State.endMember_env {s : State} {n h : Nat} {e : Env} (he : s.handleEnv h = some e) :
    (s.endMember n h).env (hPart h) (hSlot h) =
      Env.settle { e with members := e.members.map fun m => if m.cell = n then { m with active := false } else m } := by
  unfold State.endMember
  simp only [he, State.putEnv, State.envStatus_env, State.env_setEnv_self]

/-! ### A contributor's ENV_ABORT at the boundary at which a target's partition enters reset -/

/-- The first byte of cell 0 of cluster c of partition 1. -/
def farByte (c : Nat) : Nat := 2 ^ 41 + c * 2 ^ 36

/-- Wherever the publication window lies, one of two such addresses is the cell's. -/
theorem farByte_part : (target (farByte 0)).part? = some 1 ∨ (target (farByte 1)).part? = some 1 := by
  by_cases h : Config.pubWindow.toNat ≤ farByte 0 ∧ farByte 0 < Config.pubWindow.toNat + 16384
  · have h1 : ¬ (Config.pubWindow.toNat ≤ farByte 1 ∧ farByte 1 < Config.pubWindow.toNat + 16384) := by
      simp only [farByte] at h ⊢
      omega
    right
    unfold target
    rw [if_neg h1]
    decide
  · left
    unfold target
    rw [if_neg h]
    decide

/-- A letter held for such an address. -/
def farLetter (c : Nat) : Letter :=
  { op := .put, hdr := { sender := .cell ⟨0, 0, 0⟩, addr := BitVec.ofNat 48 (farByte c), tag := 0, reply := .none }, len := 1, data := [0], env := some 0 }

/-- An open envelope of partition 0 with two contributors that still contribute, which holds two letters to partition 1. -/
def doomedEnv : Env :=
  { st := .open, gen := 0, expect := 2, members := [{ cell := 0, off := 0, sent := 2, acked := 2 }, { cell := 1, off := 0 }]
    held := [farLetter 0, farLetter 1], blocks := [farByte 0 / 64, farByte 1 / 64] }

/-- Cell 0 runs and contributes to that envelope; partition 1 swaps its manifest at this boundary. -/
def doomedSt : State :=
  { State.reset with
    cells := [(0, { run := 1, len := 2, ctx := .member 0 })]
    envs := [(0, doomedEnv)]
    parts := [(0, { man := some { progs := [{ prog := 0, crit := false, cls := 0, peerPause := false, period := 1, offset := 0, deadline := 1, budget := 8, depends := 0 }] } }),
      (1, { swapAt := some 0 })] }

/-- The envelope once it has aborted for its target's reset, and once cell 0 has left it. -/
def abortedEnv : Env := { doomedEnv with st := .aborted, held := [], blocks := [], status := 3 }
def leftEnv : Env := { abortedEnv with members := [{ cell := 0, off := 0, sent := 2, acked := 2, active := false }, { cell := 1, off := 0 }] }

theorem doomedSt_aborts : ((doomedSt.issued 0).abortEnv 0 0 2).handleEnv 0 = some abortedEnv := by
  have hrank : ((doomedSt.issued 0).rankAbort 0 doomedEnv 2 0).1 = 3 := by
    rcases farByte_part with h | h
    · exact State.rankAbort_target (l := farLetter 0) (q := 1) (by simp [doomedEnv]) h (by decide +kernel)
    · exact State.rankAbort_target (l := farLetter 1) (q := 1) (by simp [doomedEnv]) h (by decide +kernel)
  have henv : ((doomedSt.issued 0).abortEnv 0 0 2).env 0 0 = abortedEnv := by
    rw [State.abortEnv_env (.inl rfl) rfl]
    show Env.settle { doomedEnv with st := .aborted, held := [], blocks := [], status := ((doomedSt.issued 0).rankAbort 0 doomedEnv 2 0).1 } = _
    rw [hrank]
    rfl
  unfold State.handleEnv
  show (if _ then _ else _) = _
  rw [show hPart 0 = 0 from rfl, show hSlot 0 = 0 from rfl, henv]
  rfl

theorem doomedSt_left : (((doomedSt.issued 0).abortEnv 0 0 2).endMember 0 0).handleEnv 0 = some leftEnv := by
  have henv := State.endMember_env (n := 0) doomedSt_aborts
  unfold State.handleEnv
  rw [henv]
  rfl

theorem doomedSt_mayRun : mayRun doomedSt ⟨0, 0, 0⟩ [] none 1 := by decide +kernel

end Sys2Proof.Machine

open Sys2Proof Sys2Proof.Machine Sys2Proof.Safety Sys2Proof.Bits in
/-- Refutes O19: at a boundary at which the partition of a held letter's target enters reset, an envelope aborts with status 3 whatever
else aborts it (R103), and the statement says 2 of every ENV_ABORT. In `doomedSt` the other contributor keeps the slot ABORTED. -/
theorem not_envelopeInstructions : ¬ Obligations.EnvelopeInstructions := by
  intro h
  obtain ⟨-, -, hend, -⟩ := h doomedSt ⟨0, 0, 0⟩ 0 0 0 (by decide)
  obtain ⟨-, hmember⟩ := hend doomedSt_mayRun
  obtain ⟨-, hslot⟩ := hmember 0 rfl
  obtain ⟨-, -, habort⟩ := hslot doomedEnv rfl
  obtain ⟨t, ht, -, -, hstatus⟩ := habort (.inl rfl) rfl
  obtain ⟨u, hu, henvs⟩ := State.envAbort_envs (d := 0) (e := doomedEnv) doomedSt_mayRun (h := 0) rfl rfl (by decide)
  obtain rfl := Host.Outcome.next.inj (ht.symm.trans hu)
  obtain ⟨-, h2, -⟩ := hstatus leftEnv ((State.handleEnv_of_envs henvs 0).trans doomedSt_left)
  exact absurd h2 (by decide)

namespace Sys2Proof.Machine

open Sys2Proof.Bits Sys2Proof.Safety

/-! ### An operation on each cell of a list -/

/-- An operation changes what F sees of its own cell by g; done on the cells of a list, it changes those once. -/
theorem foldl_cells {β : Type} {f : State → Nat → State} {g : β → β} (F : State → Nat → β) (I : State → Prop)
    (hI : ∀ t n, I t → I (f t n)) (hF : ∀ t n m, I t → F (f t n) m = if m = n then g (F t n) else F t m) (hg : ∀ c, g (g c) = g c)
    {s : State} (hs : I s) (l : List Nat) (m : Nat) : F (l.foldl f s) m = if m ∈ l then g (F s m) else F s m := by
  induction l generalizing s with
  | nil => rfl
  | cons n l ih =>
    rw [List.foldl_cons, ih (hI s n hs), hF s n m hs]
    by_cases hm : m = n
    · subst hm
      simp [hg]
    · simp [hm]

/-! ### The start of a period (R69) -/

/-- A cell at the start of a period of its program, at a cycle. -/
def Cell.restarted (now : Nat) (c : Cell) : Cell :=
  { c with
    pc := c.entry, run := 1, done := false, overrun := false, charged := 0, waiting := none, result := none, lastLoad := none
    ctx := .none, next := now }

/-- A cell whose period is settled: a completed one keeps the working registers, a dropped one restores them and sets DROPPED. -/
def Cell.settled (completed : Bool) (c : Cell) : Cell :=
  if completed then { c with kept := c.work } else { c with work := c.kept.setDropped }

theorem State.restartCell_cell (s : State) (n m : Nat) :
    (s.restartCell n).cell m = if m = n then (s.cell n).restarted s.now else s.cell m := by
  rw [State.restartCell, State.cell_setCell]
  rfl

/-- The cells of a list restart, and nothing else changes. -/
theorem State.restartCells (s : State) (l : List Nat) :
    let t := l.foldl State.restartCell s
    (∃ C, t = { s with cells := C }) ∧ ∀ m, t.cell m = if m ∈ l then (s.cell m).restarted s.now else s.cell m := by
  refine ⟨List.foldlRecOn (motive := fun t => ∃ C, t = { s with cells := C }) l _ ⟨_, rfl⟩ fun t ⟨C, ht⟩ n _ => ⟨_, by rw [ht]; rfl⟩, fun m => ?_⟩
  exact foldl_cells (f := State.restartCell) (g := Cell.restarted s.now) State.cell (fun t => t.now = s.now) (fun t n h => h) (fun t n m h => by rw [State.restartCell_cell, h]) (fun c => rfl) rfl l m

theorem State.settleCell_cell (s : State) (completed : Bool) (n m : Nat) :
    (s.settleCell completed n).cell m = if m = n then (s.cell n).settled completed else s.cell m := by
  cases completed
  all_goals exact State.cell_setCell ..

/-- The periods of the cells of a list are settled: a completed one leaves memory alone, a dropped one the KEPT bank. -/
theorem State.settleCells (s : State) (completed : Bool) (l : List Nat) :
    let t := l.foldl (fun s n => s.settleCell completed n) s
    (∃ C K M, t = { s with cells := C, kept := K, mem := M }) ∧ (if completed then t.mem = s.mem else t.kept = s.kept) ∧
      ∀ m, t.cell m = if m ∈ l then (s.cell m).settled completed else s.cell m := by
  refine ⟨?_, ?_, fun m => ?_⟩
  · refine List.foldlRecOn (motive := fun t => ∃ C K M, t = { s with cells := C, kept := K, mem := M }) l _ ⟨_, _, _, (rfl : s = _)⟩ ?_
    rintro t ⟨C, K, M, rfl⟩ n -
    cases completed
    all_goals exact ⟨_, _, _, rfl⟩
  · cases completed with
    | true => exact foldl_keeps State.mem (fun s n => s.settleCell true n) (fun _ _ => rfl) l s
    | false => exact foldl_keeps State.kept (fun s n => s.settleCell false n) (fun _ _ => rfl) l s
  · exact foldl_cells (f := fun s n => s.settleCell completed n) (g := Cell.settled completed) State.cell (fun _ => True) (fun _ _ h => h)
      (fun t n m _ => t.settleCell_cell completed n m) (fun c => by cases completed <;> rfl) trivial l m

theorem State.allDone_iff (s : State) (l : List Nat) : s.allDone l = true ↔ ∀ n ∈ l, (s.cell n).done = true := List.all_eq_true

theorem State.allDone_eq_false {s : State} {l : List Nat} (h : ∃ n ∈ l, (s.cell n).done = false) : s.allDone l = false := by
  obtain ⟨n, hn, hdone⟩ := h
  exact List.all_eq_false.2 ⟨n, hn, by simp [hdone]⟩

section periodStart

variable {s : State} {p x : Nat} {m : Man} {d : ProgDef}

/-- The program of x begins its period in the state t, whose cells restart. -/
def State.begin (t : State) (p x : Nat) (cells : List Nat) : State :=
  let u := cells.foldl State.restartCell t
  u.setProg p x { u.prog p x with
    begun := (u.prog p x).begun + 1, start := some u.beatN, last := u.beatN, settled := false, exempt := false }

/-- The period that went before is settled. -/
def State.settlePeriod (s : State) (p x : Nat) (d : ProgDef) (cells : List Nat) : State :=
  if (s.prog p x).settled then s
  else (cells.foldl (fun s' n => s'.settleCell (s.allDone cells) n) s).watch p x d (s.allDone cells)

variable (hman : s.manOf p = some m) (hprog : m.prog? x = some d)

include hman hprog

theorem State.startPeriod_waits (h : s.mayStart p x d = false) : s.startPeriod p x = s := by
  unfold State.startPeriod
  simp only [hman, hprog, h, Bool.false_eq_true, if_false]

theorem State.startPeriod_begins (h : s.mayStart p x d = true) (hstart : (s.prog p x).start = none) :
    s.startPeriod p x = (s.settlePeriod p x d (m.cellsOf p x)).begin p x (m.cellsOf p x) := by
  unfold State.startPeriod
  have hdeadline : s.deadline p x = s := by
    unfold State.deadline
    simp only [hman, hprog, hstart]
  simp only [hman, hprog, h, if_true, hdeadline]
  rfl

end periodStart

/-- A program that is not paused, at its boundary, with no rung on it, may start. -/
theorem State.mayStart_of {s : State} {p x : Nat} {d : ProgDef} (hreleased : s.released = true) (hheld : s.held p = false)
    (hpaused : (s.prog p x).paused = false) (hfrom : (s.prog p x).from_ ≤ s.beat.toNat) (hoffset : s.beat.toNat % d.period = d.offset)
    (hlast : (s.prog p x).begun = 0 ∨ (s.prog p x).last ≠ s.beat.toNat) (hrungs : ∀ r ∈ s.rcv.rungs, r.rung ≠ 1) :
    s.mayStart p x d = true := by
  simp [State.mayStart, State.beatN, *]
  exact fun r hr h => absurd h (hrungs r hr)

/-- A period begins in the state t: the cells restart, the program counts it, and nothing else changes. -/
theorem State.begin_started (t : State) (p x : Nat) (cells : List Nat) :
    let u := t.begin p x cells
    (∃ C P, u = { t with cells := C, progs := P }) ∧
    (∀ m, u.cell m = if m ∈ cells then (t.cell m).restarted t.now else t.cell m) ∧
    u.prog p x = { t.prog p x with
      begun := (t.prog p x).begun + 1, start := some t.beat.toNat, last := t.beat.toNat, settled := false, exempt := false } := by
  obtain ⟨⟨C, hC⟩, hcell⟩ := t.restartCells cells
  unfold State.begin
  dsimp only
  generalize cells.foldl State.restartCell t = u at *
  refine ⟨⟨C, _, by rw [hC]; rfl⟩, fun m => by rw [State.setProg_cell, hcell], ?_⟩
  rw [State.prog_setProg_self, hC]
  rfl

/-- What settling the period before leaves, where it was completed or PEER_DOWN dropped it. -/
theorem State.settlePeriod_settled {s : State} {p x : Nat} {d : ProgDef} {cells : List Nat} (hset : (s.prog p x).settled = false)
    (hwhy : s.allDone cells = true ∨ (s.prog p x).exempt = true) :
    let t := s.settlePeriod p x d cells
    (∃ C K M P, t = { s with cells := C, kept := K, mem := M, progs := P }) ∧ (if s.allDone cells then t.mem = s.mem else t.kept = s.kept) ∧
    (∀ m, t.cell m = if m ∈ cells then (s.cell m).settled (s.allDone cells) else s.cell m) ∧
    t.prog p x = (if s.allDone cells then { s.prog p x with progress := (s.prog p x).progress + 1, idlePeriods := 0, settled := true }
      else { s.prog p x with settled := true }) := by
  obtain ⟨⟨C, K, M, hframe⟩, hbank, hcell⟩ := s.settleCells (s.allDone cells) cells
  unfold State.settlePeriod
  rw [hset, if_neg (by decide)]
  generalize cells.foldl _ s = u at *
  have hpr : u.prog p x = s.prog p x := by rw [hframe]; rfl
  unfold State.watch
  dsimp only
  rw [hpr]
  cases hdone : s.allDone cells with
  | true =>
    rw [hdone] at hbank hcell
    simp only [if_true] at hbank ⊢
    exact ⟨⟨C, K, M, _, by rw [hframe]; rfl⟩, hbank, hcell, State.prog_setProg_self ..⟩
  | false =>
    rw [hdone] at hbank hcell
    have hexempt : (s.prog p x).exempt = true := hwhy.resolve_left (by simp [hdone])
    simp only [Bool.false_eq_true, if_false, hexempt, if_true] at hbank ⊢
    exact ⟨⟨C, K, M, _, by rw [hframe]; rfl⟩, hbank, hcell, State.prog_setProg_self ..⟩

end Sys2Proof.Machine

namespace Sys2Proof.Machine

open Sys2Proof.Bits Sys2Proof.Safety

/-! ### Aborts that write no event (R103, R126) -/

theorem Spares.resetsNow {R : Nat → Prop} {s t : State} (h : Spares R s t) (q : Nat) : t.resetsNow q = s.resetsNow q := by
  unfold State.resetsNow State.held State.part State.beatN
  rw [h.parts, h.rcv, h.beat]

/-- Where no partition enters reset, an envelope that is discarded aborts with DISCARDED. -/
theorem State.rankAbort_discarded {s : State} {p x : Nat} {e : Env} (hq : ∀ q, s.resetsNow q = false) : (s.rankAbort p e 2 x).1 = 2 := by
  unfold State.rankAbort
  split
  · next l hl =>
    have h := List.find?_some hl
    split at h
    · next q _ => exact absurd h (by simp [hq q])
    · cases h
  · split <;> rfl

theorem State.startWake_evl (s : State) (c : Nat) : (s.startWake c).evl = s.evl := by
  unfold State.startWake
  split
  · exact (State.setF_evl ..).trans ((State.setCl_evl ..).trans (State.setF_evl ..))
  · rfl

theorem State.replyPart_evl (s : State) (n off : Nat) (d : Bytes) : (s.replyPart n off d).evl = s.evl := by
  unfold State.replyPart
  split
  · rfl
  · split
    · rfl
    · unfold State.enqueue
      dsimp only
      split
      · exact State.startWake_evl ..
      · rfl

theorem State.outcome_evl (s : State) (e : Env) (h status : Nat) : (s.outcome e h status).evl = s.evl :=
  foldl_keeps State.evl _ (fun _ _ => State.replyPart_evl ..) e.members s

theorem State.putEnv_evl (s : State) (p sl : Nat) (e : Env) : (s.putEnv p sl e).evl = s.evl := by
  unfold State.putEnv State.envStatus
  extract_lets o t u
  exact (State.setF_evl ..).trans ((State.setF_evl ..).trans (State.setF_evl ..))

theorem State.endMember_evl (s : State) (n h : Nat) : (s.endMember n h).evl = s.evl := by
  unfold State.endMember
  split
  · exact State.putEnv_evl ..
  · rfl

/-- An envelope that is discarded writes no event. -/
theorem State.abortEnv_evl {s : State} {p sl x : Nat} (hq : ∀ q, s.resetsNow q = false) : (s.abortEnv p sl 2 x).evl = s.evl := by
  unfold State.abortEnv
  extract_lets e h r status t u v w
  have ht : t.evl = s.evl := by
    show (s.abortNote p h r.1 e r.2).evl = s.evl
    rw [show r.1 = 2 from State.rankAbort_discarded hq]
    rfl
  split
  · exact (State.putEnv_evl ..).trans ((State.outcome_evl ..).trans ht)
  · rfl

/-- What stops cells and discards envelopes, from a state at whose boundary no partition enters reset, writes no event. -/
structure Hushed (s t : State) : Prop where
  spares : Spares tallied s t
  evl : (∀ q, s.resetsNow q = false) → t.evl = s.evl

namespace Hushed

variable {s t : State}

theorem refl (s : State) : Hushed s s := ⟨.refl s, fun _ => rfl⟩

theorem quiet (h : Hushed s t) (hq : ∀ q, s.resetsNow q = false) (q : Nat) : t.resetsNow q = false := (h.spares.resetsNow q).trans (hq q)

theorem abortEnv {p sl x : Nat} (hp : p < 32) (h : Hushed s t) : Hushed s (t.abortEnv p sl 2 x) :=
  ⟨h.spares.abortEnv hp, fun hq => (State.abortEnv_evl (h.quiet hq)).trans (h.evl hq)⟩

theorem dropContext {n : Nat} (h : Hushed s t) : Hushed s (t.dropContext n) := by
  refine ⟨h.spares.dropContext, fun hq => ?_⟩
  unfold State.dropContext
  dsimp only
  split
  · exact h.evl hq
  · exact h.evl hq
  · exact (State.endMember_evl ..).trans ((h.abortEnv (Nat.mod_lt _ (by decide))).evl hq)

theorem stopCell {n : Nat} (h : Hushed s t) : Hushed s (t.stopCell n) := by
  refine ⟨h.spares.stopCell, fun hq => ?_⟩
  unfold State.stopCell
  dsimp only
  split
  · exact h.dropContext.evl hq
  · exact h.dropContext.evl hq

theorem foldl {α : Type} {f : State → α → State} {l : List α} (h : Hushed s t) (hf : ∀ t, ∀ a ∈ l, Hushed s t → Hushed s (f t a)) :
    Hushed s (l.foldl f t) :=
  List.foldlRecOn l f h fun t h a ha => hf t a ha h

end Hushed

/-! ### A period that is dropped (R126) -/

/-- A cell that is stopped reads RUN 3, unless it has no program; the other cells run as before. -/
theorem State.stopCell_run (s : State) (n m : Nat) :
    ((s.stopCell n).cell m).run = if m = n then (if (s.cell n).run = 0 then (s.cell n).run else 3) else (s.cell m).run := by
  have hdrop (j : Nat) : ((s.dropContext n).cell j).run = (s.cell j).run := (Unsent.refl s).dropContext.run j
  unfold State.stopCell
  dsimp only
  by_cases h0 : (s.cell n).run = 0
  · simp only [h0, if_true]
    rw [hdrop]
    split
    · next hm => rw [hm, h0]
    · rfl
  · simp only [h0, if_false, State.restless_cell, State.cell_setCell]
    split
    · rfl
    · exact hdrop m

/-- The cells of a list stop (R126). -/
theorem State.stopCells_run (s : State) (l : List Nat) {n : Nat} (hn : n ∈ l) (h0 : (s.cell n).run ≠ 0) :
    ((l.foldl State.stopCell s).cell n).run = 3 := by
  have h := foldl_cells (f := State.stopCell) (g := fun r => if r = 0 then r else 3) (fun t m => (t.cell m).run) (fun _ => True)
    (fun _ _ h => h) (fun t n m _ => t.stopCell_run n m) (fun r => by split <;> simp [*]) (s := s) trivial l n
  rw [if_pos hn] at h
  exact h.trans (if_neg h0)

/-- The cells that have not executed DONE stop, and the envelopes that the cells contributed to in the period are discarded. -/
def State.stopPeriod (s : State) (p x : Nat) (cells : List Nat) : State :=
  let t := (cells.filter fun n => !(s.cell n).done).foldl State.stopCell s
  (t.envs.within 0 2048).foldl (fun t e =>
    if e.2.members.any (fun mb => cells.contains mb.cell && decide (mb.per = (s.prog p x).begun)) then t.abortEnv (e.1 / 64) (e.1 % 64) 2 else t) t

/-- A drop is counted, noted in MAN_LAST_DROP and written as event 0x0303. -/
def State.noteDrop (s : State) (p x cause undone : Nat) : State :=
  let t := if cause = 1 then s.bump (Reg.MAN_OVERRUN_CNT p) else s.bump (Reg.MAN_LATE_CNT p)
  let u := t.wr (0x400600 + 8 * p) (BitVec.ofNat 32 (x + 1024 * cause))
  (u.wr (0x400604 + 8 * p) (BitVec.ofNat 32 u.beatLo)).ev 0x0303 (p + 65536 * x) (cause + 256 * min 255 undone) p

theorem State.dropPeriod_eq {s : State} {p x : Nat} {m : Man} (hman : s.manOf p = some m) : ∃ pr : Prog, pr.start = none ∧
    s.dropPeriod p x 0 = ((s.stopPeriod p x (m.cellsOf p x)).noteDrop p x
      (if (m.cellsOf p x).any fun n => (s.cell n).overrun then 1 else 0)
      ((m.cellsOf p x).filter fun n => !(s.cell n).done).length).setProg p x pr := by
  refine ⟨?pr, ?start, ?drop⟩
  case drop =>
    unfold State.dropPeriod
    simp only [hman, true_and]
    rfl
  case start => rfl

theorem State.stopPeriod_hushed (s : State) (p x : Nat) (cells : List Nat) : Hushed s (s.stopPeriod p x cells) := by
  refine ((Hushed.refl s).foldl fun t n _ h => h.stopCell).foldl fun t e he h => ?_
  split
  · exact h.abortEnv (Spares.envKey_lt he)
  · exact h

theorem State.stopPeriod_run (s : State) (p x : Nat) (cells : List Nat) {n : Nat} (hn : n ∈ cells) (hdone : (s.cell n).done = false)
    (h0 : (s.cell n).run ≠ 0) : ((s.stopPeriod p x cells).cell n).run = 3 := by
  have hmem : n ∈ cells.filter fun n => !(s.cell n).done := List.mem_filter.2 ⟨hn, by simp [hdone]⟩
  refine Eq.trans ?_ (s.stopCells_run _ hmem h0)
  unfold State.stopPeriod
  refine foldl_keeps (fun t => (t.cell n).run) _ (fun t e => ?_) _ _
  split
  · exact (Unsent.refl t).abortEnv.run n
  · rfl

/-- The note of a drop: the cells stay, MAN_LAST_DROP names the program and the cause, and the event is the next. -/
theorem State.noteDrop_notes (s : State) {p x cause undone : Nat} (hp : p < 32) :
    let t := s.noteDrop p x cause undone
    (∀ n, t.cell n = s.cell n) ∧ t.rd (0x400600 + 8 * p) = BitVec.ofNat 32 (x + 2 ^ 10 * cause) ∧
      raisesAt s t 0x303 (p + 2 ^ 16 * x) (cause + 2 ^ 8 * min 255 undone) := by
  unfold State.noteDrop
  extract_lets t u
  have ht : t.cells = s.cells ∧ t.evl = s.evl ∧ t.beat = s.beat := by
    simp only [t]
    split
    all_goals exact ⟨rfl, rfl, rfl⟩
  simp only [Nat.reducePow]
  refine ⟨fun n => ?_, ?_, ?_⟩
  · rw [State.ev_cell, State.wr_cell, State.wr_cell]
    unfold State.cell
    rw [ht.1]
  · rw [State.rd_ev _ _ _ _ _ _ (by simp only [Reg.EVL_QDROP_CNT]; omega), State.rd_wr_ne _ _ (by omega), State.rd_wr_self]
  · have hraise {w : State} (hevl : w.evl = s.evl) (hbeat : w.beat = s.beat) {p0 p1 : Nat} : raisesAt s (w.ev 0x303 p0 p1 p) 0x303 p0 p1 :=
      raisesAt_of_evl hevl hbeat (State.queueGrows_refl _).raisesAt
    exact hraise (w := u.wr (0x400604 + 8 * p) (BitVec.ofNat 32 u.beatLo)) ht.2.1 ht.2.2

/-- The deadline of a period that no cell has missed, and of one that is dropped. -/
theorem State.deadline_before {s : State} {p x b : Nat} {m : Man} {d : ProgDef} (hman : s.manOf p = some m) (hprog : m.prog? x = some d)
    (hstart : (s.prog p x).start = some b) (h : s.beat.toNat < b + d.deadline) : s.deadline p x = s := by
  unfold State.deadline
  simp only [hman, hprog, hstart, State.beatN, Nat.not_le.2 h, if_false]

theorem State.deadline_due {s : State} {p x b : Nat} {m : Man} {d : ProgDef} (hman : s.manOf p = some m) (hprog : m.prog? x = some d)
    (hstart : (s.prog p x).start = some b) (h : b + d.deadline ≤ s.beat.toNat) : s.deadline p x =
      if s.allDone (m.cellsOf p x) then s.setProg p x { s.prog p x with start := none } else s.dropPeriod p x 0 := by
  unfold State.deadline
  simp only [hman, hprog, hstart, State.beatN, h, if_true]

end Sys2Proof.Machine

open Sys2Proof Sys2Proof.Machine Sys2Proof.Safety Sys2Proof.Bits in
/-- Settles O27: a period begins once the one before is settled (`State.settlePeriod_settled`, `State.begin_started`); at its deadline it is
completed, or its cells stop and the drop is noted (`State.dropPeriod_eq`). -/
theorem periods : Obligations.Periods := by
  constructor
  · intro s p x m d hman hprog pr cells started
    have hstarted {t u : State} (ht : t.beat = s.beat ∧ t.cycle = s.cycle)
        (hcell : ∀ n, u.cell n = if n ∈ cells then (t.cell n).restarted t.now else t.cell n) {c : Nat → Cell}
        (hc : ∀ n ∈ cells, t.cell n = c n) : ∀ n ∈ cells, u.cell n = (c n).restarted (s.beat.toNat * 1250 + s.cycle) := by
      intro n hn
      rw [hcell, if_pos hn, hc n hn, State.now, State.beatN, ht.1, ht.2]
    refine ⟨fun hoff => ?_, fun hoffset hreleased hheld hpaused hfrom hlast hrungs hstart => ?_⟩
    · refine ⟨_, congrArg Host.Outcome.next (State.startPeriod_waits hman hprog ?_), rfl⟩
      simp [State.mayStart, State.beatN, hoff]
    have hbegins : exec (.periodStart p x) s = .next ((s.settlePeriod p x d cells).begin p x cells) := congrArg Host.Outcome.next
      (State.startPeriod_begins hman hprog (State.mayStart_of hreleased hheld hpaused hfrom hoffset hlast hrungs) hstart)
    obtain ⟨⟨C, P, hframe⟩, hcell, hprg⟩ := (s.settlePeriod p x d cells).begin_started p x cells
    refine ⟨fun hset => ⟨_, hbegins, ?_⟩, fun hset hall => ⟨_, hbegins, ?_⟩, fun hset hexempt hsome => ⟨_, hbegins, ?_⟩⟩
    · have hkeeps : s.settlePeriod p x d cells = s := if_pos hset
      rw [hkeeps] at hframe hcell hprg ⊢
      refine ⟨by rw [hframe], hprg, hstarted ⟨rfl, rfl⟩ hcell fun _ _ => rfl, fun n hn => (hcell n).trans (if_neg hn)⟩
    · have hall' := (s.allDone_iff cells).2 hall
      obtain ⟨⟨C', K', M', P', hframe'⟩, hbank, hcell', hprg'⟩ := State.settlePeriod_settled (d := d) hset (.inl hall')
      simp only [hall', if_true] at hbank hcell' hprg'
      generalize s.settlePeriod p x d cells = u at *
      refine ⟨?_, hstarted (by rw [hframe']; exact ⟨rfl, rfl⟩) hcell (fun n hn => (hcell' n).trans (if_pos hn)), ?_, ?_⟩
      · rw [hframe]
        exact hbank
      · rw [hprg, hprg']
      · rw [hprg, hprg']
    · have hsome' := State.allDone_eq_false hsome
      obtain ⟨⟨C', K', M', P', hframe'⟩, hbank, hcell', hprg'⟩ := State.settlePeriod_settled (d := d) hset (.inr hexempt)
      rw [hsome', if_neg Bool.false_ne_true] at hbank hprg'
      rw [hsome'] at hcell'
      generalize s.settlePeriod p x d cells = u at *
      refine ⟨?_, hstarted (by rw [hframe']; exact ⟨rfl, rfl⟩) hcell (fun n hn => (hcell' n).trans (if_pos hn)), ?_⟩
      · rw [hframe]
        exact hbank
      · rw [hprg, hprg']
  · intro s p x m d b hman hprog hstart cells cause
    refine ⟨fun h => ⟨s, congrArg Host.Outcome.next (State.deadline_before hman hprog hstart h), rfl⟩, fun h hall => ?_, fun h hsome => ?_⟩
    · refine ⟨_, congrArg Host.Outcome.next ((State.deadline_due hman hprog hstart h).trans (if_pos ((s.allDone_iff _).2 hall))), rfl, ?_⟩
      exact State.prog_setProg_self ..
    · have hnot : ¬ s.allDone cells = true := by
        rw [State.allDone_eq_false hsome]
        decide
      obtain ⟨pr, hpr, hdrop⟩ := State.dropPeriod_eq (x := x.val) hman
      have hhushed := s.stopPeriod_hushed p x cells
      obtain ⟨hcells, hrd, hraise⟩ := (s.stopPeriod p x cells).noteDrop_notes (x := x.val) (cause := cause)
        (undone := (cells.filter fun n => !(s.cell n).done).length) p.isLt
      refine ⟨_, congrArg Host.Outcome.next (((State.deadline_due hman hprog hstart h).trans (if_neg hnot)).trans hdrop), ?_, hrd,
        fun n hn hdone h0 => ?_, fun hq => raisesAt_of_evl (hhushed.evl hq) hhushed.spares.beat hraise⟩
      · rw [State.prog_setProg_self, hpr]
      · rw [State.setProg_cell, hcells]
        exact s.stopPeriod_run p x cells hn hdone h0
namespace Sys2Proof.Machine

open Sys2Proof.Bits Sys2Proof.Safety

/-! ### Outcome words (R52, R104) -/

/-- Only what a reply part reaches has changed: memory, KEPT, the cells, the clusters and their registers. -/
structure Posts (s t : State) : Prop where
  frame : t = { s with regs := t.regs, mem := t.mem, kept := t.kept, cells := t.cells, clusters := t.clusters }
  rd : ∀ r, 0x202000 ≤ r → t.rd r = s.rd r

theorem Posts.refl (s : State) : Posts s s := ⟨rfl, fun _ _ => rfl⟩

theorem Posts.trans {s t u : State} (h : Posts s t) (h' : Posts t u) : Posts s u :=
  ⟨by rw [h'.frame, h.frame], fun r hr => (h'.rd r hr).trans (h.rd r hr)⟩

theorem Posts.startWake (s : State) (c : Nat) : Posts s (s.startWake c) := by
  refine ⟨?_, fun r hr => ?_⟩
  · obtain ⟨R, C, h⟩ := s.startWake_frame c
    rw [h]
  · by_cases hc : c < 640
    · exact s.startWake_rd c (by omega)
    · rw [State.startWake, if_neg fun h => hc h.1]

theorem Posts.replyPart (s : State) (n off : Nat) (d : Bytes) : Posts s (s.replyPart n off d) := by
  unfold State.replyPart
  split
  · exact .refl s
  · split
    · exact ⟨(s.land_arrived n off d).frame, fun _ _ => rfl⟩
    · unfold State.enqueue
      dsimp only
      split
      · exact Posts.trans (t := s.setCl ..) ⟨rfl, fun _ _ => rfl⟩ (Posts.startWake ..)
      · exact ⟨rfl, fun _ _ => rfl⟩

theorem Posts.outcome (s : State) (e : Env) (h status : Nat) : Posts s (s.outcome e h status) :=
  List.foldlRecOn e.members _ (.refl s) fun _ hs _ _ => hs.trans (.replyPart ..)

theorem State.rd_putEnv (s : State) {p sl r : Nat} (e : Env) (hr : r ≠ 0x300100 + 4 * p) : (s.putEnv p sl e).rd r = s.rd r := by
  unfold State.putEnv State.envStatus
  extract_lets o t u
  exact (State.rd_setF_ne _ _ hr).trans ((State.rd_setF_ne _ _ hr).trans (State.rd_setF_ne _ _ hr))

theorem State.envStatus_frame (s : State) (p : Nat) : ∃ R, s.envStatus p = { s with regs := R } := by
  unfold State.envStatus
  extract_lets o t u
  have ht : ∃ R, t = { s with regs := R } := s.setF_frame ..
  have hu : ∃ R, u = { t with regs := R } := t.setF_frame ..
  clear_value o t u
  obtain ⟨R, rfl⟩ := ht
  obtain ⟨R', rfl⟩ := hu
  exact ⟨_, rfl⟩

/-- A slot is set and its partition's status follows: registers and envelopes alone change. -/
theorem State.putEnv_frame (s : State) (p sl : Nat) (e : Env) : ∃ R E, s.putEnv p sl e = { s with regs := R, envs := E } := by
  obtain ⟨R, h⟩ := (s.setEnv p sl e).envStatus_frame p
  exact ⟨R, _, h⟩

theorem State.env_putEnv (s : State) (p sl : Nat) (e : Env) (q y : Nat) :
    (s.putEnv p sl e).env q y = if 64 * q + y = 64 * p + sl then e else s.env q y :=
  (State.envStatus_env ..).trans (State.env_setEnv ..)

/-- Only what a reply part reaches has changed, and the slots and the status register of partition p. -/
structure Closes (p : Nat) (s t : State) : Prop where
  frame : t = { s with regs := t.regs, mem := t.mem, kept := t.kept, cells := t.cells, clusters := t.clusters, envs := t.envs }
  rd : ∀ r, 0x202000 ≤ r → r ≠ 0x300100 + 4 * p → t.rd r = s.rd r

theorem Posts.putEnv {s t : State} (h : Posts s t) (p sl : Nat) (e : Env) : Closes p s (t.putEnv p sl e) := by
  refine ⟨?_, fun r hr hp => (t.rd_putEnv e hp).trans (h.rd r hr)⟩
  obtain ⟨R, E, hput⟩ := t.putEnv_frame p sl e
  rw [hput, h.frame]

/-! ### Aborts (R102 to R105) -/

/-- Where no other cause falls due, an abort keeps its status and parameter (R103). -/
theorem State.rankAbort_alone {s : State} {p : Nat} {e : Env} (h : noRival s p e) (status x : Nat) : s.rankAbort p e status x = (status, x) := by
  obtain ⟨htarget, hhome, hmembers⟩ := h
  have hnone : e.targetIn s.resetsNow = none := List.find?_eq_none.2 fun l hl => by
    cases hq : (target l.hdr.addr.toNat).part? with
    | none => simp
    | some q => simp [htarget l hl q hq]
  have hrest : (s.resetsNow p || e.members.any fun m => s.resetsNow (partOf m.cell) || s.dropsNow m) = false := by
    rw [hhome, Bool.false_or, List.any_eq_false]
    intro m hm
    simp [hmembers m hm]
  unfold State.rankAbort
  rw [hnone, hrest]
  simp

/-- ENV_LAST_ABORT shows an abort (R105). -/
def State.showAbort (s : State) (p h status : Nat) : State :=
  (s.wr (0x300200 + 8 * p) (BitVec.ofNat 32 (status + 65536 * h))).wr (0x300204 + 8 * p) (BitVec.ofNat 32 s.beatLo)

section abort

variable {s : State} {p sl status x : Nat}

/-- An open or sealed envelope in no commit vector aborts: the abort is noted and shown, and the outcome words leave (R103 to R105). -/
theorem State.abortEnv_closes (hst : (s.env p sl).st = .open ∨ (s.env p sl).st = .sealed) (hvec : (s.env p sl).vec = none)
    (halone : noRival s p (s.env p sl)) : let h := handleOf p sl (s.env p sl).gen
    Closes p ((s.abortNote p h status (s.env p sl) x).showAbort p h status) (s.abortEnv p sl status x) := by
  unfold State.abortEnv
  dsimp only
  rw [if_pos ⟨hst, hvec⟩, State.rankAbort_alone halone]
  exact (Posts.outcome ..).putEnv ..

/-- What is left of an aborted envelope: nothing is held, and the slot is free once no contributor is left. -/
theorem Env.settle_aborted (e : Env) (status : Nat) :
    let f := Env.settle { e with st := .aborted, held := [], blocks := [], status := status }
    f.held = [] ∧ f.blocks = [] ∧ f.gen = e.gen ∧ if e.members.any (·.active) then f.st = .aborted ∧ f.status = status else f.st = .free := by
  unfold Env.settle
  by_cases hleft : e.members.any (·.active) = true
  · have : e.members.all (fun m => !m.active) = false := by simpa using hleft
    simp [this, hleft]
  · have : e.members.all (fun m => !m.active) = true := by simpa using hleft
    simp [this, hleft]

/-- An abort whose note is one event is shown, leaves nothing held and raises the event. -/
theorem State.abortEnv_aborts {e : Env} {h o code p0 p1 : Nat} (hp : p < 32) (he : s.env p sl = e) (hh : handleOf p sl e.gen = h)
    (hst : e.st = .open ∨ e.st = .sealed) (hvec : e.vec = none) (halone : noRival s p e)
    (hnote : s.abortNote p h status e x = (s.bump o).ev code p0 p1 p) :
    (s.abortEnv p sl status x).acks = s.acks ∧ aborted s (s.abortEnv p sl status x) p sl status ∧
      raisesAt s (s.abortEnv p sl status x) code p0 p1 := by
  subst he hh
  have hcloses := State.abortEnv_closes (status := status) (x := x) hst hvec halone
  have henv := State.abortEnv_env (status := status) (x := x) hst hvec
  rw [State.rankAbort_alone halone] at henv
  simp only [hnote, State.showAbort] at hcloses
  generalize s.abortEnv p sl status x = t at *
  have hevl : t.evl = ((s.bump o).ev code p0 p1 p).evl := by rw [hcloses.frame]; rfl
  have hbeat : ((s.bump o).ev code p0 p1 p).beatLo = s.beatLo := by
    rw [State.beatLo, State.ev_beatN, State.bump_beatN, State.beatLo]
  obtain ⟨hheld, hblocks, hgen, hslot⟩ := Env.settle_aborted (s.env p sl) status
  refine ⟨?_, ⟨?_, ?_, ?_, ?_, ?_, ?_⟩, ?_⟩
  · rw [hcloses.frame]
    exact State.ev_acks ..
  · rw [hcloses.rd _ (by omega) (by omega), State.rd_wr_ne _ _ (by omega), State.rd_wr_self, handleOf]
    rfl
  · rw [hcloses.rd _ (by omega) (by omega), State.rd_wr_self, hbeat]
    rfl
  · rw [henv]; exact hheld
  · rw [henv]; exact hblocks
  · rw [henv]; exact hgen
  · rw [henv]; exact hslot
  · exact raisesAt_of_evl (State.bump_evl s o) rfl (State.queueGrows.raisesAt ⟨[], by rw [hevl, List.append_nil]⟩)

end abort

/-! ### What an abort notes (Tables 4-8, 4-9) -/

theorem State.abortNote_tooLarge (s : State) (p h x : Nat) (e : Env) :
    s.abortNote p h 0x10 e x = (s.bump 0x300404).ev 0x0201 (h + 2 ^ 16 * 0x10) (e.size + 2 ^ 16 * s.bufSize p) p := rfl

theorem State.abortNote_late (s : State) (p h x : Nat) (e : Env) : s.abortNote p h 0x12 e x =
    (s.bump 0x30040C).ev 0x0203 (h + 2 ^ 16 * 0x12) ((e.members.filter (·.registered)).length + 2 ^ 8 * e.expect) p := rfl

theorem State.abortNote_doomed (s : State) (p h x : Nat) (e : Env) {d : Nat} (h10 : d ≠ 0x10) (h11 : d ≠ 0x11) (h12 : d ≠ 0x12) (h2 : d ≠ 2) :
    s.abortNote p h d e x = (s.bump 0x300410).ev 0x0205 (h + 2 ^ 16 * d) (x % 2 ^ 32) p := by
  unfold State.abortNote
  dsimp only
  rw [if_neg h10, if_neg h11, if_neg h12, if_neg h2]
  rfl

/-! ### Handles (R88) -/

theorem handle_part (hb : BitVec 16) : hPart hb.toNat = hb.toNat / 2 ^ 11 := by
  have := hb.isLt
  rw [hPart_eq]
  omega

/-- The slot that a handle of 16 bits names. -/
theorem State.handleEnv_slot {s : State} {hb : BitVec 16} {e : Env} (h : s.handleEnv hb.toNat = some e) :
    s.env (hb.toNat / 2 ^ 11) (hb.toNat / 2 ^ 5 % 2 ^ 6) = e ∧ handleOf (hb.toNat / 2 ^ 11) (hb.toNat / 2 ^ 5 % 2 ^ 6) e.gen = hb.toNat := by
  have hlt := hb.isLt
  unfold State.handleEnv at h
  rw [handle_part] at h
  dsimp only at h
  split_ifs at h with hgen
  obtain rfl := Option.some.inj h
  refine ⟨rfl, ?_⟩
  rw [handleOf, show (State.env ..).gen = _ from hgen.2, hGen]
  omega

/-! ### The hold stores (R94, R95) -/

section holdArrival

variable {s : State} {l : Letter} {rest : List Letter} {hb : BitVec 16} {e : Env}

/-- The letter leaves the network for its hold store. -/
abbrev State.atStore (s : State) (l : Letter) (rest : List Letter) : State := State.boundCheck { s with net := rest } l

theorem State.boundCheck_envs (s : State) (l : Letter) : (s.boundCheck l).envs = s.envs := by
  unfold State.boundCheck
  dsimp only
  split
  · exact State.raise_envs ..
  · rfl

/-- The first letter in the network is not behind another. -/
theorem State.holdArrival_head (hnet : s.net = l :: rest) (henv : l.env = some hb) (hroom : s.heldIn (storeOf l.hdr.addr.toNat) < 1024) :
    s.net.find? (fun l => l.env.isSome && decide (s.heldIn (storeOf l.hdr.addr.toNat) < 1024) && !s.blocked l) = some l := by
  have hfree : s.blocked l = false := by
    rw [State.blocked, hnet, List.takeWhile_cons_of_neg (by simp)]
    rfl
  rw [hnet, List.find?_cons_of_pos]
  simp [henv, hroom, hfree]

/-- The hold store answers a letter that it has checked: the letter is doomed or held, and acknowledged. -/
def State.answerHold (s : State) (l : Letter) (p sl : Nat) (e : Env) : Option Nat → State
  | some d => { s with acks := s.acks ++ [{ letter := l, doom := some d }] }
  | none => { s.setEnv p sl { e with held := e.held ++ [l] } with acks := s.acks ++ [{ letter := l }] }

theorem State.answerHold_keeps (s : State) (l : Letter) (p sl : Nat) (e : Env) (d : Option Nat) :
    (s.answerHold l p sl e d).regs = s.regs ∧ (s.answerHold l p sl e d).evl = s.evl := by
  cases d <;> exact ⟨rfl, rfl⟩

theorem State.holdArrival_eq (hnet : s.net = l :: rest) (henv : l.env = some hb) (he : s.handleEnv hb.toNat = some e)
    (hst : e.st = .open ∨ e.st = .sealed) (hroom : s.heldIn (storeOf l.hdr.addr.toNat) < 1024) :
    s.holdArrival = (s.atStore l rest).answerHold l (hb.toNat / 2 ^ 11) (hb.toNat / 2 ^ 5 % 2 ^ 6) e ((s.atStore l rest).holdDoom l) := by
  have hrest : s.net.erase l = rest := by rw [hnet, List.erase_cons_head]
  have hu : (s.atStore l rest).handleEnv hb.toNat = some e := (State.handleEnv_of_envs (State.boundCheck_envs ..) _).trans he
  unfold State.holdArrival
  rw [State.holdArrival_head hnet henv hroom]
  dsimp only
  rw [hrest, henv]
  dsimp only
  rw [hu]
  dsimp only
  rw [if_pos hst, handle_part]
  cases (s.atStore l rest).holdDoom l <;> rfl

/-- A letter that is not late is checked in the state it left. -/
theorem State.boundCheck_timely (h : l.det = false ∨ s.now ≤ l.issued + 256) : s.boundCheck l = s := by
  have hlate : (l.det && decide (s.now - l.issued > 256)) = false := by
    rcases h with h | h
    · rw [h, Bool.false_and]
    · rw [decide_eq_false (by omega), Bool.and_false]
  unfold State.boundCheck
  dsimp only
  rw [hlate]
  rfl

/-- A counter register counts (R111). -/
theorem State.bump_counts (s : State) (o : Nat) : counts s (s.bump o) o := by
  have h := (s.rd o).isLt
  unfold counts
  rw [State.rd_bump, if_pos rfl, BitVec.toNat_ofNat, satAdd, Nat.mod_eq_of_lt (by omega)]

theorem counts_of_rd {s t u : State} {o : Nat} (h : counts s t o) (hu : u.rd o = t.rd o) : counts s u o := by
  unfold counts
  rw [hu]
  exact h

/-- An event is queued last (R399). -/
theorem State.raise_raises (s : State) (code p0 p1 p2 p3 o p : Nat) : raises s (s.raise code p0 p1 p2 p3 o p) code p0 p1 p2 p3 :=
  fun h1 h2 => ⟨_, [], congrArg Evl.queue (s.queue_raise code p0 p1 p2 p3 o p h1 h2), rfl, rfl, rfl, rfl, rfl⟩

/-- A late deterministic letter is counted, with its event (R45). -/
theorem State.boundCheck_late (hdet : l.det = true) (h : l.issued + 256 < s.now) : counts s (s.boundCheck l) 0x200024 ∧
    raises s (s.boundCheck l) 0x102 (l.hdr.addr.toNat % 2 ^ 32) (l.hdr.addr.toNat / 2 ^ 32) (senderIdent l.hdr.sender) (s.now - l.issued) := by
  have hlate : (l.det && decide (s.now - l.issued > 256)) = true := by
    rw [hdet, decide_eq_true (by omega)]
    rfl
  unfold State.boundCheck
  dsimp only
  rw [if_pos hlate]
  exact ⟨counts_of_rd (State.bump_counts _ _) (State.rd_raise _ _ _ _ _ _ _ _ (by decide)), fun h1 h2 => State.raise_raises _ _ _ _ _ _ _ _ h1 h2⟩

end holdArrival

/-- What the store finds at an address that holds a letter, at one that names nothing, and at a cell in reset (R94). -/
theorem State.holdDoom_holds {s : State} {l : Letter} (h : holdsAt s l.hdr.addr.toNat = true) : s.holdDoom l = none := by
  unfold State.holdDoom
  unfold holdsAt at h
  dsimp only
  split at h
  · next n off ht =>
    simp only [Bool.and_eq_true, Bool.not_eq_true', decide_eq_true_eq] at h
    obtain ⟨⟨⟨hdead, hgate⟩, hheld⟩, hman⟩ := h
    have hnamed : s.namesNothing (.cell n off) l.hdr.sender = false := by
      simp only [State.namesNothing, Target.part?, hdead, hgate, unknown_false (.inr hman), decide_false, Bool.or_false]
    simp [ht, Target.isWindow, Target.part?, hheld, hnamed]
  · next k off ht => simp [ht, Target.isWindow]
  · cases h

theorem State.holdDoom_nothing {s : State} {l : Letter} (h : target l.hdr.addr.toNat = .nothing) : s.holdDoom l = some 0x30 := by
  simp [State.holdDoom, h, Target.isWindow]

theorem State.holdDoom_reset {s : State} {l : Letter} {n off : Nat} (h : target l.hdr.addr.toNat = .cell n off)
    (hheld : s.held (partOf n) = true) : s.holdDoom l = some 3 := by
  simp [State.holdDoom, h, Target.isWindow, Target.part?, hheld]

/-! ### The home (R96, R97) -/

section holdAck

/-- The number of the cell that a letter is from, as the home reads it. -/
def Letter.senderCell (l : Letter) : Nat := match l.hdr.sender with | .cell k => cellNo k | .unit _ => 0

/-- The contributors once a letter's acknowledgement counts for its own at cycle t (R97). -/
def Env.credited (e : Env) (l : Letter) (t : Nat) : List Member :=
  e.members.mapIdx fun j m => if j = e.members.findIdx (fun m => decide (m.cell = l.senderCell ∧ m.acked < m.sent))
    then { m with acked := m.acked + 1, last := max m.last t } else m

/-- The envelope once the home has recorded an acknowledgement at cycle t (R96, R106). -/
def Env.record (e : Env) (l : Letter) (t : Nat) : Env :=
  Env.register { e with
    members := e.credited l t, blocks := e.blocks ++ [l.hdr.addr.toNat / 64]
    actuator := match e.actuator with
      | some b => some b
      | none => match target l.hdr.addr.toNat with | .actuator .. => some true | _ => some false }

/-- The commit buffer has no entry left for the envelope (R96). -/
abbrev State.full (s : State) (p : Nat) (e : Env) : Prop :=
  (e.size > 0 ∧ e.blocks.length ≥ e.size) ∨ (e.size = 0 ∧ s.bufUsed p ≥ s.bufSize p)

theorem State.full_iff {s : State} {p : Nat} {e : Env} :
    s.full p e ↔ ¬ if e.size = 0 then s.bufUsed p < s.bufSize p else e.blocks.length < e.size := by
  unfold State.full
  split <;> omega

/-- The home answers an acknowledgement, once it knows what dooms the letter: an abort, or a new entry (R96). -/
def State.answerHome (s : State) (l : Letter) (p sl : Nat) (e : Env) : Option Nat → State
  | some d => s.abortEnv p sl d l.hdr.addr.toNat
  | none => if s.full p e then s.abortEnv p sl 0x10 else s.putEnv p sl (e.record l s.now)

/-- The home records the first acknowledgement, u being the state that has taken it. -/
theorem State.holdAck_eq {s u : State} {k : HoldAck} {rest : List HoldAck} {hb : BitVec 16} {e : Env} (hacks : s.acks = k :: rest)
    (hu : { s with acks := rest } = u) (henv : k.letter.env = some hb) (he : u.handleEnv hb.toNat = some e)
    (hst : e.st = .open ∨ e.st = .sealed) :
    let p := hb.toNat / 2 ^ 11
    s.holdAck = u.answerHome k.letter p (hb.toNat / 2 ^ 5 % 2 ^ 6) e (k.doom <|> u.homeDoom p e k.letter) := by
  intro p
  unfold State.holdAck
  rw [hacks]
  dsimp only
  rw [henv, hu]
  dsimp only
  rw [he]
  dsimp only
  rw [if_pos hst, handle_part]
  cases k.doom <|> u.homeDoom p e k.letter <;> rfl

/-- A letter to a cell of the home, of an envelope that is no actuator envelope, is not doomed at the home (R94, R106). -/
theorem State.homeDoom_cell {s : State} {p n off : Nat} {e : Env} {l : Letter} (ht : target l.hdr.addr.toNat = .cell n off) (hoff : off < 0x800)
    (hp : partOf n = p) (hact : e.actuator ≠ some true) : s.homeDoom p e l = none := by
  simp [State.homeDoom, envKind, State.owns, ht, hoff, hp, hact]

/-! ### An entry at the home (R96, R97) -/

theorem Env.register_keeps (e : Env) : e.register.blocks = e.blocks ∧ e.register.held = e.held ∧ e.register.actuator = e.actuator ∧
    e.register.members.map (·.acked) = e.members.map (·.acked) := by
  have hacked : (e.members.map fun m => if m.sealing && decide (m.acked = m.sent) then { m with registered := true } else m).map (·.acked) =
      e.members.map (·.acked) := by
    rw [List.map_map]
    refine List.map_congr_left fun m _ => ?_
    rw [Function.comp_apply]
    split <;> rfl
  unfold Env.register
  dsimp only
  split
  · exact ⟨rfl, rfl, rfl, hacked⟩
  · exact ⟨rfl, rfl, rfl, hacked⟩

/-- One number of a list counts one more. -/
theorem sum_map_mapIdx_succ {f : Member → Nat} {g : Member → Member} (hg : ∀ m, f (g m) = f m + 1) {ms : List Member} {i : Nat}
    (h : i < ms.length) : ((ms.mapIdx fun j m => if j = i then g m else m).map f).sum = (ms.map f).sum + 1 := by
  induction ms generalizing i with
  | nil => cases h
  | cons m ms ih =>
    cases i with
    | zero =>
      have hrest : (ms.mapIdx fun j m => if j + 1 = 0 then g m else m) = ms := List.ext_getElem (by simp) (by simp)
      simp only [List.mapIdx_cons, List.map_cons, List.sum_cons, hrest, if_true, hg]
      omega
    | succ i =>
      simp only [List.mapIdx_cons, List.map_cons, List.sum_cons, Nat.add_right_cancel_iff, ih (Nat.lt_of_succ_lt_succ h),
        if_neg (Nat.succ_ne_zero i).symm]
      omega

/-- An acknowledgement of a contributor with a letter unacknowledged counts once. -/
theorem Env.credited_acked {e : Env} {l : Letter} (t : Nat) (h : ∃ m ∈ e.members, m.cell = l.senderCell ∧ m.acked < m.sent) :
    ((e.credited l t).map (·.acked)).sum = (e.members.map (·.acked)).sum + 1 := by
  refine sum_map_mapIdx_succ (g := fun m => { m with acked := m.acked + 1, last := max m.last t }) (fun _ => rfl) ?_
  obtain ⟨m, hm, hcell⟩ := h
  exact List.findIdx_lt_length_of_exists ⟨m, hm, by simpa using hcell⟩

theorem Env.record_keeps (e : Env) (l : Letter) (t : Nat) : (e.record l t).blocks = e.blocks ++ [l.hdr.addr.toNat / 64] ∧
    (e.record l t).held = e.held ∧ (e.record l t).members.map (·.acked) = (e.credited l t).map (·.acked) := by
  obtain ⟨hblocks, hheld, -, hacked⟩ := Env.register_keeps { e with
    members := e.credited l t, blocks := e.blocks ++ [l.hdr.addr.toNat / 64]
    actuator := match e.actuator with
      | some b => some b
      | none => match target l.hdr.addr.toNat with | .actuator .. => some true | _ => some false }
  exact ⟨hblocks, hheld, hacked⟩

theorem Env.record_actuator (e : Env) {l : Letter} (t : Nat) {n off : Nat} (ht : target l.hdr.addr.toNat = .cell n off) :
    (e.record l t).actuator = some (e.actuator.getD false) := by
  refine (Env.register_keeps _).2.2.1.trans ?_
  cases e.actuator <;> simp [ht]

end holdAck

/-- A slot apart from the one that a handle names. -/
theorem slot_apart {p sl i j : Nat} (hsl : sl < 64) (hj : j < 64) (h : i ≠ p ∨ j ≠ sl) : 64 * i + j ≠ 64 * p + sl := by omega

end Sys2Proof.Machine

open Sys2Proof Sys2Proof.Machine Sys2Proof.Safety Sys2Proof.Bits in
/-- Settles O24: the hold store answers the first letter by what it finds (`State.holdArrival_eq`), the home the first acknowledgement
(`State.holdAck_eq`), and an abort is noted, shown and leaves nothing held (`State.abortEnv_aborts`). -/
theorem holdStoresAndHome : Obligations.HoldStoresAndHome := by
  refine ⟨?_, ?_, ?_⟩
  · intro s l rest hb e a p sl hnet henv he hst hroom
    have harrives := State.holdArrival_eq hnet henv he hst hroom
    refine ⟨fun hdet hlate => ?_, fun htimely => ?_⟩
    · obtain ⟨hcounts, hraises⟩ := State.boundCheck_late (s := { s with net := rest }) hdet hlate
      obtain ⟨hregs, hevl⟩ := State.answerHold_keeps (s.atStore l rest) l p sl e ((s.atStore l rest).holdDoom l)
      rw [← harrives] at hregs hevl
      refine ⟨_, rfl, counts_of_rd hcounts ?_, fun h1 h2 => ?_⟩
      · rw [State.rd, hregs, State.rd]
      · rw [hevl]
        exact hraises h1 h2
    · have hanswers (d : Option Nat) (hd : s.holdDoom l = d) : exec .holdStoreArrival s =
          .next (State.answerHold { s with net := rest } l p sl e d) := by
        have hstore : s.atStore l rest = { s with net := rest } := State.boundCheck_timely htimely
        rw [hstore] at harrives
        exact congrArg Host.Outcome.next (harrives.trans (congrArg _ hd))
      refine ⟨fun hholds => ⟨_, hanswers _ (State.holdDoom_holds hholds), rfl, State.env_setEnv_self .., fun i j hj hij => ?_⟩,
        fun hnothing => ⟨_, hanswers _ (State.holdDoom_nothing hnothing), rfl⟩,
        fun n off hcell hheld => ⟨_, hanswers _ (State.holdDoom_reset hcell hheld), rfl⟩⟩
      exact (State.env_setEnv ..).trans (if_neg (slot_apart (Nat.mod_lt _ (by decide)) hj hij))
  · intro s k rest hb e a p sl room hacks henv he hst
    obtain ⟨hslot, hhandle⟩ := State.handleEnv_slot he
    have hp : p < 32 := by have := hb.isLt; omega
    have hexec (d : Option Nat) (hd : (k.doom <|> s.homeDoom p e k.letter) = d) : exec .holdAcknowledgement s =
        .next (State.answerHome { s with acks := rest } k.letter p sl e d) :=
      congrArg Host.Outcome.next ((State.holdAck_eq hacks rfl henv he hst).trans (congrArg _ hd))
    refine ⟨fun d hdoom h10 h11 h12 h2 hvec halone => ?_, fun n off c hdoom ht hoff hn hact hc => ?_⟩
    · exact ⟨_, hexec (some d) (by rw [hdoom]; rfl), State.abortEnv_aborts hp hslot hhandle hst hvec halone
        (State.abortNote_doomed _ _ _ _ _ h10 h11 h12 h2)⟩
    · have hrecords := hexec none (by rw [hdoom, State.homeDoom_cell ht hoff hn hact]; rfl)
      have hfull : State.full { s with acks := rest } p e ↔ ¬ room := State.full_iff (s := { s with acks := rest })
      refine ⟨fun hroom => ⟨State.putEnv { s with acks := rest } p sl (e.record k.letter s.now), hrecords.trans ?_, ?_⟩,
        fun hroom hvec halone => ⟨_, hrecords.trans (congrArg Host.Outcome.next (if_pos (hfull.2 hroom))), ?_⟩⟩
      · exact congrArg Host.Outcome.next (if_neg fun h => hfull.1 h hroom)
      · obtain ⟨R, E, hframe⟩ := State.putEnv_frame { s with acks := rest } p sl (e.record k.letter s.now)
        have henvs := State.env_putEnv { s with acks := rest } p sl (e.record k.letter s.now)
        have hself := (henvs p sl).trans (if_pos rfl)
        obtain ⟨hblocks, hheld, hmembers⟩ := e.record_keeps k.letter s.now
        refine ⟨by rw [hframe], ?_, ?_, ?_, by rw [hframe], by rw [hframe], by rw [hframe], fun hm => ?_, fun i j hj hij => ?_⟩
        · rw [hself, hblocks]
        · rw [hself, hheld]
        · rw [hself, Env.record_actuator e s.now ht]
        · rw [hself, hmembers]
          exact Env.credited_acked s.now (by rwa [Letter.senderCell, hc])
        · exact (henvs i j).trans (if_neg (slot_apart (Nat.mod_lt _ (by decide)) hj hij))
      · exact State.abortEnv_aborts hp hslot hhandle hst hvec halone (State.abortNote_tooLarge ..)
  · intro s p sl e hst hvec
    refine ⟨fun hlate halone => ?_, fun hearly => ⟨s, ?_, rfl⟩⟩
    · have hexec : exec (.envLate p sl) s = .next (s.abortEnv p.val sl.val 0x12) := congrArg Host.Outcome.next (if_pos ⟨hst, hlate, hvec⟩)
      obtain ⟨-, haborted, hraises⟩ := State.abortEnv_aborts (x := 0) p.isLt rfl rfl hst hvec halone (State.abortNote_late ..)
      exact ⟨_, hexec, haborted, hraises⟩
    · exact congrArg Host.Outcome.next (if_neg fun h => absurd h.2.1 (Nat.not_le.2 hearly))

namespace Sys2Proof.Machine

open Sys2Proof.Bits Sys2Proof.Safety

/-! ### A letter that is committed to a running cell (R98) -/

theorem State.replyPart_rdByte (s : State) {n off x : Nat} {d : Bytes} (h : x < cellAddr n off ∨ cellAddr n off + d.length ≤ x) :
    (s.replyPart n off d).rdByte x = s.rdByte x := by
  unfold State.replyPart
  split
  · rfl
  · split
    · exact (s.land_arrived n off d).mem_outside x h
    · unfold State.enqueue
      dsimp only
      split
      · obtain ⟨R, C, hwake⟩ := (s.setCl (clusterOf n) _).startWake_frame (clusterOf n)
        rw [hwake]
        rfl
      · rfl

theorem State.conflicts_idle {s : State} (h : ∀ e ∈ s.envs.within 0 2048, (s.env (e.1 / 64) (e.1 % 64)).vec ≠ none) (hd : Nat) (blocks : List Nat) :
    s.conflicts hd blocks = s := by
  unfold State.conflicts
  refine List.foldlRecOn (motive := (· = s)) _ _ rfl ?_
  rintro _ rfl e he
  exact if_neg fun hc => h e he hc.2.1

section commit

variable {s : State} {l : Letter} {n off : Nat} (ht : target l.hdr.addr.toNat = .cell n off)
include ht

theorem State.commitRunning_runs (hserves : s.serveable l.hdr.sender (.cell n off)) : s.commitRunning l = s.applyLetter l .clean := by
  have hheld : s.held (partOf n) = false := hserves.held _ rfl
  have hruns : s.cstate (clusterOf n) = 2 := (hserves.runs _ rfl).2
  unfold State.commitRunning
  simp [ht, Target.isWindow, Target.part?, Target.cluster?, hheld, hserves.named, hruns]

theorem State.commitGated_runs (hruns : s.cstate (clusterOf n) = 2) : s.commitGated l = s := by
  unfold State.commitGated
  simp [ht, Target.cluster?, hruns]

/-- A PUT to bytes that the cell stores in this cycle: the store stands (R48). -/
theorem State.applyLetter_stored {old new : Bytes} (hop : l.op = .put) (hoff : off < 0x800) (hunder : s.underContext n = false)
    (hstored : (s.cell n).stored = some (s.now, off, old, new)) : Undisturbed s (s.applyLetter l .clean) ∧
    ∀ (j : Nat) (hj : j < new.length), (s.applyLetter l .clean).rdByte (cellAddr n off + j) = new[j] := by
  rw [State.applyLetter_cell ht hunder (.inl hoff) (.inl hop)]
  have hmet := Undisturbed.met s (.cell n off) (l.op != .put) .clean
  obtain ⟨R, C, hframe⟩ := s.met_frame (.cell n off) (l.op != .put) .clean
  generalize s.met (.cell n off) (l.op != .put) .clean = u at *
  have hserved : Served u ((u.undoStore n).serve (.cell n off) l) := (Served.undoStore u n).trans (.serve ..)
  have hcell : (((u.undoStore n).serve (.cell n off) l).cell n).stored = some (s.now, off, old, new) := by
    obtain ⟨M, hundo⟩ := u.undoStore_frame n
    rw [State.serve_stored, hundo, hframe]
    exact hstored
  have hnow : ((u.undoStore n).serve (.cell n off) l).now = s.now := by
    obtain ⟨_, _, _, _, h⟩ := hserved.frame
    rw [h, hframe]
    rfl
  generalize (u.undoStore n).serve (.cell n off) l = v at *
  exact ⟨(hmet.trans hserved.undisturbed).trans (Served.redoStore v n).undisturbed, fun j hj => State.redoStore_rdByte (by rw [hcell, hnow]) hj⟩

/-- The end of a commit of one letter to a cell writes the one outcome word. -/
theorem State.commitOne_rdByte {k x : Nat} {m : Member} {e : Env} (he : s.env (k / 64) (k % 64) = e) (hheld : e.held = [l]) (hm : e.members = [m])
    (hact : e.actuator ≠ some true) (hidle : ∀ e ∈ s.envs.within 0 2048, (s.env (e.1 / 64) (e.1 % 64)).vec ≠ none)
    (hx : x < cellAddr m.cell m.off.toNat ∨ cellAddr m.cell m.off.toNat + 4 ≤ x) : (s.commitOne k).rdByte x = s.rdByte x := by
  have hset (u : State) (c : Nat) : u.commitSetpoints c [l] = u := by simp [State.commitSetpoints, loopsOf, ht]
  have hpub (u : State) (c : Nat) : u.commitPublication c [l] = u := by simp [State.commitPublication, ht]
  unfold State.commitOne
  dsimp only
  rw [he, if_neg hact, State.conflicts_idle (s := s.bump Reg.ENV_COMMIT_CNT) hidle, hheld, hset, hpub, State.outcome, hm, List.foldl_cons, List.foldl_nil]
  obtain ⟨R, E, hput⟩ := (State.replyPart (s.bump Reg.ENV_COMMIT_CNT) m.cell m.off.toNat (toLe 4 (0 + 65536 * handleOf (k / 64) (k % 64) e.gen))).putEnv_frame
    (k / 64) (k % 64) { gen := e.gen }
  rw [hput]
  exact (State.replyPart_rdByte _ (by rwa [toLe_length])).trans (State.bump_rdByte ..)

end commit

theorem State.envCommit_one {s : State} {k : Nat} {e : Env} {l : Letter} (hk : s.committing = [k]) (he : s.env (k / 64) (k % 64) = e)
    (hact : e.actuator ≠ some true) (hheld : e.held = [l]) : s.envCommit = ((s.commitRunning l).commitGated l).commitOne k := by
  have hls : (if e.actuator = some true then [] else e.held) = [l] := by rw [if_neg hact, hheld]
  unfold State.envCommit
  simp only [hk, List.flatMap_cons, List.flatMap_nil, List.append_nil, he, hls, List.foldl_cons, List.foldl_nil, List.foldr_cons, List.foldr_nil]

/-! ### A commit in the cycle of a store (R48) -/

/-- Wherever the publication window lies, one of two such addresses is that of the cell's first byte. -/
theorem farByte_cell : ∃ c, c < 2 ∧ target (farByte c) = .cell (10240 + 512 * c) 0 := by
  by_cases h : Config.pubWindow.toNat ≤ farByte 0 ∧ farByte 0 < Config.pubWindow.toNat + 16384
  · have h1 : ¬ (Config.pubWindow.toNat ≤ farByte 1 ∧ farByte 1 < Config.pubWindow.toNat + 16384) := by
      simp only [farByte] at h ⊢
      omega
    refine ⟨1, by decide, ?_⟩
    unfold target
    rw [if_neg h1]
    decide
  · refine ⟨0, by decide, ?_⟩
    unfold target
    rw [if_neg h]
    decide

theorem farLetter_addr {c : Nat} (h : c < 2) : (farLetter c).hdr.addr.toNat = farByte c := by
  show (BitVec.ofNat 48 (farByte c)).toNat = farByte c
  rw [BitVec.toNat_ofNat, farByte]
  omega

/-- A sealed envelope of partition 0, set for boundary 0, that holds the letter. -/
def dueEnv (c : Nat) : Env := { st := .sealed, gen := 0, vec := some 0, members := [{ cell := 0, off := 0 }], held := [farLetter c] }

theorem dueEnv_actuator (c : Nat) : (dueEnv c).actuator ≠ some true := nofun

/-- At boundary 0, where the envelope commits, the letter's target cell stores the byte 2 where the letter puts 0. -/
def storingSt (c : Nat) : State :=
  { State.reset with
    cells := [(10240 + 512 * c, { stored := some (0, 0, [0], [2]) })]
    envs := [(0, dueEnv c)]
    parts := [(1, { man := some { progs := [] } })] }

section storing

variable {c : Nat} (hc : c < 2) (ht : target (farByte c) = .cell (10240 + 512 * c) 0)
include hc ht

theorem storingSt_serves : Safety.serves (storingSt c) (farLetter c).hdr.sender (farLetter c).hdr.addr.toNat = true := by
  unfold Safety.serves
  rw [farLetter_addr hc, ht]
  interval_cases c <;> decide +kernel

/-- The commit leaves the store's byte, not the letter's. -/
theorem storingSt_commits : (storingSt c).envCommit.rdByte (farByte c) = 2 := by
  have ht' : target (farLetter c).hdr.addr.toNat = .cell (10240 + 512 * c) 0 := by rw [farLetter_addr hc, ht]
  have hserves := serves_serving (storingSt_serves hc ht)
  rw [ht'] at hserves
  have hstored : ((storingSt c).cell (10240 + 512 * c)).stored = some ((storingSt c).now, 0, [0], [2]) := by
    interval_cases c <;> rfl
  have haddr : cellAddr (10240 + 512 * c) 0 + 0 = farByte c := by unfold farByte; interval_cases c <;> rfl
  have hone : (storingSt c).envCommit = (((storingSt c).commitRunning (farLetter c)).commitGated (farLetter c)).commitOne 0 :=
    State.envCommit_one (e := dueEnv c) rfl rfl (dueEnv_actuator c) rfl
  obtain ⟨hsame, hbytes⟩ := State.applyLetter_stored (s := storingSt c) ht' (old := [0]) (new := [2]) rfl (by decide) rfl hstored
  obtain ⟨hlt, hrun⟩ := hserves.runs _ rfl
  have hruns : ((storingSt c).applyLetter (farLetter c) .clean).cstate (clusterOf (10240 + 512 * c)) = 2 :=
    (State.cstate_congr (hsame.rd (0x201000 + 4 * clusterOf (10240 + 512 * c)) (by omega) (by omega) (by omega))).trans hrun
  rw [hone, State.commitRunning_runs ht' hserves, State.commitGated_runs ht' hruns]
  generalize (storingSt c).applyLetter (farLetter c) .clean = u at *
  have henv (p sl : Nat) : u.env p sl = (storingSt c).env p sl := by unfold State.env; rw [hsame.envs]
  rw [State.commitOne_rdByte ht' (e := dueEnv c) (m := { cell := 0, off := 0 }) (henv 0 0) rfl rfl (dueEnv_actuator c), ← haddr]
  · exact hbytes 0 (by decide)
  · rw [hsame.envs]
    intro e he
    obtain rfl : e = (0, dueEnv c) := List.mem_singleton.mp he
    rw [henv]
    dsimp only
    exact nofun
  · right
    interval_cases c <;> decide

end storing

theorem exec_envCommit (s : State) : exec .envCommit s = .next s.envCommit := rfl

end Sys2Proof.Machine

open Sys2Proof Sys2Proof.Machine Sys2Proof.Safety Sys2Proof.Bits in
/-- Refutes O25: by R48 a store of a cell stands over a letter applied to the same bytes in the same cycle, and the last clause
leaves such a store open (`storingSt_commits`: the letter puts 0, the cell stores 2, and 2 is what the commit leaves). -/
theorem not_vectorsAndCommits : ¬ Obligations.VectorsAndCommits := by
  rintro ⟨-, hcommits⟩
  obtain ⟨c, hc, ht⟩ := farByte_cell
  have haddr := farLetter_addr hc
  obtain ⟨-, -, hput⟩ := hcommits (storingSt c) 0 0 (dueEnv c) 0 { cell := 0, off := 0 } (by decide) (by decide) rfl rfl rfl (dueEnv_actuator c) rfl
  obtain ⟨t, hexec, -, -, hbytes⟩ := hput (farLetter c) (10240 + 512 * c) 0 (Nat.zero_le _) rfl rfl rfl rfl (by rw [haddr, ht]) (Nat.le_of_ble_eq_true rfl)
    (storingSt_serves hc ht) (by simp)
  have heq : (storingSt c).envCommit = t := Host.Outcome.next.inj ((exec_envCommit _).symm.trans hexec)
  subst heq
  have hbyte := hbytes 0 Nat.zero_lt_one
  rw [haddr, Nat.add_zero, storingSt_commits hc ht] at hbyte
  exact absurd hbyte.symm (show (0 : Byte) ≠ 2 by decide)

namespace Sys2Proof.Machine

open Sys2Proof.Bits Sys2Proof.Safety

/-! ### A contributor whose cell does not exist (R109) -/

/-- Its cluster has the number 261381, and 0x201000 + 4 · 261381, where `State.cstate` reads that cluster's state, is ENV_PARTIAL_CNT. -/
def phantomMember : Member := { cell := 512 * 261381, off := 0 }

/-- A confirmed actuator envelope of which board 0 is unresolved. -/
def phantomAct : Act := { h := 0, sets := [(0, [])], c := 0, env := true, dec := 1, unres := 1, stage := 2 }

/-- Its C + 3 has come, and ENV_PARTIAL_CNT is 2: as a cluster's state, RUNNING. -/
def phantomSt : State :=
  { State.reset with
    beat := 3
    regs := [(Reg.ENV_PARTIAL_CNT, 2)]
    envs := [(0, { members := [phantomMember] })]
    stg := { acts := [phantomAct] } }

theorem phantomSt_takesReplies : takesReplies phantomSt phantomMember.cell := by decide +kernel

/-- The count of the PARTIAL outcome makes it 3, DEAD, and the outcome word is discarded. -/
theorem phantomSt_discards : phantomSt.actResolve.rdByte (cellAddr phantomMember.cell phantomMember.off.toNat) = 0 := by decide +kernel

theorem exec_actuatorResolve (s : State) : exec .actuatorResolve s = .next s.actResolve := rfl

end Sys2Proof.Machine

open Sys2Proof Sys2Proof.Machine Sys2Proof.Safety Sys2Proof.Bits in
/-- Refutes O28: the statement bounds no contributor's cell number, and for a cell that does not exist the register that `State.cstate`
reads as its cluster's state can be ENV_PARTIAL_CNT, which the PARTIAL outcome itself counts; the outcome word is then discarded
(`phantomSt_discards`) where the statement has 0x13. -/
theorem not_actuatorEnvelopes : ¬ Obligations.ActuatorEnvelopes := by
  rintro ⟨-, hresolves⟩
  obtain ⟨-, -, hends⟩ := hresolves phantomSt phantomAct rfl rfl
  obtain ⟨-, hpartial, -⟩ := hends phantomMember (by decide) rfl rfl rfl phantomSt_takesReplies
  obtain ⟨t, hexec, ⟨-, -, hword⟩, -⟩ := hpartial rfl (by decide)
  obtain rfl : phantomSt.actResolve = t := Host.Outcome.next.inj ((exec_actuatorResolve _).symm.trans hexec)
  have hbyte := hword 0 (by decide)
  rw [Nat.add_zero, phantomSt_discards] at hbyte
  exact absurd hbyte (by decide)
